-- ==== Sys2Proof/Word.lean ====
section
/-! DEFINITION. Word.lean: the word types of the SK4128 (spec R7: 32-bit registers, byte-addressed; R45: 64-bit loci). -/

namespace Sys2Proof

/-- One byte of a memory (R7). -/
abbrev Byte := BitVec 8

/-- One register, or one Pulon W register (R7, R68). -/
abbrev W32 := BitVec 32

/-- A packed locus (R45) or another 64-bit value. -/
abbrev W64 := BitVec 64

/-- A 24-bit host byte address (R7). -/
abbrev Addr := BitVec 24

end Sys2Proof
end

