-- ==== Sys2Proof/Types.lean ====
section
/-! DEFINITION. Types.lean: the named things a command can speak of: parties, cores, rasters, ports and what the outside
world puts on an analog lane. -/

namespace Sys2Proof

/-- A party that can own an ownership group or request an access (R18, R19). -/
inductive Party where
  | host | sup | met | sqa | sqb | sqc | sqd
deriving DecidableEq, Repr

/-- The code of a party in PSC_OWNn.owner and in special register CORE (R19). -/
def Party.code : Party → Nat
  | .host => 0 | .sup => 1 | .met => 2 | .sqa => 4 | .sqb => 5 | .sqc => 6 | .sqd => 7

/-- The party of a code; 0b011 is reserved (R19). -/
def Party.ofCode : Nat → Option Party
  | 0 => some .host | 1 => some .sup | 2 => some .met | 4 => some .sqa | 5 => some .sqb | 6 => some .sqc | 7 => some .sqd
  | _ => none

/-- The six Pulon cores (R71). -/
inductive Core where
  | sqa | sqb | sqc | sqd | sup | met
deriving DecidableEq, Repr

/-- Index of a core: 0–3 the SQ cores, 4 SUP, 5 MET. -/
def Core.idx : Core → Nat
  | .sqa => 0 | .sqb => 1 | .sqc => 2 | .sqd => 3 | .sup => 4 | .met => 5

/-- The SQ core of a port index (R71). -/
def Core.ofPort : Nat → Core
  | 0 => .sqa | 1 => .sqb | 2 => .sqc | _ => .sqd

/-- A core as a requester (R18). -/
def Core.party : Core → Party
  | .sqa => .sqa | .sqb => .sqb | .sqc => .sqc | .sqd => .sqd | .sup => .sup | .met => .met

/-- Whether the core is an SQ core. -/
def Core.isSq : Core → Bool
  | .sup => false | .met => false | _ => true

/-- The five rasters (R41). -/
inductive Raster where
  | a | b | c | d | h
deriving DecidableEq, Repr

/-- The code of a raster (R45). -/
def Raster.idx : Raster → Nat
  | .a => 0 | .b => 1 | .c => 2 | .d => 3 | .h => 4

/-- Focal-plane ports A–D, by port index (R132). -/
abbrev Port := Fin 4

/-- A general register number W0–W15 (R73). -/
abbrev RegNo := BitVec 4

/-- A locus register number L0–L3 (R73). -/
abbrev LocNo := BitVec 2

/-- What lies on an analog lane input at a sample: an open wire, or a differential voltage in nanovolts behind a source
resistance per leg in ohms (R148, R156). -/
inductive LaneInput where
  | openWire
  | volts (nv : Int) (rs : Nat)
deriving DecidableEq, Repr

/-- The `ns` converter codes that one lane's capture path takes in each of the self-test's four steps, 20-bit results in legacy mode (R174, R181). -/
structure LaneCapture where
  s1 : List Nat
  s2 : List Nat
  s3 : List Nat
  s4 : List Nat
deriving DecidableEq, Repr

/-- How a prefetched table word reaches its stream (R192). -/
inductive Fetch where
  /-- The word is in the prefetch buffer. -/
  | inTime
  /-- The word was not in the buffer when stage 3 needed it. -/
  | underrun
  /-- The word carried an error that the DRAM code could not correct. -/
  | uncorrectable
deriving DecidableEq, Repr

/-- The turn of a pixel that a stream forms from its neighbours (R194): the port, and how its table word arrives. -/
structure PixelTurn where
  port : Port
  fetch : Fetch
deriving DecidableEq, Repr

/-- Where a raw-word unit stands in its frame (R357, R364). -/
structure RawUnit where
  /-- The frame begins: byte 0, the port byte, goes out before the unit. -/
  first : Bool
  /-- All bits of the unit pass before HCS_N rises. -/
  full : Bool
deriving DecidableEq, Repr

/-- One pixel result of a known-answer vector with its table word and expected outcome (R212). -/
structure KatItem where
  row : Nat
  col : Nat
  s : Nat
  b : Nat
  mode : Nat
  legacy : Bool
  missing : Bool
  clip : Bool
  /-- The result's parity is wrong. -/
  parity : Bool := false
  /-- The vector withholds the table word, as an underrun does. -/
  late : Bool := false
  tw : W64
  cnt : Nat
  code : Nat
  flags : Nat
  hits : List Nat
deriving DecidableEq, Repr

/-- A request that waits at the DRAM arbiter (R342, R343): its class, the requester's code in MEM_ECC_INFO, the data address of its 64-byte burst, whether it
writes, the bytes it then carries, from its address on, and the words of the burst that an upset has struck since they were written, each with whether the code cannot
correct it. -/
structure DramReq where
  cls : Fin 4
  req : BitVec 4
  addr : Nat
  write : Bool
  data : List Byte
  upsets : List (Nat × Bool)
deriving DecidableEq, Repr

end Sys2Proof
end

