-- ==== Sys2Proof/Syntax.lean ====
section
/-! DEFINITION. Syntax.lean: the commands of the SK4128, one constructor per row of spec/opcode_table.json, with the
row's operands: who sends it, which unit it names, and what the outside world supplies with it. -/

namespace Sys2Proof

/-- One command. -/
inductive Instr where
  /-- REGISTER_WRITE (R18): A write to a register that has no row of its own, checked against ownership, access code and seal, and counted by MET when rejected while sealed. -/
  | registerWrite (who : Party) (addr : Addr) (v : W32)
  /-- OWNERSHIP_WRITE (R20): A write to PSC_OWNn changes the owner of group n at the end of the cycle, if the new owner is permitted and the seal allows it. -/
  | ownershipWrite (who : Party) (n : Fin 32) (v : W32)
  /-- AUDIT_COMMIT (R244): At the end of a frame of raster H, MET commits the audit entries it aggregated over that frame to P1 and increments the class audit counters. -/
  | auditCommit
  /-- RASTER_LINE_START (R41): The slot count of a raster passes its last value, and a new line starts on that raster. -/
  | rasterLineStart (r : Raster)
  /-- RASTER_FRAME_START (R41): The line count of a raster passes its last value, and a new frame starts; the frame counter advances and the epoch increments on wrap. -/
  | rasterFrameStart (r : Raster)
  /-- RASTER_RUN (R43): Setting RTB_x_CTL.run starts a stopped port raster at the next tick, or holds it until its first alignment moment when a lock source is selected. -/
  | rasterRun (who : Party) (r : Raster) (arm : Bool)
  /-- RASTER_STOP (R43): Clearing run makes the raster complete its frame and stop at (frame + 1, 0, 0, 0). -/
  | rasterStop (who : Party) (r : Raster) (arm : Bool)
  /-- LOCK_WRITE (R50): A write to RTB_x_LOCK selects a lock source, is ignored if it closes a loop, and takes effect at the next frame start or at once while stopped, discarding pending alignment moments. -/
  | lockWrite (who : Party) (r : Raster) (v : W32)
  /-- LOCK_LINE_END (R54): The last line of every N-th follower frame ends early-clamped, exactly aligned, late-clamped or missed, and the lock state and counters move accordingly. -/
  | lockLineEnd (r : Raster)
  /-- ACQUIRE_RESTART (R57): In ACQUIRE with restart acquisition, the follower ends its frame at the first alignment moment and starts a new frame there, truncating and discarding the old frame. -/
  | acquireRestart (r : Raster)
  /-- FSYNC_EDGE (R60): A leading edge on the FSYNC input is timestamped and starts the judgement of the pulse width. -/
  | fsyncEdge (high : Bool)
  /-- FSYNC_PULSE_ACCEPT (R60): An FSYNC pulse stays active for min_width slots, is accepted as a source event and updates RTB_FSYNC_PERIOD. -/
  | fsyncPulseAccept
  /-- FSYNC_PULSE_REJECT (R60): An FSYNC pulse ends before min_width slots, is rejected and counted in RTB_FSYNC_STAT.rejected. -/
  | fsyncPulseReject
  /-- FSYNC_CFG_WRITE (R60): A write to RTB_FSYNC_CFG pol or dir takes the ball's current level as the starting level and judges no edge from it. -/
  | fsyncCfgWrite (who : Party) (v : W32)
  /-- FSYNC_OUTPUT_PULSE (R60): As an output, FSYNC goes active 12 ticks after (out_line, 0, 0) of out_raster in every frame. -/
  | fsyncOutputPulse
  /-- FSYNC_OUTPUT_END (R60): The FSYNC output pulse ends after width slots counted as out_raster runs them. -/
  | fsyncOutputEnd
  /-- CMP_COMMIT (R62): A write of RTB_CMPn_LO commits the comparator target, which is judged late when unreachable or already passed. -/
  | cmpCommit (who : Party) (n : Fin 8) (v : W32)
  /-- CMP_CTL_WRITE (R62): A write to RTB_CMPn_CTL that sets en judges the one-shot target late or arms it; a mode change applies from the next tick. -/
  | cmpCtlWrite (who : Party) (n : Fin 8) (v : W32)
  /-- CMP_FIRE (R61): A comparator reaches its target locus, sets hit, clears en in one-shot mode and starts its pulse 24 ticks later. -/
  | cmpFire (n : Fin 8)
  /-- CMP_PULSE_END (R61): The RTB_CMPn pulse ends 24 ticks after the tick that lies width slots after the matching tick. -/
  | cmpPulseEnd (n : Fin 8)
  /-- ADD (R111): ADD writes a + b to Wd and sets ZNCV when f is 1. -/
  | add (k : Core) (d a b : RegNo) (f : Bool)
  /-- SUB (R111): SUB writes a − b to Wd and sets ZNCV when f is 1. -/
  | sub (k : Core) (d a b : RegNo) (f : Bool)
  /-- AND (R110): AND writes a & b to Wd and sets ZN when f is 1. -/
  | andw (k : Core) (d a b : RegNo) (f : Bool)
  /-- OR (R110): OR writes a | b to Wd and sets ZN when f is 1. -/
  | orw (k : Core) (d a b : RegNo) (f : Bool)
  /-- XOR (R110): XOR writes a ^ b to Wd and sets ZN when f is 1. -/
  | xorw (k : Core) (d a b : RegNo) (f : Bool)
  /-- SHL (R111): SHL shifts a left by b[4:0] into Wd and sets ZNC when f is 1. -/
  | shl (k : Core) (d a b : RegNo) (f : Bool)
  /-- SHR (R111): SHR shifts a right by b[4:0] with zero fill and sets ZNC when f is 1. -/
  | shr (k : Core) (d a b : RegNo) (f : Bool)
  /-- SAR (R111): SAR shifts a right by b[4:0] with sign fill and sets ZNC when f is 1. -/
  | sar (k : Core) (d a b : RegNo) (f : Bool)
  /-- MUL (R110): MUL writes the low 32 bits of a × b to Wd and sets ZN when f is 1. -/
  | mul (k : Core) (d a b : RegNo) (f : Bool)
  /-- ADDI (R111): ADDI writes a + sext16(imm16) to Wd and sets ZNCV when f is 1. -/
  | addi (k : Core) (d a : RegNo) (f : Bool) (imm : BitVec 16)
  /-- SUBI (R111): SUBI writes a − sext16(imm16) to Wd and sets ZNCV when f is 1. -/
  | subi (k : Core) (d a : RegNo) (f : Bool) (imm : BitVec 16)
  /-- ANDI (R110): ANDI writes a & imm16 to Wd. -/
  | andi (k : Core) (d a : RegNo) (f : Bool) (imm : BitVec 16)
  /-- ORI (R110): ORI writes a | imm16 to Wd. -/
  | ori (k : Core) (d a : RegNo) (f : Bool) (imm : BitVec 16)
  /-- XORI (R110): XORI writes a ^ imm16 to Wd. -/
  | xori (k : Core) (d a : RegNo) (f : Bool) (imm : BitVec 16)
  /-- SHLI (R111): SHLI shifts a left by imm16[4:0] into Wd. -/
  | shli (k : Core) (d a : RegNo) (f : Bool) (imm : BitVec 16)
  /-- SHRI (R111): SHRI shifts a right by imm16[4:0] with zero fill into Wd. -/
  | shri (k : Core) (d a : RegNo) (f : Bool) (imm : BitVec 16)
  /-- SARI (R111): SARI shifts a right by imm16[4:0] with sign fill into Wd. -/
  | sari (k : Core) (d a : RegNo) (f : Bool) (imm : BitVec 16)
  /-- MOVH (R110): MOVH writes (imm16 << 16) | a[15:0] to Wd. -/
  | movh (k : Core) (d a : RegNo) (f : Bool) (imm : BitVec 16)
  /-- LDW (R112): LDW loads a word from own data memory or host space, or zero elsewhere. -/
  | ldw (k : Core) (d a : RegNo) (imm : BitVec 16)
  /-- LDH (R112): LDH loads a zero-extended halfword from own data memory or host space. -/
  | ldh (k : Core) (d a : RegNo) (imm : BitVec 16)
  /-- LDB (R112): LDB loads a zero-extended byte from own data memory or host space. -/
  | ldb (k : Core) (d a : RegNo) (imm : BitVec 16)
  /-- STW (R112): STW stores a word into own data memory or host space, ignored where refused. -/
  | stw (k : Core) (d a : RegNo) (imm : BitVec 16)
  /-- STH (R112): STH stores a halfword into own data memory; to host space it is ignored. -/
  | sth (k : Core) (d a : RegNo) (imm : BitVec 16)
  /-- STB (R112): STB stores a byte into own data memory; to host space it is ignored. -/
  | stb (k : Core) (d a : RegNo) (imm : BitVec 16)
  /-- LDL (R112): LDL loads 64 bits of own data memory into a locus register. -/
  | ldl (k : Core) (x : LocNo) (a : RegNo) (imm : BitVec 16)
  /-- STL (R112): STL stores a locus register into 64 bits of own data memory. -/
  | stl (k : Core) (x : LocNo) (a : RegNo) (imm : BitVec 16)
  /-- BR (R113): BR branches to next + off22 when its condition holds, and faults as a PC overrun when a taken target lies outside instruction memory. -/
  | br (k : Core) (c : BitVec 4) (off : BitVec 22)
  /-- CALL (R114): CALL writes next to W15 and branches to next + off22. -/
  | call (k : Core) (off : BitVec 22)
  /-- JR (R114): JR jumps to the index in Wa. -/
  | jr (k : Core) (a : RegNo)
  /-- CALLR (R114): CALLR writes next to W15 and jumps to the index in Wa. -/
  | callr (k : Core) (a : RegNo)
  /-- DBNZ (R110): DBNZ decrements Wd and branches while it is not zero. -/
  | dbnz (k : Core) (d : RegNo) (off : BitVec 22)
  /-- IRET (R116): IRET restores PC and flags from EPC and EFLAGS, sets IE and clears in_fault or in_irq. -/
  | iret (k : Core)
  /-- MFS (R115): MFS reads a special register into Wd. -/
  | mfs (k : Core) (d : RegNo) (sr : BitVec 4)
  /-- MTS (R115): MTS writes Wa into a special register where the core may write it. -/
  | mts (k : Core) (sr : BitVec 4) (a : RegNo)
  /-- LNOW (R117): LNOW loads the current locus of the named raster into a locus register. -/
  | lnow (k : Core) (x : LocNo) (r : BitVec 3)
  /-- LSET (R110): LSET forms a locus register from two general registers. -/
  | lset (k : Core) (x : LocNo) (a b : RegNo)
  /-- LGET (R110): LGET copies one half of a locus register into a general register. -/
  | lget (k : Core) (a : RegNo) (y : LocNo) (h : Bool)
  /-- LINS (R117): LINS replaces one field of a locus with the low bits of Wb. -/
  | lins (k : Core) (x y : LocNo) (u : BitVec 2) (b : RegNo)
  /-- LADV (R118): LADV advances a locus by k units of a field, normalised against the active raster lengths. -/
  | ladv (k : Core) (x y : LocNo) (u : BitVec 2) (imm : BitVec 12)
  /-- WAIT (R119): WAIT completes at once with C = 1 for a passed or unreachable target, or suspends the core until the target locus. -/
  | wait (k : Core) (y : LocNo)
  /-- WAIT_RESUME (R79): A waiting core issues its next instruction in the first Pulon cycle whose first tick is at or after the target, with C = 0. -/
  | waitResume (k : Core)
  /-- EDGE (R120): EDGE commits an edge entry with the mask from a register, pending, late or dropped as full. -/
  | edge (k : Core) (y : LocNo) (soff : BitVec 11) (m : RegNo) (lvl : Bool)
  /-- EDGEI (R120): EDGEI commits an edge entry with an immediate mask, pending, late or dropped as full. -/
  | edgei (k : Core) (y : LocNo) (soff : BitVec 11) (m : BitVec 12) (lvl : Bool)
  /-- STRB (R123): STRB commits a strobe entry for a run of samples of one kind. -/
  | strb (k : Core) (y : LocNo) (soff : BitVec 11) (sw : BitVec 12)
  /-- PPX (R124): PPX issues one PPORT transfer unit, or reports C = 1 when the port is busy or disabled. -/
  | ppx (k : Core) (a : RegNo) (len : BitVec 5) (q rx : Bool)
  /-- PPS (R125): PPS returns this core's last received PPORT unit and its status flags. -/
  | pps (k : Core) (d : RegNo)
  /-- GSEL (R126): GSEL drives the select pins named in Wm that belong to the core to a level. -/
  | gsel (k : Core) (m : RegNo) (lvl : Bool)
  /-- GSELI (R126): GSELI drives one select pin that belongs to the core to a level. -/
  | gseli (k : Core) (pin : BitVec 5) (lvl : Bool)
  /-- CLAIM (R127): CLAIM tries to take a hardware semaphore and reports success in C. -/
  | claim (k : Core) (n : BitVec 5)
  /-- FREE (R127): FREE releases a semaphore the core holds and reports in C. -/
  | free (k : Core) (n : BitVec 5)
  /-- SIG (R99): SIG sets the core's signal bit in PSC_SIG or PSC_SIG_SUP, or in MET's private controller. -/
  | sig (k : Core) (c : BitVec 3)
  /-- FENCE (R129): FENCE requests the fence of a unit by class and index and reports in C. -/
  | fence (k : Core) (cls : BitVec 4) (r : Bool) (a : RegNo) (n : BitVec 16)
  /-- FLIFT (R130): FLIFT requests the lift of a unit's fence, refused while the cause holds or the seal forbids it. -/
  | flift (k : Core) (cls : BitVec 4) (r : Bool) (a : RegNo) (n : BitVec 16)
  /-- SUP_INTERRUPT_ENTRY (R82): SUP takes a pending interrupt at the next instruction boundary, saving EPC and flags and clearing IE. -/
  | supInterruptEntry (k : Core)
  /-- EDGE_ENTRY_FIRE (R81): A pending edge-queue entry fires in its target tick and its outputs change a fixed pin delay later. -/
  | edgeEntryFire (k : Core)
  /-- STROBE_SAMPLE (R161): A strobe sample falls due; it is stray, lost in collision or taken, and may complete a pixel in the combiner. -/
  | strobeSample (p : Port) (lanes : List LaneInput)
  /-- SQ_START_COMMAND (R84): A start command moves a HALTED SQ core to ARMED and begins its program hash. -/
  | sqStartCommand (who : Party) (q : Port)
  /-- SQ_CHECK_COMMAND (R84): A check command hashes a HALTED SQ core's program without starting it. -/
  | sqCheckCommand (who : Party) (q : Port)
  /-- SQ_HALT_COMMAND (R84): A halt command returns an ARMED or RUNNING SQ core to HALTED. -/
  | sqHaltCommand (who : Party) (q : Port)
  /-- SQ_FLUSH_COMMAND (R84): A flush command empties an SQ core's edge queue without firing. -/
  | sqFlushCommand (who : Party) (q : Port)
  /-- HASH_COMPLETE (R86): The program hash ends, writes PSC_SQx_DIGEST0–7, updates digest_ok and sets the hash event. -/
  | hashComplete (q : Port)
  /-- SQ_WATCHDOG_EXPIRY (R94): An SQ watchdog count reaches its limit and fences the port with its core. -/
  | sqWatchdogExpiry (q : Port)
  /-- SUP_WD_KICK (R95): A write of 0x5A to PSC_SUP_WD_KICK restarts the SUP watchdog count. -/
  | supWdKick (who : Party) (v : W32)
  /-- SUP_WD_CFG_WRITE (R95): A write to PSC_SUP_WD_CFG that changes raster or limit restarts the count without counting as a kick. -/
  | supWdCfgWrite (who : Party) (v : W32)
  /-- SUP_WATCHDOG_FIRST_STAGE (R95): The SUP watchdog reaches its limit, sets PSC_EVT.supwd and restarts the count. -/
  | supWatchdogFirstStage
  /-- SUP_WATCHDOG_RESET (R95): The SUP watchdog reaches its limit a second time without a kick and resets SUP. -/
  | supWatchdogReset
  /-- FORCED_RELEASE (R39): A write to PSC_FORCE for a fenced SQ core aborts its PPORT unit, idles its selects, clears its semaphores and counts the resources. -/
  | forcedRelease (who : Party) (v : W32)
  /-- ROM_MAP_CLEAR (R91): The boot ROM writes 0 to rom_map and SUP fetches its next instruction from PSC_SUP_ENTRY. -/
  | romMapClear (who : Party)
  /-- POWER_UP_REQUEST (R138): A write of req = 1 in OFF starts the power-up sequence at the next line start of H. -/
  | powerUpRequest (who : Party) (p : Port)
  /-- POWER_DOWN_REQUEST (R138): A write of req = 0 in ON starts the power-down sequence at the next line start of H. -/
  | powerDownRequest (who : Party) (p : Port)
  /-- PWR_UP_START (R138): At the next line start of H the port enters UP with FxVCM on, bias 0 and outputs low. -/
  | pwrUpStart (p : Port)
  /-- PWR_PEN_ON (R138): vcm_lines lines later FxPEN goes active with FxFLT_N masked. -/
  | pwrPenOn (p : Port)
  /-- PWR_SETTLE_END (R138): settle_lines lines later FxFLT_N is unmasked and outputs go to idle levels. -/
  | pwrSettleEnd (p : Port)
  /-- PWR_BIAS_RAMP_STEP (R138): At each line start of H the bias code moves towards its target or towards 0 by 16 × ramp_step. -/
  | pwrBiasRampStep (p : Port)
  /-- PWR_DOWN_START (R138): At the next line start of H the port enters DOWN, clears live and drives idle levels. -/
  | pwrDownStart (p : Port)
  /-- PWR_PEN_OFF (R138): off_lines lines after code 0 FxPEN goes inactive and outputs go low. -/
  | pwrPenOff (p : Port)
  /-- PWR_VCM_OFF (R138): vcm_lines lines later FxVCM switches off, the port enters OFF and sets FPP_x_EVT.down. -/
  | pwrVcmOff (p : Port)
  /-- FAULT_INPUT_FENCE (R140): filter consecutive low samples of FxFLT_N set FPP_x_EVT.fault and fence the port with cause 6. -/
  | faultInputFence (p : Port) (low : Nat)
  /-- PIXEL_RESULT_RECEIVE (R168): A pixel result reaches the PCE receiver, which checks parity and tag and may fence the lane. -/
  | pixelResultReceive (p : Port)
  /-- ROW_CLOSE (R163): At (ℓ + 1, 15, 0) the combiner emits missing results and the receiver judges each lane's result count. -/
  | rowClose (p : Port) (cap : List LaneCapture)
  /-- ERROR_INJECTION (R170): A write to LCA_INJ corrupts the parity or tag of the named lane's next pixel result. -/
  | errorInjection (who : Party) (v : W32)
  /-- SELF_TEST_REQUEST (R173): A write of LCA_ST_CTL.start requests the self-test of ports, refused when the port is not ON, live or the line is too short. -/
  | selfTestRequest (who : Party) (v : W32)
  /-- PIXEL_CORRECT (R188): Stage 1 of a stream takes a lane result and computes count, code and hit decision over 15 cycles. -/
  | pixelCorrect (p : Port) (f : Fetch)
  /-- PIXEL_INTERPOLATE (R194): An interpolated or missing pixel is formed from its usable neighbours once its right neighbour is decided. -/
  | pixelInterpolate (t : PixelTurn)
  /-- TABLE_CHECK_START (R204): A write of PCE_x_TBL_CTL.check starts a SHA-256 hash of the shadow table range. -/
  | tableCheckStart (who : Party) (p : Port)
  /-- TABLE_CHECK_COMPLETE (R204): The table hash ends, writes the digest and sets check_ok or check_fail. -/
  | tableCheckComplete (p : Port)
  /-- RAD_DATA_WRITE (R198): On an SK4128-N-E a write to PCE_RAD_DATA stores one coefficient and advances the selection. -/
  | radDataWrite (who : Party) (v : W32)
  /-- REPLAY_REQUEST (R210): A write of PCE_RPL_CTL.start starts a replay or refuses it. -/
  | replayRequest (who : Party) (v : W32)
  /-- REPLAY_PIXEL (R211): In a free stream cycle the replay re-corrects one held raw pixel. -/
  | replayPixel
  /-- REPLAY_COMPLETE (R210): The replay writes its header with replayed and sets PCE_EVT.rpl_done. -/
  | replayComplete
  /-- KAT_INJECT (R270): In the blanking of every kat_div-th frame MET injects a known-answer vector into a stream. -/
  | katInject (p : Port) (vec : List KatItem)
  /-- KAT_RESULT (R271): MET compares a vector's outputs; a second consecutive mismatch fences the port and emits event record 5. -/
  | katResult (p : Port)
  /-- FF_NOW (R225): A write of CSU_x_CTL.ff_now requests a flat-field. -/
  | ffNow (who : Party) (p : Port)
  /-- FF_MOVE_TIMEOUT (R227): No movement report arrives by move_to frames and the flat-field ends as a shutter fault. -/
  | ffMoveTimeout (p : Port)
  /-- FF_AVERAGE_FRAME (R221): An averaging frame's raw plane is added into the accumulation words. -/
  | ffAverageFrame (p : Port)
  /-- FF_COMPOSE_END (R222): The flat-field composition ends, records its results and makes the target buffer ready. -/
  | ffComposeEnd (p : Port)
  /-- SHUT_OK (R227): A write of CSU_x_CTL.shut_ok marks the shutter available again. -/
  | shutOk (who : Party) (p : Port)
  /-- STATS_SAMPLE (R230): On every div-th frame the CSU gates motion and updates the statistics words of moving bands. -/
  | statsSample (p : Port)
  /-- STATS_CLR (R230): A write of CSU_x_CTL.stats_clr reseeds every pixel's statistics. -/
  | statsClr (who : Party) (p : Port)
  /-- COMPOSE (R231): A write of CSU_x_CTL.compose, or UPD frames, starts a statistics composition unless refused. -/
  | compose (who : Party) (p : Port)
  /-- STATS_COMPOSE_END (R231): A statistics composition ends, sets CSU_EVT.composed and makes the buffer ready. -/
  | statsComposeEnd (p : Port)
  /-- WEDGE_ARM (R232): A write of CSU_x_CTL.arm arms the ready target, ignored when none is ready. -/
  | wedgeArm (who : Party) (p : Port)
  /-- SEAL_LOW_DECIDED (R241): SEAL_N low for 512 always-on periods opens the seal. -/
  | sealLowDecided
  /-- SEAL_HIGH_DECIDED (R241): SEAL_N high for 512 always-on periods moves the seal from OPEN to CLOSING. -/
  | sealHighDecided
  /-- IDENTITY_COMPLETE (R241): The identity computation ends and the seal moves from CLOSING to SEALED. -/
  | identityComplete
  /-- REQUEST_BLOCK_POLL (R246): MET reads the request block at least every 16 lines of H and takes a new request. -/
  | requestBlockPoll (slow : Bool)
  /-- REQUEST_FINAL_STATUS (R247): MET writes the final status of a request that reported in progress. -/
  | requestFinalStatus
  /-- READ_DIGEST (R248): Returns the 32-byte parameter digest. -/
  | readDigest (seq : W32)
  /-- READ_PUBKEY (R248): Returns the 64-byte public key. -/
  | readPubkey (seq : W32)
  /-- READ_AUDIT (R248): Returns one 32-byte audit entry. -/
  | readAudit (seq : W32) (pay : List (BitVec 8))
  /-- SET_TIME (R255): Sets the enclave UTC time as unverified. -/
  | setTime (seq : W32) (pay : List (BitVec 8))
  /-- SET_TIME_SIGNED (R255): Sets the time as verified when the signature, nonce and time check pass. -/
  | setTimeSigned (seq : W32) (pay : List (BitVec 8))
  /-- REPLAY_RECORD (R263): Builds a replay record from a replayed slot. -/
  | replayRecord (seq : W32) (pay : List (BitVec 8))
  /-- RETRY_KAT (R271): Lifts a port fence set after a known-answer failure, at most once every 3,600 frames of H. -/
  | retryKat (seq : W32) (pay : List (BitVec 8))
  /-- LIFT_FENCE (R249): MET lifts the fence of a lane, port or compression coder in any seal state. -/
  | liftFence (seq : W32) (pay : List (BitVec 8))
  /-- WRITE_ZONE (R256): Writes a zone descriptor while the seal is open. -/
  | writeZone (seq : W32) (pay : List (BitVec 8))
  /-- WRITE_MASK (R257): Writes one row of a facet's exclusion plane while the seal is open. -/
  | writeMask (seq : W32) (pay : List (BitVec 8))
  /-- WRITE_CURVE (R262): Stages curve samples and fits and accepts the coefficients when sample 256 arrives. -/
  | writeCurve (seq : W32) (pay : List (BitVec 8))
  /-- INSTALL_PROG_REF (R248): Installs an SQ program reference digest. -/
  | installProgRef (seq : W32) (pay : List (BitVec 8))
  /-- INSTALL_TABLE_REF (R248): Installs a correction-table reference digest. -/
  | installTableRef (seq : W32) (pay : List (BitVec 8))
  /-- SET_EVIDENTIAL (R269): Sets the evidential stream mask, refused if a named stream has δ ≠ 0. -/
  | setEvidential (seq : W32) (pay : List (BitVec 8))
  /-- SET_RECORDS (R268): Sets the 32-byte record configuration. -/
  | setRecords (seq : W32) (pay : List (BitVec 8))
  /-- SET_TIME_KEY (R255): Sets the time authority's public key. -/
  | setTimeKey (seq : W32) (pay : List (BitVec 8))
  /-- GENERATE_KEY (R252): Draws a new P-256 key, stores it in P1 and publishes the public key. -/
  | generateKey (seq : W32)
  /-- FIRMWARE_UPDATE (R254): Verifies a signed MET image, writes it to P1 and performs an enclave reset. -/
  | firmwareUpdate (seq : W32) (pay : List (BitVec 8))
  /-- ZONE_CONFIRMATION (R259): At the confirmation locus the zone engine judges each zone, sets or clears alarms and builds records. -/
  | zoneConfirmation (p : Port)
  /-- RECORD_SIGNED (R253): The signer completes a record's ECDSA signature and it joins the queue. -/
  | recordSigned
  /-- TIME_VERIFY_EXPIRY (R255): time_valid seconds pass and the enclave time is no longer verified. -/
  | timeVerifyExpiry
  /-- MEN_EVT_READ (R276): A read of MEN_EVT by the host or SUP returns and clears its bits. -/
  | menEvtRead (who : Party)
  /-- ENCLAVE_WATCHDOG_EXPIRY (R274): The enclave watchdog expires and performs an enclave reset. -/
  | enclaveWatchdogExpiry
  /-- MET_BOOT_COMPLETE (R274): MET completes firmware verification, self-test and identity and leaves BOOT. -/
  | metBootComplete (fwOk testOk : Bool) (bad : List W32)
  /-- FACET_ENABLE_WRITE (R283): A write of IPL_f_CTL.en enables a facet or abandons its frames. -/
  | facetEnableWrite (who : Party) (f : Fin 6) (v : W32)
  /-- BAND_END (R287): A band ends and the scheduler picks the next band, loading a context and taking armed parameters. -/
  | bandEnd
  /-- FRAME_URGENT (R288): Half a frame's deadline passes and the frame becomes urgent. -/
  | frameUrgent (f : Fin 6)
  /-- TABLE_SYNC (R286): A write of IPL_f_CTL.sync starts a copy of the active table bank to the shadow bank. -/
  | tableSync (who : Party) (f : Fin 6)
  /-- TABLE_SYNC_COMPLETE (R286): The bank copy ends after 5,120 cycles and syncing clears. -/
  | tableSyncComplete (f : Fin 6)
  /-- HIST_CLR (R293): A write of IPL_f_CTL.hist_clr invalidates the facet's history. -/
  | histClr (who : Party) (f : Fin 6)
  /-- TILE_CODE (R310): A coder codes one tile and, at a tile row end, chooses the next codable tile row. -/
  | tileCode (k : Fin 2)
  /-- TILE_VERIFY (R315): A decoder lane verifies a tile and releases it coded or raw to its ring. -/
  | tileVerify (k : Fin 2) (upset : Bool)
  /-- REC_FREEZE (R322): CER_RECx_CTL.freeze triggers or freezes a recorder. -/
  | recFreeze (who : Party) (x : Fin 4)
  /-- REC_EXPORT (R322): CER_RECx_CTL.export starts the export of a frozen recorder. -/
  | recExport (who : Party) (x : Fin 4)
  /-- REC_RELEASE (R322): CER_RECx_CTL.release empties a frozen recorder and returns it to RUN. -/
  | recRelease (who : Party) (x : Fin 4)
  /-- TABLE_LOAD_START (R327): A write of CER_LOAD_CTL.start starts decoding a table image, or fails at once on a guarded destination. -/
  | tableLoadStart (who : Party)
  /-- TABLE_LOAD_END (R327): The table load ends with load_done or load_fail. -/
  | tableLoadEnd
  /-- DRAM_BURST_GRANT (R343): The arbiter grants a 64-byte burst, which is ECC-checked, corrected or poisoned. -/
  | dramBurstGrant (ch : Fin 4) (pend : List DramReq)
  /-- STARVE_TIMEOUT (R344): A request waits more than 4,096 pipeline cycles and sets MEM_EVT.starve for its class. -/
  | starveTimeout (c : Fin 4)
  /-- MEM_INIT_START (R334): A write of MEM_INIT.start begins filling the data space. -/
  | memInitStart (who : Party)
  /-- MEM_INIT_DONE (R334): The fill completes and init_done reads 1. -/
  | memInitDone
  /-- SCRUB_ROW (R340): Every lines lines of H the scrubber reads and corrects one row unit. -/
  | scrubRow (ups : List (Nat × Bool))
  /-- DRAM_TEMP_READ (R336): Every 16 lines of H the controller reads device temperatures and derates refresh. -/
  | dramTempRead (hot : Bool)
  /-- MEM_INJECT (R341): A write to MEM_INJ arms a one-bit or two-bit error for the next host or SUP write. -/
  | memInject (who : Party) (v : W32)
  /-- WINDOW_WRITE (R346): A write through the paged window is held, merged or flushed as a partial write. -/
  | windowWrite (who : Party) (addr : Addr) (v : W32)
  /-- WINDOW_FLUSH_TIMEOUT (R346): 64 pipeline cycles without a next access flush a held half write. -/
  | windowFlushTimeout (who : Party)
  /-- DMA_START (R350): A write of MEM_DMAd_CTL.start starts a descriptor chain. -/
  | dmaStart (who : Party) (d : Fin 2)
  /-- DMA_STOP (R350): A write of MEM_DMAd_CTL.stop stops the chain after the current burst. -/
  | dmaStop (who : Party) (d : Fin 2)
  /-- DMA_DESCRIPTOR_END (R350): A descriptor completes and the chain continues, ends or stops. -/
  | dmaDescriptorEnd (d : Fin 2) (bursts : Nat)
  /-- REGISTER_FRAME (R359): A register frame ends at HCS_N rise and its CRC is checked before its word accesses. -/
  | registerFrame (bytes : List (BitVec 8))
  /-- REGISTER_FRAME_DONE (R359): The frame's last access completes and its reply becomes pending. -/
  | registerFrameDone
  /-- RAW_WORD_UNIT (R364): A raw-word unit is exchanged: MOSI into the receive FIFO, MISO from the transmit FIFO. -/
  | rawWordUnit (mosi : W32) (u : RawUnit)
  /-- HPORT_RXD_READ (R365): A SUP read of HPORT_RXD pops the receive FIFO head. -/
  | hportRxdRead (who : Party)
  /-- HPORT_TXD_WRITE (R365): A SUP write of HPORT_TXD pushes the transmit FIFO, or sets tx_ovf when full. -/
  | hportTxdWrite (who : Party) (v : W32)
  /-- HPORT_DOORBELL_WRITE (R366): A host write of HPORT_DOORBELL stores the value and sets SIO_EVT.doorbell. -/
  | hportDoorbellWrite (who : Party) (v : W32)
  /-- TX_FLUSH (R391): HPORT_FIFO.tx_flush empties the transmit FIFO. -/
  | txFlush (who : Party)
  /-- RX_FLUSH (R391): HPORT_FIFO.rx_flush empties the receive FIFO. -/
  | rxFlush (who : Party)
  /-- PPORT_UNIT_COMPLETE (R125): A PPORT unit ends, its received value becomes visible to PPS and the port goes idle. -/
  | pportUnitComplete (bits : Option W32)
  /-- BULK_START (R372): PPORT_BULK_CTL.start starts a bulk read into DRAM. -/
  | bulkStart (who : Party) (v : W32)
  /-- BULK_STOP (R372): PPORT_BULK_CTL.stop ends the bulk read at the next byte boundary with bulk_err. -/
  | bulkStop (who : Party) (data : List (BitVec 8))
  /-- BULK_DONE (R372): The bulk engine receives all units and sets bulk_done. -/
  | bulkDone (data : List (BitVec 8))
  /-- GPIO_EDGE (R375): A level change on a GPIO pin matching its edge setting sets GPIO_EVT bit n. -/
  | gpioEdge (n : Fin 32) (drive : Option Bool)
  /-- TX_LINK_UP (R376): A transmit port completes its initial skew calibration and sets VIO_EVT.tx_up. -/
  | txLinkUp (t : Fin 2)
  /-- TX_DESKEW (R376): Every deskew × 256 lines of H a transmit port runs periodic skew calibration. -/
  | txDeskew (t : Fin 2)
  /-- VIO_PACKET_BOUNDARY (R380): At a long-packet boundary the transmitter picks the next packet by class and round robin. -/
  | vioPacketBoundary (t : Fin 2)
  /-- RX_FRAME_START (R385): A CSI-2 frame start opens a received frame. -/
  | rxFrameStart (r : Fin 2) (vc : Fin 4) (dsk : Bool)
  /-- RX_LONG_PACKET (R386): A received long packet is written into the input ring or discarded on error. -/
  | rxLongPacket (r : Fin 2) (vc : Fin 4) (dt : BitVec 8) (hdrOk crcOk : Bool) (body : List (BitVec 8))
  /-- RX_FRAME_END (R385): A frame end closes the received frame and hands it to its facet. -/
  | rxFrameEnd (r : Fin 2) (vc : Fin 4)
  /-- RX_MISSED_COUNT (R387): While a receive port is fenced, every VIO_RXr_FPER lines of H increments missed. -/
  | rxMissedCount (r : Fin 2)
  /-- INTC_CLAIM (R398): A claim read by the target's owner returns the best claimable source and places it in service. -/
  | intcClaim (who : Party) (t : Fin 3)
  /-- INTC_CLAIM_PEEK (R399): A claim read by another party returns what a claim would return without changing state. -/
  | intcClaimPeek (who : Party) (t : Fin 3)
  /-- INTC_COMPLETE (R402): A write of INTC_t_COMPLETE completes an in-service source and may start a holdoff. -/
  | intcComplete (who : Party) (t : Fin 3) (v : W32)
  /-- INTC_SET (R397): A write of INTC_t_SETn sets enable or software-pending bits per the inject mode. -/
  | intcSet (who : Party) (t : Fin 3) (n : Fin 4) (v : W32)
  /-- INTC_CLR (R397): A write of INTC_t_CLRn clears enable or software-pending bits per the inject mode. -/
  | intcClr (who : Party) (t : Fin 3) (n : Fin 4) (v : W32)
  /-- HOLDOFF_EXPIRY (R404): The lines-th line start after a completion ends a group's holdoff. -/
  | holdoffExpiry (t : Fin 3) (g : Fin 16)
  /-- PROGRAM (R412): NVS command writing the write buffer to a page. -/
  | program (who : Party) (page : BitVec 11)
  /-- GROUP (R412): NVS command writing one buffer group to a page group. -/
  | group (who : Party) (page : BitVec 11) (group : BitVec 8)
  /-- ERASE (R412): NVS command writing zeros to a page. -/
  | erase (who : Party) (page : BitVec 11)
  /-- INCR (R423): NVS command incrementing a counter slot, with carry. -/
  | incr (who : Party) (page : BitVec 11) (slot : BitVec 2)
  /-- CREAD (R422): NVS command resolving a counter into NVS_CNT_VAL. -/
  | cread (who : Party) (page : BitVec 11) (slot : BitVec 2)
  /-- CFMT (R421): NVS command zeroing a page and marking it a counter page. -/
  | cfmt (who : Party) (page : BitVec 11)
  /-- RESOLVE (R419): NVS command starting the resolution of a dual-copy record. -/
  | resolve (who : Party)
  /-- RESOLVE_DONE (R419): The record resolution ends and NVS_REC_STAT names the winning copy. -/
  | resolveDone (met : Bool)
  /-- NVS_WRITE_START (R413): The write engine starts a pending write when free, MET's first. -/
  | nvsWriteStart
  /-- NVS_WRITE_DONE (R413): An accepted write ends, writes NVS_CMD_STAT and sets done. -/
  | nvsWriteDone (ok : Bool) (t : Nat)
  /-- NVS_RETRY (R415): retry_lines after a failed attempt the NVS retries, or retires the page when retries are spent. -/
  | nvsRetry
  /-- NVS_WINDOW_READ (R411): A read of the NVS window returns the corrected word of the selected page or latches an uncorrectable error. -/
  | nvsWindowRead (who : Party) (off : BitVec 11) (err : Option Bool)
  /-- NVS_RECALL_DONE (R416): NVS recall completes and ready is set. -/
  | nvsRecallDone
  /-- NVS_HOLD_RELEASE (R425): 2 ms above the warning level release the NVS write hold. -/
  | nvsHoldRelease
  /-- HK_ROUND_START (R435): A line count multiple of lines starts a housekeeping round, or it is skipped as overrun. -/
  | hkRoundStart
  /-- HK_CONVERSION_END (R434): A round conversion ends; the result, window, rate, throttle and shutdown judgements follow. -/
  | hkConversionEnd (x : Option (Int × Nat))
  /-- HK_OPEN_WIRE_CHECK (R441): An open-wire check ends and may fence the input as open. -/
  | hkOpenWireCheck (uv : Int)
  /-- HK_URGENT (R437): A write of HKT_URGENT.start starts one urgent conversion or is dropped. -/
  | hkUrgent (who : Party) (v : W32)
  /-- HK_URGENT_DONE (R437): An urgent conversion ends, writes HKT_URG_RES and sets urg_done. -/
  | hkUrgentDone (x : Option (Int × Nat))
  /-- THROTTLE_FORCE_WRITE (R444): A write of HKT_THR_CFG.force rejudges the throttle condition. -/
  | throttleForceWrite (who : Party) (v : W32)
  /-- THROTTLE_GRACE_EXPIRY (R444): The grace-th frame start after entry moves the throttle to ENFORCE. -/
  | throttleGraceExpiry
  /-- DIE_TRIP (R445): An always-on comparator reads a die sensor above trip for 4 periods and decides a shutdown. -/
  | dieTrip
  /-- THERMAL_RESET_ENTRY (R446): When the record write ends, or 6 ms after the decision, the part enters the thermal reset. -/
  | thermalResetEntry (limit : Bool)
  /-- THERMAL_RESET_RELEASE (R446): All die sensors below release for 512 periods end the thermal reset and the part restarts cold. -/
  | thermalResetRelease (boot : BitVec 3)
  /-- SHUTTER_TRIGGER (R460): A write of SDR_TRIG.start triggers a profile on a pair, started, deferred or dropped. -/
  | shutterTrigger (who : Party) (v : W32)
  /-- PHASE_END (R455): A profile phase ends and the next phase, or the profile's end, begins. -/
  | phaseEnd (n : Fin 4)
  /-- PWM_PERIOD (R457): Within a PWM phase the gate turns off after its on-share and on at each period start. -/
  | pwmPeriod (n : Fin 4)
  /-- CURRENT_SAMPLE (R459): A coil current sample updates regulation, movement detection and the overcurrent check. -/
  | currentSample (c : Fin 8) (uv : Int)
  /-- ON_TIME_LIMIT (R463): A channel's on-time reaches max_on and the channel is fenced. -/
  | onTimeLimit (c : Fin 8)
  /-- TRIGGER_DEADLINE (R461): A waiting trigger's deadline passes and it is dropped. -/
  | triggerDeadline (n : Fin 4)
  /-- WAITING_PROFILE_START (R461): The waiting profile starts at the slot after the running release phase ends. -/
  | waitingProfileStart (n : Fin 4)
  /-- SUPPLY_WARNING (R470): A rail comparator asserts a warning and starts or extends a dip. -/
  | supplyWarning (rail : Fin 4) (steps : Nat)
  /-- SUPPLY_RECOVER (R470): No warning is asserted any longer and SCA_EVT.recover is set. -/
  | supplyRecover (rail : Fin 4)
  /-- DIP_END (R470): 2 ms without a warning end the dip and the dip record is written. -/
  | dipEnd
  /-- SUPPLY_RESET (R468): A rail below its reset level for 1 µs causes a power-on reset with cause SUPPLY. -/
  | supplyReset
  /-- POWER_ON_RESET (R473): PORST_N low for 10 µs resets every domain. -/
  | powerOnReset
  /-- PORST_RELEASE (R416): PORST_N rises, boot pins are sampled, PLLs lock and NVS recall begins. -/
  | porstRelease (boot : BitVec 3)
  /-- SYSTEM_RESET_PIN (R473): SRST_N low for 1 µs resets CORE and SUP. -/
  | systemResetPin
  /-- SYSTEM_RESET_REQUEST (R473): SCA_RST_CTL.sys with the key performs a system reset. -/
  | systemResetRequest (who : Party) (key : BitVec 16) (sup : Bool)
  /-- SUP_RESET_REQUEST (R474): SCA_RST_CTL.sup with the key resets SUP alone. -/
  | supResetRequest (who : Party) (key : BitVec 16)
  /-- PLL0_LOSS (R472): PLL0 out of lock for 1 µs causes a power-on reset with cause CLOCK. -/
  | pll0Loss
  /-- PLL_LOSS (R472): PLL1 or PLL2 loses lock, sets SCA_EVT.pll and relocks. -/
  | pllLoss (pll2 : Bool)
  /-- AVS_WRITE (R475): A write of SCA_AVS sets the core-voltage request code and mode. -/
  | avsWrite (who : Party) (v : W32)
  /-- AVS_APPLY (R475): A new code takes effect at the next PWM period start and sets SCA_EVT.avs. -/
  | avsApply
  /-- AGE_PASS_START (R476): A start write or the period of H starts an ageing measurement pass. -/
  | agePassStart (w : Option Party)
  /-- AGE_PASS_END (R476): The ageing pass ends, writes SCA_AGEm and sets SCA_EVT.age. -/
  | agePassEnd (deg : List Int)
  /-- CLOCK_REDUCE (R478): A write of SCA_CLK_CTL.reduce at code 10 starts the PLL0 ramp to 2.700 GHz. -/
  | clockReduce (who : Party) (v : W32)
  /-- CLOCK_RAMP_END (R478): The clock ramp ends, reduced is set and SCA_LATENCY reads 5556. -/
  | clockRampEnd
  /-- ILLEGAL_INSTRUCTION (R83): A core executes an unassigned opcode 0x34–0x3F and faults: an SQ core fences its port, SUP enters its fault handler or halts, MET resets the enclave. -/
  | illegalInstruction (k : Core)
  /-- PLL_RELOCK (R472): PLL1 or PLL2 regains lock after a loss, DRAM requests resume after retraining, and the transmit ports recalibrate. -/
  | pllRelock (pll2 : Bool)
  /-- DRAM_RETRAIN_DONE (R335): The controller completes retraining of the LP5 devices after a system reset or a PLL1 relock, sets trained and releases the waiting DRAM requests. -/
  | dramRetrainDone
  /-- SYSTEM_RESET_END (R474): A system reset ends when SRST_N rises or the register-requested reset completes; raster H restarts, the DRAM is retrained and the boot ROM runs. -/
  | systemResetEnd
  /-- SUPPLY_RESET_RELEASE (R469): The internal supervisor releases a power-on reset once every rail is above its reset level again, without any change on PORST_N, and the part restarts cold. -/
  | supplyResetRelease (boot : BitVec 3)
deriving DecidableEq, Repr

end Sys2Proof
end

