-- ==== Sys2Proof/Decode.lean ====
section
/-! DEFINITION. Decode.lean: the block has no instruction stream of its own and no row of spec/opcode_table.json has bits, so decodeTableWord names no command.
The Pulon words that a core fetches from its instruction memory (spec 04, R106–R110) are decoded here, and encoded. -/

namespace Sys2Proof

/-- The command that a word spells by the table's bits: no row of the table has bits. (DESIGN CHOICE, log entry 2.) -/
def decodeTableWord (_nbits _w : Nat) : Option Instr := none

/-! ## Fields of a Pulon word (R106) -/

def pwOp (w : W32) : Nat := w.toNat / 2 ^ 26
def pwD (w : W32) : RegNo := BitVec.ofNat 4 (w.toNat / 2 ^ 22)
def pwA (w : W32) : RegNo := BitVec.ofNat 4 (w.toNat / 2 ^ 18)
def pwB (w : W32) : RegNo := BitVec.ofNat 4 (w.toNat / 2 ^ 14)
/-- f of format R. -/
def pwFR (w : W32) : Bool := w.toNat / 2 ^ 13 % 2 = 1
/-- f of format I and r of format N. -/
def pwFI (w : W32) : Bool := w.toNat / 2 ^ 16 % 2 = 1
def pwImm (w : W32) : BitVec 16 := BitVec.ofNat 16 w.toNat
def pwOff (w : W32) : BitVec 22 := BitVec.ofNat 22 w.toNat
/-- x and y of format L. -/
def pwX (w : W32) : LocNo := BitVec.ofNat 2 (w.toNat / 2 ^ 24)
def pwY (w : W32) : LocNo := BitVec.ofNat 2 (w.toNat / 2 ^ 22)
def pwU (w : W32) : BitVec 2 := BitVec.ofNat 2 (w.toNat / 2 ^ 12)
def pwImm12 (w : W32) : BitVec 12 := BitVec.ofNat 12 w.toNat
/-- Fields of format E: y stands where x stands in format L, lvl, soff, m. -/
def pwLvl (w : W32) : Bool := w.toNat / 2 ^ 23 % 2 = 1
def pwSoff (w : W32) : BitVec 11 := BitVec.ofNat 11 (w.toNat / 2 ^ 12)
/-- Fields of format P. -/
def pwLen (w : W32) : BitVec 5 := BitVec.ofNat 5 (w.toNat / 2 ^ 13)
def pwQ (w : W32) : Bool := w.toNat / 2 ^ 12 % 2 = 1
def pwRx (w : W32) : Bool := w.toNat / 2 ^ 11 % 2 = 1

/-- The classes that a core may execute (R72), by opcode: SQ cores, SUP and MET. -/
def coreMay (k : Core) (op : Nat) : Bool :=
  if op = 0x1F then !k.isSq
  else if op = 0x28 ∨ op = 0x29 then k != .met
  else if op = 0x2A then k.isSq
  else if 0x2B ≤ op ∧ op ≤ 0x30 then k != .met
  else if op = 0x32 ∨ op = 0x33 then !k.isSq
  else op ≤ 0x31

/-- The instruction that core `k` executes for a word; `none` for an illegal one (R108): an unassigned opcode, a class the core may not run, LNOW with raster code 5–7,
PPX with len 0–2. Reserved and unused fields are ignored (R107). (DEDUCED, log entry 9; DEDUCED, log entry 63.) -/
def decodePulon (k : Core) (w : W32) : Option Instr :=
  if !coreMay k (pwOp w) then none
  else
    match pwOp w with
    | 0x00 => some (.add k (pwD w) (pwA w) (pwB w) (pwFR w))
    | 0x01 => some (.sub k (pwD w) (pwA w) (pwB w) (pwFR w))
    | 0x02 => some (.andw k (pwD w) (pwA w) (pwB w) (pwFR w))
    | 0x03 => some (.orw k (pwD w) (pwA w) (pwB w) (pwFR w))
    | 0x04 => some (.xorw k (pwD w) (pwA w) (pwB w) (pwFR w))
    | 0x05 => some (.shl k (pwD w) (pwA w) (pwB w) (pwFR w))
    | 0x06 => some (.shr k (pwD w) (pwA w) (pwB w) (pwFR w))
    | 0x07 => some (.sar k (pwD w) (pwA w) (pwB w) (pwFR w))
    | 0x08 => some (.mul k (pwD w) (pwA w) (pwB w) (pwFR w))
    | 0x09 => some (.addi k (pwD w) (pwA w) (pwFI w) (pwImm w))
    | 0x0A => some (.subi k (pwD w) (pwA w) (pwFI w) (pwImm w))
    | 0x0B => some (.andi k (pwD w) (pwA w) (pwFI w) (pwImm w))
    | 0x0C => some (.ori k (pwD w) (pwA w) (pwFI w) (pwImm w))
    | 0x0D => some (.xori k (pwD w) (pwA w) (pwFI w) (pwImm w))
    | 0x0E => some (.shli k (pwD w) (pwA w) (pwFI w) (pwImm w))
    | 0x0F => some (.shri k (pwD w) (pwA w) (pwFI w) (pwImm w))
    | 0x10 => some (.sari k (pwD w) (pwA w) (pwFI w) (pwImm w))
    | 0x11 => some (.movh k (pwD w) (pwA w) (pwFI w) (pwImm w))
    | 0x12 => some (.ldw k (pwD w) (pwA w) (pwImm w))
    | 0x13 => some (.ldh k (pwD w) (pwA w) (pwImm w))
    | 0x14 => some (.ldb k (pwD w) (pwA w) (pwImm w))
    | 0x15 => some (.stw k (pwD w) (pwA w) (pwImm w))
    | 0x16 => some (.sth k (pwD w) (pwA w) (pwImm w))
    | 0x17 => some (.stb k (pwD w) (pwA w) (pwImm w))
    | 0x18 => some (.ldl k (pwY w) (pwA w) (pwImm w))
    | 0x19 => some (.stl k (pwY w) (pwA w) (pwImm w))
    | 0x1A => some (.br k (pwD w) (pwOff w))
    | 0x1B => some (.call k (pwOff w))
    | 0x1C => some (.jr k (pwA w))
    | 0x1D => some (.callr k (pwA w))
    | 0x1E => some (.dbnz k (pwD w) (pwOff w))
    | 0x1F => some (.iret k)
    | 0x20 => some (.mfs k (pwD w) ((pwImm w).setWidth 4))
    | 0x21 => some (.mts k ((pwImm w).setWidth 4) (pwA w))
    | 0x22 => if 4 < ((pwImm12 w).setWidth 3).toNat then none else some (.lnow k (pwX w) ((pwImm12 w).setWidth 3))
    | 0x23 => some (.lset k (pwX w) (pwA w) (pwB w))
    | 0x24 => some (.lget k (pwA w) (pwY w) ((pwImm12 w).getLsbD 0))
    | 0x25 => some (.lins k (pwX w) (pwY w) (pwU w) (pwB w))
    | 0x26 => some (.ladv k (pwX w) (pwY w) (pwU w) (pwImm12 w))
    | 0x27 => some (.wait k (pwY w))
    | 0x28 => some (.edge k (pwX w) (pwSoff w) ((pwImm12 w).setWidth 4) (pwLvl w))
    | 0x29 => some (.edgei k (pwX w) (pwSoff w) (pwImm12 w) (pwLvl w))
    | 0x2A => some (.strb k (pwX w) (pwSoff w) (pwImm12 w))
    | 0x2B => if (pwLen w).toNat < 3 then none else some (.ppx k (pwA w) (pwLen w) (pwQ w) (pwRx w))
    | 0x2C => some (.pps k (pwD w))
    | 0x2D => some (.gsel k (pwA w) ((pwD w).getLsbD 0))
    | 0x2E => some (.gseli k ((pwImm w).setWidth 5) ((pwD w).getLsbD 0))
    | 0x2F => some (.claim k ((pwImm w).setWidth 5))
    | 0x30 => some (.free k ((pwImm w).setWidth 5))
    | 0x31 => some (.sig k ((pwImm w).setWidth 3))
    | 0x32 => some (.fence k (pwD w) (pwFI w) (pwA w) (pwImm w))
    | 0x33 => some (.flift k (pwD w) (pwFI w) (pwA w) (pwImm w))
    | _ => none

/-! ## Encoding (R106, R107, R110) -/

/-- Format R. -/
def encR (op : Nat) (d a b : RegNo) (f : Bool) : W32 :=
  BitVec.ofNat 32 (op * 2 ^ 26 + d.toNat * 2 ^ 22 + a.toNat * 2 ^ 18 + b.toNat * 2 ^ 14 + (if f then 1 else 0) * 2 ^ 13)

/-- Formats I and N, whose fields lie alike. -/
def encI (op : Nat) (d a : RegNo) (f : Bool) (imm : Nat) : W32 :=
  BitVec.ofNat 32 (op * 2 ^ 26 + d.toNat * 2 ^ 22 + a.toNat * 2 ^ 18 + (if f then 1 else 0) * 2 ^ 16 + imm)

/-- Format B. -/
def encB (op : Nat) (c : BitVec 4) (off : BitVec 22) : W32 := BitVec.ofNat 32 (op * 2 ^ 26 + c.toNat * 2 ^ 22 + off.toNat)

/-- Format L. -/
def encL (op : Nat) (x y : LocNo) (a b : RegNo) (u : BitVec 2) (imm : Nat) : W32 :=
  BitVec.ofNat 32 (op * 2 ^ 26 + x.toNat * 2 ^ 24 + y.toNat * 2 ^ 22 + a.toNat * 2 ^ 18 + b.toNat * 2 ^ 14 + u.toNat * 2 ^ 12 + imm)

/-- Format E. -/
def encE (op : Nat) (y : LocNo) (lvl : Bool) (soff : BitVec 11) (m : Nat) : W32 :=
  BitVec.ofNat 32 (op * 2 ^ 26 + y.toNat * 2 ^ 24 + (if lvl then 1 else 0) * 2 ^ 23 + soff.toNat * 2 ^ 12 + m)

/-- Format P. -/
def encP (op : Nat) (d a : RegNo) (len : BitVec 5) (q rx : Bool) : W32 :=
  BitVec.ofNat 32 (op * 2 ^ 26 + d.toNat * 2 ^ 22 + a.toNat * 2 ^ 18 + len.toNat * 2 ^ 13 + (if q then 1 else 0) * 2 ^ 12 +
    (if rx then 1 else 0) * 2 ^ 11)

/-- The core that executes a Pulon instruction, and its word; `none` for every other command. (DEDUCED, log entry 63.) -/
def encodePulon : Instr → Option (Core × W32)
  | .add k d a b f => some (k, encR 0x00 d a b f)
  | .sub k d a b f => some (k, encR 0x01 d a b f)
  | .andw k d a b f => some (k, encR 0x02 d a b f)
  | .orw k d a b f => some (k, encR 0x03 d a b f)
  | .xorw k d a b f => some (k, encR 0x04 d a b f)
  | .shl k d a b f => some (k, encR 0x05 d a b f)
  | .shr k d a b f => some (k, encR 0x06 d a b f)
  | .sar k d a b f => some (k, encR 0x07 d a b f)
  | .mul k d a b f => some (k, encR 0x08 d a b f)
  | .addi k d a f i => some (k, encI 0x09 d a f i.toNat)
  | .subi k d a f i => some (k, encI 0x0A d a f i.toNat)
  | .andi k d a f i => some (k, encI 0x0B d a f i.toNat)
  | .ori k d a f i => some (k, encI 0x0C d a f i.toNat)
  | .xori k d a f i => some (k, encI 0x0D d a f i.toNat)
  | .shli k d a f i => some (k, encI 0x0E d a f i.toNat)
  | .shri k d a f i => some (k, encI 0x0F d a f i.toNat)
  | .sari k d a f i => some (k, encI 0x10 d a f i.toNat)
  | .movh k d a f i => some (k, encI 0x11 d a f i.toNat)
  | .ldw k d a i => some (k, encI 0x12 d a false i.toNat)
  | .ldh k d a i => some (k, encI 0x13 d a false i.toNat)
  | .ldb k d a i => some (k, encI 0x14 d a false i.toNat)
  | .stw k d a i => some (k, encI 0x15 d a false i.toNat)
  | .sth k d a i => some (k, encI 0x16 d a false i.toNat)
  | .stb k d a i => some (k, encI 0x17 d a false i.toNat)
  | .ldl k x a i => some (k, encI 0x18 (x.setWidth 4) a false i.toNat)
  | .stl k x a i => some (k, encI 0x19 (x.setWidth 4) a false i.toNat)
  | .br k c o => some (k, encB 0x1A c o)
  | .call k o => some (k, encB 0x1B 0#4 o)
  | .jr k a => some (k, encR 0x1C 0#4 a 0#4 false)
  | .callr k a => some (k, encR 0x1D 0#4 a 0#4 false)
  | .dbnz k d o => some (k, encB 0x1E d o)
  | .iret k => some (k, encB 0x1F 0#4 0#22)
  | .mfs k d sr => some (k, encI 0x20 d 0#4 false sr.toNat)
  | .mts k sr a => some (k, encI 0x21 0#4 a false sr.toNat)
  | .lnow k x r => some (k, encL 0x22 x 0#2 0#4 0#4 0#2 r.toNat)
  | .lset k x a b => some (k, encL 0x23 x 0#2 a b 0#2 0)
  | .lget k a y h => some (k, encL 0x24 0#2 y a 0#4 0#2 (if h then 1 else 0))
  | .lins k x y u b => some (k, encL 0x25 x y 0#4 b u 0)
  | .ladv k x y u i => some (k, encL 0x26 x y 0#4 0#4 u i.toNat)
  | .wait k y => some (k, encL 0x27 0#2 y 0#4 0#4 0#2 0)
  | .edge k y soff m lvl => some (k, encE 0x28 y lvl soff m.toNat)
  | .edgei k y soff m lvl => some (k, encE 0x29 y lvl soff m.toNat)
  | .strb k y soff sw => some (k, encE 0x2A y false soff sw.toNat)
  | .ppx k a len q rx => some (k, encP 0x2B 0#4 a len q rx)
  | .pps k d => some (k, encP 0x2C d 0#4 0#5 false false)
  | .gsel k m lvl => some (k, encI 0x2D (if lvl then 1#4 else 0#4) m false 0)
  | .gseli k pin lvl => some (k, encI 0x2E (if lvl then 1#4 else 0#4) 0#4 false pin.toNat)
  | .claim k n => some (k, encI 0x2F 0#4 0#4 false n.toNat)
  | .free k n => some (k, encI 0x30 0#4 0#4 false n.toNat)
  | .sig k c => some (k, encI 0x31 0#4 0#4 false c.toNat)
  | .fence k cls r a n => some (k, encI 0x32 cls a r n.toNat)
  | .flift k cls r a n => some (k, encI 0x33 cls a r n.toNat)
  | _ => none

end Sys2Proof
end

