-- ==== Sys2Proof/Config.lean ====
section
/-! DEFINITION. Config.lean: the values the spec leaves open. Each is a constant without a body, so that no proof can see what it is;
a step applies it to the state's counter `freeCtr` (a fresh value each time) or to the operands it depends on. -/

namespace Sys2Proof.Config

/-- A converter code of a lane whose input is open while the test DAC is off: any value from 0 to 65,535 (R148). (UNVERIFIED, log entry 25.) -/
opaque openLane : Nat → BitVec 16

/-- A 20-bit code of a legacy conversion of such a lane (R179). (UNVERIFIED, log entry 25.) -/
opaque openLegacy : Nat → BitVec 20

/-- In which of its ticks, counted from its first, a WAIT judges its target (R79). (UNVERIFIED, log entry 30.) -/
opaque waitTick : BitVec 3

/-- Whether a legacy conversion whose voltage lies between two codes gives the upper one: R179 names no rounding. (UNVERIFIED, log entry 25.) -/
opaque legacyUp : Nat → Bool

/-- Data bits that no device drives while a PPORT unit receives (R124). (UNVERIFIED, log entry 36.) -/
opaque floatingPio : Nat → BitVec 32

/-- Whether the board powers the I/O supply VIOFx of port `p` while the port is OFF (R492). (DESIGN CHOICE, log entry 64.) -/
opaque vioPowered : Nat → Bool

/-- Level of a GPIO pin that nothing drives (R374). (UNVERIFIED, log entry 36.) -/
opaque floatingPin : Nat → Bool

/-- A page or group whose programming was cut short: each byte may read anything (R410, R415). (DEDUCED, log entry 50.) -/
opaque tornByte : Nat → BitVec 8

/-- Which step of a stepwise write was in hand when the write was cut short or its attempt failed (R423, R425, R426). (DEDUCED, log entry 50.) -/
opaque stepInHand : Nat → Nat

/-- The enclave's code of the P1 item that a record's item number names (R418, R420, R506). (UNVERIFIED, log entry 50.) -/
opaque p1Item : Nat → Nat

/-- Which 4 KiB of MET-private space hold MET's own copy of the NVS registers and window: R409 and R429 give it no address. (UNVERIFIED, log entry 11.) -/
opaque metNvsPage : BitVec 7

/-- The random bits from which the enclave draws a private key (R252). (UNVERIFIED, log entry 43.) -/
opaque privateKey : Nat → BitVec 256

/-- Random bits drawn by the enclave: nonces (R255). (UNVERIFIED, log entry 43.) -/
opaque random64 : Nat → BitVec 64

/-- The firmware image that the part carries from manufacture (R250). (UNVERIFIED, log entry 43.) -/
opaque firmwareImage : List (BitVec 8)

/-- The version word of a firmware image, and whether an image carries a valid Daruri signature (R251, R254). (UNVERIFIED, log entry 43.) -/
opaque imageVersion : List (BitVec 8) → BitVec 32
opaque imageValid : List (BitVec 8) → Bool

/-- Where MET's private interrupt controller makes it continue (R82 gives MET the rules of SUP and no vector). (UNVERIFIED, log entry 11.) -/
opaque metVector : BitVec 14

/-- Whether a source of MET's private controller other than MET's own signals asks for an interrupt: the spec names none (R82). (UNVERIFIED, log entry 11.) -/
opaque metRequest : Nat → Bool

/-- A word of MET-private space as MET itself reads it, where the spec names no contents (R74, R276). (UNVERIFIED, log entry 11.) -/
opaque metPrivate : Nat → BitVec 32

/-- Which of the counts whose code lies equally near the flag temperature the enclave returns (R220). (DESIGN CHOICE, log entry 42.) -/
opaque nearestPick : Nat → Nat

/-- Which of two record copies counts as newer when their sequence numbers lie 2^31 apart, where R419 calls neither newer. (DESIGN CHOICE, log entry 42.) -/
opaque tieNewer : Nat → Bool

/-- The mean over no pixel at all (R220, R221). (DESIGN CHOICE, log entry 42.) -/
opaque emptyMean : Nat → Nat

/-- The result of a housekeeping conversion whose input the spec leaves undefined (R441). (DEDUCED, log entry 53.) -/
opaque openHk : Nat → Int

/-- Trim code of the always-on oscillator and of the bandgap reference at a die temperature in mK, from the factory coefficients (R443): 12 bits each. (UNVERIFIED, log entry 62.) -/
opaque oscTrim : Nat → BitVec 12
opaque refTrim : Nat → BitVec 12

/-- Factory zero of an ageing monitor and factory span of a port's lanes (R476, R477). (UNVERIFIED, log entry 62.) -/
opaque ageZero : Nat → Int
opaque laneSpan : Nat → Nat

/-- A SECDED syndrome: the spec names the field and gives no code (R340). (DEDUCED, log entry 61.) -/
opaque syndrome : Nat → BitVec 8

/-- A quotient whose divisor is zero, where a formula of the spec divides by data (R222, R231, R235). (DESIGN CHOICE, log entry 42.) -/
opaque divZero : Nat → Int

/-- A result that falls outside the field the spec gives it (R235). (DESIGN CHOICE, log entry 42.) -/
opaque outOfField : Nat → Nat

/-- Whether the mean of `n` values that sum to `sum` is rounded up where it is no whole number and the spec names no rounding (R294). (DESIGN CHOICE, log entry 42.) -/
opaque meanRoundsUp : (sum n : Nat) → Bool

/-- A byte of a facet context as the pipeline saves it to the band store: the spec gives its size and not its layout (R285). (UNVERIFIED, log entry 57.) -/
opaque contextByte : (save offset : Nat) → BitVec 8

end Sys2Proof.Config
end

