-- ==== Sys2Proof/Machine/Map.lean ====
section
/-! DEFINITION. Machine/Map.lean: sparse data by key, the one container the state uses for registers, memories, lanes and
every other indexed kind. A map is a list of (key, value) pairs in one canonical form: keys strictly rising, and no entry
equal to what an unlisted key reads as (the default `d`), so that equal maps are equal lists. -/

namespace Sys2Proof.Machine

/-- What key `k` holds: its entry, or the default. -/
def Map.get {α : Type} (d : Nat → α) : List (Nat × α) → Nat → α
  | [], k => d k
  | (j, v) :: r, k => if j = k then v else Map.get d r k

/-- The map without any entry of key `k`. -/
def Map.del {α : Type} : List (Nat × α) → Nat → List (Nat × α)
  | [], _ => []
  | (j, v) :: r, k => if j = k then Map.del r k else (j, v) :: Map.del r k

/-- Entry (k, v) put before the first larger key. -/
def Map.ins {α : Type} : List (Nat × α) → Nat → α → List (Nat × α)
  | [], k, v => [(k, v)]
  | (j, w) :: r, k, v => if k < j then (k, v) :: (j, w) :: r else (j, w) :: Map.ins r k v

/-- Key `k` set to `v`; writing the default removes the entry. -/
def Map.set {α : Type} [DecidableEq α] (d : Nat → α) (m : List (Nat × α)) (k : Nat) (v : α) : List (Nat × α) :=
  if v = d k then Map.del m k else Map.ins (Map.del m k) k v

/-- Every key of the map is above `b`, keys rise strictly, and no entry equals its default. -/
def Map.wfAbove {α : Type} [DecidableEq α] (d : Nat → α) : Option Nat → List (Nat × α) → Bool
  | _, [] => true
  | b, (j, v) :: r => (match b with | none => true | some x => decide (x < j)) && decide (v ≠ d j) && Map.wfAbove d (some j) r

/-- The canonical form. -/
def Map.wf {α : Type} [DecidableEq α] (d : Nat → α) (m : List (Nat × α)) : Bool := Map.wfAbove d none m

end Sys2Proof.Machine
end

