-- ==== Sys2Proof/Machine/Bits.lean ====
section
/-! DEFINITION. Machine/Bits.lean: bit fields of 32-bit registers, signed readings of unsigned numbers, and byte order. -/

namespace Sys2Proof.Machine

/-- A field of a 32-bit register: its host address and its bits [hi:lo] (spec 00, "Registers, fields and addresses"). -/
structure Field where
  addr : Nat
  hi : Nat
  lo : Nat
deriving DecidableEq, Repr

/-- Bits [hi:lo] of `w`. -/
def bitsOf (w : W32) (hi lo : Nat) : Nat := w.toNat / 2 ^ lo % 2 ^ (hi - lo + 1)

/-- `w` with bits [hi:lo] replaced by the low bits of `v`. -/
def withBits (w : W32) (hi lo v : Nat) : W32 :=
  BitVec.ofNat 32 (w.toNat / 2 ^ (hi + 1) * 2 ^ (hi + 1) + v % 2 ^ (hi - lo + 1) * 2 ^ lo + w.toNat % 2 ^ lo)

/-- Bit `i` of `w`. -/
def bitOf (w : W32) (i : Nat) : Bool := w.toNat / 2 ^ i % 2 = 1

/-- A Bool as 0 or 1. -/
def b2n (b : Bool) : Nat := if b then 1 else 0

/-- `n` (below 2^w) read as a two's-complement number of `w` bits. -/
def sgn (w n : Nat) : Int := if n % 2 ^ w < 2 ^ (w - 1) then (n % 2 ^ w : Nat) else (n % 2 ^ w : Nat) - (2 : Int) ^ w

/-- The two's-complement pattern of `i` in `w` bits. -/
def unsgn (w : Nat) (i : Int) : Nat := (i % (2 : Int) ^ w).toNat

/-- `i` limited to [lo, hi]. -/
def clampI (lo hi i : Int) : Int := if i < lo then lo else if hi < i then hi else i

/-- `n` limited to at most `m`. -/
def sat (m n : Nat) : Nat := if m < n then m else n

/-- floor (i / 2^k), the arithmetic right shift of the manual's pseudocode. -/
def asr (i : Int) (k : Nat) : Int := i / (2 : Int) ^ k

/-- |i|. -/
def absI (i : Int) : Nat := i.natAbs

/-- The little-endian bytes of `n`, `k` of them (R7). -/
def leBytes : Nat → Nat → List Byte
  | 0, _ => []
  | k + 1, n => BitVec.ofNat 8 n :: leBytes k (n / 256)

/-- The number whose little-endian bytes these are. -/
def ofLe : List Byte → Nat
  | [] => 0
  | b :: r => b.toNat + 256 * ofLe r

end Sys2Proof.Machine
end

