-- ==== Sys2Proof/Machine/Regs.lean ====
section
/-! DEFINITION. Machine/Regs.lean: the host-address registers of the SK4128, as its register maps list them.
Every address, field position, reset value and access code below is read from the register map or field table of the
rule named on the line (spec R482, R406, R64, R100, R153, R183, R185, R214, R237, R304, R329, R354, R429, R450, R466, R390,
R392, R276). A register that stands in several copies (per port, per raster, per lane ...) takes its index. -/

namespace Sys2Proof.Machine.R
open Sys2Proof.Machine

/-- Base offset of interrupt target `t` in the INTC block: H0, H1, S (R406). -/
def intcBase (t : Nat) : Nat := if t = 0 then 0x1100 else if t = 1 then 0x1200 else 0x1800

/-! SCA (R482) -/

/-- SCA_ID (R482). -/
def SCA_ID : Nat := 0x0
def SCA_ID_part : Field := ⟨SCA_ID, 31, 16⟩
def SCA_ID_stepping : Field := ⟨SCA_ID, 15, 8⟩
def SCA_ID_enclave : Field := ⟨SCA_ID, 0, 0⟩

/-- SCA_EVT (R482). -/
def SCA_EVT : Nat := 0x4
def SCA_EVT_log : Field := ⟨SCA_EVT, 6, 6⟩
def SCA_EVT_clk : Field := ⟨SCA_EVT, 5, 5⟩
def SCA_EVT_avs : Field := ⟨SCA_EVT, 4, 4⟩
def SCA_EVT_age : Field := ⟨SCA_EVT, 3, 3⟩
def SCA_EVT_pll : Field := ⟨SCA_EVT, 2, 2⟩
def SCA_EVT_recover : Field := ⟨SCA_EVT, 1, 1⟩
def SCA_EVT_warn : Field := ⟨SCA_EVT, 0, 0⟩

/-- SCA_STAT (R482). -/
def SCA_STAT : Nat := 0x8
def SCA_STAT_rail_warn : Field := ⟨SCA_STAT, 11, 8⟩
def SCA_STAT_age_busy : Field := ⟨SCA_STAT, 7, 7⟩
def SCA_STAT_reduced : Field := ⟨SCA_STAT, 6, 6⟩
def SCA_STAT_lock : Field := ⟨SCA_STAT, 5, 3⟩
def SCA_STAT_log_full : Field := ⟨SCA_STAT, 2, 2⟩
def SCA_STAT_dip : Field := ⟨SCA_STAT, 1, 1⟩
def SCA_STAT_warn : Field := ⟨SCA_STAT, 0, 0⟩

/-- SCA_RST_CAUSE (R482). -/
def SCA_RST_CAUSE : Nat := 0xc
def SCA_RST_CAUSE_sup_reg : Field := ⟨SCA_RST_CAUSE, 7, 7⟩
def SCA_RST_CAUSE_supwd : Field := ⟨SCA_RST_CAUSE, 6, 6⟩
def SCA_RST_CAUSE_sys_reg : Field := ⟨SCA_RST_CAUSE, 5, 5⟩
def SCA_RST_CAUSE_sys_pin : Field := ⟨SCA_RST_CAUSE, 4, 4⟩
def SCA_RST_CAUSE_thermal : Field := ⟨SCA_RST_CAUSE, 3, 3⟩
def SCA_RST_CAUSE_clock : Field := ⟨SCA_RST_CAUSE, 2, 2⟩
def SCA_RST_CAUSE_supply : Field := ⟨SCA_RST_CAUSE, 1, 1⟩
def SCA_RST_CAUSE_por : Field := ⟨SCA_RST_CAUSE, 0, 0⟩

/-- SCA_RST_CTL (R482). -/
def SCA_RST_CTL : Nat := 0x10
def SCA_RST_CTL_key : Field := ⟨SCA_RST_CTL, 31, 16⟩
def SCA_RST_CTL_sys : Field := ⟨SCA_RST_CTL, 1, 1⟩
def SCA_RST_CTL_sup : Field := ⟨SCA_RST_CTL, 0, 0⟩

/-- SCA_SUPV_CFG (R482). -/
def SCA_SUPV_CFG : Nat := 0x14
def SCA_SUPV_CFG_hyst : Field := ⟨SCA_SUPV_CFG, 17, 16⟩
def SCA_SUPV_CFG_warn : Field := ⟨SCA_SUPV_CFG, 9, 0⟩

/-- SCA_DIP0 (R482). -/
def SCA_DIP0 : Nat := 0x18
def SCA_DIP0_rails : Field := ⟨SCA_DIP0, 19, 16⟩
def SCA_DIP0_disturbed : Field := ⟨SCA_DIP0, 15, 0⟩

/-- SCA_DIP1 (R482). -/
def SCA_DIP1 : Nat := 0x1c

/-- SCA_DIP_CNT (R482). -/
def SCA_DIP_CNT : Nat := 0x20
def SCA_DIP_CNT_dips : Field := ⟨SCA_DIP_CNT, 15, 0⟩

/-- SCA_LOG_PAGE (R482). -/
def SCA_LOG_PAGE : Nat := 0x24
def SCA_LOG_PAGE_p2 : Field := ⟨SCA_LOG_PAGE, 10, 0⟩

/-- SCA_CLK_CTL (R482). -/
def SCA_CLK_CTL : Nat := 0x28
def SCA_CLK_CTL_reduce : Field := ⟨SCA_CLK_CTL, 0, 0⟩

/-- SCA_CLK_STAT (R482). -/
def SCA_CLK_STAT : Nat := 0x2c
def SCA_CLK_STAT_ramping : Field := ⟨SCA_CLK_STAT, 1, 1⟩
def SCA_CLK_STAT_reduced : Field := ⟨SCA_CLK_STAT, 0, 0⟩

/-- SCA_LATENCY (R482). -/
def SCA_LATENCY : Nat := 0x30
def SCA_LATENCY_headline : Field := ⟨SCA_LATENCY, 15, 0⟩

/-- SCA_AVS (R482). -/
def SCA_AVS : Nat := 0x34
def SCA_AVS_mode : Field := ⟨SCA_AVS, 9, 8⟩
def SCA_AVS_code : Field := ⟨SCA_AVS, 3, 0⟩

/-- SCA_AGE_CTL (R482). -/
def SCA_AGE_CTL : Nat := 0x38
def SCA_AGE_CTL_period : Field := ⟨SCA_AGE_CTL, 31, 8⟩
def SCA_AGE_CTL_start : Field := ⟨SCA_AGE_CTL, 0, 0⟩

/-- SCA_AGE_STAT (R482). -/
def SCA_AGE_STAT : Nat := 0x3c
def SCA_AGE_STAT_worst : Field := ⟨SCA_AGE_STAT, 31, 24⟩
def SCA_AGE_STAT_passes : Field := ⟨SCA_AGE_STAT, 23, 16⟩
def SCA_AGE_STAT_worst0 : Field := ⟨SCA_AGE_STAT, 15, 0⟩

/-- SCA_LIFE0 (R482). -/
def SCA_LIFE0 : Nat := 0x40
def SCA_LIFE0_timing : Field := ⟨SCA_LIFE0, 7, 0⟩
def SCA_LIFE0_lane : Field := ⟨SCA_LIFE0, 15, 8⟩
def SCA_LIFE0_nvs : Field := ⟨SCA_LIFE0, 23, 16⟩
def SCA_LIFE0_responsivity : Field := ⟨SCA_LIFE0, 31, 24⟩

/-- SCA_LIFE1 (R482). -/
def SCA_LIFE1 : Nat := 0x44
def SCA_LIFE1_shutter : Field := ⟨SCA_LIFE1, 7, 0⟩

/-- SCA_LANE_DRIFTp (R482). -/
def SCA_LANE_DRIFT (p : Nat) : Nat := 0x80 + 0x4 * p
def SCA_LANE_DRIFT_lanes (p : Nat) : Field := ⟨SCA_LANE_DRIFT p, 31, 24⟩
def SCA_LANE_DRIFT_deviation (p : Nat) : Field := ⟨SCA_LANE_DRIFT p, 15, 0⟩

/-- SCA_AGEm (R482). -/
def SCA_AGE (m : Nat) : Nat := 0x100 + 0x4 * m
def SCA_AGE_deg (m : Nat) : Field := ⟨SCA_AGE m, 15, 0⟩

/-! INTC (R406) -/

/-- INTC_RAWn (R406). -/
def INTC_RAW (n : Nat) : Nat := 0x1000 + 0x4 * n

/-- INTC_INSVn (R406). -/
def INTC_INSV (n : Nat) : Nat := 0x1010 + 0x4 * n

/-- INTC_WHOn (R406). -/
def INTC_WHO (n : Nat) : Nat := 0x1020 + 0x4 * n

/-- INTC_t_CFG (R406). -/
def INTC_CFG (t : Nat) : Nat := intcBase t
def INTC_CFG_inject (t : Nat) : Field := ⟨INTC_CFG t, 0, 0⟩

/-- INTC_t_CLAIM (R406). -/
def INTC_CLAIM (t : Nat) : Nat := intcBase t + 0x4
def INTC_CLAIM_valid (t : Nat) : Field := ⟨INTC_CLAIM t, 31, 31⟩
def INTC_CLAIM_source (t : Nat) : Field := ⟨INTC_CLAIM t, 6, 0⟩

/-- INTC_t_COMPLETE (R406). -/
def INTC_COMPLETE (t : Nat) : Nat := intcBase t + 0x8
def INTC_COMPLETE_source (t : Nat) : Field := ⟨INTC_COMPLETE t, 6, 0⟩

/-- INTC_t_PRIO (R406). -/
def INTC_PRIO (t : Nat) : Nat := intcBase t + 0xc

/-- INTC_t_STAT (R406). -/
def INTC_STAT (t : Nat) : Nat := intcBase t + 0x10
def INTC_STAT_requesting (t : Nat) : Field := ⟨INTC_STAT t, 31, 31⟩
def INTC_STAT_insv (t : Nat) : Field := ⟨INTC_STAT t, 23, 16⟩
def INTC_STAT_held (t : Nat) : Field := ⟨INTC_STAT t, 15, 0⟩

/-- INTC_t_CNT (R406). -/
def INTC_CNT (t : Nat) : Nat := intcBase t + 0x14
def INTC_CNT_spurious (t : Nat) : Field := ⟨INTC_CNT t, 15, 0⟩
def INTC_CNT_empty (t : Nat) : Field := ⟨INTC_CNT t, 31, 16⟩

/-- INTC_t_ENAn (R406). -/
def INTC_ENA (t : Nat) (n : Nat) : Nat := intcBase t + 0x20 + 0x4 * n

/-- INTC_t_SETn (R406). -/
def INTC_SET (t : Nat) (n : Nat) : Nat := intcBase t + 0x30 + 0x4 * n

/-- INTC_t_CLRn (R406). -/
def INTC_CLR (t : Nat) (n : Nat) : Nat := intcBase t + 0x40 + 0x4 * n

/-- INTC_t_SWPn (R406). -/
def INTC_SWP (t : Nat) (n : Nat) : Nat := intcBase t + 0x50 + 0x4 * n

/-- INTC_t_HOLDg (R406). -/
def INTC_HOLD (t : Nat) (g : Nat) : Nat := intcBase t + 0x80 + 0x4 * g
def INTC_HOLD_raster (t : Nat) (g : Nat) : Field := ⟨INTC_HOLD t g, 14, 12⟩
def INTC_HOLD_lines (t : Nat) (g : Nat) : Field := ⟨INTC_HOLD t g, 11, 0⟩

/-! RTB (R64) -/

/-- RTB_x_CTL (R64). -/
def RTB_CTL (r : Nat) : Nat := 0x2000 + 0x40 * r
def RTB_CTL_arm (r : Nat) : Field := ⟨RTB_CTL r, 1, 1⟩
def RTB_CTL_run (r : Nat) : Field := ⟨RTB_CTL r, 0, 0⟩

/-- RTB_x_LINE_LEN (R64). -/
def RTB_LINE_LEN (r : Nat) : Nat := 0x2004 + 0x40 * r
def RTB_LINE_LEN_shadow (r : Nat) : Field := ⟨RTB_LINE_LEN r, 15, 0⟩

/-- RTB_x_FRAME_LINES (R64). -/
def RTB_FRAME_LINES (r : Nat) : Nat := 0x2008 + 0x40 * r
def RTB_FRAME_LINES_shadow (r : Nat) : Field := ⟨RTB_FRAME_LINES r, 11, 0⟩

/-- RTB_x_ACTIVE (R64). -/
def RTB_ACTIVE (r : Nat) : Nat := 0x200c + 0x40 * r
def RTB_ACTIVE_active (r : Nat) : Field := ⟨RTB_ACTIVE r, 15, 0⟩
def RTB_ACTIVE_active16 (r : Nat) : Field := ⟨RTB_ACTIVE r, 27, 16⟩

/-- RTB_x_NOW_LO (R64). -/
def RTB_NOW_LO (r : Nat) : Nat := 0x2010 + 0x40 * r

/-- RTB_x_NOW_HI (R64). -/
def RTB_NOW_HI (r : Nat) : Nat := 0x2014 + 0x40 * r

/-- RTB_x_FRAME (R64). -/
def RTB_FRAME (r : Nat) : Nat := 0x2018 + 0x40 * r

/-- RTB_x_EPOCH (R64). -/
def RTB_EPOCH (r : Nat) : Nat := 0x201c + 0x40 * r
def RTB_EPOCH_frame (r : Nat) : Field := ⟨RTB_EPOCH r, 15, 0⟩

/-- RTB_x_LOCK (R64). -/
def RTB_LOCK (r : Nat) : Nat := 0x2020 + 0x40 * r
def RTB_LOCK_window (r : Nat) : Field := ⟨RTB_LOCK r, 19, 12⟩
def RTB_LOCK_lose (r : Nat) : Field := ⟨RTB_LOCK r, 11, 8⟩
def RTB_LOCK_ratio (r : Nat) : Field := ⟨RTB_LOCK r, 7, 4⟩
def RTB_LOCK_acq (r : Nat) : Field := ⟨RTB_LOCK r, 3, 3⟩
def RTB_LOCK_src (r : Nat) : Field := ⟨RTB_LOCK r, 2, 0⟩

/-- RTB_x_LOCK_DLY (R64). -/
def RTB_LOCK_DLY (r : Nat) : Nat := 0x2024 + 0x40 * r

/-- RTB_x_LOCK_STAT (R64). -/
def RTB_LOCK_STAT (r : Nat) : Nat := 0x2028 + 0x40 * r
def RTB_LOCK_STAT_last_corr (r : Nat) : Field := ⟨RTB_LOCK_STAT r, 31, 8⟩
def RTB_LOCK_STAT_dly_raised (r : Nat) : Field := ⟨RTB_LOCK_STAT r, 2, 2⟩
def RTB_LOCK_STAT_state (r : Nat) : Field := ⟨RTB_LOCK_STAT r, 1, 0⟩

/-- RTB_x_SLIP_CNT (R64). -/
def RTB_SLIP_CNT (r : Nat) : Nat := 0x202c + 0x40 * r
def RTB_SLIP_CNT_clamped (r : Nat) : Field := ⟨RTB_SLIP_CNT r, 15, 0⟩

/-- RTB_x_MISS_CNT (R64). -/
def RTB_MISS_CNT (r : Nat) : Nat := 0x2030 + 0x40 * r
def RTB_MISS_CNT_missed (r : Nat) : Field := ⟨RTB_MISS_CNT r, 15, 0⟩

/-- RTB_x_TRUNC_CNT (R64). -/
def RTB_TRUNC_CNT (r : Nat) : Nat := 0x2034 + 0x40 * r
def RTB_TRUNC_CNT_frames (r : Nat) : Field := ⟨RTB_TRUNC_CNT r, 15, 0⟩

/-- RTB_FSYNC_CFG (R64). -/
def RTB_FSYNC_CFG : Nat := 0x2140
def RTB_FSYNC_CFG_out_line : Field := ⟨RTB_FSYNC_CFG, 31, 20⟩
def RTB_FSYNC_CFG_min_width : Field := ⟨RTB_FSYNC_CFG, 19, 16⟩
def RTB_FSYNC_CFG_width : Field := ⟨RTB_FSYNC_CFG, 15, 8⟩
def RTB_FSYNC_CFG_out_raster : Field := ⟨RTB_FSYNC_CFG, 4, 2⟩
def RTB_FSYNC_CFG_pol : Field := ⟨RTB_FSYNC_CFG, 1, 1⟩
def RTB_FSYNC_CFG_dir : Field := ⟨RTB_FSYNC_CFG, 0, 0⟩

/-- RTB_FSYNC_STAT (R64). -/
def RTB_FSYNC_STAT : Nat := 0x2144
def RTB_FSYNC_STAT_level : Field := ⟨RTB_FSYNC_STAT, 16, 16⟩
def RTB_FSYNC_STAT_extra : Field := ⟨RTB_FSYNC_STAT, 15, 8⟩
def RTB_FSYNC_STAT_rejected : Field := ⟨RTB_FSYNC_STAT, 7, 0⟩

/-- RTB_FSYNC_PERIOD (R64). -/
def RTB_FSYNC_PERIOD : Nat := 0x2148

/-- RTB_STAT (R64). -/
def RTB_STAT : Nat := 0x214c
def RTB_STAT_running : Field := ⟨RTB_STAT, 4, 0⟩
def RTB_STAT_subst : Field := ⟨RTB_STAT, 12, 8⟩

/-- RTB_EVT (R64). -/
def RTB_EVT : Nat := 0x2150
def RTB_EVT_lost : Field := ⟨RTB_EVT, 4, 0⟩
def RTB_EVT_acq : Field := ⟨RTB_EVT, 12, 8⟩
def RTB_EVT_slip : Field := ⟨RTB_EVT, 20, 16⟩
def RTB_EVT_late : Field := ⟨RTB_EVT, 24, 24⟩
def RTB_EVT_fsync : Field := ⟨RTB_EVT, 25, 25⟩
def RTB_EVT_subst : Field := ⟨RTB_EVT, 26, 26⟩

/-- RTB_LATE_CNT (R64). -/
def RTB_LATE_CNT : Nat := 0x2154
def RTB_LATE_CNT_late : Field := ⟨RTB_LATE_CNT, 15, 0⟩

/-- RTB_CMPn_LO (R64). -/
def RTB_CMP_LO (n : Nat) : Nat := 0x2180 + 0x10 * n

/-- RTB_CMPn_HI (R64). -/
def RTB_CMP_HI (n : Nat) : Nat := 0x2184 + 0x10 * n

/-- RTB_CMPn_CTL (R64). -/
def RTB_CMP_CTL (n : Nat) : Nat := 0x2188 + 0x10 * n
def RTB_CMP_CTL_late (n : Nat) : Field := ⟨RTB_CMP_CTL n, 17, 17⟩
def RTB_CMP_CTL_hit (n : Nat) : Field := ⟨RTB_CMP_CTL n, 16, 16⟩
def RTB_CMP_CTL_width (n : Nat) : Field := ⟨RTB_CMP_CTL n, 11, 4⟩
def RTB_CMP_CTL_mode (n : Nat) : Field := ⟨RTB_CMP_CTL n, 2, 1⟩
def RTB_CMP_CTL_en (n : Nat) : Field := ⟨RTB_CMP_CTL n, 0, 0⟩

/-! PSC (R100) -/

/-- PSC_EVT (R100). -/
def PSC_EVT : Nat := 0x3000
def PSC_EVT_refused : Field := ⟨PSC_EVT, 31, 28⟩
def PSC_EVT_hash : Field := ⟨PSC_EVT, 27, 24⟩
def PSC_EVT_sup_fault : Field := ⟨PSC_EVT, 21, 21⟩
def PSC_EVT_supwd : Field := ⟨PSC_EVT, 20, 20⟩
def PSC_EVT_fenced : Field := ⟨PSC_EVT, 19, 16⟩
def PSC_EVT_full : Field := ⟨PSC_EVT, 12, 8⟩
def PSC_EVT_late : Field := ⟨PSC_EVT, 4, 0⟩

/-- PSC_SIG (R100). -/
def PSC_SIG : Nat := 0x3004

/-- PSC_SIG_SUP (R100). -/
def PSC_SIG_SUP : Nat := 0x3008
def PSC_SIG_SUP_sup : Field := ⟨PSC_SIG_SUP, 7, 0⟩

/-- PSC_FORCE (R100). -/
def PSC_FORCE : Nat := 0x300c
def PSC_FORCE_holder : Field := ⟨PSC_FORCE, 2, 0⟩

/-- PSC_FORCE_CNT (R100). -/
def PSC_FORCE_CNT : Nat := 0x3010
def PSC_FORCE_CNT_resources : Field := ⟨PSC_FORCE_CNT, 15, 0⟩

/-- PSC_SEM_BUSY (R100). -/
def PSC_SEM_BUSY : Nat := 0x3014

/-- PSC_SEMn (R100). -/
def PSC_SEM (n : Nat) : Nat := 0x3020 + 0x4 * n
def PSC_SEM_busy (n : Nat) : Field := ⟨PSC_SEM n, 3, 3⟩
def PSC_SEM_holder (n : Nat) : Field := ⟨PSC_SEM n, 2, 0⟩

/-- PSC_OWNn (R100). -/
def PSC_OWN (n : Nat) : Nat := 0x3100 + 0x4 * n

/-- PSC_SQx_CTL (R100). -/
def PSC_SQ_CTL (q : Nat) : Nat := 0x3200 + 0x40 * q
def PSC_SQ_CTL_check (q : Nat) : Field := ⟨PSC_SQ_CTL q, 3, 3⟩
def PSC_SQ_CTL_flush (q : Nat) : Field := ⟨PSC_SQ_CTL q, 2, 2⟩
def PSC_SQ_CTL_halt (q : Nat) : Field := ⟨PSC_SQ_CTL q, 1, 1⟩
def PSC_SQ_CTL_start (q : Nat) : Field := ⟨PSC_SQ_CTL q, 0, 0⟩

/-- PSC_SQx_ENTRY (R100). -/
def PSC_SQ_ENTRY (q : Nat) : Nat := 0x3204 + 0x40 * q
def PSC_SQ_ENTRY_entry (q : Nat) : Field := ⟨PSC_SQ_ENTRY q, 11, 0⟩

/-- PSC_SQx_STAT (R100). -/
def PSC_SQ_STAT (q : Nat) : Nat := 0x3208 + 0x40 * q
def PSC_SQ_STAT_qdepth (q : Nat) : Field := ⟨PSC_SQ_STAT q, 14, 8⟩
def PSC_SQ_STAT_unverified (q : Nat) : Field := ⟨PSC_SQ_STAT q, 5, 5⟩
def PSC_SQ_STAT_digest_ok (q : Nat) : Field := ⟨PSC_SQ_STAT q, 4, 4⟩
def PSC_SQ_STAT_digest_ref (q : Nat) : Field := ⟨PSC_SQ_STAT q, 3, 3⟩
def PSC_SQ_STAT_hashing (q : Nat) : Field := ⟨PSC_SQ_STAT q, 2, 2⟩
def PSC_SQ_STAT_state (q : Nat) : Field := ⟨PSC_SQ_STAT q, 1, 0⟩

/-- PSC_SQx_CAUSE (R100). -/
def PSC_SQ_CAUSE (q : Nat) : Nat := 0x320c + 0x40 * q
def PSC_SQ_CAUSE_pc (q : Nat) : Field := ⟨PSC_SQ_CAUSE q, 27, 16⟩
def PSC_SQ_CAUSE_cause (q : Nat) : Field := ⟨PSC_SQ_CAUSE q, 2, 0⟩

/-- PSC_SQx_WDOG (R100). -/
def PSC_SQ_WDOG (q : Nat) : Nat := 0x3210 + 0x40 * q
def PSC_SQ_WDOG_limit (q : Nat) : Field := ⟨PSC_SQ_WDOG q, 11, 0⟩

/-- PSC_SQx_CONST (R100). -/
def PSC_SQ_CONST (q : Nat) : Nat := 0x3214 + 0x40 * q
def PSC_SQ_CONST_len64 (q : Nat) : Field := ⟨PSC_SQ_CONST q, 12, 6⟩
def PSC_SQ_CONST_len (q : Nat) : Field := ⟨PSC_SQ_CONST q, 12, 0⟩

/-- PSC_SQx_CNT (R100). -/
def PSC_SQ_CNT (q : Nat) : Nat := 0x3218 + 0x40 * q
def PSC_SQ_CNT_late (q : Nat) : Field := ⟨PSC_SQ_CNT q, 15, 0⟩
def PSC_SQ_CNT_full (q : Nat) : Field := ⟨PSC_SQ_CNT q, 31, 16⟩

/-- PSC_SQx_PC (R100). -/
def PSC_SQ_PC (q : Nat) : Nat := 0x321c + 0x40 * q
def PSC_SQ_PC_current (q : Nat) : Field := ⟨PSC_SQ_PC q, 11, 0⟩

/-- PSC_SQx_DIGEST0–7 (R100). -/
def PSC_SQ_DIGEST (q : Nat) (k : Nat) : Nat := 0x3220 + 0x40 * q + 0x4 * k

/-- PSC_SUP_CTL (R100). -/
def PSC_SUP_CTL : Nat := 0x3300
def PSC_SUP_CTL_rom_map : Field := ⟨PSC_SUP_CTL, 0, 0⟩

/-- PSC_SUP_VEC (R100). -/
def PSC_SUP_VEC : Nat := 0x3304
def PSC_SUP_VEC_fvec : Field := ⟨PSC_SUP_VEC, 30, 16⟩
def PSC_SUP_VEC_ivec : Field := ⟨PSC_SUP_VEC, 14, 0⟩

/-- PSC_SUP_STAT (R100). -/
def PSC_SUP_STAT : Nat := 0x3308
def PSC_SUP_STAT_pc : Field := ⟨PSC_SUP_STAT, 30, 16⟩
def PSC_SUP_STAT_halted : Field := ⟨PSC_SUP_STAT, 3, 3⟩
def PSC_SUP_STAT_in_fault : Field := ⟨PSC_SUP_STAT, 2, 2⟩
def PSC_SUP_STAT_in_irq : Field := ⟨PSC_SUP_STAT, 1, 1⟩
def PSC_SUP_STAT_rom : Field := ⟨PSC_SUP_STAT, 0, 0⟩

/-- PSC_SUP_WD_CFG (R100). -/
def PSC_SUP_WD_CFG : Nat := 0x330c
def PSC_SUP_WD_CFG_limit : Field := ⟨PSC_SUP_WD_CFG, 15, 0⟩
def PSC_SUP_WD_CFG_raster : Field := ⟨PSC_SUP_WD_CFG, 18, 16⟩

/-- PSC_SUP_WD_KICK (R100). -/
def PSC_SUP_WD_KICK : Nat := 0x3310

/-- PSC_SUP_WIN (R100). -/
def PSC_SUP_WIN : Nat := 0x3314
def PSC_SUP_WIN_page : Field := ⟨PSC_SUP_WIN, 3, 0⟩

/-- PSC_SUP_FAULT (R100). -/
def PSC_SUP_FAULT : Nat := 0x3318
def PSC_SUP_FAULT_pc : Field := ⟨PSC_SUP_FAULT, 30, 16⟩
def PSC_SUP_FAULT_cause : Field := ⟨PSC_SUP_FAULT, 1, 0⟩

/-- PSC_SUP_CNT (R100). -/
def PSC_SUP_CNT : Nat := 0x331c
def PSC_SUP_CNT_late : Field := ⟨PSC_SUP_CNT, 15, 0⟩
def PSC_SUP_CNT_full : Field := ⟨PSC_SUP_CNT, 31, 16⟩

/-- PSC_SUP_ENTRY (R100). -/
def PSC_SUP_ENTRY : Nat := 0x3320
def PSC_SUP_ENTRY_entry : Field := ⟨PSC_SUP_ENTRY, 14, 0⟩

/-! FPP (R153) -/

/-- FPP_x_CTL (R153). -/
def FPP_CTL (p : Nat) : Nat := 0x4000 + 0x400 * p
def FPP_CTL_arm (p : Nat) : Field := ⟨FPP_CTL p, 2, 2⟩
def FPP_CTL_out_en (p : Nat) : Field := ⟨FPP_CTL p, 1, 1⟩
def FPP_CTL_live (p : Nat) : Field := ⟨FPP_CTL p, 0, 0⟩

/-- FPP_x_IDLE (R153). -/
def FPP_IDLE (p : Nat) : Nat := 0x4004 + 0x400 * p
def FPP_IDLE_idle (p : Nat) : Field := ⟨FPP_IDLE p, 11, 0⟩

/-- FPP_x_OUTCFG (R153). -/
def FPP_OUTCFG (p : Nat) : Nat := 0x4008 + 0x400 * p
def FPP_OUTCFG_drive (p : Nat) : Field := ⟨FPP_OUTCFG p, 25, 24⟩
def FPP_OUTCFG_modes (p : Nat) : Field := ⟨FPP_OUTCFG p, 23, 0⟩

/-- FPP_x_BIAS (R153). -/
def FPP_BIAS (p : Nat) : Nat := 0x400c + 0x400 * p
def FPP_BIAS_bias (p : Nat) : Field := ⟨FPP_BIAS p, 15, 0⟩

/-- FPP_x_BIAS_ACT (R153). -/
def FPP_BIAS_ACT (p : Nat) : Nat := 0x4010 + 0x400 * p
def FPP_BIAS_ACT_code (p : Nat) : Field := ⟨FPP_BIAS_ACT p, 15, 0⟩

/-- FPP_x_FMT (R153). -/
def FPP_FMT (p : Nat) : Nat := 0x4014 + 0x400 * p
def FPP_FMT_width (p : Nat) : Field := ⟨FPP_FMT p, 11, 0⟩
def FPP_FMT_height (p : Nat) : Field := ⟨FPP_FMT p, 23, 12⟩

/-- FPP_x_WIN (R153). -/
def FPP_WIN (p : Nat) : Nat := 0x4018 + 0x400 * p
def FPP_WIN_line0 (p : Nat) : Field := ⟨FPP_WIN p, 11, 0⟩

/-- FPP_x_PWR (R153). -/
def FPP_PWR (p : Nat) : Nat := 0x401c + 0x400 * p
def FPP_PWR_req (p : Nat) : Field := ⟨FPP_PWR p, 0, 0⟩

/-- FPP_x_PWR_CFG (R153). -/
def FPP_PWR_CFG (p : Nat) : Nat := 0x4020 + 0x400 * p
def FPP_PWR_CFG_ramp_step (p : Nat) : Field := ⟨FPP_PWR_CFG p, 23, 16⟩
def FPP_PWR_CFG_off_lines (p : Nat) : Field := ⟨FPP_PWR_CFG p, 15, 8⟩
def FPP_PWR_CFG_vcm_lines (p : Nat) : Field := ⟨FPP_PWR_CFG p, 7, 0⟩

/-- FPP_x_PWR_SETTLE (R153). -/
def FPP_PWR_SETTLE (p : Nat) : Nat := 0x4024 + 0x400 * p
def FPP_PWR_SETTLE_settle_lines (p : Nat) : Field := ⟨FPP_PWR_SETTLE p, 11, 0⟩

/-- FPP_x_FLT_CFG (R153). -/
def FPP_FLT_CFG (p : Nat) : Nat := 0x4028 + 0x400 * p
def FPP_FLT_CFG_en (p : Nat) : Field := ⟨FPP_FLT_CFG p, 8, 8⟩
def FPP_FLT_CFG_filter (p : Nat) : Field := ⟨FPP_FLT_CFG p, 7, 0⟩

/-- FPP_x_TEST (R153). -/
def FPP_TEST (p : Nat) : Nat := 0x402c + 0x400 * p
def FPP_TEST_mode (p : Nat) : Field := ⟨FPP_TEST p, 13, 12⟩
def FPP_TEST_code (p : Nat) : Field := ⟨FPP_TEST p, 11, 0⟩

/-- FPP_x_TEST_MASK (R153). -/
def FPP_TEST_MASK (p : Nat) : Nat := 0x4030 + 0x400 * p

/-- FPP_x_STAT (R153). -/
def FPP_STAT (p : Nat) : Nat := 0x4034 + 0x400 * p
def FPP_STAT_fenced (p : Nat) : Field := ⟨FPP_STAT p, 6, 6⟩
def FPP_STAT_test_on (p : Nat) : Field := ⟨FPP_STAT p, 5, 5⟩
def FPP_STAT_ramping (p : Nat) : Field := ⟨FPP_STAT p, 4, 4⟩
def FPP_STAT_delivering (p : Nat) : Field := ⟨FPP_STAT p, 3, 3⟩
def FPP_STAT_flt (p : Nat) : Field := ⟨FPP_STAT p, 2, 2⟩
def FPP_STAT_pwr (p : Nat) : Field := ⟨FPP_STAT p, 1, 0⟩

/-- FPP_x_DISCARD_CNT (R153). -/
def FPP_DISCARD_CNT (p : Nat) : Nat := 0x4038 + 0x400 * p
def FPP_DISCARD_CNT_lines (p : Nat) : Field := ⟨FPP_DISCARD_CNT p, 15, 0⟩

/-- FPP_x_EVT (R153). -/
def FPP_EVT (p : Nat) : Nat := 0x403c + 0x400 * p
def FPP_EVT_test (p : Nat) : Field := ⟨FPP_EVT p, 5, 5⟩
def FPP_EVT_discard (p : Nat) : Field := ⟨FPP_EVT p, 4, 4⟩
def FPP_EVT_fenced (p : Nat) : Field := ⟨FPP_EVT p, 3, 3⟩
def FPP_EVT_fault (p : Nat) : Field := ⟨FPP_EVT p, 2, 2⟩
def FPP_EVT_down (p : Nat) : Field := ⟨FPP_EVT p, 1, 1⟩
def FPP_EVT_up (p : Nat) : Field := ⟨FPP_EVT p, 0, 0⟩

/-! LCA (R183) -/

/-- LCA_x_MODE (R183). -/
def LCA_MODE (p : Nat) : Nat := 0x5000 + 0x20 * p
def LCA_MODE_legacy (p : Nat) : Field := ⟨LCA_MODE p, 3, 3⟩
def LCA_MODE_mode (p : Nat) : Field := ⟨LCA_MODE p, 2, 1⟩
def LCA_MODE_en (p : Nat) : Field := ⟨LCA_MODE p, 0, 0⟩

/-- LCA_x_MODE_ACT (R183). -/
def LCA_MODE_ACT (p : Nat) : Nat := 0x5004 + 0x20 * p

/-- LCA_x_CTL (R183). -/
def LCA_CTL (p : Nat) : Nat := 0x5008 + 0x20 * p
def LCA_CTL_arm (p : Nat) : Field := ⟨LCA_CTL p, 0, 0⟩

/-- LCA_x_FENCED (R183). -/
def LCA_FENCED (p : Nat) : Nat := 0x500c + 0x20 * p

/-- LCA_x_CNT (R183). -/
def LCA_CNT (p : Nat) : Nat := 0x5010 + 0x20 * p
def LCA_CNT_incomplete (p : Nat) : Field := ⟨LCA_CNT p, 15, 0⟩
def LCA_CNT_collision (p : Nat) : Field := ⟨LCA_CNT p, 31, 16⟩

/-- LCA_x_STRAY_CNT (R183). -/
def LCA_STRAY_CNT (p : Nat) : Nat := 0x5014 + 0x20 * p
def LCA_STRAY_CNT_stray (p : Nat) : Field := ⟨LCA_STRAY_CNT p, 15, 0⟩

/-- LCA_x_ST_FAIL (R183). -/
def LCA_ST_FAIL (p : Nat) : Nat := 0x5018 + 0x20 * p

/-- LCA_x_ST_OPEN (R183). -/
def LCA_ST_OPEN (p : Nat) : Nat := 0x501c + 0x20 * p

/-- LCA_ST_CTL (R183). -/
def LCA_ST_CTL : Nat := 0x5080
def LCA_ST_CTL_fence_fail : Field := ⟨LCA_ST_CTL, 8, 8⟩
def LCA_ST_CTL_start : Field := ⟨LCA_ST_CTL, 3, 0⟩

/-- LCA_ST_CFG (R183). -/
def LCA_ST_CFG : Nat := 0x5084
def LCA_ST_CFG_open_thr : Field := ⟨LCA_ST_CFG, 31, 16⟩
def LCA_ST_CFG_settle : Field := ⟨LCA_ST_CFG, 11, 8⟩
def LCA_ST_CFG_samples : Field := ⟨LCA_ST_CFG, 1, 0⟩

/-- LCA_ST_LIM (R183). -/
def LCA_ST_LIM : Nat := 0x5088
def LCA_ST_LIM_spread : Field := ⟨LCA_ST_LIM, 31, 16⟩
def LCA_ST_LIM_tol : Field := ⟨LCA_ST_LIM, 15, 0⟩

/-- LCA_ST_STAT (R183). -/
def LCA_ST_STAT : Nat := 0x508c
def LCA_ST_STAT_aborted : Field := ⟨LCA_ST_STAT, 27, 24⟩
def LCA_ST_STAT_refused : Field := ⟨LCA_ST_STAT, 19, 16⟩
def LCA_ST_STAT_done : Field := ⟨LCA_ST_STAT, 11, 8⟩
def LCA_ST_STAT_busy : Field := ⟨LCA_ST_STAT, 3, 0⟩

/-- LCA_PAR_CFG (R183). -/
def LCA_PAR_CFG : Nat := 0x5090
def LCA_PAR_CFG_limit : Field := ⟨LCA_PAR_CFG, 7, 0⟩

/-- LCA_INJ (R183). -/
def LCA_INJ : Nat := 0x5094
def LCA_INJ_tag : Field := ⟨LCA_INJ, 9, 9⟩
def LCA_INJ_parity : Field := ⟨LCA_INJ, 8, 8⟩
def LCA_INJ_lane : Field := ⟨LCA_INJ, 6, 0⟩

/-- LCA_EVT (R183). -/
def LCA_EVT : Nat := 0x5098
def LCA_EVT_stray : Field := ⟨LCA_EVT, 4, 4⟩
def LCA_EVT_collide : Field := ⟨LCA_EVT, 3, 3⟩
def LCA_EVT_incomplete : Field := ⟨LCA_EVT, 2, 2⟩
def LCA_EVT_parity : Field := ⟨LCA_EVT, 1, 1⟩
def LCA_EVT_fence : Field := ⟨LCA_EVT, 0, 0⟩

/-! LCAL (R185) -/

/-- LCA_Lnnn_TRIM (R185). -/
def LCA_LANE_TRIM (n : Nat) : Nat := 0x6000 + 0x10 * n
def LCA_LANE_TRIM_g (n : Nat) : Field := ⟨LCA_LANE_TRIM n, 31, 16⟩
def LCA_LANE_TRIM_ofs (n : Nat) : Field := ⟨LCA_LANE_TRIM n, 15, 0⟩

/-- LCA_Lnnn_TRIM_ACT (R185). -/
def LCA_LANE_TRIM_ACT (n : Nat) : Nat := 0x6004 + 0x10 * n

/-- LCA_Lnnn_CTL (R185). -/
def LCA_LANE_CTL (n : Nat) : Nat := 0x6008 + 0x10 * n
def LCA_LANE_CTL_par_cnt (n : Nat) : Field := ⟨LCA_LANE_CTL n, 31, 24⟩
def LCA_LANE_CTL_cause (n : Nat) : Field := ⟨LCA_LANE_CTL n, 18, 16⟩
def LCA_LANE_CTL_st_fail (n : Nat) : Field := ⟨LCA_LANE_CTL n, 3, 3⟩
def LCA_LANE_CTL_open (n : Nat) : Field := ⟨LCA_LANE_CTL n, 2, 2⟩
def LCA_LANE_CTL_fenced (n : Nat) : Field := ⟨LCA_LANE_CTL n, 1, 1⟩
def LCA_LANE_CTL_arm (n : Nat) : Field := ⟨LCA_LANE_CTL n, 0, 0⟩

/-- LCA_Lnnn_CAP (R185). -/
def LCA_LANE_CAP (n : Nat) : Nat := 0x600c + 0x10 * n
def LCA_LANE_CAP_hi (n : Nat) : Field := ⟨LCA_LANE_CAP n, 31, 16⟩
def LCA_LANE_CAP_lo (n : Nat) : Field := ⟨LCA_LANE_CAP n, 15, 0⟩

/-! PCE (R214) -/

/-- PCE_EVT (R214). -/
def PCE_EVT : Nat := 0x7000
def PCE_EVT_ecc : Field := ⟨PCE_EVT, 21, 18⟩
def PCE_EVT_rpl_refused : Field := ⟨PCE_EVT, 17, 17⟩
def PCE_EVT_rpl_done : Field := ⟨PCE_EVT, 16, 16⟩
def PCE_EVT_wedge : Field := ⟨PCE_EVT, 15, 12⟩
def PCE_EVT_underrun : Field := ⟨PCE_EVT, 11, 8⟩
def PCE_EVT_check : Field := ⟨PCE_EVT, 7, 4⟩
def PCE_EVT_refused : Field := ⟨PCE_EVT, 3, 0⟩

/-- PCE_WEDGE_CFG (R214). -/
def PCE_WEDGE_CFG : Nat := 0x7004
def PCE_WEDGE_CFG_gslew : Field := ⟨PCE_WEDGE_CFG, 15, 8⟩
def PCE_WEDGE_CFG_oslew : Field := ⟨PCE_WEDGE_CFG, 7, 0⟩

/-- PCE_RPL_CTL (R214). -/
def PCE_RPL_CTL : Nat := 0x7008
def PCE_RPL_CTL_start : Field := ⟨PCE_RPL_CTL, 31, 31⟩
def PCE_RPL_CTL_dst : Field := ⟨PCE_RPL_CTL, 13, 10⟩
def PCE_RPL_CTL_src : Field := ⟨PCE_RPL_CTL, 9, 6⟩
def PCE_RPL_CTL_port : Field := ⟨PCE_RPL_CTL, 1, 0⟩

/-- PCE_RPL_CFG (R214). -/
def PCE_RPL_CFG : Nat := 0x700c
def PCE_RPL_CFG_div : Field := ⟨PCE_RPL_CFG, 7, 0⟩

/-- PCE_RPL_STAT (R214). -/
def PCE_RPL_STAT : Nat := 0x7010
def PCE_RPL_STAT_busy : Field := ⟨PCE_RPL_STAT, 31, 31⟩
def PCE_RPL_STAT_rows : Field := ⟨PCE_RPL_STAT, 11, 0⟩

/-- PCE_RAD_SEL (R214). -/
def PCE_RAD_SEL : Nat := 0x7014
def PCE_RAD_SEL_port : Field := ⟨PCE_RAD_SEL, 9, 8⟩
def PCE_RAD_SEL_seg : Field := ⟨PCE_RAD_SEL, 7, 2⟩
def PCE_RAD_SEL_coef : Field := ⟨PCE_RAD_SEL, 1, 0⟩

/-- PCE_RAD_DATA (R214). -/
def PCE_RAD_DATA : Nat := 0x7018

/-- PCE_RAD_CTL (R214). -/
def PCE_RAD_CTL : Nat := 0x701c
def PCE_RAD_CTL_arm : Field := ⟨PCE_RAD_CTL, 3, 0⟩

/-- PCE_x_TBL_BASE (R214). -/
def PCE_TBL_BASE (p : Nat) : Nat := 0x7100 + 0x80 * p
def PCE_TBL_BASE_table (p : Nat) : Field := ⟨PCE_TBL_BASE p, 23, 0⟩

/-- PCE_x_TBL_LEN (R214). -/
def PCE_TBL_LEN (p : Nat) : Nat := 0x7104 + 0x80 * p
def PCE_TBL_LEN_table (p : Nat) : Field := ⟨PCE_TBL_LEN p, 19, 0⟩

/-- PCE_x_TBL_CTL (R214). -/
def PCE_TBL_CTL (p : Nat) : Nat := 0x7108 + 0x80 * p
def PCE_TBL_CTL_check (p : Nat) : Field := ⟨PCE_TBL_CTL p, 1, 1⟩
def PCE_TBL_CTL_arm (p : Nat) : Field := ⟨PCE_TBL_CTL p, 0, 0⟩

/-- PCE_x_TBL_STAT (R214). -/
def PCE_TBL_STAT (p : Nat) : Nat := 0x710c + 0x80 * p
def PCE_TBL_STAT_ref (p : Nat) : Field := ⟨PCE_TBL_STAT p, 5, 5⟩
def PCE_TBL_STAT_unverified (p : Nat) : Field := ⟨PCE_TBL_STAT p, 4, 4⟩
def PCE_TBL_STAT_active (p : Nat) : Field := ⟨PCE_TBL_STAT p, 3, 3⟩
def PCE_TBL_STAT_check_fail (p : Nat) : Field := ⟨PCE_TBL_STAT p, 2, 2⟩
def PCE_TBL_STAT_check_ok (p : Nat) : Field := ⟨PCE_TBL_STAT p, 1, 1⟩
def PCE_TBL_STAT_checking (p : Nat) : Field := ⟨PCE_TBL_STAT p, 0, 0⟩

/-- PCE_x_TBL_ACT_BASE (R214). -/
def PCE_TBL_ACT_BASE (p : Nat) : Nat := 0x7110 + 0x80 * p
def PCE_TBL_ACT_BASE_active (p : Nat) : Field := ⟨PCE_TBL_ACT_BASE p, 23, 0⟩

/-- PCE_x_TBL_ACT_LEN (R214). -/
def PCE_TBL_ACT_LEN (p : Nat) : Nat := 0x7114 + 0x80 * p
def PCE_TBL_ACT_LEN_active (p : Nat) : Field := ⟨PCE_TBL_ACT_LEN p, 19, 0⟩

/-- PCE_x_CORR_CFG (R214). -/
def PCE_CORR_CFG (p : Nat) : Nat := 0x7118 + 0x80 * p
def PCE_CORR_CFG_fmt (p : Nat) : Field := ⟨PCE_CORR_CFG p, 16, 16⟩
def PCE_CORR_CFG_nsh (p : Nat) : Field := ⟨PCE_CORR_CFG p, 13, 8⟩
def PCE_CORR_CFG_dsh (p : Nat) : Field := ⟨PCE_CORR_CFG p, 4, 0⟩

/-- PCE_x_PEDESTAL (R214). -/
def PCE_PEDESTAL (p : Nat) : Nat := 0x711c + 0x80 * p
def PCE_PEDESTAL_ped (p : Nat) : Field := ⟨PCE_PEDESTAL p, 15, 0⟩

/-- PCE_x_DRIFT_REF (R214). -/
def PCE_DRIFT_REF (p : Nat) : Nat := 0x7120 + 0x80 * p
def PCE_DRIFT_REF_reference (p : Nat) : Field := ⟨PCE_DRIFT_REF p, 19, 0⟩

/-- PCE_x_FPA_T (R214). -/
def PCE_FPA_T (p : Nat) : Nat := 0x7124 + 0x80 * p
def PCE_FPA_T_temperature (p : Nat) : Field := ⟨PCE_FPA_T p, 19, 0⟩

/-- PCE_x_OUT_BASE (R214). -/
def PCE_OUT_BASE (p : Nat) : Nat := 0x7128 + 0x80 * p
def PCE_OUT_BASE_slot (p : Nat) : Field := ⟨PCE_OUT_BASE p, 23, 0⟩

/-- PCE_x_OUT_CFG (R214). -/
def PCE_OUT_CFG (p : Nat) : Nat := 0x712c + 0x80 * p
def PCE_OUT_CFG_raw_en (p : Nat) : Field := ⟨PCE_OUT_CFG p, 8, 8⟩
def PCE_OUT_CFG_slots (p : Nat) : Field := ⟨PCE_OUT_CFG p, 4, 0⟩

/-- PCE_x_HOLD (R214). -/
def PCE_HOLD (p : Nat) : Nat := 0x7130 + 0x80 * p
def PCE_HOLD_bit (p : Nat) : Field := ⟨PCE_HOLD p, 15, 0⟩

/-- PCE_x_SLOT (R214). -/
def PCE_SLOT (p : Nat) : Nat := 0x7134 + 0x80 * p
def PCE_SLOT_last (p : Nat) : Field := ⟨PCE_SLOT p, 19, 16⟩
def PCE_SLOT_cur (p : Nat) : Field := ⟨PCE_SLOT p, 3, 0⟩

/-- PCE_x_WEDGE_STAT (R214). -/
def PCE_WEDGE_STAT (p : Nat) : Nat := 0x7138 + 0x80 * p
def PCE_WEDGE_STAT_running (p : Nat) : Field := ⟨PCE_WEDGE_STAT p, 31, 31⟩
def PCE_WEDGE_STAT_deferred (p : Nat) : Field := ⟨PCE_WEDGE_STAT p, 30, 30⟩
def PCE_WEDGE_STAT_gain_rem (p : Nat) : Field := ⟨PCE_WEDGE_STAT p, 27, 16⟩
def PCE_WEDGE_STAT_ofs_rem (p : Nat) : Field := ⟨PCE_WEDGE_STAT p, 15, 0⟩

/-- PCE_x_CNT (R214). -/
def PCE_CNT (p : Nat) : Nat := 0x713c + 0x80 * p
def PCE_CNT_underrun (p : Nat) : Field := ⟨PCE_CNT p, 15, 0⟩
def PCE_CNT_ecc (p : Nat) : Field := ⟨PCE_CNT p, 31, 16⟩

/-- PCE_x_TBL_DIGEST0–7 (R214). -/
def PCE_TBL_DIGEST (p : Nat) (k : Nat) : Nat := 0x7140 + 0x80 * p + 0x4 * k

/-! CSU (R237) -/

/-- CSU_EVT (R237). -/
def CSU_EVT : Nat := 0x8000
def CSU_EVT_resp : Field := ⟨CSU_EVT, 31, 28⟩
def CSU_EVT_pixel : Field := ⟨CSU_EVT, 27, 24⟩
def CSU_EVT_overdue : Field := ⟨CSU_EVT, 23, 20⟩
def CSU_EVT_shutter : Field := ⟨CSU_EVT, 19, 16⟩
def CSU_EVT_refused : Field := ⟨CSU_EVT, 15, 12⟩
def CSU_EVT_abort : Field := ⟨CSU_EVT, 11, 8⟩
def CSU_EVT_composed : Field := ⟨CSU_EVT, 7, 4⟩
def CSU_EVT_ff_done : Field := ⟨CSU_EVT, 3, 0⟩

/-- CSU_SCHED (R237). -/
def CSU_SCHED : Nat := 0x8004
def CSU_SCHED_max_conc : Field := ⟨CSU_SCHED, 2, 0⟩

/-- CSU_ACTIVE (R237). -/
def CSU_ACTIVE : Nat := 0x8008
def CSU_ACTIVE_ports : Field := ⟨CSU_ACTIVE, 3, 0⟩
def CSU_ACTIVE_ports4 : Field := ⟨CSU_ACTIVE, 7, 4⟩

/-- CSU_x_CTL (R237). -/
def CSU_CTL (p : Nat) : Nat := 0x8100 + 0x80 * p
def CSU_CTL_stats_clr (p : Nat) : Field := ⟨CSU_CTL p, 5, 5⟩
def CSU_CTL_shut_ok (p : Nat) : Field := ⟨CSU_CTL p, 4, 4⟩
def CSU_CTL_arm (p : Nat) : Field := ⟨CSU_CTL p, 3, 3⟩
def CSU_CTL_compose (p : Nat) : Field := ⟨CSU_CTL p, 2, 2⟩
def CSU_CTL_ff_now (p : Nat) : Field := ⟨CSU_CTL p, 1, 1⟩
def CSU_CTL_en (p : Nat) : Field := ⟨CSU_CTL p, 0, 0⟩

/-- CSU_x_TGT_BASE0 (R237). -/
def CSU_TGT_BASE0 (p : Nat) : Nat := 0x8104 + 0x80 * p
def CSU_TGT_BASE0_target (p : Nat) : Field := ⟨CSU_TGT_BASE0 p, 23, 0⟩

/-- CSU_x_TGT_BASE1 (R237). -/
def CSU_TGT_BASE1 (p : Nat) : Nat := 0x8108 + 0x80 * p
def CSU_TGT_BASE1_target (p : Nat) : Field := ⟨CSU_TGT_BASE1 p, 23, 0⟩

/-- CSU_x_STATS_BASE (R237). -/
def CSU_STATS_BASE (p : Nat) : Nat := 0x810c + 0x80 * p
def CSU_STATS_BASE_statistics (p : Nat) : Field := ⟨CSU_STATS_BASE p, 23, 0⟩

/-- CSU_x_SHT_CFG (R237). -/
def CSU_SHT_CFG (p : Nat) : Nat := 0x8110 + 0x80 * p
def CSU_SHT_CFG_head (p : Nat) : Field := ⟨CSU_SHT_CFG p, 17, 16⟩
def CSU_SHT_CFG_move_to (p : Nat) : Field := ⟨CSU_SHT_CFG p, 15, 8⟩
def CSU_SHT_CFG_open_prof (p : Nat) : Field := ⟨CSU_SHT_CFG p, 7, 4⟩
def CSU_SHT_CFG_close_prof (p : Nat) : Field := ⟨CSU_SHT_CFG p, 3, 0⟩

/-- CSU_x_FF_CFG (R237). -/
def CSU_FF_CFG (p : Nat) : Nat := 0x8114 + 0x80 * p
def CSU_FF_CFG_level (p : Nat) : Field := ⟨CSU_FF_CFG p, 31, 16⟩
def CSU_FF_CFG_flag_hk (p : Nat) : Field := ⟨CSU_FF_CFG p, 15, 11⟩
def CSU_FF_CFG_anchor (p : Nat) : Field := ⟨CSU_FF_CFG p, 10, 9⟩
def CSU_FF_CFG_nav (p : Nat) : Field := ⟨CSU_FF_CFG p, 8, 4⟩
def CSU_FF_CFG_settle (p : Nat) : Field := ⟨CSU_FF_CFG p, 3, 0⟩

/-- CSU_x_INTERVAL (R237). -/
def CSU_INTERVAL (p : Nat) : Nat := 0x8118 + 0x80 * p
def CSU_INTERVAL_frames (p : Nat) : Field := ⟨CSU_INTERVAL p, 23, 0⟩

/-- CSU_x_FORCE (R237). -/
def CSU_FORCE (p : Nat) : Nat := 0x811c + 0x80 * p
def CSU_FORCE_min_gap (p : Nat) : Field := ⟨CSU_FORCE p, 31, 16⟩
def CSU_FORCE_force_dt (p : Nat) : Field := ⟨CSU_FORCE p, 15, 0⟩

/-- CSU_x_GATE (R237). -/
def CSU_GATE (p : Nat) : Nat := 0x8120 + 0x80 * p
def CSU_GATE_k_var (p : Nat) : Field := ⟨CSU_GATE p, 23, 20⟩
def CSU_GATE_k_mean (p : Nat) : Field := ⟨CSU_GATE p, 19, 16⟩
def CSU_GATE_div (p : Nat) : Field := ⟨CSU_GATE p, 15, 12⟩
def CSU_GATE_mot_thr (p : Nat) : Field := ⟨CSU_GATE p, 11, 0⟩

/-- CSU_x_EST (R237). -/
def CSU_EST (p : Nat) : Nat := 0x8124 + 0x80 * p
def CSU_EST_gdband (p : Nat) : Field := ⟨CSU_EST p, 31, 24⟩
def CSU_EST_n_min (p : Nat) : Field := ⟨CSU_EST p, 23, 16⟩
def CSU_EST_w_ofs (p : Nat) : Field := ⟨CSU_EST p, 15, 8⟩
def CSU_EST_dband (p : Nat) : Field := ⟨CSU_EST p, 7, 0⟩

/-- CSU_x_GAIN_EST (R237). -/
def CSU_GAIN_EST (p : Nat) : Nat := 0x8128 + 0x80 * p
def CSU_GAIN_EST_var_min (p : Nat) : Field := ⟨CSU_GAIN_EST p, 27, 16⟩
def CSU_GAIN_EST_g_step (p : Nat) : Field := ⟨CSU_GAIN_EST p, 11, 0⟩

/-- CSU_x_UPD (R237). -/
def CSU_UPD (p : Nat) : Nat := 0x812c + 0x80 * p
def CSU_UPD_frames (p : Nat) : Field := ⟨CSU_UPD p, 23, 0⟩

/-- CSU_x_DRIFT (R237). -/
def CSU_DRIFT (p : Nat) : Nat := 0x8130 + 0x80 * p
def CSU_DRIFT_wd (p : Nat) : Field := ⟨CSU_DRIFT p, 23, 16⟩
def CSU_DRIFT_drift_dt (p : Nat) : Field := ⟨CSU_DRIFT p, 15, 0⟩

/-- CSU_x_PIX (R237). -/
def CSU_PIX (p : Nat) : Nat := 0x8134 + 0x80 * p
def CSU_PIX_unflag (p : Nat) : Field := ⟨CSU_PIX p, 30, 28⟩
def CSU_PIX_noisy_thr (p : Nat) : Field := ⟨CSU_PIX p, 27, 16⟩
def CSU_PIX_dead_thr (p : Nat) : Field := ⟨CSU_PIX p, 15, 0⟩

/-- CSU_x_SETTLE_CFG (R237). -/
def CSU_SETTLE_CFG (p : Nat) : Nat := 0x8138 + 0x80 * p
def CSU_SETTLE_CFG_span (p : Nat) : Field := ⟨CSU_SETTLE_CFG p, 31, 16⟩
def CSU_SETTLE_CFG_kresp (p : Nat) : Field := ⟨CSU_SETTLE_CFG p, 15, 0⟩

/-- CSU_x_GMAX (R237). -/
def CSU_GMAX (p : Nat) : Nat := 0x813c + 0x80 * p
def CSU_GMAX_gmax (p : Nat) : Field := ⟨CSU_GMAX p, 15, 0⟩

/-- CSU_x_RESP_CFG (R237). -/
def CSU_RESP_CFG (p : Nat) : Nat := 0x8140 + 0x80 * p
def CSU_RESP_CFG_resp_fpa (p : Nat) : Field := ⟨CSU_RESP_CFG p, 31, 16⟩
def CSU_RESP_CFG_resp_dt (p : Nat) : Field := ⟨CSU_RESP_CFG p, 15, 0⟩

/-- CSU_x_RESP_REF (R237). -/
def CSU_RESP_REF (p : Nat) : Nat := 0x8144 + 0x80 * p
def CSU_RESP_REF_reference (p : Nat) : Field := ⟨CSU_RESP_REF p, 15, 0⟩

/-- CSU_x_RESP_MEAS (R237). -/
def CSU_RESP_MEAS (p : Nat) : Nat := 0x8148 + 0x80 * p
def CSU_RESP_MEAS_ratio (p : Nat) : Field := ⟨CSU_RESP_MEAS p, 31, 16⟩
def CSU_RESP_MEAS_meas (p : Nat) : Field := ⟨CSU_RESP_MEAS p, 15, 0⟩

/-- CSU_x_STAT (R237). -/
def CSU_STAT (p : Nat) : Nat := 0x814c + 0x80 * p
def CSU_STAT_wedge_buf (p : Nat) : Field := ⟨CSU_STAT p, 9, 9⟩
def CSU_STAT_ready_buf (p : Nat) : Field := ⟨CSU_STAT p, 8, 8⟩
def CSU_STAT_ready (p : Nat) : Field := ⟨CSU_STAT p, 7, 7⟩
def CSU_STAT_shut_unavail (p : Nat) : Field := ⟨CSU_STAT p, 6, 6⟩
def CSU_STAT_overdue (p : Nat) : Field := ⟨CSU_STAT p, 5, 5⟩
def CSU_STAT_deferred (p : Nat) : Field := ⟨CSU_STAT p, 4, 4⟩
def CSU_STAT_due (p : Nat) : Field := ⟨CSU_STAT p, 3, 3⟩
def CSU_STAT_state (p : Nat) : Field := ⟨CSU_STAT p, 2, 0⟩

/-- CSU_x_SETTLE (R237). -/
def CSU_SETTLE (p : Nat) : Nat := 0x8150 + 0x80 * p
def CSU_SETTLE_settling (p : Nat) : Field := ⟨CSU_SETTLE p, 16, 16⟩
def CSU_SETTLE_bound (p : Nat) : Field := ⟨CSU_SETTLE p, 15, 0⟩

/-- CSU_x_FF_LAST (R237). -/
def CSU_FF_LAST (p : Nat) : Nat := 0x8154 + 0x80 * p

/-- CSU_x_FF_FPAT (R237). -/
def CSU_FF_FPAT (p : Nat) : Nat := 0x8158 + 0x80 * p
def CSU_FF_FPAT_mean (p : Nat) : Field := ⟨CSU_FF_FPAT p, 19, 0⟩

/-- CSU_x_FF_FLAG (R237). -/
def CSU_FF_FLAG (p : Nat) : Nat := 0x815c + 0x80 * p
def CSU_FF_FLAG_mean (p : Nat) : Field := ⟨CSU_FF_FLAG p, 19, 0⟩

/-- CSU_x_FF_LEVEL (R237). -/
def CSU_FF_LEVEL (p : Nat) : Nat := 0x8160 + 0x80 * p
def CSU_FF_LEVEL_t (p : Nat) : Field := ⟨CSU_FF_LEVEL p, 31, 16⟩
def CSU_FF_LEVEL_l (p : Nat) : Field := ⟨CSU_FF_LEVEL p, 15, 0⟩

/-- CSU_x_DUE (R237). -/
def CSU_DUE (p : Nat) : Nat := 0x8164 + 0x80 * p
def CSU_DUE_frames (p : Nat) : Field := ⟨CSU_DUE p, 23, 0⟩

/-- CSU_x_FLAGGED (R237). -/
def CSU_FLAGGED (p : Nat) : Nat := 0x8168 + 0x80 * p
def CSU_FLAGGED_flagged (p : Nat) : Field := ⟨CSU_FLAGGED p, 23, 0⟩

/-- CSU_x_CNT (R237). -/
def CSU_CNT (p : Nat) : Nat := 0x816c + 0x80 * p
def CSU_CNT_abort (p : Nat) : Field := ⟨CSU_CNT p, 7, 0⟩
def CSU_CNT_refused (p : Nat) : Field := ⟨CSU_CNT p, 15, 8⟩
def CSU_CNT_shutter (p : Nat) : Field := ⟨CSU_CNT p, 23, 16⟩
def CSU_CNT_deferred (p : Nat) : Field := ⟨CSU_CNT p, 31, 24⟩

/-- CSU_x_CNT2 (R237). -/
def CSU_CNT2 (p : Nat) : Nat := 0x8170 + 0x80 * p
def CSU_CNT2_drift_sat (p : Nat) : Field := ⟨CSU_CNT2 p, 7, 0⟩

/-- CSU_x_GATED (R237). -/
def CSU_GATED (p : Nat) : Nat := 0x8174 + 0x80 * p
def CSU_GATED_moving (p : Nat) : Field := ⟨CSU_GATED p, 5, 0⟩

/-! IPL (R304) -/

/-- IPL_EVT0 (R304). -/
def IPL_EVT0 : Nat := 0x9000
def IPL_EVT0_long : Field := ⟨IPL_EVT0, 29, 24⟩
def IPL_EVT0_short : Field := ⟨IPL_EVT0, 21, 16⟩
def IPL_EVT0_drop : Field := ⟨IPL_EVT0, 13, 8⟩
def IPL_EVT0_frame : Field := ⟨IPL_EVT0, 5, 0⟩

/-- IPL_EVT1 (R304). -/
def IPL_EVT1 : Nat := 0x9004
def IPL_EVT1_throttle : Field := ⟨IPL_EVT1, 24, 24⟩
def IPL_EVT1_fence : Field := ⟨IPL_EVT1, 21, 16⟩
def IPL_EVT1_overrun : Field := ⟨IPL_EVT1, 13, 8⟩
def IPL_EVT1_late : Field := ⟨IPL_EVT1, 5, 0⟩

/-- IPL_STAT (R304). -/
def IPL_STAT : Nat := 0x9008
def IPL_STAT_facet : Field := ⟨IPL_STAT, 6, 4⟩
def IPL_STAT_throttled : Field := ⟨IPL_STAT, 0, 0⟩

/-- IPL_LOAD (R304). -/
def IPL_LOAD : Nat := 0x900c
def IPL_LOAD_busy : Field := ⟨IPL_LOAD, 10, 0⟩

/-- IPL_CTX_BASE (R304). -/
def IPL_CTX_BASE : Nat := 0x9010
def IPL_CTX_BASE_context : Field := ⟨IPL_CTX_BASE, 11, 0⟩

/-- IPL_f_CTL (R304). -/
def IPL_CTL (f : Nat) : Nat := 0x9100 + 0x100 * f
def IPL_CTL_hist_clr (f : Nat) : Field := ⟨IPL_CTL f, 3, 3⟩
def IPL_CTL_sync (f : Nat) : Field := ⟨IPL_CTL f, 2, 2⟩
def IPL_CTL_arm (f : Nat) : Field := ⟨IPL_CTL f, 1, 1⟩
def IPL_CTL_en (f : Nat) : Field := ⟨IPL_CTL f, 0, 0⟩

/-- IPL_f_SCHED (R304). -/
def IPL_SCHED (f : Nat) : Nat := 0x9104 + 0x100 * f
def IPL_SCHED_deadline (f : Nat) : Field := ⟨IPL_SCHED f, 31, 16⟩
def IPL_SCHED_raster (f : Nat) : Field := ⟨IPL_SCHED f, 10, 8⟩
def IPL_SCHED_prio (f : Nat) : Field := ⟨IPL_SCHED f, 6, 4⟩
def IPL_SCHED_weight (f : Nat) : Field := ⟨IPL_SCHED f, 3, 0⟩

/-- IPL_f_FMT (R304). -/
def IPL_FMT (f : Nat) : Nat := 0x9108 + 0x100 * f
def IPL_FMT_raw12 (f : Nat) : Field := ⟨IPL_FMT f, 26, 26⟩
def IPL_FMT_cfa (f : Nat) : Field := ⟨IPL_FMT f, 25, 24⟩
def IPL_FMT_height (f : Nat) : Field := ⟨IPL_FMT f, 23, 12⟩
def IPL_FMT_width (f : Nat) : Field := ⟨IPL_FMT f, 11, 0⟩

/-- IPL_f_IN_BASE (R304). -/
def IPL_IN_BASE (f : Nat) : Nat := 0x910c + 0x100 * f
def IPL_IN_BASE_visible (f : Nat) : Field := ⟨IPL_IN_BASE f, 23, 0⟩

/-- IPL_f_IN_CFG (R304). -/
def IPL_IN_CFG (f : Nat) : Nat := 0x9110 + 0x100 * f
def IPL_IN_CFG_plane (f : Nat) : Field := ⟨IPL_IN_CFG f, 8, 8⟩
def IPL_IN_CFG_slots (f : Nat) : Field := ⟨IPL_IN_CFG f, 3, 0⟩

/-- IPL_f_BLACK (R304). -/
def IPL_BLACK (f : Nat) : Nat := 0x9114 + 0x100 * f
def IPL_BLACK_black (f : Nat) : Field := ⟨IPL_BLACK f, 15, 0⟩

/-- IPL_f_DPR (R304). -/
def IPL_DPR (f : Nat) : Nat := 0x9118 + 0x100 * f
def IPL_DPR_mask (f : Nat) : Field := ⟨IPL_DPR f, 7, 0⟩

/-- IPL_f_SNR (R304). -/
def IPL_SNR (f : Nat) : Nat := 0x911c + 0x100 * f
def IPL_SNR_strength (f : Nat) : Field := ⟨IPL_SNR f, 23, 16⟩
def IPL_SNR_sigma (f : Nat) : Field := ⟨IPL_SNR f, 15, 0⟩

/-- IPL_f_SNR_K (R304). -/
def IPL_SNR_K (f : Nat) : Nat := 0x9120 + 0x100 * f
def IPL_SNR_K_all (f : Nat) : Field := ⟨IPL_SNR_K f, 23, 0⟩

/-- IPL_f_TNR_K (R304). -/
def IPL_TNR_K (f : Nat) : Nat := 0x9124 + 0x100 * f
def IPL_TNR_K_k_max (f : Nat) : Field := ⟨IPL_TNR_K f, 7, 0⟩

/-- IPL_f_TNR_M (R304). -/
def IPL_TNR_M (f : Nat) : Nat := 0x9128 + 0x100 * f
def IPL_TNR_M_m_hi (f : Nat) : Field := ⟨IPL_TNR_M f, 31, 16⟩
def IPL_TNR_M_m_lo (f : Nat) : Field := ⟨IPL_TNR_M f, 15, 0⟩

/-- IPL_f_TM (R304). -/
def IPL_TM (f : Nat) : Nat := 0x912c + 0x100 * f
def IPL_TM_dlim (f : Nat) : Field := ⟨IPL_TM f, 31, 16⟩
def IPL_TM_local_en (f : Nat) : Field := ⟨IPL_TM f, 8, 8⟩
def IPL_TM_dgain (f : Nat) : Field := ⟨IPL_TM f, 7, 0⟩

/-- IPL_f_WB0 (R304). -/
def IPL_WB0 (f : Nat) : Nat := 0x9130 + 0x100 * f
def IPL_WB0_g (f : Nat) : Field := ⟨IPL_WB0 f, 31, 16⟩
def IPL_WB0_r (f : Nat) : Field := ⟨IPL_WB0 f, 15, 0⟩

/-- IPL_f_WB1 (R304). -/
def IPL_WB1 (f : Nat) : Nat := 0x9134 + 0x100 * f
def IPL_WB1_b (f : Nat) : Field := ⟨IPL_WB1 f, 15, 0⟩

/-- IPL_f_CCM0 (R304). -/
def IPL_CCM0 (f : Nat) : Nat := 0x9138 + 0x100 * f
def IPL_CCM0_c01 (f : Nat) : Field := ⟨IPL_CCM0 f, 31, 16⟩
def IPL_CCM0_c00 (f : Nat) : Field := ⟨IPL_CCM0 f, 15, 0⟩

/-- IPL_f_CCM1 (R304). -/
def IPL_CCM1 (f : Nat) : Nat := 0x913c + 0x100 * f
def IPL_CCM1_c10 (f : Nat) : Field := ⟨IPL_CCM1 f, 31, 16⟩
def IPL_CCM1_c02 (f : Nat) : Field := ⟨IPL_CCM1 f, 15, 0⟩

/-- IPL_f_CCM2 (R304). -/
def IPL_CCM2 (f : Nat) : Nat := 0x9140 + 0x100 * f
def IPL_CCM2_c12 (f : Nat) : Field := ⟨IPL_CCM2 f, 31, 16⟩
def IPL_CCM2_c11 (f : Nat) : Field := ⟨IPL_CCM2 f, 15, 0⟩

/-- IPL_f_CCM3 (R304). -/
def IPL_CCM3 (f : Nat) : Nat := 0x9144 + 0x100 * f
def IPL_CCM3_c21 (f : Nat) : Field := ⟨IPL_CCM3 f, 31, 16⟩
def IPL_CCM3_c20 (f : Nat) : Field := ⟨IPL_CCM3 f, 15, 0⟩

/-- IPL_f_CCM4 (R304). -/
def IPL_CCM4 (f : Nat) : Nat := 0x9148 + 0x100 * f
def IPL_CCM4_c22 (f : Nat) : Field := ⟨IPL_CCM4 f, 15, 0⟩

/-- IPL_f_CCM_OFS0 (R304). -/
def IPL_CCM_OFS0 (f : Nat) : Nat := 0x914c + 0x100 * f
def IPL_CCM_OFS0_ofs1 (f : Nat) : Field := ⟨IPL_CCM_OFS0 f, 31, 16⟩
def IPL_CCM_OFS0_ofs0 (f : Nat) : Field := ⟨IPL_CCM_OFS0 f, 15, 0⟩

/-- IPL_f_CCM_OFS1 (R304). -/
def IPL_CCM_OFS1 (f : Nat) : Nat := 0x9150 + 0x100 * f
def IPL_CCM_OFS1_ofs2 (f : Nat) : Field := ⟨IPL_CCM_OFS1 f, 15, 0⟩

/-- IPL_f_OUT_BASE (R304). -/
def IPL_OUT_BASE (f : Nat) : Nat := 0x9154 + 0x100 * f
def IPL_OUT_BASE_output (f : Nat) : Field := ⟨IPL_OUT_BASE f, 23, 0⟩

/-- IPL_f_OUT_CFG (R304). -/
def IPL_OUT_CFG (f : Nat) : Nat := 0x9158 + 0x100 * f
def IPL_OUT_CFG_range (f : Nat) : Field := ⟨IPL_OUT_CFG f, 5, 5⟩
def IPL_OUT_CFG_std (f : Nat) : Field := ⟨IPL_OUT_CFG f, 4, 4⟩
def IPL_OUT_CFG_slots (f : Nat) : Field := ⟨IPL_OUT_CFG f, 3, 0⟩

/-- IPL_f_HIST_BASE (R304). -/
def IPL_HIST_BASE (f : Nat) : Nat := 0x915c + 0x100 * f
def IPL_HIST_BASE_history (f : Nat) : Field := ⟨IPL_HIST_BASE f, 23, 0⟩

/-- IPL_f_STAT (R304). -/
def IPL_F_STAT (f : Nat) : Nat := 0x9160 + 0x100 * f
def IPL_F_STAT_band (f : Nat) : Field := ⟨IPL_F_STAT f, 23, 16⟩
def IPL_F_STAT_backlog (f : Nat) : Field := ⟨IPL_F_STAT f, 11, 8⟩
def IPL_F_STAT_cause (f : Nat) : Field := ⟨IPL_F_STAT f, 7, 6⟩
def IPL_F_STAT_bank (f : Nat) : Field := ⟨IPL_F_STAT f, 5, 5⟩
def IPL_F_STAT_syncing (f : Nat) : Field := ⟨IPL_F_STAT f, 4, 4⟩
def IPL_F_STAT_seeded (f : Nat) : Field := ⟨IPL_F_STAT f, 3, 3⟩
def IPL_F_STAT_fenced (f : Nat) : Field := ⟨IPL_F_STAT f, 2, 2⟩
def IPL_F_STAT_active (f : Nat) : Field := ⟨IPL_F_STAT f, 0, 0⟩

/-- IPL_f_CNT (R304). -/
def IPL_CNT (f : Nat) : Nat := 0x9164 + 0x100 * f
def IPL_CNT_late (f : Nat) : Field := ⟨IPL_CNT f, 31, 24⟩
def IPL_CNT_long (f : Nat) : Field := ⟨IPL_CNT f, 23, 16⟩
def IPL_CNT_short (f : Nat) : Field := ⟨IPL_CNT f, 15, 8⟩
def IPL_CNT_drop (f : Nat) : Field := ⟨IPL_CNT f, 7, 0⟩

/-- IPL_f_CNT2 (R304). -/
def IPL_CNT2 (f : Nat) : Nat := 0x9168 + 0x100 * f
def IPL_CNT2_fenced (f : Nat) : Field := ⟨IPL_CNT2 f, 15, 8⟩
def IPL_CNT2_overrun (f : Nat) : Field := ⟨IPL_CNT2 f, 7, 0⟩

/-- IPL_f_FSTAT0 (R304). -/
def IPL_FSTAT0 (f : Nat) : Nat := 0x916c + 0x100 * f
def IPL_FSTAT0_maximum (f : Nat) : Field := ⟨IPL_FSTAT0 f, 31, 16⟩
def IPL_FSTAT0_minimum (f : Nat) : Field := ⟨IPL_FSTAT0 f, 15, 0⟩

/-- IPL_f_FSTAT1 (R304). -/
def IPL_FSTAT1 (f : Nat) : Nat := 0x9170 + 0x100 * f
def IPL_FSTAT1_mean (f : Nat) : Field := ⟨IPL_FSTAT1 f, 15, 0⟩

/-- IPL_f_OUT_SLOT (R304). -/
def IPL_OUT_SLOT (f : Nat) : Nat := 0x9174 + 0x100 * f
def IPL_OUT_SLOT_last (f : Nat) : Field := ⟨IPL_OUT_SLOT f, 11, 8⟩
def IPL_OUT_SLOT_slot (f : Nat) : Field := ⟨IPL_OUT_SLOT f, 3, 0⟩

/-- IPL_f_FCNT (R304). -/
def IPL_FCNT (f : Nat) : Nat := 0x9178 + 0x100 * f

/-! CER (R329) -/

/-- CER_EVT0 (R329). -/
def CER_EVT0 : Nat := 0xb000
def CER_EVT0_vfail : Field := ⟨CER_EVT0, 31, 16⟩
def CER_EVT0_refused : Field := ⟨CER_EVT0, 15, 0⟩

/-- CER_EVT1 (R329). -/
def CER_EVT1 : Nat := 0xb004
def CER_EVT1_drop : Field := ⟨CER_EVT1, 15, 0⟩

/-- CER_EVT2 (R329). -/
def CER_EVT2 : Nat := 0xb008
def CER_EVT2_freeze : Field := ⟨CER_EVT2, 3, 0⟩
def CER_EVT2_export : Field := ⟨CER_EVT2, 7, 4⟩
def CER_EVT2_lost : Field := ⟨CER_EVT2, 11, 8⟩
def CER_EVT2_rec_vfail : Field := ⟨CER_EVT2, 15, 12⟩
def CER_EVT2_fence : Field := ⟨CER_EVT2, 17, 16⟩
def CER_EVT2_load_done : Field := ⟨CER_EVT2, 24, 24⟩
def CER_EVT2_load_fail : Field := ⟨CER_EVT2, 25, 25⟩

/-- CER_STAT (R329). -/
def CER_STAT : Nat := 0xb00c
def CER_STAT_coder : Field := ⟨CER_STAT, 1, 0⟩
def CER_STAT_cause : Field := ⟨CER_STAT, 3, 2⟩

/-- CER_EVID (R329). -/
def CER_EVID : Nat := 0xb010
def CER_EVID_evidential : Field := ⟨CER_EVID, 15, 0⟩

/-- CER_VER_CFG (R329). -/
def CER_VER_CFG : Nat := 0xb014
def CER_VER_CFG_limit : Field := ⟨CER_VER_CFG, 7, 0⟩

/-- CER_VER_CNT (R329). -/
def CER_VER_CNT : Nat := 0xb018
def CER_VER_CNT_coder : Field := ⟨CER_VER_CNT, 15, 0⟩
def CER_VER_CNT_coder16 : Field := ⟨CER_VER_CNT, 31, 16⟩

/-- CER_BUSY (R329). -/
def CER_BUSY : Nat := 0xb01c
def CER_BUSY_coder : Field := ⟨CER_BUSY, 10, 0⟩
def CER_BUSY_coder16 : Field := ⟨CER_BUSY, 26, 16⟩

/-- CER_LOAD_SRC (R329). -/
def CER_LOAD_SRC : Nat := 0xb020
def CER_LOAD_SRC_image : Field := ⟨CER_LOAD_SRC, 23, 0⟩

/-- CER_LOAD_DST (R329). -/
def CER_LOAD_DST : Nat := 0xb024
def CER_LOAD_DST_table : Field := ⟨CER_LOAD_DST, 23, 0⟩

/-- CER_LOAD_LEN (R329). -/
def CER_LOAD_LEN : Nat := 0xb028
def CER_LOAD_LEN_chunks : Field := ⟨CER_LOAD_LEN, 19, 0⟩

/-- CER_LOAD_CTL (R329). -/
def CER_LOAD_CTL : Nat := 0xb02c
def CER_LOAD_CTL_start : Field := ⟨CER_LOAD_CTL, 0, 0⟩

/-- CER_LOAD_STAT (R329). -/
def CER_LOAD_STAT : Nat := 0xb030
def CER_LOAD_STAT_chunk : Field := ⟨CER_LOAD_STAT, 31, 12⟩
def CER_LOAD_STAT_guard : Field := ⟨CER_LOAD_STAT, 3, 3⟩
def CER_LOAD_STAT_fmt_fail : Field := ⟨CER_LOAD_STAT, 2, 2⟩
def CER_LOAD_STAT_crc_fail : Field := ⟨CER_LOAD_STAT, 1, 1⟩
def CER_LOAD_STAT_busy : Field := ⟨CER_LOAD_STAT, 0, 0⟩

/-- CER_n_CFG (R329). -/
def CER_S_CFG (n : Nat) : Nat := 0xb100 + 0x20 * n
def CER_S_CFG_evid (n : Nat) : Field := ⟨CER_S_CFG n, 12, 12⟩
def CER_S_CFG_coder (n : Nat) : Field := ⟨CER_S_CFG n, 8, 8⟩
def CER_S_CFG_port (n : Nat) : Field := ⟨CER_S_CFG n, 5, 4⟩
def CER_S_CFG_plane (n : Nat) : Field := ⟨CER_S_CFG n, 2, 1⟩
def CER_S_CFG_en (n : Nat) : Field := ⟨CER_S_CFG n, 0, 0⟩

/-- CER_n_DELTA (R329). -/
def CER_S_DELTA (n : Nat) : Nat := 0xb104 + 0x20 * n
def CER_S_DELTA_arm (n : Nat) : Field := ⟨CER_S_DELTA n, 16, 16⟩
def CER_S_DELTA_delta_act (n : Nat) : Field := ⟨CER_S_DELTA n, 11, 8⟩
def CER_S_DELTA_delta (n : Nat) : Field := ⟨CER_S_DELTA n, 3, 0⟩

/-- CER_n_OUT_BASE (R329). -/
def CER_S_OUT_BASE (n : Nat) : Nat := 0xb108 + 0x20 * n
def CER_S_OUT_BASE_ring (n : Nat) : Field := ⟨CER_S_OUT_BASE n, 23, 0⟩

/-- CER_n_OUT_SIZE (R329). -/
def CER_S_OUT_SIZE (n : Nat) : Nat := 0xb10c + 0x20 * n
def CER_S_OUT_SIZE_ring (n : Nat) : Field := ⟨CER_S_OUT_SIZE n, 15, 0⟩

/-- CER_n_FILL (R329). -/
def CER_S_FILL (n : Nat) : Nat := 0xb110 + 0x20 * n
def CER_S_FILL_ring (n : Nat) : Field := ⟨CER_S_FILL n, 15, 0⟩

/-- CER_n_CNT (R329). -/
def CER_S_CNT (n : Nat) : Nat := 0xb114 + 0x20 * n
def CER_S_CNT_raw (n : Nat) : Field := ⟨CER_S_CNT n, 15, 0⟩
def CER_S_CNT_vfail (n : Nat) : Field := ⟨CER_S_CNT n, 23, 16⟩
def CER_S_CNT_dropped (n : Nat) : Field := ⟨CER_S_CNT n, 31, 24⟩

/-- CER_n_CNT2 (R329). -/
def CER_S_CNT2 (n : Nat) : Nat := 0xb118 + 0x20 * n
def CER_S_CNT2_incomplete (n : Nat) : Field := ⟨CER_S_CNT2 n, 7, 0⟩
def CER_S_CNT2_refused (n : Nat) : Field := ⟨CER_S_CNT2 n, 15, 8⟩

/-- CER_n_BYTES (R329). -/
def CER_S_BYTES (n : Nat) : Nat := 0xb11c + 0x20 * n

/-- CER_RECx_CFG (R329). -/
def CER_REC_CFG (x : Nat) : Nat := 0xb400 + 0x20 * x
def CER_REC_CFG_post (x : Nat) : Field := ⟨CER_REC_CFG x, 23, 16⟩
def CER_REC_CFG_depth (x : Nat) : Field := ⟨CER_REC_CFG x, 15, 8⟩
def CER_REC_CFG_replay_en (x : Nat) : Field := ⟨CER_REC_CFG x, 3, 3⟩
def CER_REC_CFG_alarm_trig (x : Nat) : Field := ⟨CER_REC_CFG x, 2, 2⟩
def CER_REC_CFG_coder (x : Nat) : Field := ⟨CER_REC_CFG x, 1, 1⟩
def CER_REC_CFG_en (x : Nat) : Field := ⟨CER_REC_CFG x, 0, 0⟩

/-- CER_RECx_BASE (R329). -/
def CER_REC_BASE (x : Nat) : Nat := 0xb404 + 0x20 * x
def CER_REC_BASE_ring (x : Nat) : Field := ⟨CER_REC_BASE x, 23, 0⟩

/-- CER_RECx_SIZE (R329). -/
def CER_REC_SIZE (x : Nat) : Nat := 0xb408 + 0x20 * x
def CER_REC_SIZE_ring (x : Nat) : Field := ⟨CER_REC_SIZE x, 15, 0⟩

/-- CER_RECx_CTL (R329). -/
def CER_REC_CTL (x : Nat) : Nat := 0xb40c + 0x20 * x
def CER_REC_CTL_release (x : Nat) : Field := ⟨CER_REC_CTL x, 2, 2⟩
def CER_REC_CTL_export (x : Nat) : Field := ⟨CER_REC_CTL x, 1, 1⟩
def CER_REC_CTL_freeze (x : Nat) : Field := ⟨CER_REC_CTL x, 0, 0⟩

/-- CER_RECx_STAT (R329). -/
def CER_REC_STAT (x : Nat) : Nat := 0xb410 + 0x20 * x
def CER_REC_STAT_post_rem (x : Nat) : Field := ⟨CER_REC_STAT x, 23, 16⟩
def CER_REC_STAT_held (x : Nat) : Field := ⟨CER_REC_STAT x, 15, 8⟩
def CER_REC_STAT_cause (x : Nat) : Field := ⟨CER_REC_STAT x, 5, 4⟩
def CER_REC_STAT_exported (x : Nat) : Field := ⟨CER_REC_STAT x, 3, 3⟩
def CER_REC_STAT_state (x : Nat) : Field := ⟨CER_REC_STAT x, 2, 0⟩

/-- CER_RECx_TRIG (R329). -/
def CER_REC_TRIG (x : Nat) : Nat := 0xb414 + 0x20 * x

/-- CER_RECx_CNT (R329). -/
def CER_REC_CNT (x : Nat) : Nat := 0xb418 + 0x20 * x
def CER_REC_CNT_lost (x : Nat) : Field := ⟨CER_REC_CNT x, 7, 0⟩
def CER_REC_CNT_late_trig (x : Nat) : Field := ⟨CER_REC_CNT x, 15, 8⟩
def CER_REC_CNT_no_append (x : Nat) : Field := ⟨CER_REC_CNT x, 23, 16⟩
def CER_REC_CNT_vfail (x : Nat) : Field := ⟨CER_REC_CNT x, 31, 24⟩

/-- CER_RECx_FILL (R329). -/
def CER_REC_FILL (x : Nat) : Nat := 0xb41c + 0x20 * x
def CER_REC_FILL_ring (x : Nat) : Field := ⟨CER_REC_FILL x, 15, 0⟩

/-! MEM (R354) -/

/-- MEM_EVT (R354). -/
def MEM_EVT : Nat := 0xc000
def MEM_EVT_init_done : Field := ⟨MEM_EVT, 20, 20⟩
def MEM_EVT_dma_err : Field := ⟨MEM_EVT, 19, 18⟩
def MEM_EVT_dma_done : Field := ⟨MEM_EVT, 17, 16⟩
def MEM_EVT_starve : Field := ⟨MEM_EVT, 11, 8⟩
def MEM_EVT_temp : Field := ⟨MEM_EVT, 4, 4⟩
def MEM_EVT_scrub : Field := ⟨MEM_EVT, 3, 3⟩
def MEM_EVT_bs_ue : Field := ⟨MEM_EVT, 2, 2⟩
def MEM_EVT_ue : Field := ⟨MEM_EVT, 1, 1⟩
def MEM_EVT_ce : Field := ⟨MEM_EVT, 0, 0⟩

/-- MEM_STAT (R354). -/
def MEM_STAT : Nat := 0xc004
def MEM_STAT_data_size : Field := ⟨MEM_STAT, 15, 8⟩
def MEM_STAT_derate : Field := ⟨MEM_STAT, 4, 4⟩
def MEM_STAT_retained : Field := ⟨MEM_STAT, 3, 3⟩
def MEM_STAT_init_done : Field := ⟨MEM_STAT, 2, 2⟩
def MEM_STAT_init_busy : Field := ⟨MEM_STAT, 1, 1⟩
def MEM_STAT_trained : Field := ⟨MEM_STAT, 0, 0⟩

/-- MEM_DRAM_CFG (R354). -/
def MEM_DRAM_CFG : Nat := 0xc008
def MEM_DRAM_CFG_density : Field := ⟨MEM_DRAM_CFG, 5, 4⟩
def MEM_DRAM_CFG_ch4 : Field := ⟨MEM_DRAM_CFG, 2, 2⟩
def MEM_DRAM_CFG_rate : Field := ⟨MEM_DRAM_CFG, 1, 0⟩

/-- MEM_INIT (R354). -/
def MEM_INIT : Nat := 0xc00c
def MEM_INIT_start : Field := ⟨MEM_INIT, 0, 0⟩

/-- MEM_QOS (R354). -/
def MEM_QOS : Nat := 0xc010
def MEM_QOS_g3 : Field := ⟨MEM_QOS, 29, 24⟩
def MEM_QOS_g2 : Field := ⟨MEM_QOS, 21, 16⟩
def MEM_QOS_g1 : Field := ⟨MEM_QOS, 13, 8⟩
def MEM_QOS_g0 : Field := ⟨MEM_QOS, 5, 0⟩

/-- MEM_WIN (R354). -/
def MEM_WIN : Nat := 0xc014
def MEM_WIN_page : Field := ⟨MEM_WIN, 11, 0⟩

/-- MEM_ECC_CFG (R354). -/
def MEM_ECC_CFG : Nat := 0xc018
def MEM_ECC_CFG_wb : Field := ⟨MEM_ECC_CFG, 0, 0⟩

/-- MEM_SCRUB_CFG (R354). -/
def MEM_SCRUB_CFG : Nat := 0xc01c
def MEM_SCRUB_CFG_lines : Field := ⟨MEM_SCRUB_CFG, 11, 0⟩

/-- MEM_SCRUB_POS (R354). -/
def MEM_SCRUB_POS : Nat := 0xc020
def MEM_SCRUB_POS_next : Field := ⟨MEM_SCRUB_POS, 23, 0⟩

/-- MEM_CE_CNT (R354). -/
def MEM_CE_CNT : Nat := 0xc024
def MEM_CE_CNT_dram : Field := ⟨MEM_CE_CNT, 15, 0⟩
def MEM_CE_CNT_band : Field := ⟨MEM_CE_CNT, 31, 16⟩

/-- MEM_UE_CNT (R354). -/
def MEM_UE_CNT : Nat := 0xc028
def MEM_UE_CNT_dram : Field := ⟨MEM_UE_CNT, 15, 0⟩
def MEM_UE_CNT_band : Field := ⟨MEM_UE_CNT, 31, 16⟩

/-- MEM_ECC_ADDR_LO (R354). -/
def MEM_ECC_ADDR_LO : Nat := 0xc02c

/-- MEM_ECC_ADDR_HI (R354). -/
def MEM_ECC_ADDR_HI : Nat := 0xc030
def MEM_ECC_ADDR_HI_latched : Field := ⟨MEM_ECC_ADDR_HI, 0, 0⟩

/-- MEM_ECC_INFO (R354). -/
def MEM_ECC_INFO : Nat := 0xc034
def MEM_ECC_INFO_valid : Field := ⟨MEM_ECC_INFO, 31, 31⟩
def MEM_ECC_INFO_bs : Field := ⟨MEM_ECC_INFO, 30, 30⟩
def MEM_ECC_INFO_ue : Field := ⟨MEM_ECC_INFO, 29, 29⟩
def MEM_ECC_INFO_req : Field := ⟨MEM_ECC_INFO, 19, 16⟩
def MEM_ECC_INFO_syndrome : Field := ⟨MEM_ECC_INFO, 7, 0⟩

/-- MEM_INJ (R354). -/
def MEM_INJ : Nat := 0xc038
def MEM_INJ_1 : Field := ⟨MEM_INJ, 2, 2⟩
def MEM_INJ_10 : Field := ⟨MEM_INJ, 1, 0⟩

/-- MEM_STARVE_CNT (R354). -/
def MEM_STARVE_CNT : Nat := 0xc03c
def MEM_STARVE_CNT_c0 : Field := ⟨MEM_STARVE_CNT, 7, 0⟩
def MEM_STARVE_CNT_c1 : Field := ⟨MEM_STARVE_CNT, 15, 8⟩
def MEM_STARVE_CNT_c2 : Field := ⟨MEM_STARVE_CNT, 23, 16⟩
def MEM_STARVE_CNT_c3 : Field := ⟨MEM_STARVE_CNT, 31, 24⟩

/-- MEM_BWc (R354). -/
def MEM_BW (c : Nat) : Nat := 0xc040 + 0x4 * c
def MEM_BW_mib (c : Nat) : Field := ⟨MEM_BW c, 15, 0⟩

/-- MEM_DMAd_DESC (R354). -/
def MEM_DMA_DESC (d : Nat) : Nat := 0xc080 + 0x10 * d
def MEM_DMA_DESC_all (d : Nat) : Field := ⟨MEM_DMA_DESC d, 23, 3⟩

/-- MEM_DMAd_CTL (R354). -/
def MEM_DMA_CTL (d : Nat) : Nat := 0xc084 + 0x10 * d
def MEM_DMA_CTL_stop (d : Nat) : Field := ⟨MEM_DMA_CTL d, 1, 1⟩
def MEM_DMA_CTL_start (d : Nat) : Field := ⟨MEM_DMA_CTL d, 0, 0⟩

/-- MEM_DMAd_STAT (R354). -/
def MEM_DMA_STAT (d : Nat) : Nat := 0xc088 + 0x10 * d
def MEM_DMA_STAT_busy (d : Nat) : Field := ⟨MEM_DMA_STAT d, 31, 31⟩
def MEM_DMA_STAT_guard (d : Nat) : Field := ⟨MEM_DMA_STAT d, 30, 30⟩
def MEM_DMA_STAT_ue (d : Nat) : Field := ⟨MEM_DMA_STAT d, 29, 29⟩
def MEM_DMA_STAT_range (d : Nat) : Field := ⟨MEM_DMA_STAT d, 28, 28⟩
def MEM_DMA_STAT_done (d : Nat) : Field := ⟨MEM_DMA_STAT d, 15, 0⟩

/-! NVS (R429) -/

/-- NVS_EVT (R429). -/
def NVS_EVT : Nat := 0xd000
def NVS_EVT_wear : Field := ⟨NVS_EVT, 6, 6⟩
def NVS_EVT_ambig : Field := ⟨NVS_EVT, 5, 5⟩
def NVS_EVT_retire : Field := ⟨NVS_EVT, 4, 4⟩
def NVS_EVT_ue : Field := ⟨NVS_EVT, 3, 3⟩
def NVS_EVT_ce : Field := ⟨NVS_EVT, 2, 2⟩
def NVS_EVT_done : Field := ⟨NVS_EVT, 1, 1⟩
def NVS_EVT_ready : Field := ⟨NVS_EVT, 0, 0⟩

/-- NVS_STAT (R429). -/
def NVS_STAT : Nat := 0xd004
def NVS_STAT_busy_valid : Field := ⟨NVS_STAT, 31, 31⟩
def NVS_STAT_busy_page : Field := ⟨NVS_STAT, 26, 16⟩
def NVS_STAT_shdn_full : Field := ⟨NVS_STAT, 4, 4⟩
def NVS_STAT_wr_hold : Field := ⟨NVS_STAT, 3, 3⟩
def NVS_STAT_pend : Field := ⟨NVS_STAT, 2, 2⟩
def NVS_STAT_wbusy : Field := ⟨NVS_STAT, 1, 1⟩
def NVS_STAT_ready : Field := ⟨NVS_STAT, 0, 0⟩

/-- NVS_CFG (R429). -/
def NVS_CFG : Nat := 0xd008
def NVS_CFG_warn_wt : Field := ⟨NVS_CFG, 27, 16⟩
def NVS_CFG_retry_lines : Field := ⟨NVS_CFG, 15, 8⟩
def NVS_CFG_retries : Field := ⟨NVS_CFG, 3, 0⟩

/-- NVS_CMD (R429). -/
def NVS_CMD : Nat := 0xd00c
def NVS_CMD_op : Field := ⟨NVS_CMD, 31, 28⟩
def NVS_CMD_page : Field := ⟨NVS_CMD, 26, 16⟩
def NVS_CMD_group : Field := ⟨NVS_CMD, 15, 8⟩
def NVS_CMD_slot : Field := ⟨NVS_CMD, 1, 0⟩

/-- NVS_CMD_STAT (R429). -/
def NVS_CMD_STAT : Nat := 0xd010
def NVS_CMD_STAT_done : Field := ⟨NVS_CMD_STAT, 31, 31⟩
def NVS_CMD_STAT_result : Field := ⟨NVS_CMD_STAT, 29, 28⟩
def NVS_CMD_STAT_op : Field := ⟨NVS_CMD_STAT, 27, 24⟩
def NVS_CMD_STAT_page : Field := ⟨NVS_CMD_STAT, 10, 0⟩

/-- NVS_RD_PAGE (R429). -/
def NVS_RD_PAGE : Nat := 0xd014
def NVS_RD_PAGE_page : Field := ⟨NVS_RD_PAGE, 10, 0⟩

/-- NVS_REC_A (R429). -/
def NVS_REC_A : Nat := 0xd018
def NVS_REC_A_page : Field := ⟨NVS_REC_A, 26, 16⟩
def NVS_REC_A_group : Field := ⟨NVS_REC_A, 7, 0⟩

/-- NVS_REC_B (R429). -/
def NVS_REC_B : Nat := 0xd01c
def NVS_REC_B_page : Field := ⟨NVS_REC_B, 26, 16⟩
def NVS_REC_B_group : Field := ⟨NVS_REC_B, 7, 0⟩

/-- NVS_REC_STAT (R429). -/
def NVS_REC_STAT : Nat := 0xd020
def NVS_REC_STAT_busy : Field := ⟨NVS_REC_STAT, 31, 31⟩
def NVS_REC_STAT_corrupt : Field := ⟨NVS_REC_STAT, 3, 3⟩
def NVS_REC_STAT_ambig : Field := ⟨NVS_REC_STAT, 2, 2⟩
def NVS_REC_STAT_result : Field := ⟨NVS_REC_STAT, 1, 0⟩

/-- NVS_CNT_VAL_LO (R429). -/
def NVS_CNT_VAL_LO : Nat := 0xd024

/-- NVS_CNT_VAL_HI (R429). -/
def NVS_CNT_VAL_HI : Nat := 0xd028
def NVS_CNT_VAL_HI_counter : Field := ⟨NVS_CNT_VAL_HI, 12, 0⟩

/-- NVS_INFO_SEL (R429). -/
def NVS_INFO_SEL : Nat := 0xd02c
def NVS_INFO_SEL_page : Field := ⟨NVS_INFO_SEL, 10, 0⟩

/-- NVS_INFO0 (R429). -/
def NVS_INFO0 : Nat := 0xd030
def NVS_INFO0_page : Field := ⟨NVS_INFO0, 23, 0⟩

/-- NVS_INFO1 (R429). -/
def NVS_INFO1 : Nat := 0xd034
def NVS_INFO1_largest : Field := ⟨NVS_INFO1, 31, 16⟩
def NVS_INFO1_last : Field := ⟨NVS_INFO1, 15, 0⟩

/-- NVS_INFO2 (R429). -/
def NVS_INFO2 : Nat := 0xd038
def NVS_INFO2_retired : Field := ⟨NVS_INFO2, 31, 31⟩
def NVS_INFO2_cause : Field := ⟨NVS_INFO2, 30, 29⟩
def NVS_INFO2_counter : Field := ⟨NVS_INFO2, 28, 28⟩
def NVS_INFO2_groups : Field := ⟨NVS_INFO2, 23, 0⟩

/-- NVS_FREE0 (R429). -/
def NVS_FREE0 : Nat := 0xd03c
def NVS_FREE0_p2 : Field := ⟨NVS_FREE0, 24, 16⟩
def NVS_FREE0_p0 : Field := ⟨NVS_FREE0, 8, 0⟩

/-- NVS_FREE1 (R429). -/
def NVS_FREE1 : Nat := 0xd040
def NVS_FREE1_p3 : Field := ⟨NVS_FREE1, 26, 16⟩
def NVS_FREE1_p1 : Field := ⟨NVS_FREE1, 9, 0⟩

/-- NVS_ECC_CNT (R429). -/
def NVS_ECC_CNT : Nat := 0xd044
def NVS_ECC_CNT_ce : Field := ⟨NVS_ECC_CNT, 15, 0⟩
def NVS_ECC_CNT_ue : Field := ⟨NVS_ECC_CNT, 31, 16⟩

/-- NVS_UE_ADDR (R429). -/
def NVS_UE_ADDR : Nat := 0xd048
def NVS_UE_ADDR_page : Field := ⟨NVS_UE_ADDR, 26, 16⟩
def NVS_UE_ADDR_group : Field := ⟨NVS_UE_ADDR, 7, 0⟩

/-- NVS_SHDN_PAGE (R429). -/
def NVS_SHDN_PAGE : Nat := 0xd04c
def NVS_SHDN_PAGE_shutdown : Field := ⟨NVS_SHDN_PAGE, 10, 0⟩

/-! HKT (R450) -/

/-- HKT_EVT (R450). -/
def HKT_EVT : Nat := 0xe000
def HKT_EVT_fence : Field := ⟨HKT_EVT, 8, 8⟩
def HKT_EVT_thr_end : Field := ⟨HKT_EVT, 6, 6⟩
def HKT_EVT_thr_enf : Field := ⟨HKT_EVT, 5, 5⟩
def HKT_EVT_thr_req : Field := ⟨HKT_EVT, 4, 4⟩
def HKT_EVT_urg_done : Field := ⟨HKT_EVT, 3, 3⟩
def HKT_EVT_drop : Field := ⟨HKT_EVT, 2, 2⟩
def HKT_EVT_ovr : Field := ⟨HKT_EVT, 1, 1⟩
def HKT_EVT_round : Field := ⟨HKT_EVT, 0, 0⟩

/-- HKT_STAT (R450). -/
def HKT_STAT : Nat := 0xe004
def HKT_STAT_round : Field := ⟨HKT_STAT, 31, 16⟩
def HKT_STAT_channel : Field := ⟨HKT_STAT, 12, 8⟩
def HKT_STAT_urgent : Field := ⟨HKT_STAT, 4, 4⟩
def HKT_STAT_round3 : Field := ⟨HKT_STAT, 3, 3⟩
def HKT_STAT_busy : Field := ⟨HKT_STAT, 2, 2⟩

/-- HKT_ROUND_CFG (R450). -/
def HKT_ROUND_CFG : Nat := 0xe008
def HKT_ROUND_CFG_lines : Field := ⟨HKT_ROUND_CFG, 31, 16⟩
def HKT_ROUND_CFG_raster : Field := ⟨HKT_ROUND_CFG, 14, 12⟩
def HKT_ROUND_CFG_ow_div : Field := ⟨HKT_ROUND_CFG, 11, 8⟩
def HKT_ROUND_CFG_en : Field := ⟨HKT_ROUND_CFG, 0, 0⟩

/-- HKT_ROUND_MASK (R450). -/
def HKT_ROUND_MASK : Nat := 0xe00c
def HKT_ROUND_MASK_all : Field := ⟨HKT_ROUND_MASK, 27, 0⟩

/-- HKT_URGENT (R450). -/
def HKT_URGENT : Nat := 0xe010
def HKT_URGENT_start : Field := ⟨HKT_URGENT, 8, 8⟩
def HKT_URGENT_channel : Field := ⟨HKT_URGENT, 4, 0⟩

/-- HKT_URG_RES (R450). -/
def HKT_URG_RES : Nat := 0xe014

/-- HKT_DROP (R450). -/
def HKT_DROP : Nat := 0xe018
def HKT_DROP_urgent : Field := ⟨HKT_DROP, 15, 0⟩

/-- HKT_CNT (R450). -/
def HKT_CNT : Nat := 0xe01c
def HKT_CNT_ovr : Field := ⟨HKT_CNT, 7, 0⟩

/-- HKT_WEVT (R450). -/
def HKT_WEVT : Nat := 0xe020
def HKT_WEVT_all : Field := ⟨HKT_WEVT, 27, 0⟩

/-- HKT_REVT (R450). -/
def HKT_REVT : Nat := 0xe024
def HKT_REVT_all : Field := ⟨HKT_REVT, 27, 0⟩

/-- HKT_OEVT (R450). -/
def HKT_OEVT : Nat := 0xe028
def HKT_OEVT_bit : Field := ⟨HKT_OEVT, 23, 0⟩

/-- HKT_WABOVE (R450). -/
def HKT_WABOVE : Nat := 0xe02c

/-- HKT_WBELOW (R450). -/
def HKT_WBELOW : Nat := 0xe030

/-- HKT_FENCED (R450). -/
def HKT_FENCED : Nat := 0xe034
def HKT_FENCED_inputs : Field := ⟨HKT_FENCED, 23, 0⟩

/-- HKT_OPEN (R450). -/
def HKT_OPEN : Nat := 0xe038
def HKT_OPEN_inputs : Field := ⟨HKT_OPEN, 23, 0⟩

/-- HKT_THR_CFG (R450). -/
def HKT_THR_CFG : Nat := 0xe040
def HKT_THR_CFG_grace : Field := ⟨HKT_THR_CFG, 31, 16⟩
def HKT_THR_CFG_raster : Field := ⟨HKT_THR_CFG, 14, 12⟩
def HKT_THR_CFG_force : Field := ⟨HKT_THR_CFG, 0, 0⟩

/-- HKT_THR_STAT (R450). -/
def HKT_THR_STAT : Nat := 0xe044
def HKT_THR_STAT_grace : Field := ⟨HKT_THR_STAT, 31, 16⟩
def HKT_THR_STAT_state : Field := ⟨HKT_THR_STAT, 1, 0⟩

/-- HKT_SHDN_CFG (R450). -/
def HKT_SHDN_CFG : Nat := 0xe048
def HKT_SHDN_CFG_release : Field := ⟨HKT_SHDN_CFG, 15, 8⟩
def HKT_SHDN_CFG_trip : Field := ⟨HKT_SHDN_CFG, 7, 0⟩

/-- HKT_SHDN_STAT (R450). -/
def HKT_SHDN_STAT : Nat := 0xe04c
def HKT_SHDN_STAT_channel : Field := ⟨HKT_SHDN_STAT, 12, 8⟩
def HKT_SHDN_STAT_rec_lost : Field := ⟨HKT_SHDN_STAT, 5, 5⟩
def HKT_SHDN_STAT_cause : Field := ⟨HKT_SHDN_STAT, 4, 2⟩

/-- HKT_COMP_CFG (R450). -/
def HKT_COMP_CFG : Nat := 0xe050
def HKT_COMP_CFG_ref_en : Field := ⟨HKT_COMP_CFG, 1, 1⟩
def HKT_COMP_CFG_osc_en : Field := ⟨HKT_COMP_CFG, 0, 0⟩

/-- HKT_COMP_STAT (R450). -/
def HKT_COMP_STAT : Nat := 0xe054
def HKT_COMP_STAT_reference : Field := ⟨HKT_COMP_STAT, 31, 20⟩
def HKT_COMP_STAT_temperature : Field := ⟨HKT_COMP_STAT, 19, 0⟩

/-- HKT_COMP_OSC (R450). -/
def HKT_COMP_OSC : Nat := 0xe058
def HKT_COMP_OSC_oscillator : Field := ⟨HKT_COMP_OSC, 11, 0⟩

/-- HKT_CHc_CFG (R450). -/
def HKT_CH_CFG (c : Nat) : Nat := 0xe100 + 0x20 * c
def HKT_CH_CFG_hi_act (c : Nat) : Field := ⟨HKT_CH_CFG c, 31, 30⟩
def HKT_CH_CFG_rr_act (c : Nat) : Field := ⟨HKT_CH_CFG c, 29, 28⟩
def HKT_CH_CFG_ow_en (c : Nat) : Field := ⟨HKT_CH_CFG c, 27, 27⟩
def HKT_CH_CFG_curve (c : Nat) : Field := ⟨HKT_CH_CFG c, 21, 20⟩
def HKT_CH_CFG_conv (c : Nat) : Field := ⟨HKT_CH_CFG c, 19, 18⟩
def HKT_CH_CFG_kind (c : Nat) : Field := ⟨HKT_CH_CFG c, 2, 0⟩

/-- HKT_CHc_CAL (R450). -/
def HKT_CH_CAL (c : Nat) : Nat := 0xe104 + 0x20 * c
def HKT_CH_CAL_gain (c : Nat) : Field := ⟨HKT_CH_CAL c, 31, 16⟩
def HKT_CH_CAL_offset (c : Nat) : Field := ⟨HKT_CH_CAL c, 15, 0⟩

/-- HKT_CHc_LO (R450). -/
def HKT_CH_LO (c : Nat) : Nat := 0xe108 + 0x20 * c
def HKT_CH_LO_band (c : Nat) : Field := ⟨HKT_CH_LO c, 23, 0⟩

/-- HKT_CHc_HI (R450). -/
def HKT_CH_HI (c : Nat) : Nat := 0xe10c + 0x20 * c
def HKT_CH_HI_band (c : Nat) : Field := ⟨HKT_CH_HI c, 23, 0⟩

/-- HKT_CHc_HYST (R450). -/
def HKT_CH_HYST (c : Nat) : Nat := 0xe110 + 0x20 * c
def HKT_CH_HYST_hysteresis (c : Nat) : Field := ⟨HKT_CH_HYST c, 23, 0⟩

/-- HKT_CHc_RR (R450). -/
def HKT_CH_RR (c : Nat) : Nat := 0xe114 + 0x20 * c
def HKT_CH_RR_span (c : Nat) : Field := ⟨HKT_CH_RR c, 27, 24⟩
def HKT_CH_RR_limit (c : Nat) : Field := ⟨HKT_CH_RR c, 23, 0⟩

/-- HKT_CHc_RES (R450). -/
def HKT_CH_RES (c : Nat) : Nat := 0xe118 + 0x20 * c
def HKT_CH_RES_valid (c : Nat) : Field := ⟨HKT_CH_RES c, 31, 31⟩
def HKT_CH_RES_held (c : Nat) : Field := ⟨HKT_CH_RES c, 30, 30⟩
def HKT_CH_RES_open (c : Nat) : Field := ⟨HKT_CH_RES c, 29, 29⟩
def HKT_CH_RES_value (c : Nat) : Field := ⟨HKT_CH_RES c, 23, 0⟩

/-! SDR (R466) -/

/-- SDR_EVT (R466). -/
def SDR_EVT : Nat := 0xf000
def SDR_EVT_move : Field := ⟨SDR_EVT, 7, 0⟩
def SDR_EVT_nomove : Field := ⟨SDR_EVT, 15, 8⟩
def SDR_EVT_fence : Field := ⟨SDR_EVT, 23, 16⟩
def SDR_EVT_drop : Field := ⟨SDR_EVT, 27, 24⟩
def SDR_EVT_done : Field := ⟨SDR_EVT, 31, 28⟩

/-- SDR_TRIG (R466). -/
def SDR_TRIG : Nat := 0xf004
def SDR_TRIG_start : Field := ⟨SDR_TRIG, 31, 31⟩
def SDR_TRIG_raster : Field := ⟨SDR_TRIG, 18, 16⟩
def SDR_TRIG_pair : Field := ⟨SDR_TRIG, 9, 8⟩
def SDR_TRIG_profile : Field := ⟨SDR_TRIG, 3, 0⟩

/-- SDR_FENCED (R466). -/
def SDR_FENCED : Nat := 0xf008
def SDR_FENCED_channels : Field := ⟨SDR_FENCED, 7, 0⟩

/-- SDR_DROP_CNT (R466). -/
def SDR_DROP_CNT : Nat := 0xf00c
def SDR_DROP_CNT_p0 : Field := ⟨SDR_DROP_CNT, 7, 0⟩
def SDR_DROP_CNT_p1 : Field := ⟨SDR_DROP_CNT, 15, 8⟩
def SDR_DROP_CNT_p2 : Field := ⟨SDR_DROP_CNT, 23, 16⟩
def SDR_DROP_CNT_p3 : Field := ⟨SDR_DROP_CNT, 31, 24⟩

/-- SDR_PAIRn_CFG (R466). -/
def SDR_PAIR_CFG (n : Nat) : Nat := 0xf040 + 0x10 * n
def SDR_PAIR_CFG_hs_pol (n : Nat) : Field := ⟨SDR_PAIR_CFG n, 16, 16⟩
def SDR_PAIR_CFG_ext (n : Nat) : Field := ⟨SDR_PAIR_CFG n, 11, 0⟩

/-- SDR_PAIRn_STAT (R466). -/
def SDR_PAIR_STAT (n : Nat) : Nat := 0xf044 + 0x10 * n
def SDR_PAIR_STAT_running (n : Nat) : Field := ⟨SDR_PAIR_STAT n, 31, 31⟩
def SDR_PAIR_STAT_waiting (n : Nat) : Field := ⟨SDR_PAIR_STAT n, 30, 30⟩
def SDR_PAIR_STAT_wprofile (n : Nat) : Field := ⟨SDR_PAIR_STAT n, 27, 24⟩
def SDR_PAIR_STAT_profile (n : Nat) : Field := ⟨SDR_PAIR_STAT n, 19, 16⟩
def SDR_PAIR_STAT_phase (n : Nat) : Field := ⟨SDR_PAIR_STAT n, 10, 8⟩
def SDR_PAIR_STAT_holder (n : Nat) : Field := ⟨SDR_PAIR_STAT n, 5, 4⟩
def SDR_PAIR_STAT_hs (n : Nat) : Field := ⟨SDR_PAIR_STAT n, 0, 0⟩

/-- SDR_CHc_CFG (R466). -/
def SDR_CH_CFG (c : Nat) : Nat := 0xf100 + 0x20 * c
def SDR_CH_CFG_i_max (c : Nat) : Field := ⟨SDR_CH_CFG c, 25, 16⟩
def SDR_CH_CFG_max_on (c : Nat) : Field := ⟨SDR_CH_CFG c, 11, 0⟩

/-- SDR_CHc_DET (R466). -/
def SDR_CH_DET (c : Nat) : Nat := 0xf104 + 0x20 * c
def SDR_CH_DET_dip_thr (c : Nat) : Field := ⟨SDR_CH_DET c, 23, 16⟩
def SDR_CH_DET_i_min (c : Nat) : Field := ⟨SDR_CH_DET c, 9, 0⟩

/-- SDR_CHc_I (R466). -/
def SDR_CH_I (c : Nat) : Nat := 0xf108 + 0x20 * c
def SDR_CH_I_latest (c : Nat) : Field := ⟨SDR_CH_I c, 9, 0⟩

/-- SDR_CHc_TPEAK (R466). -/
def SDR_CH_TPEAK (c : Nat) : Nat := 0xf10c + 0x20 * c
def SDR_CH_TPEAK_sample (c : Nat) : Field := ⟨SDR_CH_TPEAK c, 23, 0⟩

/-- SDR_CHc_TMIN (R466). -/
def SDR_CH_TMIN (c : Nat) : Nat := 0xf110 + 0x20 * c
def SDR_CH_TMIN_sample (c : Nat) : Field := ⟨SDR_CH_TMIN c, 23, 0⟩

/-- SDR_CHc_STAT (R466). -/
def SDR_CH_STAT (c : Nat) : Nat := 0xf114 + 0x20 * c
def SDR_CH_STAT_low (c : Nat) : Field := ⟨SDR_CH_STAT c, 5, 5⟩
def SDR_CH_STAT_gate (c : Nat) : Field := ⟨SDR_CH_STAT c, 4, 4⟩
def SDR_CH_STAT_fenced (c : Nat) : Field := ⟨SDR_CH_STAT c, 3, 3⟩
def SDR_CH_STAT_last (c : Nat) : Field := ⟨SDR_CH_STAT c, 2, 0⟩

/-- SDR_CHc_CNT (R466). -/
def SDR_CH_CNT (c : Nat) : Nat := 0xf118 + 0x20 * c
def SDR_CH_CNT_nomove (c : Nat) : Field := ⟨SDR_CH_CNT c, 7, 0⟩
def SDR_CH_CNT_overcurrent (c : Nat) : Field := ⟨SDR_CH_CNT c, 15, 8⟩
def SDR_CH_CNT_on_time (c : Nat) : Field := ⟨SDR_CH_CNT c, 23, 16⟩

/-- SDR_PRFk_CFG (R466). -/
def SDR_PRF_CFG (k : Nat) : Nat := 0xf400 + 0x40 * k
def SDR_PRF_CFG_deadline (k : Nat) : Field := ⟨SDR_PRF_CFG k, 31, 16⟩
def SDR_PRF_CFG_raster (k : Nat) : Field := ⟨SDR_PRF_CFG k, 14, 12⟩
def SDR_PRF_CFG_follow (k : Nat) : Field := ⟨SDR_PRF_CFG k, 11, 11⟩
def SDR_PRF_CFG_unit (k : Nat) : Field := ⟨SDR_PRF_CFG k, 10, 10⟩
def SDR_PRF_CFG_coil (k : Nat) : Field := ⟨SDR_PRF_CFG k, 7, 7⟩
def SDR_PRF_CFG_nphase (k : Nat) : Field := ⟨SDR_PRF_CFG k, 2, 0⟩

/-- SDR_PRFk_DRV (R466). -/
def SDR_PRF_DRV (k : Nat) : Nat := 0xf404 + 0x40 * k
def SDR_PRF_DRV_pwm_per (k : Nat) : Field := ⟨SDR_PRF_DRV k, 31, 24⟩
def SDR_PRF_DRV_i_hyst (k : Nat) : Field := ⟨SDR_PRF_DRV k, 19, 12⟩
def SDR_PRF_DRV_i_set (k : Nat) : Field := ⟨SDR_PRF_DRV k, 9, 0⟩

/-- SDR_PRFk_PHj (R466). -/
def SDR_PRF_PH (k : Nat) (j : Nat) : Nat := 0xf408 + 0x40 * k + 0x4 * j
def SDR_PRF_PH_duty (k : Nat) (j : Nat) : Field := ⟨SDR_PRF_PH k j, 31, 24⟩
def SDR_PRF_PH_detect (k : Nat) (j : Nat) : Field := ⟨SDR_PRF_PH k j, 21, 21⟩
def SDR_PRF_PH_ext (k : Nat) (j : Nat) : Field := ⟨SDR_PRF_PH k j, 20, 20⟩
def SDR_PRF_PH_off_mode (k : Nat) (j : Nat) : Field := ⟨SDR_PRF_PH k j, 19, 18⟩
def SDR_PRF_PH_mode (k : Nat) (j : Nat) : Field := ⟨SDR_PRF_PH k j, 17, 16⟩
def SDR_PRF_PH_duration (k : Nat) (j : Nat) : Field := ⟨SDR_PRF_PH k j, 15, 0⟩

/-! SIO (R390) -/

/-- HPORT_CFG (R390). -/
def HPORT_CFG : Nat := 0x10000
def HPORT_CFG_unit : Field := ⟨HPORT_CFG, 12, 8⟩
def HPORT_CFG_raw_en : Field := ⟨HPORT_CFG, 0, 0⟩

/-- HPORT_STAT (R390). -/
def HPORT_STAT : Nat := 0x10004
def HPORT_STAT_tx_level : Field := ⟨HPORT_STAT, 22, 16⟩
def HPORT_STAT_rx_level : Field := ⟨HPORT_STAT, 14, 8⟩
def HPORT_STAT_pending : Field := ⟨HPORT_STAT, 2, 2⟩
def HPORT_STAT_crc : Field := ⟨HPORT_STAT, 1, 1⟩
def HPORT_STAT_edge : Field := ⟨HPORT_STAT, 0, 0⟩

/-- HPORT_CNT (R390). -/
def HPORT_CNT : Nat := 0x10008
def HPORT_CNT_crc : Field := ⟨HPORT_CNT, 7, 0⟩
def HPORT_CNT_early : Field := ⟨HPORT_CNT, 15, 8⟩
def HPORT_CNT_partial : Field := ⟨HPORT_CNT, 23, 16⟩
def HPORT_CNT_rx_ovf : Field := ⟨HPORT_CNT, 31, 24⟩

/-- HPORT_DOORBELL (R390). -/
def HPORT_DOORBELL : Nat := 0x1000c

/-- SIO_BOOT (R390). (DEDUCED, log entry 35.) -/
def SIO_BOOT : Nat := 0x10400
def SIO_BOOT_flash_fail : Field := ⟨SIO_BOOT, 8, 8⟩
def SIO_BOOT_source : Field := ⟨SIO_BOOT, 6, 4⟩
def SIO_BOOT_boot : Field := ⟨SIO_BOOT, 2, 0⟩

/-- HPORT_RXD (R390). -/
def HPORT_RXD : Nat := 0x10404

/-- HPORT_TXD (R390). -/
def HPORT_TXD : Nat := 0x10408

/-- HPORT_FIFO (R390). -/
def HPORT_FIFO : Nat := 0x1040c
def HPORT_FIFO_tx_thr : Field := ⟨HPORT_FIFO, 30, 24⟩
def HPORT_FIFO_rx_thr : Field := ⟨HPORT_FIFO, 22, 16⟩
def HPORT_FIFO_tx_flush : Field := ⟨HPORT_FIFO, 9, 9⟩
def HPORT_FIFO_rx_flush : Field := ⟨HPORT_FIFO, 8, 8⟩

/-- SIO_EVT (R390). -/
def SIO_EVT : Nat := 0x10410
def SIO_EVT_abort : Field := ⟨SIO_EVT, 6, 6⟩
def SIO_EVT_bulk_err : Field := ⟨SIO_EVT, 5, 5⟩
def SIO_EVT_bulk_done : Field := ⟨SIO_EVT, 4, 4⟩
def SIO_EVT_doorbell : Field := ⟨SIO_EVT, 3, 3⟩
def SIO_EVT_tx_ovf : Field := ⟨SIO_EVT, 2, 2⟩
def SIO_EVT_tx_udf : Field := ⟨SIO_EVT, 1, 1⟩
def SIO_EVT_rx_ovf : Field := ⟨SIO_EVT, 0, 0⟩

/-- PPORT_CFG (R390). -/
def PPORT_CFG : Nat := 0x10420
def PPORT_CFG_en : Field := ⟨PPORT_CFG, 16, 16⟩
def PPORT_CFG_cmode : Field := ⟨PPORT_CFG, 9, 8⟩
def PPORT_CFG_div : Field := ⟨PPORT_CFG, 7, 0⟩

/-- PPORT_STAT (R390). -/
def PPORT_STAT : Nat := 0x10424
def PPORT_STAT_bulk : Field := ⟨PPORT_STAT, 4, 4⟩
def PPORT_STAT_holder : Field := ⟨PPORT_STAT, 3, 1⟩
def PPORT_STAT_busy : Field := ⟨PPORT_STAT, 0, 0⟩

/-- PPORT_CNT (R390). -/
def PPORT_CNT : Nat := 0x10428
def PPORT_CNT_aborted : Field := ⟨PPORT_CNT, 15, 0⟩

/-- PPORT_BULK_DST (R390). -/
def PPORT_BULK_DST : Nat := 0x10430
def PPORT_BULK_DST_dram : Field := ⟨PPORT_BULK_DST, 23, 0⟩

/-- PPORT_BULK_LEN (R390). -/
def PPORT_BULK_LEN : Nat := 0x10434
def PPORT_BULK_LEN_4 : Field := ⟨PPORT_BULK_LEN, 19, 0⟩

/-- PPORT_BULK_CTL (R390). -/
def PPORT_BULK_CTL : Nat := 0x10438
def PPORT_BULK_CTL_quad : Field := ⟨PPORT_BULK_CTL, 2, 2⟩
def PPORT_BULK_CTL_stop : Field := ⟨PPORT_BULK_CTL, 1, 1⟩
def PPORT_BULK_CTL_start : Field := ⟨PPORT_BULK_CTL, 0, 0⟩

/-- PPORT_BULK_STAT (R390). -/
def PPORT_BULK_STAT : Nat := 0x1043c
def PPORT_BULK_STAT_busy : Field := ⟨PPORT_BULK_STAT, 31, 31⟩
def PPORT_BULK_STAT_guard : Field := ⟨PPORT_BULK_STAT, 30, 30⟩
def PPORT_BULK_STAT_units : Field := ⟨PPORT_BULK_STAT, 19, 0⟩

/-- GPIO_FUNn (R390). -/
def GPIO_FUN (n : Nat) : Nat := 0x10500 + 0x4 * n
def GPIO_FUN_pull (n : Nat) : Field := ⟨GPIO_FUN n, 15, 15⟩
def GPIO_FUN_od (n : Nat) : Field := ⟨GPIO_FUN n, 14, 14⟩
def GPIO_FUN_edge (n : Nat) : Field := ⟨GPIO_FUN n, 13, 12⟩
def GPIO_FUN_cmp (n : Nat) : Field := ⟨GPIO_FUN n, 10, 8⟩
def GPIO_FUN_idle (n : Nat) : Field := ⟨GPIO_FUN n, 7, 7⟩
def GPIO_FUN_core (n : Nat) : Field := ⟨GPIO_FUN n, 6, 4⟩
def GPIO_FUN_func (n : Nat) : Field := ⟨GPIO_FUN n, 2, 0⟩

/-- GPIO_OUT (R390). -/
def GPIO_OUT : Nat := 0x10580

/-- GPIO_IN (R390). -/
def GPIO_IN : Nat := 0x10584

/-- GPIO_EVT (R390). -/
def GPIO_EVT : Nat := 0x10588

/-! VIO (R392) -/

/-- VIO_EVT (R392). -/
def VIO_EVT : Nat := 0x11000
def VIO_EVT_memerr : Field := ⟨VIO_EVT, 10, 10⟩
def VIO_EVT_trunc : Field := ⟨VIO_EVT, 9, 9⟩
def VIO_EVT_skip : Field := ⟨VIO_EVT, 8, 8⟩
def VIO_EVT_rx_fence : Field := ⟨VIO_EVT, 7, 6⟩
def VIO_EVT_rx_err : Field := ⟨VIO_EVT, 5, 4⟩
def VIO_EVT_rx_frame : Field := ⟨VIO_EVT, 3, 2⟩
def VIO_EVT_tx_up : Field := ⟨VIO_EVT, 1, 0⟩

/-- VIO_STAT (R392). -/
def VIO_STAT : Nat := 0x11004
def VIO_STAT_transmit : Field := ⟨VIO_STAT, 1, 0⟩
def VIO_STAT_receive : Field := ⟨VIO_STAT, 3, 2⟩

/-- VIO_TXt_CFG (R392). -/
def VIO_TX_CFG (t : Nat) : Nat := 0x11100 + 0x40 * t
def VIO_TX_CFG_deskew (t : Nat) : Field := ⟨VIO_TX_CFG t, 31, 24⟩
def VIO_TX_CFG_cont_clk (t : Nat) : Field := ⟨VIO_TX_CFG t, 8, 8⟩
def VIO_TX_CFG_rate (t : Nat) : Field := ⟨VIO_TX_CFG t, 5, 4⟩
def VIO_TX_CFG_lanes (t : Nat) : Field := ⟨VIO_TX_CFG t, 2, 1⟩
def VIO_TX_CFG_en (t : Nat) : Field := ⟨VIO_TX_CFG t, 0, 0⟩

/-- VIO_TXt_PKT (R392). -/
def VIO_TX_PKT (t : Nat) : Nat := 0x11104 + 0x40 * t
def VIO_TX_PKT_packet (t : Nat) : Field := ⟨VIO_TX_PKT t, 15, 0⟩

/-- VIO_TXt_STAT (R392). -/
def VIO_TX_STAT (t : Nat) : Nat := 0x11108 + 0x40 * t
def VIO_TX_STAT_busy (t : Nat) : Field := ⟨VIO_TX_STAT t, 26, 16⟩
def VIO_TX_STAT_stream (t : Nat) : Field := ⟨VIO_TX_STAT t, 15, 8⟩
def VIO_TX_STAT_high (t : Nat) : Field := ⟨VIO_TX_STAT t, 1, 1⟩
def VIO_TX_STAT_up (t : Nat) : Field := ⟨VIO_TX_STAT t, 0, 0⟩

/-- VIO_RXr_CFG (R392). -/
def VIO_RX_CFG (r : Nat) : Nat := 0x11200 + 0x40 * r
def VIO_RX_CFG_err_limit (r : Nat) : Field := ⟨VIO_RX_CFG r, 15, 8⟩
def VIO_RX_CFG_vc (r : Nat) : Field := ⟨VIO_RX_CFG r, 5, 4⟩
def VIO_RX_CFG_lanes (r : Nat) : Field := ⟨VIO_RX_CFG r, 2, 1⟩
def VIO_RX_CFG_en (r : Nat) : Field := ⟨VIO_RX_CFG r, 0, 0⟩

/-- VIO_RXr_FPER (R392). -/
def VIO_RX_FPER (r : Nat) : Nat := 0x11204 + 0x40 * r
def VIO_RX_FPER_nominal (r : Nat) : Field := ⟨VIO_RX_FPER r, 15, 0⟩

/-- VIO_RXr_STAT (R392). -/
def VIO_RX_STAT (r : Nat) : Nat := 0x11208 + 0x40 * r
def VIO_RX_STAT_deskewed (r : Nat) : Field := ⟨VIO_RX_STAT r, 4, 4⟩
def VIO_RX_STAT_fence (r : Nat) : Field := ⟨VIO_RX_STAT r, 3, 2⟩
def VIO_RX_STAT_in (r : Nat) : Field := ⟨VIO_RX_STAT r, 1, 1⟩
def VIO_RX_STAT_fenced (r : Nat) : Field := ⟨VIO_RX_STAT r, 0, 0⟩

/-- VIO_RXr_CNT (R392). -/
def VIO_RX_CNT (r : Nat) : Nat := 0x1120c + 0x40 * r
def VIO_RX_CNT_hdr (r : Nat) : Field := ⟨VIO_RX_CNT r, 7, 0⟩
def VIO_RX_CNT_crc (r : Nat) : Field := ⟨VIO_RX_CNT r, 15, 8⟩
def VIO_RX_CNT_foreign (r : Nat) : Field := ⟨VIO_RX_CNT r, 23, 16⟩
def VIO_RX_CNT_missed (r : Nat) : Field := ⟨VIO_RX_CNT r, 31, 24⟩

/-- VIO_RXr_FRAMES (R392). -/
def VIO_RX_FRAMES (r : Nat) : Nat := 0x11210 + 0x40 * r

/-- VIO_Sk_CFG (R392). -/
def VIO_S_CFG (k : Nat) : Nat := 0x11400 + 0x10 * k
def VIO_S_CFG_meta (k : Nat) : Field := ⟨VIO_S_CFG k, 15, 15⟩
def VIO_S_CFG_vc (k : Nat) : Field := ⟨VIO_S_CFG k, 13, 12⟩
def VIO_S_CFG_tx (k : Nat) : Field := ⟨VIO_S_CFG k, 8, 8⟩
def VIO_S_CFG_index (k : Nat) : Field := ⟨VIO_S_CFG k, 7, 4⟩
def VIO_S_CFG_kind (k : Nat) : Field := ⟨VIO_S_CFG k, 3, 1⟩
def VIO_S_CFG_en (k : Nat) : Field := ⟨VIO_S_CFG k, 0, 0⟩

/-- VIO_Sk_CNT (R392). -/
def VIO_S_CNT (k : Nat) : Nat := 0x11404 + 0x10 * k
def VIO_S_CNT_skipped (k : Nat) : Field := ⟨VIO_S_CNT k, 7, 0⟩
def VIO_S_CNT_truncated (k : Nat) : Field := ⟨VIO_S_CNT k, 15, 8⟩
def VIO_S_CNT_memerr (k : Nat) : Field := ⟨VIO_S_CNT k, 23, 16⟩

/-- VIO_Sk_SENT (R392). -/
def VIO_S_SENT (k : Nat) : Nat := 0x11408 + 0x10 * k

/-- VIO_Sk_LAST (R392). -/
def VIO_S_LAST (k : Nat) : Nat := 0x1140c + 0x10 * k

/-! MEN (R276) -/

/-- MEN_ID (R276). -/
def MEN_ID : Nat := 0x12000

/-- MEN_STAT (R276). -/
def MEN_STAT : Nat := 0x12004
def MEN_STAT_seal_pin : Field := ⟨MEN_STAT, 8, 8⟩
def MEN_STAT_key_present : Field := ⟨MEN_STAT, 7, 7⟩
def MEN_STAT_time_set : Field := ⟨MEN_STAT, 6, 6⟩
def MEN_STAT_time_verified : Field := ⟨MEN_STAT, 5, 5⟩
def MEN_STAT_ident_stale : Field := ⟨MEN_STAT, 4, 4⟩
def MEN_STAT_state : Field := ⟨MEN_STAT, 3, 2⟩
def MEN_STAT_seal : Field := ⟨MEN_STAT, 1, 0⟩

/-- MEN_EVT (R276). -/
def MEN_EVT : Nat := 0x12008

/-- MEN_LEGAL_CRC (R276). -/
def MEN_LEGAL_CRC : Nat := 0x1200c

/-- MEN_CAUSE (R276). -/
def MEN_CAUSE : Nat := 0x12010
def MEN_CAUSE_p1_corrupt : Field := ⟨MEN_CAUSE, 0, 0⟩
def MEN_CAUSE_key_missing : Field := ⟨MEN_CAUSE, 1, 1⟩
def MEN_CAUSE_selftest : Field := ⟨MEN_CAUSE, 2, 2⟩
def MEN_CAUSE_ref_missing : Field := ⟨MEN_CAUSE, 3, 3⟩
def MEN_CAUSE_program : Field := ⟨MEN_CAUSE, 4, 4⟩
def MEN_CAUSE_table : Field := ⟨MEN_CAUSE, 5, 5⟩
def MEN_CAUSE_kat : Field := ⟨MEN_CAUSE, 6, 6⟩

/-- MEN_FACET (R276). -/
def MEN_FACET : Nat := 0x12014

/-- MEN_ALARM (R276). -/
def MEN_ALARM : Nat := 0x12018
def MEN_ALARM_pins : Field := ⟨MEN_ALARM, 3, 0⟩
def MEN_ALARM_facets : Field := ⟨MEN_ALARM, 7, 4⟩
def MEN_ALARM_pulses : Field := ⟨MEN_ALARM, 31, 16⟩

/-- MEN_REC_SEQ_LO (R276). -/
def MEN_REC_SEQ_LO : Nat := 0x1201c

/-- MEN_REC_SEQ_HI (R276). -/
def MEN_REC_SEQ_HI : Nat := 0x12020

/-- MEN_REC_CNT (R276). -/
def MEN_REC_CNT : Nat := 0x12024
def MEN_REC_CNT_queue : Field := ⟨MEN_REC_CNT, 9, 0⟩
def MEN_REC_CNT_val : Field := ⟨MEN_REC_CNT, 15, 10⟩
def MEN_REC_CNT_lost : Field := ⟨MEN_REC_CNT, 23, 16⟩
def MEN_REC_CNT_skipped : Field := ⟨MEN_REC_CNT, 31, 24⟩

/-- MEN_KAT_CNT (R276). -/
def MEN_KAT_CNT : Nat := 0x12028
def MEN_KAT_CNT_known : Field := ⟨MEN_KAT_CNT, 15, 0⟩

/-- MEN_RSTCNT (R276). -/
def MEN_RSTCNT : Nat := 0x1202c
def MEN_RSTCNT_enclave : Field := ⟨MEN_RSTCNT, 15, 0⟩

/-- MEN_TIME_NONCE_LO (R276). -/
def MEN_TIME_NONCE_LO : Nat := 0x12030

/-- MEN_TIME_NONCE_HI (R276). -/
def MEN_TIME_NONCE_HI : Nat := 0x12034

/-- MEN_KEYHASH0–7 (R276). -/
def MEN_KEYHASH (k : Nat) : Nat := 0x12040 + 0x4 * k

/-- MEN_AUDCNTc (R276). -/
def MEN_AUDCNT (c : Nat) : Nat := 0x12060 + 0x4 * c

/-- MEN_AUD_HEAD (R276). -/
def MEN_AUD_HEAD : Nat := 0x12090
def MEN_AUD_HEAD_index : Field := ⟨MEN_AUD_HEAD, 9, 0⟩
def MEN_AUD_HEAD_total : Field := ⟨MEN_AUD_HEAD, 31, 10⟩

/-- MEN_REJc (R276). -/
def MEN_REJ (c : Nat) : Nat := 0x120c0 + 0x4 * c
def MEN_REJ_rejections (c : Nat) : Field := ⟨MEN_REJ c, 15, 0⟩

/-- MEN_ZALM_x_LO (R276). -/
def MEN_ZALM_LO (x : Nat) : Nat := 0x12100 + 0x8 * x

/-- MEN_ZALM_x_HI (R276). -/
def MEN_ZALM_HI (x : Nat) : Nat := 0x12104 + 0x8 * x

/-- MEN_RSP_SEQ (R276). -/
def MEN_RSP_SEQ : Nat := 0x12180

/-- MEN_RSP_STATUS (R276). -/
def MEN_RSP_STATUS : Nat := 0x12184
def MEN_RSP_STATUS_status : Field := ⟨MEN_RSP_STATUS, 7, 0⟩
def MEN_RSP_STATUS_opcode : Field := ⟨MEN_RSP_STATUS, 31, 16⟩

/-- MEN_RSP_DATA0–15 (R276). -/
def MEN_RSP_DATA (k : Nat) : Nat := 0x121c0 + 0x4 * k

end Sys2Proof.Machine.R
end

