-- ==== Sys2Proof/Machine/RegTable.lean ====
section
/-! DEFINITION. Machine/RegTable.lean: each register's row (address pattern, reset value, and which of its bits take
which access code of R9), block by block, and the lookup of a host address in the rows. -/

namespace Sys2Proof.Machine

/-- One row of a register map. `off` is the first copy's host address; copies lie `s1` apart, `n1` of them, and within
each `s2` apart, `n2` of them. The masks name the bits of each access code; a bit in none of them is read-only,
write-only or reserved (R8, R9). `ctrs` lists the saturating counter fields (R36) as (msb, lsb). -/
structure RegRow where
  off : Nat
  s1 : Nat
  n1 : Nat
  s2 : Nat
  n2 : Nat
  rst : Nat
  rw : Nat := 0
  rws : Nat := 0
  w1c : Nat := 0
  w1s : Nat := 0
  ctrs : List (Nat × Nat) := []
deriving DecidableEq, Repr

/-- R482. -/
def rowsSCA : List RegRow := [
  ⟨0x0, 0x1, 1, 0x1, 1, 0x4128b001, 0, 0, 0, 0, []⟩,
  ⟨0x4, 0x1, 1, 0x1, 1, 0x0, 0, 0, 0x7f, 0, []⟩,
  ⟨0x8, 0x1, 1, 0x1, 1, 0x0, 0, 0, 0, 0, []⟩,
  ⟨0xc, 0x1, 1, 0x1, 1, 0x0, 0, 0, 0xff, 0, []⟩,
  ⟨0x10, 0x1, 1, 0x1, 1, 0x0, 0, 0, 0, 0, []⟩,
  ⟨0x14, 0x1, 1, 0x1, 1, 0x10258, 0x303ff, 0, 0, 0, []⟩,
  ⟨0x18, 0x1, 1, 0x1, 1, 0x0, 0, 0, 0, 0, []⟩,
  ⟨0x1c, 0x1, 1, 0x1, 1, 0x0, 0, 0, 0, 0, []⟩,
  ⟨0x20, 0x1, 1, 0x1, 1, 0x0, 0, 0, 0, 0, [(15, 0)]⟩,
  ⟨0x24, 0x1, 1, 0x1, 1, 0x3fe, 0x7ff, 0, 0, 0, []⟩,
  ⟨0x28, 0x1, 1, 0x1, 1, 0x0, 0, 0, 0, 0x1, []⟩,
  ⟨0x2c, 0x1, 1, 0x1, 1, 0x0, 0, 0, 0, 0, []⟩,
  ⟨0x30, 0x1, 1, 0x1, 1, 0x1388, 0, 0, 0, 0, []⟩,
  ⟨0x34, 0x1, 1, 0x1, 1, 0x0, 0x30f, 0, 0, 0, []⟩,
  ⟨0x38, 0x1, 1, 0x1, 1, 0x83d60000, 0xffffff00, 0, 0, 0, []⟩,
  ⟨0x3c, 0x1, 1, 0x1, 1, 0x0, 0, 0, 0, 0, []⟩,
  ⟨0x40, 0x1, 1, 0x1, 1, 0x0, 0xffffffff, 0, 0, 0, []⟩,
  ⟨0x44, 0x1, 1, 0x1, 1, 0x0, 0xff, 0, 0, 0, []⟩,
  ⟨0x80, 0x4, 4, 0x1, 1, 0x0, 0, 0, 0, 0, []⟩,
  ⟨0x100, 0x4, 24, 0x1, 1, 0x0, 0, 0, 0, 0, []⟩]

/-- R406. -/
def rowsINTC : List RegRow := [
  ⟨0x1000, 0x4, 4, 0x1, 1, 0x0, 0, 0, 0, 0, []⟩,
  ⟨0x1010, 0x4, 4, 0x1, 1, 0x0, 0, 0, 0, 0, []⟩,
  ⟨0x1020, 0x4, 8, 0x1, 1, 0x0, 0, 0, 0, 0, []⟩]

/-- R406. -/
def rowsINTC_T : List RegRow := [
  ⟨0x0, 0x1, 1, 0x1, 1, 0x0, 0x1, 0, 0, 0, []⟩,
  ⟨0x4, 0x1, 1, 0x1, 1, 0x0, 0, 0, 0, 0, []⟩,
  ⟨0x8, 0x1, 1, 0x1, 1, 0x0, 0, 0, 0, 0, []⟩,
  ⟨0xc, 0x1, 1, 0x1, 1, 0x0, 0xffffffff, 0, 0, 0, []⟩,
  ⟨0x10, 0x1, 1, 0x1, 1, 0x0, 0, 0, 0, 0, []⟩,
  ⟨0x14, 0x1, 1, 0x1, 1, 0x0, 0, 0, 0, 0, [(15, 0), (31, 16)]⟩,
  ⟨0x20, 0x4, 4, 0x1, 1, 0x0, 0xffffffff, 0, 0, 0, []⟩,
  ⟨0x30, 0x4, 4, 0x1, 1, 0x0, 0, 0, 0, 0xffffffff, []⟩,
  ⟨0x40, 0x4, 4, 0x1, 1, 0x0, 0, 0, 0xffffffff, 0, []⟩,
  ⟨0x50, 0x4, 4, 0x1, 1, 0x0, 0, 0, 0, 0, []⟩,
  ⟨0x80, 0x4, 16, 0x1, 1, 0x4000, 0x7fff, 0, 0, 0, []⟩]

/-- R64. -/
def rowsRTB : List RegRow := [
  ⟨0x2000, 0x40, 5, 0x1, 1, 0x0, 0x1, 0, 0, 0x2, []⟩,
  ⟨0x2004, 0x40, 5, 0x1, 1, 0xfa, 0xffff, 0, 0, 0, []⟩,
  ⟨0x2008, 0x40, 5, 0x1, 1, 0x4e2, 0xfff, 0, 0, 0, []⟩,
  ⟨0x200c, 0x40, 5, 0x1, 1, 0x4e200fa, 0, 0, 0, 0, []⟩,
  ⟨0x2010, 0x40, 5, 0x1, 1, 0x0, 0, 0, 0, 0, []⟩,
  ⟨0x2014, 0x40, 5, 0x1, 1, 0x0, 0, 0, 0, 0, []⟩,
  ⟨0x2018, 0x40, 5, 0x1, 1, 0x0, 0xffffffff, 0, 0, 0, []⟩,
  ⟨0x201c, 0x40, 5, 0x1, 1, 0x0, 0, 0, 0, 0, []⟩,
  ⟨0x2020, 0x40, 5, 0x1, 1, 0x2207, 0xfffff, 0, 0, 0, []⟩,
  ⟨0x2024, 0x40, 5, 0x1, 1, 0x0, 0xffffffff, 0, 0, 0, []⟩,
  ⟨0x2028, 0x40, 5, 0x1, 1, 0x0, 0, 0, 0, 0, []⟩,
  ⟨0x202c, 0x40, 5, 0x1, 1, 0x0, 0, 0, 0, 0, [(15, 0)]⟩,
  ⟨0x2030, 0x40, 5, 0x1, 1, 0x0, 0, 0, 0, 0, [(15, 0)]⟩,
  ⟨0x2034, 0x40, 5, 0x1, 1, 0x0, 0, 0, 0, 0, [(15, 0)]⟩,
  ⟨0x2140, 0x1, 1, 0x1, 1, 0x10400, 0xffffff1f, 0, 0, 0, []⟩,
  ⟨0x2144, 0x1, 1, 0x1, 1, 0x0, 0, 0, 0, 0, [(15, 8), (7, 0)]⟩,
  ⟨0x2148, 0x1, 1, 0x1, 1, 0xffffffff, 0, 0, 0, 0, []⟩,
  ⟨0x214c, 0x1, 1, 0x1, 1, 0x10, 0, 0, 0, 0, []⟩,
  ⟨0x2150, 0x1, 1, 0x1, 1, 0x0, 0, 0, 0x71f1f1f, 0, []⟩,
  ⟨0x2154, 0x1, 1, 0x1, 1, 0x0, 0, 0, 0, 0, [(15, 0)]⟩,
  ⟨0x2180, 0x10, 8, 0x1, 1, 0x0, 0xffffffff, 0, 0, 0, []⟩,
  ⟨0x2184, 0x10, 8, 0x1, 1, 0x0, 0xffffffff, 0, 0, 0, []⟩,
  ⟨0x2188, 0x10, 8, 0x1, 1, 0x0, 0xff7, 0, 0x30000, 0, []⟩]

/-- R100. -/
def rowsPSC : List RegRow := [
  ⟨0x3000, 0x1, 1, 0x1, 1, 0x0, 0, 0, 0xff3f1f1f, 0, []⟩,
  ⟨0x3004, 0x1, 1, 0x1, 1, 0x0, 0, 0, 0xffffffff, 0, []⟩,
  ⟨0x3008, 0x1, 1, 0x1, 1, 0x0, 0, 0, 0xff, 0, []⟩,
  ⟨0x300c, 0x1, 1, 0x1, 1, 0x0, 0, 0, 0, 0, []⟩,
  ⟨0x3010, 0x1, 1, 0x1, 1, 0x0, 0, 0, 0, 0, [(15, 0)]⟩,
  ⟨0x3014, 0x1, 1, 0x1, 1, 0x0, 0, 0, 0, 0, []⟩,
  ⟨0x3020, 0x4, 32, 0x1, 1, 0x0, 0, 0, 0, 0, []⟩,
  ⟨0x3100, 0x4, 32, 0x1, 1, 0x0, 0xffffffff, 0, 0, 0, []⟩,
  ⟨0x3200, 0x40, 4, 0x1, 1, 0x0, 0, 0, 0, 0, []⟩,
  ⟨0x3204, 0x40, 4, 0x1, 1, 0x0, 0xfff, 0, 0, 0, []⟩,
  ⟨0x3208, 0x40, 4, 0x1, 1, 0x0, 0, 0, 0, 0, []⟩,
  ⟨0x320c, 0x40, 4, 0x1, 1, 0x0, 0, 0, 0, 0, []⟩,
  ⟨0x3210, 0x40, 4, 0x1, 1, 0x10, 0xfff, 0, 0, 0, []⟩,
  ⟨0x3214, 0x40, 4, 0x1, 1, 0x0, 0x1fc0, 0, 0, 0, []⟩,
  ⟨0x3218, 0x40, 4, 0x1, 1, 0x0, 0, 0, 0, 0, [(15, 0), (31, 16)]⟩,
  ⟨0x321c, 0x40, 4, 0x1, 1, 0x0, 0, 0, 0, 0, []⟩,
  ⟨0x3220, 0x40, 4, 0x4, 8, 0x0, 0, 0, 0, 0, []⟩,
  ⟨0x3300, 0x1, 1, 0x1, 1, 0x1, 0x1, 0, 0, 0, []⟩,
  ⟨0x3304, 0x1, 1, 0x1, 1, 0x0, 0x7fff7fff, 0, 0, 0, []⟩,
  ⟨0x3308, 0x1, 1, 0x1, 1, 0x1, 0, 0, 0, 0, []⟩,
  ⟨0x330c, 0x1, 1, 0x1, 1, 0x430d4, 0x7ffff, 0, 0, 0, []⟩,
  ⟨0x3310, 0x1, 1, 0x1, 1, 0x0, 0, 0, 0, 0, []⟩,
  ⟨0x3314, 0x1, 1, 0x1, 1, 0x0, 0xf, 0, 0, 0, []⟩,
  ⟨0x3318, 0x1, 1, 0x1, 1, 0x0, 0, 0, 0, 0, []⟩,
  ⟨0x331c, 0x1, 1, 0x1, 1, 0x0, 0, 0, 0, 0, [(15, 0), (31, 16)]⟩,
  ⟨0x3320, 0x1, 1, 0x1, 1, 0x0, 0x7fff, 0, 0, 0, []⟩]

/-- R153. -/
def rowsFPP : List RegRow := [
  ⟨0x4000, 0x400, 4, 0x1, 1, 0x2, 0x3, 0, 0, 0x4, []⟩,
  ⟨0x4004, 0x400, 4, 0x1, 1, 0x0, 0, 0xfff, 0, 0, []⟩,
  ⟨0x4008, 0x400, 4, 0x1, 1, 0x1000000, 0, 0x3ffffff, 0, 0, []⟩,
  ⟨0x400c, 0x400, 4, 0x1, 1, 0x0, 0, 0xffff, 0, 0, []⟩,
  ⟨0x4010, 0x400, 4, 0x1, 1, 0x0, 0, 0, 0, 0, []⟩,
  ⟨0x4014, 0x400, 4, 0x1, 1, 0x400500, 0, 0xffffff, 0, 0, []⟩,
  ⟨0x4018, 0x400, 4, 0x1, 1, 0x0, 0, 0xfff, 0, 0, []⟩,
  ⟨0x401c, 0x400, 4, 0x1, 1, 0x0, 0x1, 0, 0, 0, []⟩,
  ⟨0x4020, 0x400, 4, 0x1, 1, 0x40d19, 0, 0xffffff, 0, 0, []⟩,
  ⟨0x4024, 0x400, 4, 0x1, 1, 0x271, 0, 0xfff, 0, 0, []⟩,
  ⟨0x4028, 0x400, 4, 0x1, 1, 0x108, 0, 0x1ff, 0, 0, []⟩,
  ⟨0x402c, 0x400, 4, 0x1, 1, 0x800, 0x3fff, 0, 0, 0, []⟩,
  ⟨0x4030, 0x400, 4, 0x1, 1, 0xffffffff, 0xffffffff, 0, 0, 0, []⟩,
  ⟨0x4034, 0x400, 4, 0x1, 1, 0x0, 0, 0, 0, 0, []⟩,
  ⟨0x4038, 0x400, 4, 0x1, 1, 0x0, 0, 0, 0, 0, [(15, 0)]⟩,
  ⟨0x403c, 0x400, 4, 0x1, 1, 0x0, 0, 0, 0x3f, 0, []⟩]

/-- R183. -/
def rowsLCA : List RegRow := [
  ⟨0x5000, 0x20, 4, 0x1, 1, 0x3, 0, 0xf, 0, 0, []⟩,
  ⟨0x5004, 0x20, 4, 0x1, 1, 0x3, 0, 0, 0, 0, []⟩,
  ⟨0x5008, 0x20, 4, 0x1, 1, 0x0, 0, 0x1, 0, 0, []⟩,
  ⟨0x500c, 0x20, 4, 0x1, 1, 0x0, 0, 0, 0, 0, []⟩,
  ⟨0x5010, 0x20, 4, 0x1, 1, 0x0, 0, 0, 0, 0, [(15, 0), (31, 16)]⟩,
  ⟨0x5014, 0x20, 4, 0x1, 1, 0x0, 0, 0, 0, 0, [(15, 0)]⟩,
  ⟨0x5018, 0x20, 4, 0x1, 1, 0x0, 0, 0, 0, 0, []⟩,
  ⟨0x501c, 0x20, 4, 0x1, 1, 0x0, 0, 0, 0, 0, []⟩,
  ⟨0x5080, 0x1, 1, 0x1, 1, 0x100, 0x100, 0, 0, 0, []⟩,
  ⟨0x5084, 0x1, 1, 0x1, 1, 0x8000202, 0xffff0f03, 0, 0, 0, []⟩,
  ⟨0x5088, 0x1, 1, 0x1, 1, 0x400100, 0xffffffff, 0, 0, 0, []⟩,
  ⟨0x508c, 0x1, 1, 0x1, 1, 0x0, 0, 0, 0xf0f0f00, 0, []⟩,
  ⟨0x5090, 0x1, 1, 0x1, 1, 0x4, 0xff, 0, 0, 0, []⟩,
  ⟨0x5094, 0x1, 1, 0x1, 1, 0x0, 0, 0, 0, 0, []⟩,
  ⟨0x5098, 0x1, 1, 0x1, 1, 0x0, 0, 0, 0x1f, 0, []⟩]

/-- R185. -/
def rowsLCAL : List RegRow := [
  ⟨0x6000, 0x10, 128, 0x1, 1, 0x80000000, 0, 0xffffffff, 0, 0, []⟩,
  ⟨0x6004, 0x10, 128, 0x1, 1, 0x80000000, 0, 0, 0, 0, []⟩,
  ⟨0x6008, 0x10, 128, 0x1, 1, 0x0, 0, 0x1, 0, 0, [(31, 24)]⟩,
  ⟨0x600c, 0x10, 128, 0x1, 1, 0x0, 0, 0, 0, 0, []⟩]

/-- R214. -/
def rowsPCE : List RegRow := [
  ⟨0x7000, 0x1, 1, 0x1, 1, 0x0, 0, 0, 0x3fffff, 0, []⟩,
  ⟨0x7004, 0x1, 1, 0x1, 1, 0x4104, 0, 0xffff, 0, 0, []⟩,
  ⟨0x7008, 0x1, 1, 0x1, 1, 0x0, 0x3fc3, 0, 0, 0, []⟩,
  ⟨0x700c, 0x1, 1, 0x1, 1, 0x10, 0xff, 0, 0, 0, []⟩,
  ⟨0x7010, 0x1, 1, 0x1, 1, 0x0, 0, 0, 0, 0, []⟩,
  ⟨0x7014, 0x1, 1, 0x1, 1, 0x0, 0x3ff, 0, 0, 0, []⟩,
  ⟨0x7018, 0x1, 1, 0x1, 1, 0x0, 0, 0, 0, 0, []⟩,
  ⟨0x701c, 0x1, 1, 0x1, 1, 0x0, 0, 0, 0, 0xf, []⟩,
  ⟨0x7100, 0x80, 4, 0x1, 1, 0x0, 0xffffff, 0, 0, 0, []⟩,
  ⟨0x7104, 0x80, 4, 0x1, 1, 0x0, 0xfffff, 0, 0, 0, []⟩,
  ⟨0x7108, 0x80, 4, 0x1, 1, 0x0, 0, 0, 0, 0x1, []⟩,
  ⟨0x710c, 0x80, 4, 0x1, 1, 0x0, 0, 0, 0, 0, []⟩,
  ⟨0x7110, 0x80, 4, 0x1, 1, 0x0, 0, 0, 0, 0, []⟩,
  ⟨0x7114, 0x80, 4, 0x1, 1, 0x0, 0, 0, 0, 0, []⟩,
  ⟨0x7118, 0x80, 4, 0x1, 1, 0x1e0a, 0, 0x13f1f, 0, 0, []⟩,
  ⟨0x711c, 0x80, 4, 0x1, 1, 0x4000, 0, 0xffff, 0, 0, []⟩,
  ⟨0x7120, 0x80, 4, 0x1, 1, 0x493e0, 0, 0xfffff, 0, 0, []⟩,
  ⟨0x7124, 0x80, 4, 0x1, 1, 0x0, 0, 0, 0, 0, []⟩,
  ⟨0x7128, 0x80, 4, 0x1, 1, 0x0, 0xffffff, 0, 0, 0, []⟩,
  ⟨0x712c, 0x80, 4, 0x1, 1, 0x4, 0x11f, 0, 0, 0, []⟩,
  ⟨0x7130, 0x80, 4, 0x1, 1, 0x0, 0xffff, 0, 0, 0, []⟩,
  ⟨0x7134, 0x80, 4, 0x1, 1, 0x0, 0, 0, 0, 0, []⟩,
  ⟨0x7138, 0x80, 4, 0x1, 1, 0x0, 0, 0, 0, 0, []⟩,
  ⟨0x713c, 0x80, 4, 0x1, 1, 0x0, 0, 0, 0, 0, [(15, 0), (31, 16)]⟩,
  ⟨0x7140, 0x80, 4, 0x4, 8, 0x0, 0, 0, 0, 0, []⟩]

/-- R237. -/
def rowsCSU : List RegRow := [
  ⟨0x8000, 0x1, 1, 0x1, 1, 0x0, 0, 0, 0xffffffff, 0, []⟩,
  ⟨0x8004, 0x1, 1, 0x1, 1, 0x1, 0x7, 0, 0, 0, []⟩,
  ⟨0x8008, 0x1, 1, 0x1, 1, 0x0, 0, 0, 0, 0, []⟩,
  ⟨0x8100, 0x80, 4, 0x1, 1, 0x0, 0x1, 0, 0, 0x8, []⟩,
  ⟨0x8104, 0x80, 4, 0x1, 1, 0x0, 0xffffff, 0, 0, 0, []⟩,
  ⟨0x8108, 0x80, 4, 0x1, 1, 0x0, 0xffffff, 0, 0, 0, []⟩,
  ⟨0x810c, 0x80, 4, 0x1, 1, 0x0, 0xffffff, 0, 0, 0, []⟩,
  ⟨0x8110, 0x80, 4, 0x1, 1, 0x610, 0x3ffff, 0, 0, 0, []⟩,
  ⟨0x8114, 0x80, 4, 0x1, 1, 0x4082, 0, 0xffffffff, 0, 0, []⟩,
  ⟨0x8118, 0x80, 4, 0x1, 1, 0x1a5e0, 0, 0xffffff, 0, 0, []⟩,
  ⟨0x811c, 0x80, 4, 0x1, 1, 0xe1001f4, 0, 0xffffffff, 0, 0, []⟩,
  ⟨0x8120, 0x80, 4, 0x1, 1, 0x888020, 0, 0xffffff, 0, 0, []⟩,
  ⟨0x8124, 0x80, 4, 0x1, 1, 0x10408010, 0, 0xffffffff, 0, 0, []⟩,
  ⟨0x8128, 0x80, 4, 0x1, 1, 0x4000a4, 0, 0xfff0fff, 0, 0, []⟩,
  ⟨0x812c, 0x80, 4, 0x1, 1, 0xe10, 0, 0xffffff, 0, 0, []⟩,
  ⟨0x8130, 0x80, 4, 0x1, 1, 0x8003e8, 0, 0xffffff, 0, 0, []⟩,
  ⟨0x8134, 0x80, 4, 0x1, 1, 0x30400fa0, 0, 0x7fffffff, 0, 0, []⟩,
  ⟨0x8138, 0x80, 4, 0x1, 1, 0x10001900, 0, 0xffffffff, 0, 0, []⟩,
  ⟨0x813c, 0x80, 4, 0x1, 1, 0x4ccd, 0, 0xffff, 0, 0, []⟩,
  ⟨0x8140, 0x80, 4, 0x1, 1, 0xfa07d0, 0, 0xffffffff, 0, 0, []⟩,
  ⟨0x8144, 0x80, 4, 0x1, 1, 0x0, 0, 0xffff, 0, 0, []⟩,
  ⟨0x8148, 0x80, 4, 0x1, 1, 0x0, 0, 0, 0, 0, []⟩,
  ⟨0x814c, 0x80, 4, 0x1, 1, 0x0, 0, 0, 0, 0, []⟩,
  ⟨0x8150, 0x80, 4, 0x1, 1, 0x0, 0, 0, 0, 0, []⟩,
  ⟨0x8154, 0x80, 4, 0x1, 1, 0x0, 0, 0, 0, 0, []⟩,
  ⟨0x8158, 0x80, 4, 0x1, 1, 0x0, 0, 0, 0, 0, []⟩,
  ⟨0x815c, 0x80, 4, 0x1, 1, 0x0, 0, 0, 0, 0, []⟩,
  ⟨0x8160, 0x80, 4, 0x1, 1, 0x0, 0, 0, 0, 0, []⟩,
  ⟨0x8164, 0x80, 4, 0x1, 1, 0x1a5e0, 0, 0, 0, 0, []⟩,
  ⟨0x8168, 0x80, 4, 0x1, 1, 0x0, 0, 0, 0, 0, []⟩,
  ⟨0x816c, 0x80, 4, 0x1, 1, 0x0, 0, 0, 0, 0, [(7, 0), (15, 8), (23, 16), (31, 24)]⟩,
  ⟨0x8170, 0x80, 4, 0x1, 1, 0x0, 0, 0, 0, 0, [(7, 0)]⟩,
  ⟨0x8174, 0x80, 4, 0x1, 1, 0x0, 0, 0, 0, 0, []⟩]

/-- R304. -/
def rowsIPL : List RegRow := [
  ⟨0x9000, 0x1, 1, 0x1, 1, 0x0, 0, 0, 0x3f3f3f3f, 0, []⟩,
  ⟨0x9004, 0x1, 1, 0x1, 1, 0x0, 0, 0, 0x13f3f3f, 0, []⟩,
  ⟨0x9008, 0x1, 1, 0x1, 1, 0x70, 0, 0, 0, 0, []⟩,
  ⟨0x900c, 0x1, 1, 0x1, 1, 0x0, 0, 0, 0, 0, []⟩,
  ⟨0x9010, 0x1, 1, 0x1, 1, 0x0, 0xfff, 0, 0, 0, []⟩,
  ⟨0x9100, 0x100, 6, 0x1, 1, 0x0, 0x1, 0, 0, 0x2, []⟩,
  ⟨0x9104, 0x100, 6, 0x1, 1, 0x404, 0xffff077f, 0, 0, 0, []⟩,
  ⟨0x9108, 0x100, 6, 0x1, 1, 0x4438780, 0x7ffffff, 0, 0, 0, []⟩,
  ⟨0x910c, 0x100, 6, 0x1, 1, 0x0, 0xffffff, 0, 0, 0, []⟩,
  ⟨0x9110, 0x100, 6, 0x1, 1, 0x4, 0x10f, 0, 0, 0, []⟩,
  ⟨0x9114, 0x100, 6, 0x1, 1, 0x400, 0xffff, 0, 0, 0, []⟩,
  ⟨0x9118, 0x100, 6, 0x1, 1, 0x93, 0xff, 0, 0, 0, []⟩,
  ⟨0x911c, 0x100, 6, 0x1, 1, 0x800100, 0xffffff, 0, 0, 0, []⟩,
  ⟨0x9120, 0x100, 6, 0x1, 1, 0x234568, 0xffffff, 0, 0, 0, []⟩,
  ⟨0x9124, 0x100, 6, 0x1, 1, 0xc0, 0xff, 0, 0, 0, []⟩,
  ⟨0x9128, 0x100, 6, 0x1, 1, 0x1000010, 0xffffffff, 0, 0, 0, []⟩,
  ⟨0x912c, 0x100, 6, 0x1, 1, 0x10000140, 0xffff01ff, 0, 0, 0, []⟩,
  ⟨0x9130, 0x100, 6, 0x1, 1, 0x10001000, 0xffffffff, 0, 0, 0, []⟩,
  ⟨0x9134, 0x100, 6, 0x1, 1, 0x1000, 0xffff, 0, 0, 0, []⟩,
  ⟨0x9138, 0x100, 6, 0x1, 1, 0x1000, 0xffffffff, 0, 0, 0, []⟩,
  ⟨0x913c, 0x100, 6, 0x1, 1, 0x0, 0xffffffff, 0, 0, 0, []⟩,
  ⟨0x9140, 0x100, 6, 0x1, 1, 0x1000, 0xffffffff, 0, 0, 0, []⟩,
  ⟨0x9144, 0x100, 6, 0x1, 1, 0x0, 0xffffffff, 0, 0, 0, []⟩,
  ⟨0x9148, 0x100, 6, 0x1, 1, 0x1000, 0xffff, 0, 0, 0, []⟩,
  ⟨0x914c, 0x100, 6, 0x1, 1, 0x0, 0xffffffff, 0, 0, 0, []⟩,
  ⟨0x9150, 0x100, 6, 0x1, 1, 0x0, 0xffff, 0, 0, 0, []⟩,
  ⟨0x9154, 0x100, 6, 0x1, 1, 0x0, 0xffffff, 0, 0, 0, []⟩,
  ⟨0x9158, 0x100, 6, 0x1, 1, 0x33, 0x3f, 0, 0, 0, []⟩,
  ⟨0x915c, 0x100, 6, 0x1, 1, 0x0, 0xffffff, 0, 0, 0, []⟩,
  ⟨0x9160, 0x100, 6, 0x1, 1, 0x0, 0, 0, 0, 0, []⟩,
  ⟨0x9164, 0x100, 6, 0x1, 1, 0x0, 0, 0, 0, 0, [(31, 24), (23, 16), (15, 8), (7, 0)]⟩,
  ⟨0x9168, 0x100, 6, 0x1, 1, 0x0, 0, 0, 0, 0, [(15, 8), (7, 0)]⟩,
  ⟨0x916c, 0x100, 6, 0x1, 1, 0x0, 0, 0, 0, 0, []⟩,
  ⟨0x9170, 0x100, 6, 0x1, 1, 0x0, 0, 0, 0, 0, []⟩,
  ⟨0x9174, 0x100, 6, 0x1, 1, 0x0, 0, 0, 0, 0, []⟩,
  ⟨0x9178, 0x100, 6, 0x1, 1, 0x0, 0, 0, 0, 0, []⟩]

/-- R329. -/
def rowsCER : List RegRow := [
  ⟨0xb000, 0x1, 1, 0x1, 1, 0x0, 0, 0, 0xffffffff, 0, []⟩,
  ⟨0xb004, 0x1, 1, 0x1, 1, 0x0, 0, 0, 0xffff, 0, []⟩,
  ⟨0xb008, 0x1, 1, 0x1, 1, 0x0, 0, 0, 0x303ffff, 0, []⟩,
  ⟨0xb00c, 0x1, 1, 0x1, 1, 0x0, 0, 0, 0, 0, []⟩,
  ⟨0xb010, 0x1, 1, 0x1, 1, 0x0, 0, 0, 0, 0, []⟩,
  ⟨0xb014, 0x1, 1, 0x1, 1, 0x4, 0xff, 0, 0, 0, []⟩,
  ⟨0xb018, 0x1, 1, 0x1, 1, 0x0, 0, 0, 0, 0, [(15, 0), (31, 16)]⟩,
  ⟨0xb01c, 0x1, 1, 0x1, 1, 0x0, 0, 0, 0, 0, []⟩,
  ⟨0xb020, 0x1, 1, 0x1, 1, 0x0, 0xffffff, 0, 0, 0, []⟩,
  ⟨0xb024, 0x1, 1, 0x1, 1, 0x0, 0xffffff, 0, 0, 0, []⟩,
  ⟨0xb028, 0x1, 1, 0x1, 1, 0x0, 0xfffff, 0, 0, 0, []⟩,
  ⟨0xb02c, 0x1, 1, 0x1, 1, 0x0, 0, 0, 0, 0, []⟩,
  ⟨0xb030, 0x1, 1, 0x1, 1, 0x0, 0, 0, 0, 0, []⟩,
  ⟨0xb100, 0x20, 16, 0x1, 1, 0x0, 0x137, 0, 0, 0, []⟩,
  ⟨0xb104, 0x20, 16, 0x1, 1, 0x0, 0xf, 0, 0, 0x10000, []⟩,
  ⟨0xb108, 0x20, 16, 0x1, 1, 0x0, 0xffffff, 0, 0, 0, []⟩,
  ⟨0xb10c, 0x20, 16, 0x1, 1, 0x0, 0xffff, 0, 0, 0, []⟩,
  ⟨0xb110, 0x20, 16, 0x1, 1, 0x0, 0, 0, 0, 0, []⟩,
  ⟨0xb114, 0x20, 16, 0x1, 1, 0x0, 0, 0, 0, 0, [(15, 0), (23, 16), (31, 24)]⟩,
  ⟨0xb118, 0x20, 16, 0x1, 1, 0x0, 0, 0, 0, 0, [(7, 0), (15, 8)]⟩,
  ⟨0xb11c, 0x20, 16, 0x1, 1, 0x0, 0, 0, 0, 0, []⟩,
  ⟨0xb400, 0x20, 4, 0x1, 1, 0x1e780c, 0, 0xffff0f, 0, 0, []⟩,
  ⟨0xb404, 0x20, 4, 0x1, 1, 0x0, 0xffffff, 0, 0, 0, []⟩,
  ⟨0xb408, 0x20, 4, 0x1, 1, 0x0, 0xffff, 0, 0, 0, []⟩,
  ⟨0xb40c, 0x20, 4, 0x1, 1, 0x0, 0, 0, 0, 0, []⟩,
  ⟨0xb410, 0x20, 4, 0x1, 1, 0x0, 0, 0, 0, 0, []⟩,
  ⟨0xb414, 0x20, 4, 0x1, 1, 0x0, 0, 0, 0, 0, []⟩,
  ⟨0xb418, 0x20, 4, 0x1, 1, 0x0, 0, 0, 0, 0, [(7, 0), (15, 8), (23, 16), (31, 24)]⟩,
  ⟨0xb41c, 0x20, 4, 0x1, 1, 0x0, 0, 0, 0, 0, []⟩]

/-- R354. -/
def rowsMEM : List RegRow := [
  ⟨0xc000, 0x1, 1, 0x1, 1, 0x0, 0, 0, 0x1f0f1f, 0, []⟩,
  ⟨0xc004, 0x1, 1, 0x1, 1, 0x0, 0, 0, 0, 0, []⟩,
  ⟨0xc008, 0x1, 1, 0x1, 1, 0x27, 0x37, 0, 0, 0, []⟩,
  ⟨0xc00c, 0x1, 1, 0x1, 1, 0x0, 0, 0, 0, 0, []⟩,
  ⟨0xc010, 0x1, 1, 0x1, 1, 0x1020830, 0x3f3f3f3f, 0, 0, 0, []⟩,
  ⟨0xc014, 0x1, 1, 0x1, 1, 0x0, 0xfff, 0, 0, 0, []⟩,
  ⟨0xc018, 0x1, 1, 0x1, 1, 0x1, 0x1, 0, 0, 0, []⟩,
  ⟨0xc01c, 0x1, 1, 0x1, 1, 0x10, 0xfff, 0, 0, 0, []⟩,
  ⟨0xc020, 0x1, 1, 0x1, 1, 0x0, 0, 0, 0, 0, []⟩,
  ⟨0xc024, 0x1, 1, 0x1, 1, 0x0, 0, 0, 0, 0, [(15, 0), (31, 16)]⟩,
  ⟨0xc028, 0x1, 1, 0x1, 1, 0x0, 0, 0, 0, 0, [(15, 0), (31, 16)]⟩,
  ⟨0xc02c, 0x1, 1, 0x1, 1, 0x0, 0, 0, 0, 0, []⟩,
  ⟨0xc030, 0x1, 1, 0x1, 1, 0x0, 0, 0, 0, 0, []⟩,
  ⟨0xc034, 0x1, 1, 0x1, 1, 0x0, 0, 0, 0, 0, []⟩,
  ⟨0xc038, 0x1, 1, 0x1, 1, 0x0, 0, 0, 0, 0, []⟩,
  ⟨0xc03c, 0x1, 1, 0x1, 1, 0x0, 0, 0, 0, 0, [(7, 0), (15, 8), (23, 16), (31, 24)]⟩,
  ⟨0xc040, 0x4, 4, 0x1, 1, 0x0, 0, 0, 0, 0, []⟩,
  ⟨0xc080, 0x10, 2, 0x1, 1, 0x0, 0xfffff8, 0, 0, 0, []⟩,
  ⟨0xc084, 0x10, 2, 0x1, 1, 0x0, 0, 0, 0, 0, []⟩,
  ⟨0xc088, 0x10, 2, 0x1, 1, 0x0, 0, 0, 0, 0, []⟩]

/-- R429. -/
def rowsNVS : List RegRow := [
  ⟨0xd000, 0x1, 1, 0x1, 1, 0x0, 0, 0, 0x7f, 0, []⟩,
  ⟨0xd004, 0x1, 1, 0x1, 1, 0x0, 0, 0, 0, 0, []⟩,
  ⟨0xd008, 0x1, 1, 0x1, 1, 0x12c1903, 0xfffff0f, 0, 0, 0, []⟩,
  ⟨0xd00c, 0x1, 1, 0x1, 1, 0x0, 0, 0, 0, 0, []⟩,
  ⟨0xd010, 0x1, 1, 0x1, 1, 0x0, 0, 0, 0, 0, []⟩,
  ⟨0xd014, 0x1, 1, 0x1, 1, 0x0, 0x7ff, 0, 0, 0, []⟩,
  ⟨0xd018, 0x1, 1, 0x1, 1, 0x0, 0x7ff00ff, 0, 0, 0, []⟩,
  ⟨0xd01c, 0x1, 1, 0x1, 1, 0x0, 0x7ff00ff, 0, 0, 0, []⟩,
  ⟨0xd020, 0x1, 1, 0x1, 1, 0x0, 0, 0, 0, 0, []⟩,
  ⟨0xd024, 0x1, 1, 0x1, 1, 0x0, 0, 0, 0, 0, []⟩,
  ⟨0xd028, 0x1, 1, 0x1, 1, 0x0, 0, 0, 0, 0, []⟩,
  ⟨0xd02c, 0x1, 1, 0x1, 1, 0x0, 0x7ff, 0, 0, 0, []⟩,
  ⟨0xd030, 0x1, 1, 0x1, 1, 0x0, 0, 0, 0, 0, []⟩,
  ⟨0xd034, 0x1, 1, 0x1, 1, 0x0, 0, 0, 0, 0, []⟩,
  ⟨0xd038, 0x1, 1, 0x1, 1, 0x0, 0, 0, 0, 0, []⟩,
  ⟨0xd03c, 0x1, 1, 0x1, 1, 0x1000100, 0, 0, 0, 0, []⟩,
  ⟨0xd040, 0x1, 1, 0x1, 1, 0x4000200, 0, 0, 0, 0, []⟩,
  ⟨0xd044, 0x1, 1, 0x1, 1, 0x0, 0, 0, 0, 0, [(15, 0), (31, 16)]⟩,
  ⟨0xd048, 0x1, 1, 0x1, 1, 0x0, 0, 0, 0, 0, []⟩,
  ⟨0xd04c, 0x1, 1, 0x1, 1, 0x3ff, 0x7ff, 0, 0, 0, []⟩]

/-- R450. -/
def rowsHKT : List RegRow := [
  ⟨0xe000, 0x1, 1, 0x1, 1, 0x0, 0, 0, 0x17f, 0, []⟩,
  ⟨0xe004, 0x1, 1, 0x1, 1, 0x0, 0, 0, 0, 0, []⟩,
  ⟨0xe008, 0x1, 1, 0x1, 1, 0x9c44801, 0xffff7f01, 0, 0, 0, []⟩,
  ⟨0xe00c, 0x1, 1, 0x1, 1, 0xff0000f, 0xfffffff, 0, 0, 0, []⟩,
  ⟨0xe010, 0x1, 1, 0x1, 1, 0x0, 0, 0, 0, 0, []⟩,
  ⟨0xe014, 0x1, 1, 0x1, 1, 0x0, 0, 0, 0, 0, []⟩,
  ⟨0xe018, 0x1, 1, 0x1, 1, 0x0, 0, 0, 0, 0, [(15, 0)]⟩,
  ⟨0xe01c, 0x1, 1, 0x1, 1, 0x0, 0, 0, 0, 0, [(7, 0)]⟩,
  ⟨0xe020, 0x1, 1, 0x1, 1, 0x0, 0, 0, 0xfffffff, 0, []⟩,
  ⟨0xe024, 0x1, 1, 0x1, 1, 0x0, 0, 0, 0xfffffff, 0, []⟩,
  ⟨0xe028, 0x1, 1, 0x1, 1, 0x0, 0, 0, 0xffffff, 0, []⟩,
  ⟨0xe02c, 0x1, 1, 0x1, 1, 0x0, 0, 0, 0, 0, []⟩,
  ⟨0xe030, 0x1, 1, 0x1, 1, 0x0, 0, 0, 0, 0, []⟩,
  ⟨0xe034, 0x1, 1, 0x1, 1, 0x0, 0, 0, 0, 0, []⟩,
  ⟨0xe038, 0x1, 1, 0x1, 1, 0x0, 0, 0, 0, 0, []⟩,
  ⟨0xe040, 0x1, 1, 0x1, 1, 0x3c4000, 0xffff7001, 0, 0, 0, []⟩,
  ⟨0xe044, 0x1, 1, 0x1, 1, 0x0, 0, 0, 0, 0, []⟩,
  ⟨0xe048, 0x1, 1, 0x1, 1, 0x5f7d, 0xffff, 0, 0, 0, []⟩,
  ⟨0xe04c, 0x1, 1, 0x1, 1, 0x0, 0, 0, 0x3c, 0, []⟩,
  ⟨0xe050, 0x1, 1, 0x1, 1, 0x3, 0x3, 0, 0, 0, []⟩,
  ⟨0xe054, 0x1, 1, 0x1, 1, 0x0, 0, 0, 0, 0, []⟩,
  ⟨0xe058, 0x1, 1, 0x1, 1, 0x0, 0, 0, 0, 0, []⟩,
  ⟨0xe100, 0x20, 28, 0x1, 1, 0x0, 0xf83c0007, 0, 0, 0, []⟩,
  ⟨0xe104, 0x20, 28, 0x1, 1, 0x40000000, 0xffffffff, 0, 0, 0, []⟩,
  ⟨0xe108, 0x20, 28, 0x1, 1, 0x0, 0xffffff, 0, 0, 0, []⟩,
  ⟨0xe10c, 0x20, 28, 0x1, 1, 0x0, 0xffffff, 0, 0, 0, []⟩,
  ⟨0xe110, 0x20, 28, 0x1, 1, 0x0, 0xffffff, 0, 0, 0, []⟩,
  ⟨0xe114, 0x20, 28, 0x1, 1, 0x0, 0xfffffff, 0, 0, 0, []⟩,
  ⟨0xe118, 0x20, 28, 0x1, 1, 0x0, 0, 0, 0, 0, []⟩]

/-- R466. -/
def rowsSDR : List RegRow := [
  ⟨0xf000, 0x1, 1, 0x1, 1, 0x0, 0, 0, 0xffffffff, 0, []⟩,
  ⟨0xf004, 0x1, 1, 0x1, 1, 0x0, 0, 0, 0, 0, []⟩,
  ⟨0xf008, 0x1, 1, 0x1, 1, 0x0, 0, 0, 0, 0, []⟩,
  ⟨0xf00c, 0x1, 1, 0x1, 1, 0x0, 0, 0, 0, 0, [(7, 0), (15, 8), (23, 16), (31, 24)]⟩,
  ⟨0xf040, 0x10, 4, 0x1, 1, 0x0, 0x10fff, 0, 0, 0, []⟩,
  ⟨0xf044, 0x10, 4, 0x1, 1, 0x0, 0, 0, 0, 0, []⟩,
  ⟨0xf100, 0x20, 8, 0x1, 1, 0x3ff0262, 0x3ff0fff, 0, 0, 0, []⟩,
  ⟨0xf104, 0x20, 8, 0x1, 1, 0x140190, 0xff03ff, 0, 0, 0, []⟩,
  ⟨0xf108, 0x20, 8, 0x1, 1, 0x0, 0, 0, 0, 0, []⟩,
  ⟨0xf10c, 0x20, 8, 0x1, 1, 0x0, 0, 0, 0, 0, []⟩,
  ⟨0xf110, 0x20, 8, 0x1, 1, 0x0, 0, 0, 0, 0, []⟩,
  ⟨0xf114, 0x20, 8, 0x1, 1, 0x0, 0, 0, 0, 0, []⟩,
  ⟨0xf118, 0x20, 8, 0x1, 1, 0x0, 0, 0, 0, 0, [(7, 0), (15, 8), (23, 16)]⟩,
  ⟨0xf400, 0x40, 16, 0x1, 1, 0x4800, 0xffff7c87, 0, 0, 0, []⟩,
  ⟨0xf404, 0x40, 16, 0x1, 1, 0x1010190, 0xff0ff3ff, 0, 0, 0, []⟩,
  ⟨0xf408, 0x40, 16, 0x4, 6, 0x0, 0xff3fffff, 0, 0, 0, []⟩]

/-- R390. -/
def rowsSIO : List RegRow := [
  ⟨0x10000, 0x1, 1, 0x1, 1, 0x1f01, 0x1f01, 0, 0, 0, []⟩,
  ⟨0x10004, 0x1, 1, 0x1, 1, 0x0, 0, 0, 0x3, 0, []⟩,
  ⟨0x10008, 0x1, 1, 0x1, 1, 0x0, 0, 0, 0, 0, [(7, 0), (15, 8), (23, 16), (31, 24)]⟩,
  ⟨0x1000c, 0x1, 1, 0x1, 1, 0x0, 0xffffffff, 0, 0, 0, []⟩,
  ⟨0x10400, 0x1, 1, 0x1, 1, 0x0, 0, 0, 0, 0, []⟩,
  ⟨0x10404, 0x1, 1, 0x1, 1, 0x0, 0, 0, 0, 0, []⟩,
  ⟨0x10408, 0x1, 1, 0x1, 1, 0x0, 0, 0, 0, 0, []⟩,
  ⟨0x1040c, 0x1, 1, 0x1, 1, 0x0, 0x7f7f0000, 0, 0, 0, []⟩,
  ⟨0x10410, 0x1, 1, 0x1, 1, 0x0, 0, 0, 0x7f, 0, []⟩,
  ⟨0x10420, 0x1, 1, 0x1, 1, 0x78, 0x103ff, 0, 0, 0, []⟩,
  ⟨0x10424, 0x1, 1, 0x1, 1, 0x0, 0, 0, 0, 0, []⟩,
  ⟨0x10428, 0x1, 1, 0x1, 1, 0x0, 0, 0, 0, 0, [(15, 0)]⟩,
  ⟨0x10430, 0x1, 1, 0x1, 1, 0x0, 0xffffff, 0, 0, 0, []⟩,
  ⟨0x10434, 0x1, 1, 0x1, 1, 0x0, 0xfffff, 0, 0, 0, []⟩,
  ⟨0x10438, 0x1, 1, 0x1, 1, 0x0, 0, 0, 0, 0, []⟩,
  ⟨0x1043c, 0x1, 1, 0x1, 1, 0x0, 0, 0, 0, 0, []⟩,
  ⟨0x10500, 0x4, 32, 0x1, 1, 0x8010, 0xf7f7, 0, 0, 0, []⟩,
  ⟨0x10580, 0x1, 1, 0x1, 1, 0x0, 0xffffffff, 0, 0, 0, []⟩,
  ⟨0x10584, 0x1, 1, 0x1, 1, 0x0, 0, 0, 0, 0, []⟩,
  ⟨0x10588, 0x1, 1, 0x1, 1, 0x0, 0, 0, 0xffffffff, 0, []⟩]

/-- R392. -/
def rowsVIO : List RegRow := [
  ⟨0x11000, 0x1, 1, 0x1, 1, 0x0, 0, 0, 0x7ff, 0, []⟩,
  ⟨0x11004, 0x1, 1, 0x1, 1, 0x0, 0, 0, 0, 0, []⟩,
  ⟨0x11100, 0x40, 2, 0x1, 1, 0x4, 0xff000137, 0, 0, 0, []⟩,
  ⟨0x11104, 0x40, 2, 0x1, 1, 0x1000, 0xffff, 0, 0, 0, []⟩,
  ⟨0x11108, 0x40, 2, 0x1, 1, 0xff00, 0, 0, 0, 0, []⟩,
  ⟨0x11200, 0x40, 2, 0x1, 1, 0x404, 0xff37, 0, 0, 0, []⟩,
  ⟨0x11204, 0x40, 2, 0x1, 1, 0x1047, 0xffff, 0, 0, 0, []⟩,
  ⟨0x11208, 0x40, 2, 0x1, 1, 0x0, 0, 0, 0, 0, []⟩,
  ⟨0x1120c, 0x40, 2, 0x1, 1, 0x0, 0, 0, 0, 0, [(7, 0), (15, 8), (23, 16), (31, 24)]⟩,
  ⟨0x11210, 0x40, 2, 0x1, 1, 0x0, 0, 0, 0, 0, []⟩,
  ⟨0x11400, 0x10, 16, 0x1, 1, 0x0, 0xb1ff, 0, 0, 0, []⟩,
  ⟨0x11404, 0x10, 16, 0x1, 1, 0x0, 0, 0, 0, 0, [(7, 0), (15, 8), (23, 16)]⟩,
  ⟨0x11408, 0x10, 16, 0x1, 1, 0x0, 0, 0, 0, 0, []⟩,
  ⟨0x1140c, 0x10, 16, 0x1, 1, 0x0, 0, 0, 0, 0, []⟩]

/-- R276. -/
def rowsMEN : List RegRow := [
  ⟨0x12000, 0x1, 1, 0x1, 1, 0x0, 0, 0, 0, 0, []⟩,
  ⟨0x12004, 0x1, 1, 0x1, 1, 0x2, 0, 0, 0, 0, []⟩,
  ⟨0x12008, 0x1, 1, 0x1, 1, 0x0, 0, 0, 0, 0, []⟩,
  ⟨0x1200c, 0x1, 1, 0x1, 1, 0x0, 0, 0, 0, 0, []⟩,
  ⟨0x12010, 0x1, 1, 0x1, 1, 0x0, 0, 0, 0, 0, []⟩,
  ⟨0x12014, 0x1, 1, 0x1, 1, 0x0, 0, 0, 0, 0, []⟩,
  ⟨0x12018, 0x1, 1, 0x1, 1, 0x0, 0, 0, 0, 0, []⟩,
  ⟨0x1201c, 0x1, 1, 0x1, 1, 0x0, 0, 0, 0, 0, []⟩,
  ⟨0x12020, 0x1, 1, 0x1, 1, 0x0, 0, 0, 0, 0, []⟩,
  ⟨0x12024, 0x1, 1, 0x1, 1, 0x0, 0, 0, 0, 0, [(9, 0), (15, 10), (23, 16), (31, 24)]⟩,
  ⟨0x12028, 0x1, 1, 0x1, 1, 0x0, 0, 0, 0, 0, [(15, 0)]⟩,
  ⟨0x1202c, 0x1, 1, 0x1, 1, 0x0, 0, 0, 0, 0, []⟩,
  ⟨0x12030, 0x1, 1, 0x1, 1, 0x0, 0, 0, 0, 0, []⟩,
  ⟨0x12034, 0x1, 1, 0x1, 1, 0x0, 0, 0, 0, 0, []⟩,
  ⟨0x12040, 0x4, 8, 0x1, 1, 0x0, 0, 0, 0, 0, []⟩,
  ⟨0x12060, 0x4, 12, 0x1, 1, 0x0, 0, 0, 0, 0, []⟩,
  ⟨0x12090, 0x1, 1, 0x1, 1, 0x0, 0, 0, 0, 0, []⟩,
  ⟨0x120c0, 0x4, 12, 0x1, 1, 0x0, 0, 0, 0, 0, [(15, 0)]⟩,
  ⟨0x12100, 0x8, 4, 0x1, 1, 0x0, 0, 0, 0, 0, []⟩,
  ⟨0x12104, 0x8, 4, 0x1, 1, 0x0, 0, 0, 0, 0, []⟩,
  ⟨0x12180, 0x1, 1, 0x1, 1, 0x0, 0, 0, 0, 0, []⟩,
  ⟨0x12184, 0x1, 1, 0x1, 1, 0x0, 0, 0, 0, 0, []⟩,
  ⟨0x121c0, 0x4, 16, 0x1, 1, 0x0, 0, 0, 0, 0, []⟩]


/-- The rows of the register map that a host address falls in, and the offset by which INTC target blocks are relocated. -/
def blockRows (a : Nat) : List RegRow :=
  match a / 0x1000 with
  | 0x0 => rowsSCA
  | 0x1 => if 0x1100 ≤ a then rowsINTC_T else rowsINTC
  | 0x2 => rowsRTB
  | 0x3 => rowsPSC
  | 0x4 => rowsFPP
  | 0x5 => rowsLCA
  | 0x6 => rowsLCAL
  | 0x7 => rowsPCE
  | 0x8 => rowsCSU
  | 0x9 => rowsIPL
  | 0xB => rowsCER
  | 0xC => rowsMEM
  | 0xD => rowsNVS
  | 0xE => rowsHKT
  | 0xF => rowsSDR
  | 0x10 => rowsSIO
  | 0x11 => rowsVIO
  | 0x12 => rowsMEN
  | _ => []

/-- Offset within the INTC target blocks (R406): every target's registers share one set of rows. -/
def rowKey (a : Nat) : Nat :=
  if 0x1100 ≤ a ∧ a < 0x11C0 then a - 0x1100
  else if 0x1200 ≤ a ∧ a < 0x12C0 then a - 0x1200
  else if 0x1800 ≤ a ∧ a < 0x18C0 then a - 0x1800
  else a

/-- Whether address `a` is one of the copies of row `r`. -/
def RegRow.covers (r : RegRow) (a : Nat) : Bool :=
  r.off ≤ a &&
    (let d := a - r.off
     let i := if r.n1 ≤ 1 then 0 else d / r.s1
     let e := if r.n1 ≤ 1 then d else d % r.s1
     i < r.n1 && (if r.n2 ≤ 1 then e == 0 else e % r.s2 == 0 && e / r.s2 < r.n2))

/-- The row of the register at word address `a`, if one is mapped there. -/
def findRow (a : Nat) : Option RegRow := (blockRows a).find? (·.covers (rowKey a))

end Sys2Proof.Machine
end

