-- ==== Sys2Proof/Machine/State.lean ====
section
/-! DEFINITION. Machine/State.lean: everything the spec gives the SK4128 that a command can read or change, as plain data.
Registers that software reaches by a host address stand in `regs`, one 32-bit word each; what no register shows stands in
the structures below, block by block. Indexed kinds (ports, lanes, rasters, facets ...) are sparse maps in the canonical
form of Machine/Map.lean whose unlisted keys hold the reset value. -/

namespace Sys2Proof.Machine

/-- The reset that holds the part (R473): PORST_N low, a thermal shutdown, a rail below its reset threshold, PLL0 out of lock, or a
system reset. -/
inductive Hold where
  | none | porst | thermal | supply | clock | system
deriving DecidableEq, Repr

/-! ## Rasters (spec 02) -/

/-- What a follower raster's frame started from, which its metadata marks show (R59). -/
inductive FrameStart where
  /-- At its natural end, or by a run with no lock source. -/
  | natural
  /-- Exactly at an alignment moment. -/
  | aligned
  /-- By a clamped end (R54). -/
  | slipped
  /-- At an alignment moment by a restart that truncated a frame (R57). -/
  | restarted
deriving DecidableEq, Repr

/-- One raster (R41–R59). Positions are kept as the master tick at which the current line began. -/
structure RasterSt where
  /-- Tick, frame and line of the line before the current one, which ended at `lineAt`; none where the raster was stopped until then. -/
  prev : Option (Nat × Nat × Nat) := none
  /-- RTB_STAT.running. -/
  running : Bool := false
  /-- run was set with a lock source selected: the raster holds its locus for the first alignment moment (R43). -/
  holding : Bool := false
  /-- Master tick at which the current line began. -/
  lineAt : Nat := 0
  line : Nat := 0
  /-- 32-bit frame counter. -/
  frame : Nat := 0
  /-- 16-bit epoch. -/
  epoch : Nat := 0
  /-- Active line length in slots (RTB_x_ACTIVE). -/
  lineLen : Nat := 250
  /-- Active lines per frame (RTB_x_ACTIVE). -/
  frameLines : Nat := 1250
  /-- The tick at which the last line of the frame was decided to end (R54). -/
  cutAt : Option Nat := none
  /-- How that decided end came about. -/
  cutKind : FrameStart := .natural
  /-- Frames since the one that the last alignment or restart started (R51). -/
  sinceAlign : Nat := 0
  /-- Pending alignment moments, earliest first, at most two (R53). -/
  aligns : List Nat := []
  /-- The lock settings in effect (R50); RTB_x_LOCK holds the settings as written. -/
  lock : W32 := 0x2207#32
  /-- A write to RTB_x_LOCK waits for the next frame start. -/
  lockPending : Bool := false
  /-- Lock state: 0 OFF, 1 ACQUIRE, 2 LOCKED, 3 HOLDOVER (R67). -/
  lockState : Nat := 0
  /-- Tick at which ACQUIRE was entered (R57). -/
  acqAt : Nat := 0
  /-- Consecutive missed() ends (R56). -/
  missRun : Nat := 0
  /-- Signed ticks that the most recent end_at() added (R67). -/
  lastCorr : Int := 0
  /-- How the current frame started (R59). -/
  started : FrameStart := .natural
deriving DecidableEq, Repr

/-- FSYNC ball (R60). -/
structure FsyncSt where
  /-- Level on the ball. -/
  high : Bool := false
  /-- Tick of a leading edge not yet accepted or rejected. -/
  edgeAt : Option Nat := none
  /-- Tick at which that pulse went inactive. -/
  fellAt : Option Nat := none
  /-- Tick of the last accepted edge. -/
  lastAt : Option Nat := none
  /-- The output pulse is active, and the tick at which it went active. -/
  outAt : Option Nat := none
  /-- Ticks by which lengthened slots (R55) have lengthened that pulse so far. -/
  outExt : Nat := 0
deriving DecidableEq, Repr

/-- A pulse of a comparator (R61): the tick of its match, the raster, its width in slots, and the ticks by which lengthened slots have lengthened it so far. -/
structure CmpPulse where
  at_ : Nat
  raster : Nat
  width : Nat
  ext : Nat := 0
deriving DecidableEq, Repr

/-- One comparator's running state (R61, R62); target and mode stand in its registers. -/
structure CmpSt where
  /-- Committed target. -/
  target : W64 := 0#64
  /-- Pulses that have not ended, in the order of their matches. -/
  pulses : List CmpPulse := []
  /-- Last occurrence fired, as (frame, line) of the raster plus one, so that a periodic target fires once per occurrence. -/
  lastOcc : Option (Nat × Nat) := none
  /-- First tick of the mode in its register where a write changed it while en stayed 1, and the mode until then (R62). -/
  modeFrom : Nat := 0
  modeOld : Nat := 0
deriving DecidableEq, Repr

/-! ## Pulon cores (spec 03, 04) -/

/-- What the cores asked of one semaphore in one Pulon cycle: its word before, and the cores that freed and claimed it (R92). -/
structure SemOps where
  cycle : Nat := 0
  start : Nat := 0
  frees : List Nat := []
  claims : List Nat := []
deriving DecidableEq, Repr

/-- A lift that was not ignored in a Pulon cycle: class, index and requesting core, whether the unit was fenced, the registers that the lift changed as they stood before it,
and whether MET had fenced the port for its known-answer test (R131). -/
structure LiftRec where
  cls : Nat
  i : Nat
  cycle : Nat
  core : Nat
  was : Bool := true
  regs : List (Nat × W32)
  kat : Bool
deriving DecidableEq, Repr

/-- A claim read of a Pulon cycle: its target, the source that it took, whether it cleared that source's software-pending bit, the count of empty claims before it, and the
register of SUP that a load gave its word to, with the load's first byte and size (R401). -/
structure ClaimRec where
  target : Nat
  source : Option Nat
  swp : Bool
  empty : Nat
  dest : Option (BitVec 4 × Nat × Nat) := none
deriving DecidableEq, Repr

/-- What the instructions of the present Pulon cycle have asked for, where the spec decides between the requests of one cycle (R92, R131, R401). -/
structure ArbSt where
  sems : List (Nat × SemOps) := []
  lift : Option LiftRec := none
  /-- The last fence request found its unit not fenced before its cycle. -/
  fresh : Bool := false
  /-- The claims of a Pulon cycle, latest first, and that cycle. -/
  claims : List ClaimRec := []
  claimCycle : Nat := 0
deriving DecidableEq, Repr

/-- Kind of an edge-queue entry (R80). -/
inductive EntryKind where
  | edge | strobe
deriving DecidableEq, Repr

/-- One entry of an edge queue (R80). -/
structure QEntry where
  kind : EntryKind
  target : W64
  mask : W32
  lvl : Bool
deriving DecidableEq, Repr

/-- One Pulon core (R73). -/
structure CoreSt where
  /-- W1–W15 as a map; W0 reads zero. -/
  w : List (Nat × W32) := []
  /-- L0–L3. -/
  l : List (Nat × W64) := []
  z : Bool := false
  n : Bool := false
  c : Bool := false
  v : Bool := false
  /-- Instruction index. -/
  pc : Nat := 0
  epc : Nat := 0
  /-- EFLAGS, [3] Z, [2] N, [1] C, [0] V. -/
  eflags : Nat := 0
  ie : Bool := false
  /-- A locus wait in progress and its target (R79). -/
  waiting : Option W64 := none
  /-- First tick at which the next instruction may issue. -/
  readyAt : Nat := 0
  /-- A halt waits for the end of the instruction in progress (R84). -/
  halting : Bool := false
  /-- Pending edge-queue entries in commit order (R81). -/
  queue : List QEntry := []
  /-- Watchdog line count (R94, R95). -/
  wdCnt : Nat := 0
  /-- The SUP watchdog's first stage has been reached without a kick since (R95). -/
  wdFirst : Bool := false
  /-- Received value of the most recent completed receiving PPORT unit (R125). -/
  ppRx : W32 := 0#32
  /-- The most recent unit was aborted (R125). -/
  ppAborted : Bool := false
deriving DecidableEq, Repr

/-! ## Focal-plane ports and lane converters (spec 05, 06) -/

/-- A strobe run in progress (R123, R178). -/
structure Run where
  kind : Nat
  /-- Samples still to come. -/
  left : Nat
  /-- Slot of the next sample in the current line. -/
  slot : Nat
  /-- Tick of every sample within its slot. -/
  tick : Nat
  /-- Master tick of the first sample. -/
  bornAt : Nat
  /-- Samples that have passed. -/
  done : Nat
deriving DecidableEq, Repr

/-- A pixel result on its way to the correction engine (R162), with what the receiver and the stream need beside it. -/
structure PixRes where
  /-- Tick at which it enters the PCE. -/
  at_ : Nat
  lane : Nat
  /-- Sample index n: the column is lane + step × n. -/
  n : Nat
  /-- Row r of the window. -/
  row : Nat
  tag : Nat
  mode : Nat
  legacy : Bool
  missing : Bool
  clip : Bool
  s : Nat
  b : Nat
  parS : Bool
  parB : Bool
  /-- Lane trim active at the row's line (R166). -/
  trim : W32
deriving DecidableEq, Repr

/-- A corrected pixel kept while neighbours of its row may need it (R194). -/
structure PixOut where
  cnt : Nat
  code : Nat
  flags : Nat
  /-- The flag byte as R193 forms it, before R194. -/
  own : Nat := flags
deriving DecidableEq, Repr

/-- A lane self-test in progress (R174). -/
structure SelfTest where
  /-- Step 1–4; 0 waits for the first line start. -/
  step : Nat := 0
  /-- Lines of the step already entered (settle lines, then the capture line). -/
  lines : Nat := 0
  /-- The capture line of step 4 has ended and the row close judges. -/
  judge : Bool := false
deriving DecidableEq, Repr

/-- Hidden state of port p: active copies, power sequence, sampling and the paths to the correction engine. -/
structure PortSt where
  /-- Active copies of IDLE, OUTCFG, BIAS, FMT and WIN (R137). -/
  idle : Nat := 0
  outcfg : W32 := 0x0100_0000#32
  bias : Nat := 0
  width : Nat := 1280
  height : Nat := 1024
  line0 : Nat := 0
  /-- Internal levels of E0–E11 (R134). -/
  lvl : Nat := 0
  /-- First tick in which the pins show the internal levels after a write of out_en = 1 (R134). -/
  outEnAt : Nat := 0
  /-- First tick at which a sample of FxFLT_N counts: it was unmasked, or its judgement enabled, then (R140). -/
  fltFrom : Nat := 0
  /-- A fence has begun a power-down that has not reached OFF (R150). -/
  fencedDown : Bool := false
  /-- Lines of H since the power sequence's last step (R138); 1 from the end of the settle time, in whose line the bias ramp begins. -/
  pwrLines : Nat := 0
  /-- FxVCM on. -/
  vcm : Bool := false
  /-- FxPEN active. -/
  pen : Bool := false
  /-- Power-up settle time has ended (outputs at idle, FxFLT_N unmasked). -/
  settled : Bool := false
  /-- A power-up or power-down request waits for the next line start of H. -/
  reqPending : Bool := false
  /-- Bias code 0 has been reached in a power-down. -/
  zeroed : Bool := false
  /-- The power-down has passed its step 3, at which FxPEN goes inactive (R138). -/
  penDone : Bool := false
  /-- The test DAC setting in effect: FPP_x_TEST and FPP_x_TEST_MASK at the last line start (R149). -/
  test : W32 := 0x800#32
  testMask : W32 := 0xFFFF_FFFF#32
  /-- This line has counted a discard (R144). -/
  discarded : Bool := false
  /-- This frame carried an injected test value (R149). -/
  tested : Bool := false
  /-- Strobe runs in progress. -/
  runs : List Run := []
  /-- Slot (line, slot) of the last sample taken, for the collision rule (R161). -/
  slotUsed : Option (Nat × Nat) := none
  /-- Line and slot of the last collision counted; in legacy mode the tick at which its conversion window began (R179). -/
  collided : Option (Nat × Nat) := none
  /-- Tick at which the last legacy sample was taken (R179). -/
  legacyAt : Option Nat := none
  /-- Samples per kind in the current line. -/
  kindCnt : List (Nat × Nat) := []
  /-- Samples taken of rows not yet closed, keyed by line, kind, index and lane. -/
  taken : List (Nat × Nat) := []
  /-- Pixels already emitted of rows not yet closed, keyed by line, index and lane. -/
  emitted : List (Nat × Nat) := []
  /-- Results on their way to the receiver, in order of arrival. -/
  results : List PixRes := []
  /-- Results received per lane of the row being assembled. -/
  rowCnt : List (Nat × Nat) := []
  /-- Parity errors per lane in this frame. -/
  parFrame : List (Nat × Nat) := []
  /-- Tag and count checks suspended by a restart until line 0 (R169). -/
  suspended : Bool := false
  /-- Accepted results waiting for stage 1 (R187). -/
  intake : List PixRes := []
  /-- Pixels that R194 forms, as (row, column, flags). -/
  interp : List (Nat × Nat × Nat) := []
  /-- Pixels of the rows in hand, keyed by row × 4096 + column. -/
  pix : List (Nat × PixOut) := []
  /-- Rows delivered so far in the frame. -/
  rows : Nat := 0
  /-- The frame's slot header has been written. -/
  closed : Bool := true
  selfTest : Option SelfTest := none
  /-- Armed error injection of R170 on this port's lanes: (lane, parity, tag). -/
  inj : Option (Nat × Bool × Bool) := none
  /-- Lanes whose lift waits for the next frame start (R172), bit k. -/
  liftWait : Nat := 0
  /-- Level of FxFLT_N, true when low. -/
  fltLow : Bool := false
deriving DecidableEq, Repr

/-! ## Pixel correction engine (spec 07) -/

/-- Hidden state of correction stream p. -/
structure StreamSt where
  /-- Active copies of CORR_CFG, PEDESTAL, DRIFT_REF, OUT_BASE and OUT_CFG (R205). -/
  corr : W32 := 0x1E0A#32
  ped : Nat := 0x4000
  driftRef : Nat := 300000
  outBase : Nat := 0
  outCfg : W32 := 4#32
  /-- dt of the frame, and whether it clamped (R195). -/
  dt : Int := 0
  dtSat : Bool := false
  /-- The port's diode input was fenced when FPA_T was latched. -/
  driftUnmeasured : Bool := false
  /-- Digest of the active table, 32 bytes. -/
  digest : List Byte := []
  /-- Pixels counted under R192 in this frame. -/
  underruns : Nat := 0
  tblUnderrun : Bool := false
  /-- The running wedge's target table in DRAM (byte address); largest remainders so far in the frame. -/
  wedge : Option Nat := none
  ofsRem : Nat := 0
  gainRem : Nat := 0
  /-- Every pixel of the frame so far equals its target. -/
  wedgeEq : Bool := true
  /-- The slot being written was chosen for a delivering frame. -/
  writing : Bool := false
  /-- raw_en with which each slot's frame was written, bit n. -/
  rawSlots : Nat := 0
  /-- A frame has been written since reset. -/
  began : Bool := false
  /-- Where the frame of slot n lies, once its writing has begun: DRAM address of the slot and pixels of its planes (R200). -/
  laid : List (Nat × (Nat × Nat)) := []
  /-- Columns of the frame in each slot, likewise. -/
  laidW : List (Nat × Nat) := []
  /-- Tick at which the known-answer vector in hand enters stage 1; none: it is held until the next free line (R212). -/
  katAt : Option Nat := none
deriving DecidableEq, Repr

/-- The replay engine (R210, R211). -/
structure ReplaySt where
  running : Bool := false
  port : Nat := 0
  src : Nat := 0
  dst : Nat := 0
  /-- Next pixel, in raster order. -/
  next : Nat := 0
  rows : Nat := 0
  fpaT : Nat := 0
  /-- First tick at which the next pixel may start; pixels counted under R192 and the table-underrun bit so far. -/
  readyAt : Nat := 0
  underruns : Nat := 0
  tblUnderrun : Bool := false
deriving DecidableEq, Repr

/-! ## Shutter drive (spec 17) -/

/-- Movement detection of R459. -/
inductive MoveState where
  | rise | fall | done
deriving DecidableEq, Repr

/-- A profile running or waiting on a pair (R460, R461). -/
structure ProfRun where
  prof : Nat
  /-- The trigger's raster. -/
  trig : Nat
  /-- 0 CSU; 1 SUP; 2 host. -/
  holder : Nat
  /-- The port whose flat-field triggered it. -/
  csu : Option Nat
  /-- Line starts of the profile's raster since the trigger (waiting) or since the phase began (running). -/
  lines : Nat := 0
  /-- Tick of the trigger. -/
  at_ : Nat := 0
deriving DecidableEq, Repr

/-- One pair of the shutter drive. -/
structure PairSt where
  run : Option ProfRun := none
  wait : Option ProfRun := none
  phase : Nat := 0
  /-- Tick at which the profile's first phase begins (R460). -/
  startAt : Nat := 0
  /-- Tick at which the phase began, and its slot within its line. -/
  phaseAt : Nat := 0
  phaseSlot : Nat := 0
  /-- Ticks by which lengthened slots (R55) have lengthened the phase so far. -/
  phaseExt : Nat := 0
  /-- Tick at which the current PWM period began, and the ticks by which lengthened slots have lengthened it (R457). -/
  pwmAt : Nat := 0
  pwmExt : Nat := 0
  /-- The release phase is running. -/
  releasing : Bool := false
  /-- Decay of this release: active clamp. -/
  clamp : Bool := false
  /-- The gate of the running channel was on at the end of the phase before the release. -/
  gateWas : Bool := false
  /-- Wall time of the first gate-on of the profile. -/
  onWall : Option Nat := none
  /-- Samples since the profile started. -/
  samples : Nat := 0
  move : MoveState := .rise
  peak : Nat := 0
  lo : Nat := 0
  tpeak : Nat := 0
  tmin : Nat := 0
deriving DecidableEq, Repr

/-- One channel of the shutter drive. -/
structure ChanSt where
  /-- The last three codes, newest first (R459). -/
  codes : List Nat := []
  /-- Consecutive samples at or above i_max (R463). -/
  overRun : Nat := 0
  /-- Tick of the latest sample (R454). -/
  at_ : Nat := 0
deriving DecidableEq, Repr

/-! ## Calibration and statistics (spec 08) -/

/-- Hidden state of the calibration unit for one port. -/
structure CsuSt where
  /-- ff_now was written and no flat-field has begun since. -/
  request : Bool := false
  /-- Frames for which the port has been due; 0 when it was not due at the last frame start. -/
  dueFor : Nat := 0
  /-- The due episode has been counted as refused, or as deferred. -/
  refusedEp : Bool := false
  deferredEp : Bool := false
  /-- Last judgement: eligible, and by request or force. -/
  eligible : Bool := false
  urgent : Bool := false
  /-- Frames since the last flat-field ended; none since reset. -/
  sinceFf : Option Nat := none
  /-- A flat-field has completed since reset. -/
  anchored : Bool := false
  /-- Frames since the close or open trigger. -/
  moveFrames : Nat := 0
  /-- The running flat-field has been aborted and only opens the shutter. -/
  aborted : Bool := false
  /-- Frames begun since the movement was reported, and averaging frames added. -/
  stage : Nat := 0
  averaged : Nat := 0
  fpaSum : Nat := 0
  flagSum : Nat := 0
  /-- T̄ in counts, and the mean count of the last averaging frame. -/
  tbarMean : Int := 0
  meanLevel : Nat := 0
  /-- The frame in hand is an averaging frame. -/
  avgLive : Bool := false
  /-- Slots of complete averaging frames that FF_AVERAGE_FRAME has not added yet, oldest first. -/
  avgSlots : List Nat := []
  /-- Pixels an uncorrectable memory word struck during averaging (R338). -/
  bad : List Nat := []
  /-- The target buffer in use. -/
  buf : Nat := 0
  /-- The open profile is to be triggered at the next frame start (after an abort). -/
  openPend : Bool := false
  /-- The open movement is still awaited. -/
  openWait : Bool := false
  /-- A flat-field composition runs. -/
  composing : Bool := false
  faFrame : Nat := 0
  /-- A statistics composition runs. -/
  statComposing : Bool := false
  /-- Frames since the last composition or wedge completion. -/
  updFor : Nat := 0
  /-- Frames carry "shutter"; from the next frame they carry `shutterNext`. -/
  shutter : Bool := false
  shutterNext : Bool := false
  /-- Statistics are being reseeded: the next sampled frame sets n to 0 first. -/
  reseed : Bool := false
  /-- Slot and frame counter of the last complete frame and of the one before. -/
  lastDone : Option (Nat × Nat) := none
  prevDone : Option (Nat × Nat) := none
  /-- The last complete frame is to be sampled (R229). -/
  sampleDue : Bool := false
deriving DecidableEq, Repr

/-! ## Memory system (spec 12) -/

/-- An error that a memory word carries until it is corrected or rewritten (R337, R338). -/
structure WordErr where
  /-- Not correctable: the word is poisoned. -/
  ue : Bool
  /-- SECDED syndrome that a reader sees. -/
  syn : Nat
deriving DecidableEq, Repr

/-- Hidden state of the memory system. -/
structure MemSt where
  /-- Errors of words, keyed by data address / 8, or 2^40 + band-store offset / 8. -/
  errs : List (Nat × Option WordErr) := []
  /-- The devices are being retrained after a lock loss or a system reset; requests wait (R335, R472). -/
  retraining : Bool := false
  /-- Armed injection: (band store, two bits) (R341). -/
  inj : Option (Bool × Bool) := none
  /-- A held low half per requester, by party code: data address and value (R346). -/
  held : List (Nat × Option (Nat × W32)) := []
  /-- Lines of H since the last scrub read, and since the last temperature read. -/
  scrubLines : Nat := 0
  tempLines : Nat := 0
  /-- Bursts granted in the current window, keyed by channel × 8 + class (R343). -/
  window : List (Nat × Nat) := []
  /-- Bytes moved by each class in the current frame of H (R344). -/
  moved : List (Nat × Nat) := []
  /-- Current descriptor of each DMA channel. -/
  dmaAt : List (Nat × Nat) := []
  /-- A stop command of channel d has been written, bit d. -/
  dmaStop : List (Nat × Bool) := []
  /-- Bytes that the correction streams and the replay have stored into words with an error since the writing of their slot began: word number, and bit n for byte n (R337). -/
  gather : List (Nat × Nat) := []
deriving DecidableEq, Repr

/-! ## Serial ports and GPIO (spec 13) -/

/-- A PPORT transfer unit in progress (R124). -/
structure PpUnit where
  /-- Issuing core, by index. -/
  core : Nat
  bits : Nat
  quad : Bool
  rx : Bool
  /-- Bits on the wire, 4 × the shift clocks in quad mode and as many as the unit's else; what a final nibble has below the unit is zero (R124). -/
  tx : W32
  /-- Shift clocks, and the tick of the first shift-clock edge at the earliest (R125, R126). -/
  clocks : Nat := 0
  edgeAt : Nat := 0
  /-- Pulon cycle in which it was issued, and whether the issuing core's unit before was aborted (R371). -/
  cycle : Nat := 0
  wasAborted : Bool := false
deriving DecidableEq, Repr

/-- A register reply (R360): status bits besides [7:5] and [2], and the words read. -/
structure Reply where
  status : Nat
  words : List W32
  /-- At least one early frame has been discarded since the replying frame. -/
  early : Bool := false
deriving DecidableEq, Repr

/-- The boot ROM's load of SUP (R91, R367 to R369): the source in use, whether it loads, and the image bytes received so far from a flash or as units of a host push. -/
structure BootSt where
  src : Nat := 0
  loading : Bool := false
  data : List Byte := []
  /-- Bits of the flash's read command sent, their value, and dummy clocks after it (R367). -/
  cmdBits : Nat := 0
  cmd : Nat := 0
  dummy : Nat := 0
deriving DecidableEq, Repr

/-- Hidden state of SIO. -/
structure SioSt where
  /-- Pulon cycle in which SUP last drove select pins, and their mask (R126). -/
  supDrove : Nat × Nat := (0, 0)
  /-- The boot ROM's load. -/
  boot : BootSt := {}
  /-- Receive and transmit FIFOs, head first (R364). -/
  rxq : List W32 := []
  txq : List W32 := []
  /-- A reply that waits for the next register frame. -/
  reply : Option Reply := none
  /-- Accesses of a frame still run; their reply. -/
  running : Option Reply := none
  /-- MISO bytes of the last register frame, or byte 0 of the raw-word frame after it; MISO bits of the last raw-word unit. -/
  miso : List Byte := []
  misoUnit : W32 := 0#32
  ppUnit : Option PpUnit := none
  /-- The bulk engine runs; its mode. -/
  bulk : Option Bool := none
  /-- Levels that GSEL has given the select pins, and edge entries the timed outputs (R374). -/
  sel : W32 := 0#32
  timed : W32 := 0#32
  /-- What the board drives on each pin; none: nothing. -/
  ext : List (Nat × Option Bool) := []
  /-- Level each pin's edge detection last saw. -/
  seen : W32 := 0xFFFF_FFFF#32
deriving DecidableEq, Repr

/-! ## Image pipeline (spec 10) -/

/-- A frame that a facet holds (R279–R281). -/
structure FacetFrame where
  /-- Slot of the input ring. -/
  slot : Nat
  /-- Frame counter of its output header. -/
  cnt : Nat
  w : Nat
  /-- Lines delivered, and lines of the output frame. -/
  rows : Nat
  h : Nat
  portFenced : Bool := false
  long : Bool := false
  /-- Visible frames were missed before this one (R388). -/
  missed : Bool := false
  /-- Received during a disturbed interval of the supply (R470). -/
  supply : Bool := false
  /-- A visible frame that started at the reduced clock (R478). -/
  slow : Bool := false
  /-- Line starts of the facet's deadline raster since the arrival (R288). -/
  age : Nat := 0
  urgent : Bool := false
  /-- DRAM address of its input slot, and for a thermal frame the pixels of the slot's planes. -/
  base : Nat := 0
  pix : Nat := 0
deriving DecidableEq, Repr

/-- A frame in progress. -/
structure FacetRun where
  frame : FacetFrame
  /-- Band in progress, or the next one. -/
  band : Nat := 0
  /-- Some band ran while the history was invalid. -/
  seeded : Bool := false
  /-- The history was invalidated after the frame had begun. -/
  cleared : Bool := false
  throttled : Bool := false
  /-- The frame ends without output at the end of its band (R282, R283). -/
  abandon : Bool := false
  /-- Stage-3 statistics so far: minimum, maximum, sum, pixels. -/
  lo : Nat := 65535
  hi : Nat := 0
  sum : Nat := 0
  n : Nat := 0
  /-- Block means of the bands done, keyed by block row × 256 + block column. -/
  means : List (Nat × Nat) := []
deriving DecidableEq, Repr

/-- Hidden state of facet f. -/
structure FacetSt where
  credit : Int := 0
  waiting : List FacetFrame := []
  run : Option FacetRun := none
  /-- The history holds the previous processed frame (R293); which of the two planes it is. -/
  histValid : Bool := false
  histSel : Bool := false
  /-- Width and rows of the last processed frame. -/
  lastW : Nat := 0
  lastRows : Nat := 0
  /-- Block means of the previous processed frame, and whether that frame had a valid history (R294). -/
  means : List (Nat × Nat) := []
  meansOk : Bool := false
  /-- Tick at which a bank copy began. -/
  syncAt : Nat := 0
deriving DecidableEq, Repr

/-- Hidden state of the image pipeline. -/
structure IplSt where
  facets : List (Nat × FacetSt) := []
  /-- Facet whose band runs, and the tick at which it ends. -/
  band : Option Nat := none
  endAt : Nat := 0
  /-- First tick at which the next band may begin (R301). -/
  freeAt : Nat := 0
  /-- Facet whose context the pipeline holds, and whether that context's frame has bands left (R284, R285). -/
  loaded : Option Nat := none
  cont : Bool := false
  /-- Facet chosen whose band has not begun, in the idle gap of the throttle; and the tick at which the band in hand, or that one, starts (R287, R301). -/
  chosen : Option Nat := none
  startAt : Nat := 0
  /-- DRAM addresses of the output slots that hold a complete frame, by facet × 16 + slot (R300). -/
  outAt : List (Nat × Nat) := []
  /-- Active copies of the shadowed registers, by register address (R285). -/
  act : List (Nat × W32) := []
  /-- Table banks, keyed by bank × 2^20 + facet × 32768 + byte offset (R286). -/
  banks : List (Nat × W32) := []
  /-- Busy ticks in the current frame of H; the tick from which the running band counts; the tick at which that frame of H began. -/
  busy : Nat := 0
  busyFrom : Nat := 0
  frameAt : Nat := 0
deriving DecidableEq, Repr

/-! ## Compression engine and recorder (spec 11) -/

/-- A frame that a stream (unit 0–15) or a recorder (unit 16 + x) codes. -/
structure CerJob where
  id : Nat
  unit : Nat
  port : Nat
  slot : Nat
  /-- 0 raw, 1 count, 2 code. -/
  plane : Nat
  frame : Nat
  epoch : Nat
  w : Nat
  h : Nat
  /-- Ticks at which tile rows 0, 1, … became codable (R317). -/
  codable : List Nat := []
  /-- Rows delivered, once the slot header is written. -/
  rows : Option Nat := none
  /-- The next tile row to code. -/
  row : Nat := 0
  /-- The first tile has been coded: δ, the reservation and the place in the ring stand. -/
  started : Bool := false
  delta : Nat := 0
  /-- Bytes of the ring reserved for the frame (R320). -/
  need : Nat := 0
  /-- Bytes released so far, the frame header included, and tile records among them; the released bytes that wait for the unit's frame before to close. -/
  len : Nat := 32
  out : List Byte := []
  tiles : Nat := 0
  incomplete : Bool := false
  /-- Coded tiles that wait for verification. -/
  waiting : Nat := 0
  /-- No further tile of the frame will be coded. -/
  ended : Bool := false
  /-- A replayed frame appended by a recorder (R324). -/
  replay : Bool := false
deriving DecidableEq, Repr

/-- A coded tile that waits for its decoder lane (R315). -/
structure CodedTile where
  job : Nat
  unit : Nat
  /-- Header bytes 0–2 and 5 with raw = 0, as a number of four bytes. -/
  head : Nat
  delta : Nat
  w : Nat
  h : Nat
  /-- Tick at which it was coded. -/
  at_ : Nat
  /-- Original samples in raster order, the coder's reconstruction, and the coded payload. -/
  x : List Nat
  r : List Nat
  payload : List Byte
deriving DecidableEq, Repr

/-- One coder with its decoder lane. -/
structure CoderSt where
  /-- Tile row in hand: job, row, next tile column. -/
  cur : Option (Nat × Nat × Nat) := none
  /-- First tick at which the coder's next tile can start. -/
  codeAt : Nat := 0
  queue : List CodedTile := []
  /-- Busy ticks in the current frame of H, and verification failures in it. -/
  busy : Nat := 0
  fails : Nat := 0
deriving DecidableEq, Repr

/-- A complete frame record in a ring. -/
structure RingRec where
  /-- Offset in the ring, length, and frame counter. -/
  off : Nat
  len : Nat
  frame : Nat
  replay : Bool := false
deriving DecidableEq, Repr

/-- The ring of a stream or a recorder. -/
structure RingSt where
  /-- Offset at which the next record begins. -/
  wr : Nat := 0
  /-- Bytes of complete records, and bytes reserved for the record being written. -/
  used : Nat := 0
  held : Nat := 0
  recs : List RingRec := []
  /-- Records of the running export that are sent. -/
  sent : Nat := 0
  /-- Tick of the trigger that the recorder holds (R323). -/
  trigAt : Nat := 0
deriving DecidableEq, Repr

/-- Hidden state of the CER. -/
structure CerSt where
  jobs : List CerJob := []
  nextId : Nat := 0
  coders : List (Nat × CoderSt) := []
  rings : List (Nat × RingSt) := []
  /-- Tick at which the current frame of H began. -/
  frameAt : Nat := 0
deriving DecidableEq, Repr

/-! ## Metrology enclave (spec 09) -/

/-- An audit entry that gathers occurrences until the end of the frame of H (R244). -/
structure AuditOpen where
  cls : Nat
  kind : Nat
  item : Nat
  old : Nat
  new : Nat
  count : Nat
  /-- Frames of H begun since power-on when it was opened. -/
  frame : Nat := 0
deriving DecidableEq, Repr

/-- One zone of a facet (R258, R259). -/
structure ZoneSt where
  absOn : Bool := false
  rateOn : Bool := false
  /-- Conditions in the last measured frame. -/
  absCond : Bool := false
  rateCond : Bool := false
  /-- Consecutive measured frames without the condition. -/
  absOff : Nat := 0
  rateOff : Nat := 0
  /-- Values of the last measured frame: counting pixels, maximum, minimum, mean, place of the maximum, pixels at or above thr, excluded pixels. -/
  n : Nat := 0
  max : Nat := 0
  min : Nat := 0
  mean : Nat := 0
  col : Nat := 0
  row : Nat := 0
  above : Nat := 0
  excluded : Nat := 0
  /-- Maxima of measured frames, newest first, by frame counter. -/
  hist : List (Nat × Nat) := []
deriving DecidableEq, Repr

/-- What a record says of the frame it is built from (R264). -/
structure RecFrame where
  frame : Nat
  epoch : Nat
  /-- Marks of R382. -/
  marks : Nat
  settling : Bool
  bound : Nat
deriving DecidableEq, Repr

/-- The enclave's view of one facet. -/
structure FacetMen where
  /-- Pins held active by hits of the frame in hand, and those of them that were inactive when hit (R260). -/
  hits : Nat := 0
  pulses : Nat := 0
  /-- Frames since the port last passed a known-answer test, and whether it has passed one since it started. -/
  since : Nat := 0xFFFF
  passed : Bool := false
  /-- The vector to repeat after a first mismatch (R271). -/
  again : Option (List KatItem) := none
  /-- MET has fenced the port after a known-answer failure. -/
  katFence : Bool := false
  /-- The last measured frame of the record period. -/
  last : Option RecFrame := none
  /-- The frame in hand is still to be confirmed, and it did not deliver (R258, R259). -/
  confirm : Bool := false
  blank : Bool := false
  /-- MEN_FACET.excluded has been judged for the frame in hand. -/
  judged : Bool := true
  /-- A known-answer vector is due (R270), and the frame in hand has taken one. -/
  katDue : Bool := false
  katDone : Bool := false
deriving DecidableEq, Repr

/-- Hidden state of the metrology enclave. -/
structure MenSt where
  /-- MET runs: firmware verified, self-test passed or judged, parameters loaded. -/
  up : Bool := false
  /-- Signals of MET that wait in its private controller, bit c (R99). -/
  sig : Nat := 0
  /-- An enclave reset has happened and MET has not run since. -/
  wasReset : Bool := false
  /-- The first SEAL_N decision since a power-on reset has been made (R240). -/
  decided : Bool := false
  /-- Zone descriptors, keyed by facet × 64 + zone; empty: undefined (R256). -/
  zones : List (Nat × List Byte) := []
  /-- Exclusion planes, keyed by facet × 81,920 + row × 160 + byte (R257). -/
  masks : List Host.Cell := []
  /-- Active copies of the descriptors and planes in the streams, same keys, and the arm bits of their shadows above, bit x (R24, R25). -/
  winAct : List (Nat × List Byte) := []
  maskAct : List Host.Cell := []
  winArm : Nat := 0
  /-- Evidential mask (R269). -/
  evid : Nat := 0
  /-- Record configuration, 32 bytes; empty: the defaults of R268. -/
  recCfg : List Byte := []
  timeKey : List Byte := []
  pubKey : List Byte := []
  /-- The private key of that public key in P1; 0: none (R252). -/
  privKey : Nat := 0
  /-- Firmware image written by an accepted update; none: the one installed at manufacture. -/
  image : Option (List Byte) := none
  /-- Staged curve samples by port (R262). -/
  staging : List (Nat × List W32) := []
  /-- Open audit entries, oldest first; the trail by index; entries committed since manufacture. -/
  opens : List AuditOpen := []
  trail : List (Nat × List Byte) := []
  entries : Nat := 0
  /-- Digest of the program that each SQ core last started. -/
  lastProg : List (Nat × List Byte) := []
  /-- UTC at the last accepted time message in ms, and the wall time then (R255). -/
  utc : Nat := 0
  utcWall : Nat := 0
  /-- Parameter digest of the last identity computation. -/
  digest : List Byte := []
  /-- Items of P1 whose two copies differ, by item code (R273). -/
  p1Bad : List Nat := []
  /-- The self-test at the last start failed. -/
  testFail : Bool := false
  /-- The firmware failed its verification, and the enclave stays in BOOT until it is reset (R274). -/
  fwFail : Bool := false
  /-- Record bodies that wait for the signer, and signed records that wait for the video port (R266). -/
  built : List (List Byte) := []
  queue : List (List Byte) := []
  /-- Blocks of 4,096 sequence numbers reserved since manufacture; numbers left in the current block, and the next one (R267). -/
  blocks : Nat := 0
  left : Nat := 0
  next : Nat := 0
  /-- A record has been lost since the last one built. -/
  lostBit : Bool := false
  zone : List (Nat × ZoneSt) := []
  facets : List (Nat × FacetMen) := []
  /-- Frame of H of the last accepted RETRY_KAT, by port (R271). -/
  retryAt : List (Nat × Option Nat) := []
  /-- A request in progress (R247): sequence number, opcode, payload, and whether the seal was OPEN when it started. -/
  busy : Option (Nat × Nat × List Byte × Bool) := none
  /-- The seal has left OPEN while that request was in progress (R262). -/
  leftOpen : Bool := false
  /-- Frames of H since the enclave started. -/
  frames : Nat := 0
deriving DecidableEq, Repr

/-! ## Video ports (spec 13) -/

/-- A unit that an output stream is sending (R377). -/
structure TxFrame where
  /-- Source kind and index when it began. -/
  kind : Nat
  index : Nat
  /-- Slot (kinds 0, 1), or offset and length of a frame record (kinds 2, 4). -/
  slot : Nat := 0
  off : Nat := 0
  len : Nat := 0
  /-- Frame counter, and CSI-2 frame number. -/
  cnt : Nat := 0
  /-- Long packets still to come: metadata header, payload packets from number `next` of `total`, trailer. -/
  head : Bool := false
  next : Nat := 0
  total : Nat := 0
  trailer : Bool := false
  truncated : Bool := false
  memerr : Bool := false
  /-- As it began: columns and rows with data of a slot, its address, that of its first payload line, the bytes of a line and from line to line (kinds 0, 1); the packet size (kinds 2, 4). -/
  w : Nat := 0
  data : Nat := 0
  base : Nat := 0
  pay : Nat := 0
  row : Nat := 0
  step : Nat := 0
  pkt : Nat := 1
deriving DecidableEq, Repr

/-- An output stream (R377–R379). -/
structure TxStream where
  cur : Option TxFrame := none
  /-- Number of the last complete frame of its source that it has sent or passed over. -/
  seen : Nat := 0
deriving DecidableEq, Repr

/-- The last long packet that a transmit port has sent: virtual channel, data type, payload, whether a frame start preceded or a frame end followed it, the error code of its
header and the CRC of its payload, and the error codes of that frame start and frame end, 0 where none is sent (R351, R376). -/
structure TxPacket where
  vc : Nat
  dt : Nat
  frame : Nat
  start : Bool
  ends : Bool
  body : List Byte
  ecc : Nat
  crc : Nat
  startEcc : Nat := 0
  endEcc : Nat := 0
deriving DecidableEq, Repr

/-- A transmit port. -/
structure TxPort where
  pkt : Option TxPacket := none
  /-- The stream served last in each class (R380), by class, plus one. -/
  last : List (Nat × Nat) := []
  /-- Frame number per virtual channel (R376). -/
  number : List (Nat × Nat) := []
  /-- Busy time in the frame of H, in units of 1/135 ns. -/
  busy : Nat := 0
  /-- Lines of H since the last skew calibration. -/
  lines : Nat := 0
deriving DecidableEq, Repr

/-- A receive port (R385–R388). -/
structure RxPort where
  /-- Slot being written. -/
  slot : Nat := 0
  /-- Lines received, whether one was short or missing, whether there was an excess, and errors, of the open frame. -/
  line : Nat := 0
  short : Bool := false
  long : Bool := false
  errs : Nat := 0
  /-- A disturbed interval of the supply overlaps the open frame (R470). -/
  supply : Bool := false
  /-- The open frame has started at the reduced clock (R478). -/
  slow : Bool := false
  /-- The next frame delivered carries "visible frames missed". -/
  missed : Bool := false
  /-- Lines of H since the fence or the last missed frame counted. -/
  lines : Nat := 0
  /-- It has met a frame start since en was set or its fence was lifted (R385, R388). -/
  joined : Bool := false
deriving DecidableEq, Repr

/-- Hidden state of the VIO. -/
structure VioSt where
  streams : List (Nat × TxStream) := []
  tx : List (Nat × TxPort) := []
  rx : List (Nat × RxPort) := []
  /-- Complete frames of facet f (key f) and of correction stream p (key 8 + p) since reset. -/
  done : List (Nat × Nat) := []
  /-- Wall time at which the current frame of H began. -/
  frameWall : Nat := 0
deriving DecidableEq, Repr

/-! ## Interrupt controller (spec 14) -/

/-- A source in service (R398, R403). -/
structure Serv where
  /-- 1 H0, 2 H1, 3 S. -/
  target : Nat
  /-- The source's level was asserted at the claim. -/
  level : Bool
  /-- The claiming target has accessed the source's block since. -/
  accessed : Bool := false
  /-- The pending state fell to 0 before such an access. -/
  fell : Bool := false
deriving DecidableEq, Repr

/-- Hidden state of the INTC, and what leaves it. -/
structure IntcSt where
  /-- Sources in service, by number. -/
  serv : List (Nat × Option Serv) := []
  /-- Running holdoffs, keyed by target × 16 + group: line starts left and the raster that was set at the completion. -/
  hold : List (Nat × Option (Nat × Nat)) := []
deriving DecidableEq, Repr

/-- A hash in progress (R86, R204): the tick at which it began, and the bytes that it has read, in order. -/
structure HashRun where
  start : Nat
  got : List Byte := []
deriving DecidableEq, Repr

/-- Lines that follow the state at once: interrupt pins and request, alarm pins, the latch of R49, and the hashes in progress. -/
structure Lines where
  /-- HIRQ0_N is low, HIRQ1_N is low, SUP is requested (R396). -/
  hirq0 : Bool := false
  hirq1 : Bool := false
  sup : Bool := false
  /-- Levels of MALARM3–MALARM0 (R260). -/
  malarm : Nat := 0
  /-- Logic levels of HS3–HS0 (R453). -/
  hs : Nat := 0
  /-- The counting duration counters whose raster is stopped, each as counter number × 8 + raster code (R49), and the latch of RTB_EVT.subst. -/
  subst : List Nat := []
  substEvt : Bool := false
  /-- The sources claimable at the start of a Pulon cycle, each as target × 128 + number, and that cycle plus one (R400). -/
  startable : List Nat := []
  startCycle : Nat := 0
  /-- Hashes in progress (R86, R204): of core q's program under q, of port p's table under 4 + p. -/
  hashes : List (Nat × Option HashRun) := []
deriving DecidableEq, Repr

/-! ## Non-volatile store (spec 15) -/

/-- A write command (R412). -/
structure NvsCmd where
  op : Nat
  page : Nat
  group : Nat
  slot : Nat
deriving DecidableEq, Repr

/-- The write that the engine runs (R413–R415). -/
structure NvsRun where
  /-- MET's command; otherwise SUP's. -/
  met : Bool
  cmd : NvsCmd
  /-- Its group writes, as they stood when the write began; none: an INCR of a corrupt counter. -/
  steps : Option (List (Nat × List Byte)) := none
  /-- Attempts that have failed. -/
  fails : Nat := 0
  /-- The last attempt has failed and this many line starts of H remain before the retry. -/
  retry : Option Nat := none
  /-- MET's, and an enclave reset has taken MET's copy of the registers since: the result is lost (R417). -/
  lost : Bool := false
deriving DecidableEq, Repr

/-- Hidden metadata of a page (R424). -/
structure PageMeta where
  pageWrites : Nat := 0
  groupWrites : Nat := 0
  last : Nat := 0
  largest : Nat := 0
  counter : Bool := false
  /-- Retirement cause: 0 none, 1 verify, 2 request. -/
  retired : Nat := 0
deriving DecidableEq, Repr

/-- The non-volatile store. -/
structure NvsSt where
  /-- The array, keyed by page × 2,048 + byte. -/
  arr : List Host.Cell := []
  /-- Write buffers of SUP's side and of MET's copy. -/
  wbuf : List Host.Cell := []
  mbuf : List Host.Cell := []
  /-- MET's copy of the registers, keyed by the host address of the original. -/
  mregs : List (Nat × W32) := []
  pages : List (Nat × PageMeta) := []
  /-- Groups whose write a reset or a failed attempt cut short, keyed by page × 256 + group. -/
  torn : List (Nat × Bool) := []
  run : Option NvsRun := none
  pendS : Option NvsCmd := none
  pendM : Option NvsCmd := none
  /-- A write attempt began before the warning in force and finishes on the hold-up; its later steps are abandoned, after this many are done (R425). -/
  cut : Option Nat := none
  /-- The page that had no erased slot at a thermal shutdown (R427), and at a dip (R471), until it is erased. -/
  shdnFull : Option Nat := none
  logFull : Option Nat := none
deriving DecidableEq, Repr

/-! ## Housekeeping and thermal (spec 16) -/

/-- A decided thermal shutdown (R445–R448). -/
structure Shutdown where
  cause : Nat
  chan : Nat
  /-- Trip and release in use, °C. -/
  trip : Nat
  release : Nat
  /-- The shutdown record. -/
  record : List Byte
  /-- Recall was over at the decision. -/
  ready : Bool := true
deriving DecidableEq, Repr

/-- Hidden state of the HKT. -/
structure HkSt where
  /-- Line starts of the counted raster since reset. -/
  count : Nat := 0
  /-- Rounds started since reset. -/
  rounds : Nat := 0
  /-- Channels of the running round still to convert; the head converts. -/
  todo : List Nat := []
  /-- Channels of the running round. -/
  inRound : List Nat := []
  /-- The head's normal conversion has ended and its open-wire check runs; this round runs checks. -/
  checking : Bool := false
  owRound : Bool := false
  /-- A fence struck during the head's conversion (R442). -/
  struck : Bool := false
  /-- A round came due at the last counted line start; a round came due during an urgent conversion. -/
  lineDue : Bool := false
  due : Bool := false
  /-- Channel registers in effect for the running round, by address. -/
  act : List (Nat × W32) := []
  /-- Urgent conversion: channel, CFG and CAL at its start. -/
  urgent : Option (Nat × W32 × W32) := none
  /-- Results of successive rounds per channel, newest first (R439). -/
  hist : List (Nat × List Int) := []
  /-- Rounds for which a channel is still rate-violating. -/
  viol : List (Nat × Nat) := []
  /-- Raster and length of the running grace period (R444). -/
  graceRaster : Nat := 4
  graceDue : Bool := false
  shdn : Option Shutdown := none
deriving DecidableEq, Repr

/-! ## Supplies, reset and ageing (spec 18) -/

/-- Hidden state of the SCA. -/
structure ScaSt where
  /-- Rails that warned in this dip; frame counter and line of H at its first warning; disturbed lines so far; NVS commands abandoned. -/
  rails : Nat := 0
  dipFrame : Nat := 0
  dipLine : Nat := 0
  lines : Nat := 0
  lost : Nat := 0
  /-- Wall time since which no warning has been asserted. -/
  quiet : Nat := 0
  /-- Voltage code in effect, and whether a written code waits (R475). -/
  code : Nat := 0
  avsWait : Bool := false
  /-- Frames of H since the last due ageing pass, and whether a due pass waits for a dip's end. -/
  ageFrames : Nat := 0
  ageWait : Bool := false
  /-- BOOT[2:0] at the last sample. -/
  boot : Nat := 0
  /-- The master clock runs at 2.700 GHz, from the start of the ramp (R478). -/
  slow : Bool := false
  /-- Wall times at which the running ageing pass and the clock ramp began. -/
  ageAt : Nat := 0
  rampAt : Nat := 0
  /-- PORST_N is low; a rail is below its reset level; PLL0 is out of lock (R468, R469, R472). -/
  pinLow : Bool := true
  railLow : Bool := false
  pllLow : Bool := false
  /-- Tick of the last reset, and the cause bits of the resets that coincided in it (R474). -/
  resetAt : Option (Nat × List Nat) := none
deriving DecidableEq, Repr

/-- Why the machine would stop. The spec has no such case: an access it does not allow reads zero or is ignored (R31), and a
core's fault is an event inside the part (R83). No meaning raises the one constructor below; it is safe. -/
inductive Fault where
  /-- Raised by nobody: kept so that the type names its one possible kind of stop. Safe. -/
  | none
deriving DecidableEq, Repr

/-- Why a command would have no meaning. -/
inductive Refusal where
  /-- Raised only by an arm of exec whose command has no meaning in this model yet, by mnemonic. Safe: the run stops. -/
  | notModelled (mnemonic : String)
deriving DecidableEq, Repr

/-- The state of one SK4128 and of the commands that wait for it. -/
structure State where
  /-- Host-address registers, keyed by word address; an unlisted one holds its reset value (`regReset`). -/
  regs : List (Nat × W32) := []
  /-- Master ticks since power-on (R12, R27). -/
  now : Nat := 0
  /-- Elapsed time in units of 1/27 ns: 9 a tick at 3.000 GHz, 10 at 2.700 GHz (R28). -/
  wall : Nat := 0
  /-- The part is an SK4128-M-E (R1); false: SK4128-N-E. (DESIGN CHOICE, log entry 1.) -/
  variantM : Bool := true
  /-- The model's own counter from which free values are drawn. (DESIGN CHOICE, log entry 8.) -/
  freeCtr : Nat := 0
  /-- The reset that holds the part, if any (R473). -/
  hold : Hold := .porst
  /-- Read latches of wide values, keyed by party code × 2^24 + word address (R34). -/
  rlatch : List (Nat × W32) := []
  /-- Write latches of wide values, same keys (R35); a listed key has been written since the last commit. -/
  wlatch : List (Nat × W32) := []
  /-- Rasters A, B, C, D, H by code (R45). -/
  rasters : List (Nat × RasterSt) := []
  fsync : FsyncSt := {}
  /-- Comparators 0–7. -/
  cmps : List (Nat × CmpSt) := []
  /-- Pulon cores by index: 0–3 SQ, 4 SUP, 5 MET. -/
  cores : List (Nat × CoreSt) := []
  /-- Instruction memories, keyed by core index × 2^20 + byte address. -/
  imem : List Host.Cell := []
  /-- Data memories, same keys. -/
  dmem : List Host.Cell := []
  /-- DRAM data space, keyed by data address (R333). -/
  dram : List Host.Cell := []
  /-- Band store, keyed by band-store offset (R348). -/
  band : List Host.Cell := []
  /-- Ports A–D. -/
  ports : List (Nat × PortSt) := []
  /-- Correction streams 0–3. -/
  streams : List (Nat × StreamSt) := []
  replay : ReplaySt := {}
  /-- Active radiometric coefficients, keyed by (port × 64 + segment) × 4 + coefficient (R196). -/
  coefAct : List (Nat × Int) := []
  /-- Their shadow set (R197, R198). -/
  coefShadow : List (Nat × Int) := []
  /-- MET's arm bits of the coefficient shadows, bit p (R197). -/
  coefArm : Nat := 0
  /-- Reference digests of the port tables that the enclave holds, by port; empty: none (R204). -/
  tblRef : List (Nat × List Byte) := []
  /-- Reference digests of the SQ programs, by core; empty: none (R87). -/
  progRef : List (Nat × List Byte) := []
  /-- Known-answer vectors injected and not yet judged, by port (R212). -/
  kat : List (Nat × List KatItem) := []
  /-- Pairs and channels of the shutter drive. -/
  pairs : List (Nat × PairSt) := []
  chans : List (Nat × ChanSt) := []
  /-- Calibration unit, by port. -/
  csu : List (Nat × CsuSt) := []
  /-- Metadata marks of the frame in each slot, keyed by port × 16 + slot, and of the frame in hand, keyed by 64 + port (R383). -/
  marks : List (Nat × Nat) := []
  mem : MemSt := {}
  sio : SioSt := {}
  ipl : IplSt := {}
  cer : CerSt := {}
  men : MenSt := {}
  vio : VioSt := {}
  intc : IntcSt := {}
  lines : Lines := {}
  nvs : NvsSt := {}
  hk : HkSt := {}
  sca : ScaSt := {}
  /-- Class, index and Pulon cycle of the last fence request that took effect (R131). -/
  lastFence : Option (Nat × Nat × Nat) := none
  arb : ArbSt := {}
  /-- Data that the last read of each party returned, by party code. -/
  rdata : List (Nat × W32) := []
  /-- Commands waiting, first in, first out. -/
  pending : List Instr := []
deriving DecidableEq, Repr

/-- The machine right after power is applied, PORST_N still low: every register at its reset value (an unlisted register
holds it) but SCA_RST_CAUSE, which names the power-on reset (R473, R483); every memory with nothing listed, no command waiting.
(DEDUCED, log entry 13; DESIGN CHOICE, log entries 1, 4 and 5.) -/
def State.reset : State := { regs := [(0xC, 1#32)] }

end Sys2Proof.Machine
end

