-- ==== Sys2Proof/Machine/Ops.lean ====
section
/-! DEFINITION. Machine/Ops.lean: the named operations over registers, indexed state and memories that every block uses. -/

namespace Sys2Proof.Machine
open R

/-! ## Registers -/

/-- Reset value of housekeeping channel registers CFG, LO, HI and HYST (R450, R451): `k` is 0, 8, 12 or 16. -/
def hkReset (c k : Nat) : Nat :=
  match k with
  | 0 => if c ≤ 3 then 0x0004_0003 else if c < 20 then 0 else if c < 24 then 0x4000_0004 else 5
  | 8 => if 20 ≤ c ∧ c < 24 then 0x0003_7B36 else 0x80_0000
  | 12 => if 20 ≤ c ∧ c < 24 then 0x0005_B19E else 0x7F_FFFF
  | 16 => if 20 ≤ c ∧ c < 24 then 2000 else 0
  | _ => 0

/-- Reset owner of each ownership group, as its R19 code (R21). -/
def ownerReset (n : Nat) : Nat :=
  match n with
  | 1 => 0 | 22 => 0
  | 5 => 4 | 6 => 5 | 7 => 6 | 8 => 7
  | 10 => 4 | 11 => 5 | 12 => 6 | 13 => 7
  | 25 => 2
  | 29 => 0 | 30 => 0 | 31 => 0
  | _ => 1

/-- Reset values that depend on the index of the copy. -/
def indexedReset (a : Nat) : Option Nat :=
  if a = RTB_CTL 4 then some 1
  else if PSC_OWN 0 ≤ a ∧ a ≤ PSC_OWN 31 then some (ownerReset ((a - PSC_OWN 0) / 4))
  else if a = CSU_SHT_CFG 0 ∨ a = CSU_SHT_CFG 1 ∨ a = CSU_SHT_CFG 2 ∨ a = CSU_SHT_CFG 3 then
    some (0x610 + 0x10000 * ((a - CSU_SHT_CFG 0) / 0x80))
  else if IPL_SCHED 0 ≤ a ∧ a ≤ IPL_SCHED 5 ∧ (a - IPL_SCHED 0) % 0x100 = 0 then some (0x404 + 0x10 * ((a - IPL_SCHED 0) / 0x100))
  else if a = CER_REC_CFG 2 ∨ a = CER_REC_CFG 3 then some 0x1E780E
  else if a = SDR_PRF_CFG 0 then some 0x4880
  else if HKT_CH_CFG 0 ≤ a ∧ a < HKT_CH_CFG 28 ∧
      ((a - HKT_CH_CFG 0) % 32 = 0 ∨ (a - HKT_CH_CFG 0) % 32 = 8 ∨ (a - HKT_CH_CFG 0) % 32 = 12 ∨ (a - HKT_CH_CFG 0) % 32 = 16) then
    some (hkReset ((a - HKT_CH_CFG 0) / 32) ((a - HKT_CH_CFG 0) % 32))
  else none

/-- The reset value of the register at word address `a`; an address that maps no register holds zero (R8). (DESIGN CHOICE, log entry 5.) -/
def regReset (a : Nat) : W32 :=
  match indexedReset a with
  | some v => BitVec.ofNat 32 v
  | none => match findRow a with
    | some r => BitVec.ofNat 32 r.rst
    | none => 0#32

namespace State

/-- The word that register `a` holds. -/
def reg (s : State) (a : Nat) : W32 := Map.get regReset s.regs a

/-- Register `a` holding `v`. -/
def setReg (s : State) (a : Nat) (v : W32) : State := { s with regs := Map.set regReset s.regs a v }

/-- A field's value. -/
def get (s : State) (f : Field) : Nat := bitsOf (s.reg f.addr) f.hi f.lo

/-- A field replaced. -/
def put (s : State) (f : Field) (v : Nat) : State := s.setReg f.addr (withBits (s.reg f.addr) f.hi f.lo v)

/-- Whether bit `i` of a field is 1. -/
def bit (s : State) (f : Field) (i : Nat := 0) : Bool := s.get f / 2 ^ i % 2 = 1

/-- Bit `i` of a field set. -/
def setBit (s : State) (f : Field) (i : Nat := 0) : State := if s.bit f i then s else s.put f (s.get f + 2 ^ i)

/-- Bit `i` of a field cleared. -/
def clrBit (s : State) (f : Field) (i : Nat := 0) : State := if s.bit f i then s.put f (s.get f - 2 ^ i) else s

/-- Bit `i` of a field set to `b`. -/
def wrBit (s : State) (f : Field) (i : Nat) (b : Bool) : State := if b then s.setBit f i else s.clrBit f i

/-- A counter field counts up and saturates at all ones (R36). -/
def bump (s : State) (f : Field) : State := s.put f (sat (2 ^ (f.hi - f.lo + 1) - 1) (s.get f + 1))

/-- The whole register as a number. -/
def num (s : State) (a : Nat) : Nat := (s.reg a).toNat

/-- Register `a` set to a number. -/
def setNum (s : State) (a v : Nat) : State := s.setReg a (BitVec.ofNat 32 v)

/-- The counter of the free values advanced. (DESIGN CHOICE, log entry 8.) -/
def drawn (s : State) : State := { s with freeCtr := s.freeCtr + 1 }

/-! ## Time -/

/-- The clock moves forward to tick `t`; it never moves back. Wall time grows by 9 units of 1/27 ns a tick, or 10 at the
reduced clock (R27, R28). (DESIGN CHOICE, log entry 3; DESIGN CHOICE, log entry 7; DEDUCED, log entry 55; DESIGN CHOICE, log entry 65.) -/
def advanceTo (s : State) (t : Nat) : State :=
  if t ≤ s.now then s
  else { s with now := t, wall := s.wall + (t - s.now) * (if s.sca.slow then 10 else 9) }

/-- The clock moves forward to the first tick at which `w` units of elapsed time have passed. -/
def advanceWall (s : State) (w : Nat) : State :=
  let per := if s.sca.slow then 10 else 9
  s.advanceTo (s.now + (w - s.wall + per - 1) / per)

/-- One millisecond of elapsed time. -/
def wallMilli : Nat := 27000000

/-! ## Indexed kinds -/

def raster (s : State) (r : Nat) : RasterSt := Map.get (fun _ => {}) s.rasters r
def setRaster (s : State) (r : Nat) (x : RasterSt) : State := { s with rasters := Map.set (fun _ => {}) s.rasters r x }
def cmp (s : State) (n : Nat) : CmpSt := Map.get (fun _ => {}) s.cmps n
def setCmp (s : State) (n : Nat) (x : CmpSt) : State := { s with cmps := Map.set (fun _ => {}) s.cmps n x }
def core (s : State) (k : Nat) : CoreSt := Map.get (fun _ => {}) s.cores k
def setCore (s : State) (k : Nat) (x : CoreSt) : State := { s with cores := Map.set (fun _ => {}) s.cores k x }
def port (s : State) (p : Nat) : PortSt := Map.get (fun _ => {}) s.ports p
def setPort (s : State) (p : Nat) (x : PortSt) : State := { s with ports := Map.set (fun _ => {}) s.ports p x }
def stream (s : State) (p : Nat) : StreamSt := Map.get (fun _ => {}) s.streams p
def setStream (s : State) (p : Nat) (x : StreamSt) : State := { s with streams := Map.set (fun _ => {}) s.streams p x }

def csuOf (s : State) (p : Nat) : CsuSt := Map.get (fun _ => {}) s.csu p
def setCsu (s : State) (p : Nat) (x : CsuSt) : State := { s with csu := Map.set (fun _ => {}) s.csu p x }

/-- Metadata marks under a key of `State.marks` (R382). -/
def marksOf (s : State) (k : Nat) : Nat := Map.get (fun _ => 0) s.marks k
def setMarks (s : State) (k m : Nat) : State := { s with marks := Map.set (fun _ => 0) s.marks k m }

/-- Port `p` changed by `f`. -/
def modPort (s : State) (p : Nat) (f : PortSt → PortSt) : State := s.setPort p (f (s.port p))
def modStream (s : State) (p : Nat) (f : StreamSt → StreamSt) : State := s.setStream p (f (s.stream p))
def modCore (s : State) (k : Nat) (f : CoreSt → CoreSt) : State := s.setCore k (f (s.core k))
def modCsu (s : State) (p : Nat) (f : CsuSt → CsuSt) : State := s.setCsu p (f (s.csuOf p))
def modRaster (s : State) (r : Nat) (f : RasterSt → RasterSt) : State := s.setRaster r (f (s.raster r))

/-! ## Memories -/

end State

/-- What a byte of memory that nothing has written reads as. (DESIGN CHOICE, log entry 4.) -/
def memDefault : Nat → Byte := fun _ => 0#8

/-- The canonical form of a memory. -/
def Memory.wf (m : List Host.Cell) : Bool := Map.wf memDefault m

/-- One byte. (DESIGN CHOICE, log entry 4.) -/
def Memory.byte (m : List Host.Cell) (a : Nat) : Byte := Map.get memDefault m a

/-- One byte written. -/
def Memory.setByte (m : List Host.Cell) (a : Nat) (b : Byte) : List Host.Cell := Map.set memDefault m a b

/-- `k` bytes from `a` up. -/
def Memory.bytes (m : List Host.Cell) (a : Nat) : Nat → List Byte
  | 0 => []
  | k + 1 => Memory.byte m a :: Memory.bytes m (a + 1) k

/-- Bytes written from `a` up. -/
def Memory.setBytes (m : List Host.Cell) (a : Nat) : List Byte → List Host.Cell
  | [] => m
  | b :: r => Memory.setBytes (Memory.setByte m a b) (a + 1) r

/-- The little-endian number of `k` bytes at `a` (R7). -/
def Memory.num (m : List Host.Cell) (a k : Nat) : Nat := ofLe (Memory.bytes m a k)

/-- A little-endian number of `k` bytes written at `a`. -/
def Memory.setNum (m : List Host.Cell) (a k v : Nat) : List Host.Cell := Memory.setBytes m a (leBytes k v)

/-- The metrology enclave exists and its seal is not OPEN: RWS fields are frozen (R9, R11, R241). -/
def State.frozen (s : State) : Bool := s.variantM && s.get MEN_STAT_seal != 0

/-- The part has an enclave and its seal is not OPEN (R88, R205). -/
def State.sealed (s : State) : Bool := s.frozen

/-- No reset holds the part or its CORE and SUP domains (R473). -/
def State.running (s : State) : Bool := s.hold = .none

end Sys2Proof.Machine
end

