-- ==== Sys2Proof/Machine/Mem.lean ====
section
/-! DEFINITION. Machine/Mem.lean: the memory system (spec 12): the data space and the band store with their error codes, write guards, the paged window,
fills, injections, the scrubber, the arbiter and the DMA channels. -/

namespace Sys2Proof.Machine
open R

/-- Bytes of the band store (R348). -/
def bandBytes : Nat := 0xC0_0000

namespace State

/-! ## Extent and validity (R333, R334) -/

/-- Bytes of the data space (R333). -/
def dataBytes (s : State) : Nat := s.get MEM_STAT_data_size * 2 ^ 25

/-- The data space has its contents: trained, or to be trained again, and the fill has completed (R334, R335, R472). -/
def dramOk (s : State) : Bool := (s.bit MEM_STAT_trained || s.mem.retraining) && s.bit MEM_STAT_init_done

/-- DRAM requests wait: the devices are to be trained again (R335, R472). -/
def dramWaits (s : State) : Bool := s.bit MEM_STAT_init_done && !s.bit MEM_STAT_trained

/-- The data space of a configuration in 32 MiB units: 7/8 of the installed capacity (R331, R333). -/
def configSize (s : State) : Nat := 14 * 2 ^ s.get MEM_DRAM_CFG_density * (if s.bit MEM_DRAM_CFG_ch4 then 4 else 2)

/-- Where a byte of the data space lies in the devices: channel, row unit of the channel, and offset in the row unit; a row unit holds 1,792 data bytes, then the check byte
of each of its 224 data words, then 32 unused bytes (R332). -/
structure DramPlace where
  channel : Nat
  row : Nat
  offset : Nat
deriving DecidableEq, Repr

/-- Channels in use. -/
def channels (s : State) : Nat := if s.bit MEM_DRAM_CFG_ch4 then 4 else 2

/-- The place of data address `a` (R332). -/
def dramPlace (s : State) (a : Nat) : DramPlace := ⟨a / 1792 % s.channels, a / 1792 / s.channels, a % 1792⟩

/-- The place of the check byte of `a`'s word (R332). -/
def checkPlace (s : State) (a : Nat) : DramPlace := { s.dramPlace a with offset := 1792 + a % 1792 / 8 }

/-- Data address of the first byte of row unit `u`, counted in ascending order across the channels (R332, R340). -/
def rowUnitAt (u : Nat) : Nat := 1792 * u

/-- The word number of an address in `MemSt.errs`. -/
def wordNo (bs : Bool) (a : Nat) : Nat := if bs then 2 ^ 40 + a / 8 else a / 8

/-- The error of a word. -/
def wordErr (s : State) (w : Nat) : Option WordErr := Map.get (fun _ => none) s.mem.errs w
def setErr (s : State) (w : Nat) (e : Option WordErr) : State := { s with mem := { s.mem with errs := Map.set (fun _ => none) s.mem.errs w e } }

/-! ## Write guards (R206, R219, R347) -/

/-- The active table, a range under check or checked, and the buffer of a running wedge's target (R216), of stream `p`. -/
def guardedBy (s : State) (p a : Nat) : Bool :=
  let inRange := fun (base len : Nat) => decide (base ≤ a) && decide (a < base + len)
  let actLen := s.get (PCE_TBL_ACT_LEN_active p) * 4096
  let bufLen := (8 * (s.port p).width * (s.port p).height + 4095) / 4096 * 4096
  (s.bit (PCE_TBL_STAT_active p) && inRange (s.get (PCE_TBL_ACT_BASE_active p) * 4096) actLen) ||
    ((s.bit (PCE_TBL_STAT_checking p) || s.bit (PCE_TBL_STAT_check_ok p) || s.bit (PCE_TBL_STAT_check_fail p)) &&
      inRange (s.get (PCE_TBL_BASE_table p) * 4096) (s.get (PCE_TBL_LEN_table p) * 4096)) ||
    (match (s.stream p).wedge with | some t => inRange t bufLen | none => false)

/-- Whether data address `a` is guarded against the host, SUP, DMA, the bulk engine and the table decoder. -/
def guarded (s : State) (a : Nat) : Bool := [0, 1, 2, 3].any (fun p => s.guardedBy p a)

/-! ## Error correction (R337–R339) -/

/-- A corrected or poisoned word is counted, its event set, and the first error latched; a poisoned word replaces a latched correctable one (R339). -/
def noteError (s : State) (bs ue : Bool) (a req syn : Nat) : State :=
  let quiet := !s.bit MEM_EVT_ce && !s.bit MEM_EVT_ue && !s.bit MEM_EVT_bs_ue
  let latch := quiet || (ue && s.bit MEM_ECC_INFO_valid && !s.bit MEM_ECC_INFO_ue)
  let s := if ue then (if bs then s.bump MEM_UE_CNT_band else s.bump MEM_UE_CNT_dram)
    else (if bs then s.bump MEM_CE_CNT_band else s.bump MEM_CE_CNT_dram)
  let s := if !ue then s.setBit MEM_EVT_ce else if bs then s.setBit MEM_EVT_bs_ue else s.setBit MEM_EVT_ue
  if latch then
    ((s.setNum MEM_ECC_ADDR_LO (a / 8 * 8)).setNum MEM_ECC_ADDR_HI (a / 2 ^ 32 % 2)).setNum MEM_ECC_INFO
      (2 ^ 31 + b2n bs * 2 ^ 30 + b2n ue * 2 ^ 29 + req % 16 * 2 ^ 16 + syn % 256)
  else s

/-- Requester `req` reads the word of address `a`: an error is counted, a correctable one repaired in memory while wb is 1 or `fix`. Answers whether the word is
poisoned. (DEDUCED, log entry 61.) -/
def eccRead (s : State) (bs : Bool) (a req : Nat) (fix : Bool := false) : State × Bool :=
  match s.wordErr (wordNo bs a) with
  | none => (s, false)
  | some e =>
    let s := s.noteError bs e.ue a req e.syn
    if e.ue then (s, true)
    else (if fix || s.bit MEM_ECC_CFG_wb then s.setErr (wordNo bs a) none else s, false)

/-- An upset strikes a word (R337, R338): one that the code cannot correct poisons it. -/
def upset (s : State) (bs : Bool) (a : Nat) (ue : Bool) : State :=
  match s.wordErr (wordNo bs a) with
  | some e => if e.ue then s else (s.drawn).setErr (wordNo bs a) (some ⟨true, (Config.syndrome s.freeCtr).toNat⟩)
  | none => (s.drawn).setErr (wordNo bs a) (some ⟨ue, (Config.syndrome s.freeCtr).toNat⟩)

/-- A word of the data space that reads as poisoned (R338). -/
def poisoned (s : State) (a : Nat) : Bool := match s.wordErr (wordNo false a) with | some e => e.ue | none => false

/-! ## Words and bytes -/

/-- `k` bytes of the data space or the band store. -/
def memBytes (s : State) (bs : Bool) (a k : Nat) : List Byte := Memory.bytes (if bs then s.band else s.dram) a k

/-- Bytes written to the data space or the band store, with no regard to codes. -/
def putBytes (s : State) (bs : Bool) (a : Nat) (l : List Byte) : State :=
  if bs then { s with band := Memory.setBytes s.band a l } else { s with dram := Memory.setBytes s.dram a l }

/-- `n` bytes moved by class `c` in the frame of H (R344). -/
def moveBytes (s : State) (c n : Nat) : State :=
  { s with mem := { s.mem with moved := Map.set (fun _ => 0) s.mem.moved c (Map.get (fun _ => 0) s.mem.moved c + n) } }

/-- Bytes that a write of one party moves to or from DRAM, in class 3 (R342, R344). -/
def moveParty (s : State) (bs : Bool) (n : Nat) : State := if bs then s else s.moveBytes 3 n

/-- The words with an error, by number, that `k` bytes from `a` touch. -/
def badWords (s : State) (bs : Bool) (a k : Nat) : List Nat :=
  ((s.mem.errs.map (·.1)).filter (fun w => decide (wordNo bs a ≤ w) && decide (w < wordNo bs (a + k + 7))))

/-! ## The DRAM as the blocks reach it (R31, R333, R334, R337–R339, R344) -/

/-- Bytes of the data space that answer: none before the fill has completed. -/
def dramExtent (s : State) : Nat := if s.dramOk then s.dataBytes else 0

/-- `k` bytes as a block receives them: a poisoned word, an address beyond the data space and DRAM before the fill read zero. -/
def dramBytes (s : State) (a k : Nat) : List Byte :=
  let n := s.dramExtent
  (List.range k).map (fun i => if decide (a + i < n) && !s.poisoned (a + i) then Memory.byte s.dram (a + i) else 0#8)

/-- The little-endian number of `k` such bytes. -/
def dramNum (s : State) (a k : Nat) : Nat := ofLe (s.dramBytes a k)

/-- A block's read of `k` bytes, for class `c` and requester code `req`: a word with an error is counted and a correctable one repaired while wb is 1, and the bytes count
for the class. (DESIGN CHOICE, log entry 65.) -/
def dramRead (s : State) (c req a k : Nat) : State :=
  let k := min k (s.dramExtent - a)
  if k = 0 then s else ((s.badWords false a k).foldl (fun s w => (s.eccRead false (8 * w) req).1) s).moveBytes c k

/-- Bytes stored with their codes: a word written whole is free of error, and one written in part is read, merged and coded anew, or stays poisoned (R337, R338). -/
def dramStore (s : State) (req a : Nat) (l : List Byte) : State :=
  let l := l.take (s.dramExtent - a)
  if l = [] then s
  else
    let s := (s.badWords false a l.length).foldl (fun s w =>
      if a ≤ 8 * w ∧ 8 * w + 8 ≤ a + l.length then s.setErr w none
      else
        let (s, bad) := s.eccRead false (8 * w) req
        if bad then s else s.setErr w none) s
    { s with dram := Memory.setBytes s.dram a l }

/-- A block's write, for class `c` and requester code `req`. -/
def dramWrite (s : State) (c req a : Nat) (l : List Byte) : State := (s.dramStore req a l).moveBytes c (min l.length (s.dramExtent - a))

/-- The bytes of word `w` that have been gathered, and those that `k` bytes from `a` are, bit n for byte n. -/
def gathered (s : State) (w : Nat) : Nat := Map.get (fun _ => 0) s.mem.gather w
def setGathered (s : State) (w m : Nat) : State := { s with mem := { s.mem with gather := Map.set (fun _ => 0) s.mem.gather w m } }
def bytesIn (w a k : Nat) : Nat := (List.range 8).foldl (fun m i => m + b2n (decide (a ≤ 8 * w + i ∧ 8 * w + i < a + k)) * 2 ^ i) 0

/-- A block's write of part of a plane whose words it gathers and stores: a word all of whose bytes it has written is stored whole, and its error is gone; one that lacks bytes
keeps its error until `mergeGathered` (R337, R338). (DESIGN CHOICE, log entry 65.) -/
def dramGather (s : State) (c a : Nat) (l : List Byte) : State :=
  let l := l.take (s.dramExtent - a)
  if l = [] then s
  else
    let s := (s.badWords false a l.length).foldl (fun s w =>
      let m := s.gathered w ||| bytesIn w a l.length
      if m = 255 then (s.setErr w none).setGathered w 0 else s.setGathered w m) s
    ({ s with dram := Memory.setBytes s.dram a l }).moveBytes c l.length

/-- The words between `a` and `a + k` that the writing of a slot has left in parts are read, merged and coded anew by requester `req`, or stay poisoned (R337, R338). -/
def mergeGathered (s : State) (req a k : Nat) : State :=
  (s.mem.gather.filter (fun e => decide (a ≤ 8 * e.1 + 7 ∧ 8 * e.1 < a + k))).foldl (fun s e =>
    let (s, bad) := (s.setGathered e.1 0).eccRead false (8 * e.1) req
    if bad then s else s.setErr e.1 none) s

/-- The armed injection acts on the word just stored at `a` by the host or SUP (R341). -/
def injectInto (s : State) (bs : Bool) (a : Nat) : State :=
  match s.mem.inj with
  | some (b, two) =>
    if b = bs then ({ s with mem := { s.mem with inj := none } }).setErr (wordNo bs a) (some ⟨two, if two then 0x18 else 0x0B⟩) else s
  | none => s

/-- A full 8-byte word stored by a software write: any error it carried is gone (R338). -/
def storeFull (s : State) (bs : Bool) (a v : Nat) : State :=
  ((((s.putBytes bs (a / 8 * 8) (leBytes 8 v)).setErr (wordNo bs a) none)).injectInto bs a).moveParty bs 8

/-- A partial write of 4 bytes: the word is read and merged; a poisoned word stays poisoned (R337, R338). -/
def storeHalf (s : State) (bs : Bool) (a req : Nat) (v : W32) : State :=
  let (s, bad) := s.eccRead bs a req
  let s := (s.putBytes bs (a / 4 * 4) (leBytes 4 v.toNat)).moveParty bs 4
  if bad then s else (s.setErr (wordNo bs a) none).injectInto bs a

/-! ## The paged window and the band store as the host and SUP reach them (R346–R348) -/

/-- Data address of a window address. -/
def windowAddr (s : State) (a : Nat) : Nat := s.get MEM_WIN_page * 2 ^ 21 + (a - 0x20_0000)

/-- A window write reaches memory: inside the data space, while DRAM answers, and outside every guard (R31, R334, R347). -/
def windowOk (s : State) (d : Nat) : Bool := s.dramOk && decide (d < s.dataBytes) && !s.guarded d

/-- The half word that party `pc` holds (R346). -/
def heldHalf (s : State) (pc : Nat) : Option (Nat × W32) := Map.get (fun _ => none) s.mem.held pc
def setHeld (s : State) (pc : Nat) (h : Option (Nat × W32)) : State :=
  { s with mem := { s.mem with held := Map.set (fun _ => none) s.mem.held pc h } }

/-- Requester code of a party at the memory: 0 host, 1 SUP, 14 MET. -/
def memReq (pc : Nat) : Nat := if pc = 2 then 14 else pc

/-- Party `pc`'s held half is flushed as a partial write. -/
def flushHeld (s : State) (pc : Nat) : State :=
  match s.heldHalf pc with
  | none => s
  | some (d, v) =>
    let s := s.setHeld pc none
    if s.windowOk d then s.storeHalf false d (memReq pc) v else s

/-- A 32-bit write by party `pc` through the window at data address `d` (R346): a low half is held, a high half merges with the held low half of its word. -/
def windowWrite (s : State) (pc d : Nat) (v : W32) : State :=
  if d / 4 % 2 = 0 then (s.flushHeld pc).setHeld pc (some (d / 4 * 4, v))
  else
    match s.heldHalf pc with
    | some (l, lo) =>
      if l + 4 = d / 4 * 4 then
        let s := s.setHeld pc none
        if s.windowOk d then s.storeFull false d (lo.toNat + 2 ^ 32 * v.toNat) else s
      else
        let s := s.flushHeld pc
        if s.windowOk d then s.storeHalf false d (memReq pc) v else s
    | none => if s.windowOk d then s.storeHalf false d (memReq pc) v else s

/-- A 32-bit read of a word of memory by party `pc`; a poisoned word reads zero (R338). -/
def memWordRead (s : State) (bs : Bool) (a pc : Nat) : State × W32 :=
  let (s, bad) := (s.moveParty bs 4).eccRead bs a (memReq pc)
  (s, if bad then 0#32 else BitVec.ofNat 32 (Memory.num (if bs then s.band else s.dram) (a / 4 * 4) 4))

/-- A window read: R31 before the fill and beyond the data space. -/
def windowRead (s : State) (pc d : Nat) : State × W32 :=
  if s.dramOk && decide (d < s.dataBytes) then s.memWordRead false d pc else (s, 0#32)

/-- A band-store write of 32 bits. -/
def bandWrite (s : State) (pc o : Nat) (v : W32) : State := s.storeHalf true o (memReq pc) v

/-! ## Training, fill and reset (R331, R334, R335) -/

/-- MEM_INIT.start: ignored while the fill runs, after it has completed and while the devices are untrained. -/
def memInitStart (s : State) : State :=
  if s.bit MEM_STAT_init_busy || s.bit MEM_STAT_init_done || !s.bit MEM_STAT_trained then s else s.setBit MEM_STAT_init_busy

/-- The fill completes: the whole data space is zero with valid check bytes. -/
def memInitDone (s : State) : State :=
  if !s.bit MEM_STAT_init_busy || !s.bit MEM_STAT_trained then s
  else
    let s := ((s.clrBit MEM_STAT_init_busy).setBit MEM_STAT_init_done).setBit MEM_EVT_init_done
    { s with dram := [], mem := { s.mem with errs := s.mem.errs.filter (fun e => decide (2 ^ 40 ≤ e.1)), gather := [] } }

/-- Training completes while PLL1 is locked: trained is set and the data space takes its size (R331, R333, R335, R472). (DEDUCED, log entry 61.) -/
def dramTrained (s : State) : State :=
  if s.bit MEM_STAT_trained || !s.bit SCA_STAT_lock 1 then s
  else { (s.setBit MEM_STAT_trained).put MEM_STAT_data_size s.configSize with mem := { s.mem with retraining := false } }

/-! ## The arbiter (R342–R344) -/

/-- Guaranteed bursts of a class per window. -/
def qosOf (s : State) (c : Nat) : Nat := bitsOf (s.reg MEM_QOS) (8 * c + 5) (8 * c)

/-- Bursts granted to class `c` on channel `ch` in the current window. -/
def granted (s : State) (ch c : Nat) : Nat := Map.get (fun _ => 0) s.mem.window (ch * 8 + c)

/-- The class served next among those with a pending request: the first below its guarantee, else the lowest. -/
def nextClass (s : State) (ch : Nat) (pend : List DramReq) : Option Nat :=
  let waiting := [0, 1, 2, 3].filter (fun c => pend.any (fun r => r.cls.val == c))
  match waiting.find? (fun c => decide (s.granted ch c < s.qosOf c)) with
  | some c => some c
  | none => waiting.head?

/-- The requesters whose writes the guards keep out: the host, SUP with its bulk engine, the DMA channels, and the table decoder, which is the coder's requester in class 3
(R206, R342). -/
def guardedReq (r : DramReq) : Bool := r.req.toNat ∈ [0, 1, 12] || (r.req.toNat == 9 && r.cls.val == 3)

/-- One granted burst: its words are checked, or the bytes it carries are stored, so that of two writes to a word the one granted later stands (R343); a guarded word of a
requester that the guards keep out is not written (R206). (DEDUCED, log entry 61.) -/
def serveBurst (s : State) (r : DramReq) : State :=
  let base := r.addr / 64 * 64
  if s.dramExtent ≤ base then s
  else if r.write && guardedReq r then
    (List.range 8).foldl (fun s k => if s.guarded (base + 8 * k) then s else s.dramStore r.req.toNat (base + 8 * k) ((r.data.drop (8 * k)).take 8)) s
  else if r.write then s.dramStore r.req.toNat base (r.data.take 64)
  else
    let s := r.upsets.foldl (fun s u => if u.1 < 8 then s.upset false (base + 8 * u.1) u.2 else s) s
    (List.range 8).foldl (fun s k => (s.eccRead false (base + 8 * k) r.req.toNat).1) s

/-- DRAM_BURST_GRANT: of the requests pending on channel `ch`, oldest first, the arbiter grants one 64-byte burst; a request whose address lies on another channel does not
pend here (R332). (DESIGN CHOICE, log entry 65.) -/
def burstGrant (s : State) (ch : Nat) (pend0 : List DramReq) : State :=
  let pend := pend0.filter (fun r => (s.dramPlace r.addr).channel == ch)
  if !s.bit MEM_STAT_trained then s
  else
    match s.nextClass ch pend with
    | none => s
    | some c =>
      match pend.find? (fun r => r.cls.val == c) with
      | none => s
      | some r =>
        let total := s.granted ch 7 + 1
        let w := if total < 64 then Map.set (fun _ => 0) (Map.set (fun _ => 0) s.mem.window (ch * 8 + c) (s.granted ch c + 1)) (ch * 8 + 7) total
          else s.mem.window.filter (fun e => e.1 / 8 != ch)
        (({ s with mem := { s.mem with window := w } }).moveBytes c 64).serveBurst r

/-- A request of class `c` has waited too long (R344). -/
def starve (s : State) (c : Nat) : State := (s.bump ⟨MEM_STARVE_CNT, 8 * c + 7, 8 * c⟩).setBit MEM_EVT_starve c

/-- A frame of H starts: the traffic of the last one is shown (R344). -/
def memFrame (s : State) : State :=
  let s := [0, 1, 2, 3].foldl (fun s c => s.put (MEM_BW_mib c) (sat 0xFFFF (Map.get (fun _ => 0) s.mem.moved c / 2 ^ 20))) s
  { s with mem := { s.mem with moved := [] } }

/-- A line of H counts for the scrubber and the temperature reads. -/
def memLine (s : State) : State := { s with mem := { s.mem with scrubLines := s.mem.scrubLines + 1, tempLines := s.mem.tempLines + 1 } }

/-- SCRUB_ROW: every `lines` lines of H one row unit is read and corrected; a pass ends after the last one (R340). `ups` are the upsets it meets: word and whether the code
cannot correct it. -/
def scrubRow (s : State) (ups : List (Nat × Bool)) : State :=
  let n := s.get MEM_SCRUB_CFG_lines
  if n = 0 ∨ s.mem.scrubLines < n ∨ s.dramOk = false ∨ s.dramWaits then s
  else
    let s := { s with mem := { s.mem with scrubLines := 0 } }
    let u : Nat := s.get MEM_SCRUB_POS_next
    let s := ups.foldl (fun s x => if x.1 < 224 then s.upset false (rowUnitAt u + 8 * x.1) x.2 else s) s
    let s := ((List.range 224).foldl (fun s k => (s.eccRead false (rowUnitAt u + 8 * k) 13 true).1) s).moveBytes 3 1792
    if decide (s.dataBytes / 1792 ≤ u + 1) then (s.put MEM_SCRUB_POS_next 0).setBit MEM_EVT_scrub else s.put MEM_SCRUB_POS_next (u + 1)

/-- DRAM_TEMP_READ: every 16 lines of H; `hot` says that some device is above 85 °C (R336). -/
def dramTemp (s : State) (hot : Bool) : State :=
  if s.mem.tempLines < 16 then s
  else
    let s := { s with mem := { s.mem with tempLines := 0 } }
    if hot = s.bit MEM_STAT_derate then s else (s.wrBit MEM_STAT_derate 0 hot).setBit MEM_EVT_temp

/-- A write to MEM_INJ (R341). -/
def memInject (s : State) (v : W32) : State :=
  { s with mem := { s.mem with inj := match bitsOf v 1 0 with
      | 1 => some (bitOf v 2, false) | 2 => some (bitOf v 2, true) | _ => none } }

/-! ## DMA (R349, R350) -/

/-- A chain starts; a start while the channel is busy is ignored. -/
def dmaStart (s : State) (d : Nat) : State :=
  if s.bit (MEM_DMA_STAT_busy d) then s
  else
    let s := s.setNum (MEM_DMA_STAT d) (2 ^ 31)
    { s with mem := { s.mem with dmaAt := Map.set (fun _ => 0) s.mem.dmaAt d (s.num (MEM_DMA_DESC d)),
                                 dmaStop := Map.set (fun _ => false) s.mem.dmaStop d false } }

/-- A stop command. -/
def dmaStopCmd (s : State) (d : Nat) : State :=
  if s.bit (MEM_DMA_STAT_busy d) then { s with mem := { s.mem with dmaStop := Map.set (fun _ => false) s.mem.dmaStop d true } } else s

/-- The chain ends: complete, or stopped for another reason. -/
def dmaEnd (s : State) (d : Nat) (ok : Bool) : State :=
  let s := s.clrBit (MEM_DMA_STAT_busy d)
  if ok then s.setBit MEM_EVT_dma_done d else s.setBit MEM_EVT_dma_err d

/-- A DMA address: band-store flag and offset or data address. -/
def dmaAddr (n : Nat) : Bool × Nat := (n / 2 ^ 63 % 2 = 1, n % 2 ^ 63)

/-- Whether `len` bytes from an address lie in the data space or the band store. -/
def dmaInside (s : State) (x : Bool × Nat) (len : Nat) : Bool :=
  if x.1 then decide (x.2 + len ≤ bandBytes) else decide (x.2 + len ≤ s.dataBytes)

/-- Word `k` of a descriptor's copy or fill: guarded words are skipped, poisoned words copied poisoned; before the fill the data space reads zero and takes no write
(R31, R334). -/
def dmaWord (s : State) (d : Nat) (src dst : Bool × Nat) (fill : Option Nat) (k : Nat) : State :=
  let a := dst.2 + 8 * k
  let s := if fill.isSome then s else if src.1 || s.dramOk then s.moveParty src.1 8 else s
  if !dst.1 && !s.dramOk then s
  else if !dst.1 && s.guarded a then s.setBit (MEM_DMA_STAT_guard d)
  else
    let s := s.moveParty dst.1 8
    match fill with
    | some v => (s.putBytes dst.1 a (leBytes 4 v ++ leBytes 4 v)).setErr (wordNo dst.1 a) none
    | none =>
      if !src.1 && !s.dramOk then (s.putBytes dst.1 a (List.replicate 8 0#8)).setErr (wordNo dst.1 a) none
      else
      let (s, bad) := s.eccRead src.1 (src.2 + 8 * k) 12
      if bad then ((s.putBytes dst.1 a (List.replicate 8 0#8)).setErr (wordNo dst.1 a) (s.wordErr (wordNo src.1 (src.2 + 8 * k)))).setBit (MEM_DMA_STAT_ue d)
      else (s.putBytes dst.1 a (s.memBytes src.1 (src.2 + 8 * k) 8)).setErr (wordNo dst.1 a) none

/-- DMA_DESCRIPTOR_END: the current descriptor completes, and the chain goes on, ends or stops. After a stop command only the first `bursts` bursts have been moved. (DEDUCED, log entry 61.) -/
def dmaDescriptor (s : State) (d bursts : Nat) : State :=
  if !s.bit (MEM_DMA_STAT_busy d) then s
  else
    let o := Map.get (fun _ => 0) s.mem.dmaAt d
    let rd := (List.range 4).foldl (fun (x : State × Bool) k => let y := x.1.eccRead true (o + 8 * k) 12; (y.1, x.2 || y.2)) (s, false)
    let s := rd.1
    if rd.2 then (s.setBit (MEM_DMA_STAT_ue d)).dmaEnd d false
    else
      let f := fun (i k : Nat) => Memory.num s.band (o + i) k
      let src := dmaAddr (f 0 8)
      let dst := dmaAddr (f 8 8)
      let len := f 16 4
      let ctl := f 20 1
      let isFill := ctl % 2 = 1
      if len = 0 ∨ len % 8 ≠ 0 ∨ bandBytes < o + 32 ∨ s.dmaInside dst len = false ∨ (¬ isFill ∧ s.dmaInside src len = false) then
        (s.setBit (MEM_DMA_STAT_range d)).dmaEnd d false
      else
        let stop := Map.get (fun _ => false) s.mem.dmaStop d
        let words := if stop then min (len / 8) (8 * bursts) else len / 8
        let s := (List.range words).foldl (fun s k => s.dmaWord d src dst (if isFill then some (f 24 4) else none) k) s
        if stop then s.dmaEnd d false
        else
          let s := s.put (MEM_DMA_STAT_done d) (sat 0xFFFF (s.get (MEM_DMA_STAT_done d) + 1))
          let s := if ctl / 4 % 2 = 1 then s.setBit MEM_EVT_dma_done d else s
          if ctl / 2 % 2 = 1 then s.dmaEnd d true
          else { s with mem := { s.mem with dmaAt := Map.set (fun _ => 0) s.mem.dmaAt d (f 28 4) } }

end State
end Sys2Proof.Machine
end

