-- ==== Sys2Proof/Machine/Hash.lean ====
section
/-! DEFINITION. Machine/Hash.lean: the digests and checks the spec names: SHA-256 (R86, R204), CRC-8 with polynomial 0x07 and start 0xFF (R363), CRC-16 with
polynomial 0x1021 and start 0xFFFF, and CRC-32 of the table chunks (R327). -/

namespace Sys2Proof.Machine

/-- The `k` 32-bit words of a number, the most significant word first. -/
def wordsOf : Nat → Nat → List W32
  | 0, _ => []
  | k + 1, n => wordsOf k (n / 2 ^ 32) ++ [BitVec.ofNat 32 n]

/-- The round constants of SHA-256, eight to a number, the first in its most significant word. -/
def shaRows : List Nat :=
  [0x428A2F9871374491B5C0FBCFE9B5DBA53956C25B59F111F1923F82A4AB1C5ED5,
   0xD807AA9812835B01243185BE550C7DC372BE5D7480DEB1FE9BDC06A7C19BF174,
   0xE49B69C1EFBE47860FC19DC6240CA1CC2DE92C6F4A7484AA5CB0A9DC76F988DA,
   0x983E5152A831C66DB00327C8BF597FC7C6E00BF3D5A7914706CA635114292967,
   0x27B70A852E1B21384D2C6DFC53380D13650A7354766A0ABB81C2C92E92722C85,
   0xA2BFE8A1A81A664BC24B8B70C76C51A3D192E819D6990624F40E3585106AA070,
   0x19A4C1161E376C082748774C34B0BCB5391C0CB34ED8AA4A5B9CCA4F682E6FF3,
   0x748F82EE78A5636F84C878148CC7020890BEFFFAA4506CEBBEF9A3F7C67178F2]

/-- Round constants of SHA-256. -/
def shaK : List W32 := shaRows.flatMap (wordsOf 8)

/-- Initial hash value of SHA-256. -/
def shaH0 : List W32 := wordsOf 8 0x6A09E667BB67AE853C6EF372A54FF53A510E527F9B05688C1F83D9AB5BE0CD19

/-- Big-endian bytes of a number, `k` of them. -/
def beBytes (k n : Nat) : List Byte := (leBytes k n).reverse

/-- Words of a 64-byte block, most significant byte first. -/
def shaWords : Nat → List Byte → List W32
  | 0, _ => []
  | k + 1, l => BitVec.ofNat 32 (ofLe (l.take 4).reverse) :: shaWords k (l.drop 4)

/-- The message schedule, newest word first: `k` more words. -/
def shaExtend : Nat → List W32 → List W32
  | 0, l => l
  | k + 1, l =>
    let g := fun i => l.getD i 0#32
    let w2 := g 1
    let w15 := g 14
    let s1 := (w2.rotateRight 17) ^^^ (w2.rotateRight 19) ^^^ (w2 >>> 10)
    let s0 := (w15.rotateRight 7) ^^^ (w15.rotateRight 18) ^^^ (w15 >>> 3)
    shaExtend k ((s1 + g 6 + s0 + g 15) :: l)

/-- One round on the eight working variables. -/
def shaRound (h : List W32) (kw : W32) : List W32 :=
  let g := fun i => h.getD i 0#32
  let s1 := ((g 4).rotateRight 6) ^^^ ((g 4).rotateRight 11) ^^^ ((g 4).rotateRight 25)
  let ch := (g 4 &&& g 5) ^^^ (~~~ (g 4) &&& g 6)
  let t1 := g 7 + s1 + ch + kw
  let s0 := ((g 0).rotateRight 2) ^^^ ((g 0).rotateRight 13) ^^^ ((g 0).rotateRight 22)
  let mj := (g 0 &&& g 1) ^^^ (g 0 &&& g 2) ^^^ (g 1 &&& g 2)
  [t1 + s0 + mj, g 0, g 1, g 2, g 3 + t1, g 4, g 5, g 6]

/-- One block folded into the hash value. -/
def shaBlock (h : List W32) (blk : List Byte) : List W32 :=
  let w := (shaExtend 48 (shaWords 16 blk).reverse).reverse
  let v := (List.zip shaK w).foldl (fun v kw => shaRound v (kw.1 + kw.2)) h
  List.zipWith (· + ·) h v

/-- Blocks folded in order. -/
def shaBlocks : Nat → List W32 → List Byte → List W32
  | 0, h, _ => h
  | k + 1, h, l => shaBlocks k (shaBlock h (l.take 64)) (l.drop 64)

/-- SHA-256 of a byte string: 32 bytes, byte 0 first. -/
def sha256 (m : List Byte) : List Byte :=
  let n := m.length
  let z := (119 - n % 64) % 64
  let p := m ++ [0x80#8] ++ List.replicate z 0#8 ++ beBytes 8 (8 * n)
  (shaBlocks (p.length / 64) shaH0 p).flatMap (fun w => beBytes 4 w.toNat)

/-- One CRC bit step, most significant bit first, over `w` bits. -/
def crcBit (w poly : Nat) (c : Nat) : Nat :=
  if c / 2 ^ (w - 1) % 2 = 1 then ((c * 2) % 2 ^ w) ^^^ poly else (c * 2) % 2 ^ w

/-- CRC over bytes, most significant bit first. -/
def crcMsb (w poly init : Nat) (l : List Byte) : Nat :=
  l.foldl (fun c b => (List.range 8).foldl (fun c _ => crcBit w poly c) (c ^^^ (b.toNat * 2 ^ (w - 8)))) init

/-- CRC-8 of R363: polynomial 0x07, initial value 0xFF. -/
def crc8 (l : List Byte) : Nat := crcMsb 8 0x07 0xFF l

/-- CRC-16: polynomial 0x1021, initial value 0xFFFF. -/
def crc16 (l : List Byte) : Nat := crcMsb 16 0x1021 0xFFFF l

/-- CRC-32: reflected polynomial 0xEDB88320, initial value and final inversion all ones. -/
def crc32 (l : List Byte) : Nat :=
  (l.foldl (fun c b => (List.range 8).foldl (fun c _ => if c % 2 = 1 then (c / 2) ^^^ 0xEDB88320 else c / 2) (c ^^^ b.toNat))
    0xFFFFFFFF) ^^^ 0xFFFFFFFF

end Sys2Proof.Machine
end

