-- ==== Sys2Proof/Machine/Raster.lean ====
section
/-! DEFINITION. Machine/Raster.lean: the raster time base (spec 02): positions of the five rasters, packed loci and their order,
the end-of-line rule of a locked follower, comparators and FSYNC. -/

namespace Sys2Proof.Machine
open R

/-! ## Packed loci (R45–R47) -/

/-- Fields of a packed locus (R45). -/
def locRaster (p : W64) : Nat := p.toNat / 2 ^ 61
def locFrame (p : W64) : Nat := p.toNat / 2 ^ 35 % 2 ^ 26
def locLine (p : W64) : Nat := p.toNat / 2 ^ 23 % 2 ^ 12
def locSlot (p : W64) : Nat := p.toNat / 2 ^ 7 % 2 ^ 16
def locTick (p : W64) : Nat := p.toNat % 2 ^ 7

/-- The packed word of a locus (R45). -/
def packLocus (r frame line slot tick : Nat) : W64 :=
  BitVec.ofNat 64 (r % 8 * 2 ^ 61 + frame % 2 ^ 26 * 2 ^ 35 + line % 2 ^ 12 * 2 ^ 23 + slot % 2 ^ 16 * 2 ^ 7 + tick % 2 ^ 7)

/-- A locus with a field outside its counting range: a raster or a tick that names nothing (R47), or line 4,095 or slot 65,535 (R45, R117). (DEDUCED, log entry 21.) -/
def unreachable (p : W64) : Bool := 4 < locRaster p || 95 < locTick p || locLine p = 4095 || locSlot p = 65535

/-- A position of a raster. -/
structure Pos where
  frame : Nat
  line : Nat
  slot : Nat
  tick : Nat
deriving DecidableEq, Repr

/-- How a target lies against a raster's current position (R46): frames first, through the 26-bit difference. -/
def ordLocus (target : W64) (cur : Pos) : Ordering :=
  let d := (locFrame target + 2 ^ 26 - cur.frame % 2 ^ 26) % 2 ^ 26
  if d = 0 then
    (compare (locLine target) cur.line).then
      ((compare (locSlot target) cur.slot).then (compare (locTick target) cur.tick))
  else if d < 2 ^ 25 then .gt else .lt

/-! ## Lines and their ends (R41, R51–R55) -/

/-- Lock settings in effect (R66). -/
def RasterSt.src (x : RasterSt) : Nat := bitsOf x.lock 2 0
def RasterSt.acq (x : RasterSt) : Nat := bitsOf x.lock 3 3
def RasterSt.ratio (x : RasterSt) : Nat := bitsOf x.lock 7 4
def RasterSt.lose (x : RasterSt) : Nat := bitsOf x.lock 11 8
def RasterSt.window (x : RasterSt) : Nat := bitsOf x.lock 19 12

/-- The tick at which the current line would end at its active length. -/
def RasterSt.nEnd (x : RasterSt) : Nat := x.lineAt + 96 * x.lineLen

/-- The current line is the last of its frame. -/
def RasterSt.lastLine (x : RasterSt) : Bool := x.frameLines ≤ x.line + 1

/-- R54 applies to the current line: the last line of every N-th frame, in LOCKED, or in ACQUIRE with acq = 1. -/
def RasterSt.ruled (x : RasterSt) : Bool :=
  x.lastLine && (x.sinceAlign + 1) % (x.ratio + 1) == 0 && (x.lockState == 2 || (x.lockState == 1 && x.acq == 1))

/-- What R54 decides for the last line with the alignment moments now pending: the end tick and the branch taken; `none` is the
miss. -/
def RasterSt.rule54 (x : RasterSt) : Nat × Option FrameStart :=
  let eMin := x.nEnd - 96 * min x.window (x.lineLen - 8)
  let eMax := x.nEnd + 96 * min x.window (65535 - x.lineLen)
  match x.aligns with
  | [] => (x.nEnd, none)
  | t :: _ => if t < eMin then (eMin, some .slipped) else if t ≤ eMax then (t, some .aligned) else (eMax, some .slipped)

/-- The tick at which the current line ends: as decided, as R54 would decide now, or at its active length. -/
def RasterSt.lineEnd (x : RasterSt) : Nat :=
  match x.cutAt with
  | some t => t
  | none => if x.ruled then x.rule54.1 else x.nEnd

/-- Slots of the current line; the final slot lasts 96 + r ticks (R55). -/
def RasterSt.slots (x : RasterSt) : Nat := (x.lineEnd - x.lineAt) / 96

/-- The raster's position at tick `t`, which may lie ahead: lines not yet begun count at their active length. A stopped raster holds
its locus (R43); ticks beyond 95 of a lengthened final slot hold tick 95 (R55). A tick before the current line lies in the line before it, as its instruction may
have begun there. -/
def RasterSt.posAt (x : RasterSt) (t : Nat) : Pos :=
  if t < x.lineAt then
    match x.prev with
    | some (b, f, l) =>
      let k := if x.started = .restarted then (t - b) / 96 else min ((t - b) / 96) ((x.lineAt - b) / 96 - 1)
      ⟨f, l, k, min 95 (t - b - 96 * k)⟩
    | none => ⟨x.frame, x.line, 0, 0⟩
  else if !x.running then ⟨x.frame, x.line, 0, 0⟩
  else if t < x.lineEnd ∨ x.lineLen = 0 ∨ x.frameLines = 0 then
    let k := min ((t - x.lineAt) / 96) (x.slots - 1)
    ⟨x.frame, x.line, k, min 95 (t - x.lineAt - 96 * k)⟩
  else
    let d := t - x.lineEnd
    let l := x.line + 1 + d / (96 * x.lineLen)
    let e := d % (96 * x.lineLen)
    ⟨(x.frame + l / x.frameLines) % 2 ^ 32, l % x.frameLines, e / 96, e % 96⟩

/-- The alignment moments that can still restart a raster in ACQUIRE at tick `now`: those after the tick at which it entered ACQUIRE that have not passed (R57). -/
def RasterSt.comingMoments (x : RasterSt) (now : Nat) : List Nat := x.aligns.dropWhile (fun t => decide (t ≤ x.acqAt) || decide (t < now))

/-- The moment at which a running raster in ACQUIRE with acq = 0 restarts (R57). -/
def RasterSt.restartAt (x : RasterSt) (now : Nat) : Option Nat :=
  if x.running && x.lockState == 1 && x.acq == 0 then (x.comingMoments now).head? else none

namespace State

/-- Position of raster `r` now. -/
def pos (s : State) (r : Nat) : Pos := (s.raster r).posAt s.now

/-- Packed locus of raster `r` at tick `t`. -/
def locusAt (s : State) (r t : Nat) : W64 :=
  let p := (s.raster r).posAt t
  packLocus r p.frame p.line p.slot p.tick

/-- The master tick at which a target in raster `r`'s current line falls; `none` where the target lies in another line or in no slot of
this one. (DESIGN CHOICE, log entry 7.) -/
def dueTick (s : State) (target : W64) : Option Nat :=
  let x := s.raster (locRaster target)
  if unreachable target ∨ !x.running then none
  else if locFrame target = x.frame % 2 ^ 26 ∧ locLine target = x.line ∧ locSlot target < x.slots then
    some (x.lineAt + 96 * locSlot target + locTick target)
  else none

/-! ## Duration counters (R49) -/

/-- The raster whose lines and frames count for a counter that names `sel`: `sel` itself while it runs, else H. -/
def counted (s : State) (sel : Nat) : Nat := if (s.raster sel).running then sel else 4

/-! ## Locks (R50–R59) -/

/-- The smallest delay from a source event to its alignment moment (R52). -/
def dMin (s : State) (r : Nat) : Nat :=
  let x := s.raster r
  96 * (x.window + 2 + (if x.src = 5 then s.get RTB_FSYNC_CFG_min_width else 0))

/-- D of R52. -/
def lockDelay (s : State) (r : Nat) : Nat := max (s.num (RTB_LOCK_DLY r)) (s.dMin r)

/-- A raster enters a lock state; entering ACQUIRE notes the tick (R57). -/
def enterLock (s : State) (r st : Nat) : State :=
  s.modRaster r (fun x => { x with lockState := st, acqAt := if st = 1 then s.now else x.acqAt, missRun := 0 })

/-- The settings written to RTB_x_LOCK take effect: pending moments are discarded, and the state becomes ACQUIRE or OFF (R50). (DEDUCED, log entry 21.) -/
def takeLock (s : State) (r : Nat) : State :=
  let s := s.modRaster r (fun x => { x with lock := s.reg (RTB_LOCK r), lockPending := false, aligns := [] })
  s.enterLock r (if (s.raster r).src = 7 then 0 else 1)

/-- One follower takes a source event at tick `t` (R52, R53). -/
def sourceEventOne (s : State) (x t : Nat) : State :=
  let f := s.raster x
  if !(f.running || f.holding) then s
  else if 2 ≤ f.aligns.length then
    let s := s.bump (RTB_MISS_CNT_missed x)
    if f.src = 5 then (s.bump RTB_FSYNC_STAT_extra).setBit RTB_EVT_fsync else s
  else
    let s := s.setRaster x { f with aligns := f.aligns ++ [t + s.lockDelay x] }
    if f.lockState = 3 then s.enterLock x 1 else s

/-- A source event of source code `src` at tick `t` reaches every follower locked to it (R52). -/
def sourceEvent (s : State) (src t : Nat) : State :=
  [0, 1, 2, 3, 4].foldl (fun s x => if (s.raster x).src = src then s.sourceEventOne x t else s) s

/-- LOCK_LINE_END: the decision point of R54 for the last line of a follower's N-th frame. The clock moves to the decision tick (e_min, the
alignment moment, or n_end), the end is fixed, the moment is consumed, and slips and misses are counted (R56, R58). RTB_EVT.slip latches, as RTB_x_SLIP_CNT counts, for
clamped ends in LOCKED alone, not for one in ACQUIRE with acq = 1. (DEDUCED, log entry 21; DESIGN CHOICE for the event, log entry 21.) -/
def lockLineEnd (s : State) (r : Nat) : State :=
  let x := s.raster r
  if !(x.running && x.ruled && x.cutAt.isNone) then s
  else
    match x.rule54 with
    | (t, some k) =>
      let s := s.advanceTo (if k = .slipped ∧ x.nEnd < t then x.nEnd else t)
      let s := s.setRaster r { x with cutAt := some t, cutKind := k, aligns := x.aligns.drop 1, missRun := 0,
                                      lastCorr := (t : Int) - (x.nEnd : Int) }
      if k = .slipped then
        if x.lockState = 2 then (s.bump (RTB_SLIP_CNT_clamped r)).setBit RTB_EVT_slip r else s
      else if x.lockState = 1 then (s.enterLock r 2).setBit RTB_EVT_acq r else s
    | (t, none) =>
      let s := s.advanceTo x.nEnd
      let s := s.setRaster r { x with cutAt := some t, cutKind := .natural, lastCorr := 0, missRun := x.missRun + 1 }
      let s := s.bump (RTB_MISS_CNT_missed r)
      if x.lockState = 2 ∧ x.lose ≤ x.missRun + 1 then (s.enterLock r 3).setBit RTB_EVT_lost r else s

/-- A new frame of raster `r` begins at tick `t`: the counters step on, an armed length pair is copied (R42), a lock write takes effect
(R50), and a raster told to stop stops (R43). -/
def beginFrame (s : State) (r t : Nat) (kind : FrameStart) : State :=
  let s := s.advanceTo t
  let x := s.raster r
  let f := (x.frame + 1) % 2 ^ 32
  let s := s.setRaster r { x with prev := some (x.lineAt, x.frame, x.line), frame := f, epoch := if f = 0 then (x.epoch + 1) % 2 ^ 16 else x.epoch, line := 0, lineAt := t,
                                  cutAt := none, cutKind := .natural, started := kind,
                                  sinceAlign := if kind = .aligned ∨ kind = .restarted then 0 else x.sinceAlign + 1 }
  if s.bit (RTB_CTL_run r) then
    let s := if s.bit (RTB_CTL_arm r) then
        (s.modRaster r (fun y => { y with lineLen := s.get (RTB_LINE_LEN_shadow r), frameLines := s.get (RTB_FRAME_LINES_shadow r) })).clrBit
          (RTB_CTL_arm r)
      else s
    if x.lockPending then s.takeLock r else s
  else
    let s := s.modRaster r (fun y => { y with running := false })
    if x.lockPending then s.takeLock r else s

/-- A stopped raster starts at the locus it holds, at tick `t` (R43): the length copy of R42 is made, and alignment moments scheduled while
it held stay. What its comparators fired in an earlier run no longer counts. Until a first alignment or restart the N frames of R51 are counted from this start, or from the
alignment before the lock was written. (DEDUCED, log entry 21; DESIGN CHOICE for the N frames, log entry 21.) -/
def startRaster (s : State) (r t : Nat) (kind : FrameStart) : State :=
  let s := s.advanceTo t
  let s := s.modRaster r (fun x => { x with running := true, holding := false, prev := none, lineAt := t, line := 0, cutAt := none, started := kind,
                                            sinceAlign := 0 })
  let s := [0, 1, 2, 3, 4, 5, 6, 7].foldl (fun s n => if locRaster (s.cmp n).target = r then s.setCmp n { s.cmp n with lastOcc := none } else s) s
  if s.bit (RTB_CTL_arm r) then
    (s.modRaster r (fun y => { y with lineLen := s.get (RTB_LINE_LEN_shadow r), frameLines := s.get (RTB_FRAME_LINES_shadow r) })).clrBit
      (RTB_CTL_arm r)
  else s

/-- Whether the source field `src`, followed through the settings as written, leads back to raster `r` (R50); five steps pass every raster. -/
def lockLoops (s : State) (r : Nat) : Nat → Nat → Bool
  | 0, _ => false
  | k + 1, src => if 5 ≤ src then false else if src = r then true else lockLoops s r k (s.get (RTB_LOCK_src src))

/-! ## Comparators (R61, R62) -/

/-- A late one-shot target: it is unreachable, or at or before the current locus; while its raster is stopped, a target equal to the locus the
raster holds is not late (R62). -/
def cmpLate (s : State) (t : W64) : Bool :=
  unreachable t ||
    (let x := s.raster (locRaster t)
     match ordLocus t (s.pos (locRaster t)) with
     | .lt => true
     | .eq => x.running
     | .gt => false)

/-- The judgement of a target at its commit or when en is set: a one-shot target as R62 says, a periodic one only when it is unreachable (R47); a one-shot that is late
clears en (R70). A target committed while en = 0 is not judged at its commit: R62 judges it again when en is set. (DESIGN CHOICE, log entry 27.) -/
def cmpJudge (s : State) (n : Nat) : State :=
  let one := s.get (RTB_CMP_CTL_mode n) == 0
  if s.bit (RTB_CMP_CTL_en n) && (if one then s.cmpLate (s.cmp n).target else unreachable (s.cmp n).target) then
    let s := s.setBit (RTB_CMP_CTL_late n)
    ((if one then s.clrBit (RTB_CMP_CTL_en n) else s).bump RTB_LATE_CNT_late).setBit RTB_EVT_late
  else s

/-- The target as its registers hold it. -/
def cmpTarget (s : State) (n : Nat) : W64 := BitVec.ofNat 64 (s.num (RTB_CMP_LO n) + 2 ^ 32 * s.num (RTB_CMP_HI n))

/-- Where comparator `n`'s match lies in mode `m`, looked for from tick `from_` on: the tick in the current line at which it fires, if its occurrence there has not fired. A
target in slots that a lock removed fires at the line's end (R55). -/
def cmpDueIn (s : State) (n m from_ : Nat) : Option Nat :=
  let t := (s.cmp n).target
  let x := s.raster (locRaster t)
  if !s.bit (RTB_CMP_CTL_en n) ∨ unreachable t ∨ !x.running then none
  else if m = 0 then
    match ordLocus t ⟨x.frame, x.line, 0, 0⟩ with
    | .lt => some from_
    | _ => match s.dueTick t with
      | some d => some (max d from_)
      | none => none
  else if (s.cmp n).lastOcc = some (x.frame, x.line) then none
  else if x.lineLen ≤ locSlot t ∨ (m = 1 ∧ locLine t ≠ x.line) then none
  else if locSlot t < x.slots then
    if x.lineAt + 96 * locSlot t + locTick t < from_ then none else some (x.lineAt + 96 * locSlot t + locTick t)
  else some (max from_ x.lineEnd)

/-- Where comparator `n` fires next in the current line, and in which mode: a mode written while en stays 1 applies from the tick after the write, and the mode before it
until then (R62). -/
def cmpDue (s : State) (n : Nat) : Option (Nat × Nat) :=
  let new := (s.cmpDueIn n (s.get (RTB_CMP_CTL_mode n)) (max s.now (s.cmp n).modeFrom)).map (fun d => (d, s.get (RTB_CMP_CTL_mode n)))
  if s.now < (s.cmp n).modeFrom then
    match s.cmpDueIn n (s.cmp n).modeOld s.now with
    | some d => if d < (s.cmp n).modeFrom then some (d, (s.cmp n).modeOld) else new
    | none => new
  else new

/-- The comparator fires: hit is set, a one-shot clears en, and a pulse of non-zero width begins 24 ticks later (R61). -/
def cmpFire (s : State) (n : Nat) : State :=
  match s.cmpDue n with
  | none => s
  | some (d, m) =>
    let s := s.advanceTo d
    let x := s.raster (locRaster (s.cmp n).target)
    let s := s.setBit (RTB_CMP_CTL_hit n)
    let s := if m = 0 then s.clrBit (RTB_CMP_CTL_en n) else s
    let w := s.get (RTB_CMP_CTL_width n)
    s.setCmp n { s.cmp n with lastOcc := if m = 0 then (s.cmp n).lastOcc else some (x.frame, x.line),
                              pulses := if w = 0 then (s.cmp n).pulses else (s.cmp n).pulses ++ [{ at_ := d, raster := locRaster (s.cmp n).target, width := w }] }

/-- The level of GPIO function RTB_CMPn: active from 24 ticks after a match to its pulse's end. -/
def cmpLevel (s : State) (n : Nat) : Bool := (s.cmp n).pulses.any (fun q => decide (q.at_ + 24 ≤ s.now))

/-- The tick at which `k` slots have passed on raster `r` from tick `d`, counted as the raster runs them: the final slot of the current line counts whole, with the ticks that
a lock has added to it, and `ext` ticks were added to earlier ones. While the raster is stopped a slot is 96 ticks, and a slot that a restart cut short counts with the slot that
follows it, until 96 ticks have passed. (DESIGN CHOICE, log entry 27.) -/
def slotsAfter (s : State) (r d k ext : Nat) : Nat :=
  let x := s.raster r
  let e := d + ext + 96 * k
  if x.running ∧ d < x.lineEnd ∧ x.lineAt + 96 * x.slots ≤ e then e + (x.lineEnd - x.lineAt - 96 * x.slots) else e

/-- Ticks that a pulse gains when the line of raster `r` in which it runs ends at tick `t`: those of the lengthened final slot, if the pulse began in the line and goes on past that
slot (R55, R61). -/
def slotGain (s : State) (r t d k ext : Nat) : Nat :=
  let b := (s.raster r).lineAt
  let n := (t - b) / 96
  if d < t ∧ b + 96 * n ≤ d + ext + 96 * k then t - b - 96 * n else 0

/-- The current line of raster `r` ends at tick `t`: pulses counted in its slots gain the ticks of a lengthened final slot. -/
def pulseGains (s : State) (r t : Nat) : State :=
  let s := (List.range 8).foldl (fun s n =>
    s.setCmp n { s.cmp n with pulses := (s.cmp n).pulses.map (fun q =>
      if q.raster = r then { q with ext := q.ext + s.slotGain r t q.at_ q.width q.ext } else q) }) s
  match s.fsync.outAt with
  | some d =>
    if s.get RTB_FSYNC_CFG_out_raster = r then
      { s with fsync := { s.fsync with outExt := s.fsync.outExt + s.slotGain r t d (s.get RTB_FSYNC_CFG_width) s.fsync.outExt } }
    else s
  | none => s

/-- CMP_PULSE_END: the oldest pulse ends 24 ticks after the tick that lies width slots after its match (R61). -/
def cmpPulseEnd (s : State) (n : Nat) : State :=
  match (s.cmp n).pulses with
  | [] => s
  | q :: rest => (s.advanceTo (s.slotsAfter q.raster q.at_ q.width q.ext + 24)).setCmp n { s.cmp n with pulses := rest }

/-! ## FSYNC (R60) -/

/-- FSYNC is active, after polarity. (DEDUCED, log entry 40.) -/
def fsyncActive (s : State) : Bool := s.fsync.high != s.bit RTB_FSYNC_CFG_pol

/-- The ball changes level: while FSYNC is an input, a leading edge is timestamped and a trailing edge ends the pulse under judgement. -/
def fsyncEdge (s : State) (high : Bool) : State :=
  if s.bit RTB_FSYNC_CFG_dir ∨ high = s.fsync.high then { s with fsync := { s.fsync with high := high } }
  else if high != s.bit RTB_FSYNC_CFG_pol then
    { s with fsync := { s.fsync with high := high, edgeAt := some s.now, fellAt := none } }
  else { s with fsync := { s.fsync with high := high, fellAt := s.fsync.edgeAt.map (fun _ => s.now) } }

/-- The pulse has stayed active for min_width slots: it is a source event at its leading edge, and the period is updated. LOCK_DLY, run and the moments pending are those at the
acceptance. (DESIGN CHOICE, log entry 40.) -/
def fsyncAccept (s : State) : State :=
  match s.fsync.edgeAt with
  | none => s
  | some e =>
    let d := e + 96 * s.get RTB_FSYNC_CFG_min_width
    if s.fsync.fellAt.any (fun f => f < d) then s
    else
      let s := s.advanceTo d
      let s := match s.fsync.lastAt with
        | some l => s.setNum RTB_FSYNC_PERIOD (sat 0xFFFF_FFFF (e - l))
        | none => s
      ({ s with fsync := { s.fsync with edgeAt := none, fellAt := none, lastAt := some e } }).sourceEvent 5 e

/-- The pulse ended before min_width slots: it is rejected and counted. -/
def fsyncReject (s : State) : State :=
  match s.fsync.edgeAt, s.fsync.fellAt with
  | some e, some f =>
    if f < e + 96 * s.get RTB_FSYNC_CFG_min_width then
      (({ s with fsync := { s.fsync with edgeAt := none, fellAt := none } }).bump RTB_FSYNC_STAT_rejected).setBit RTB_EVT_fsync
    else s
  | _, _ => s

/-- As an output, FSYNC goes active 12 ticks after (out_line, 0, 0) of out_raster in every frame; where the pulse of the frame before still runs, the ball stays active and
the width counts from the later one (R60). (DEDUCED, log entry 40.) -/
def fsyncOutputPulse (s : State) : State :=
  let x := s.raster (s.get RTB_FSYNC_CFG_out_raster)
  if s.bit RTB_FSYNC_CFG_dir && x.running && x.line == s.get RTB_FSYNC_CFG_out_line && s.fsync.outAt != some x.lineAt && decide (s.now ≤ x.lineAt + 12) then
    let s := s.advanceTo (x.lineAt + 12)
    { s with fsync := { s.fsync with outAt := some x.lineAt, outExt := 0, high := !s.bit RTB_FSYNC_CFG_pol } }
  else s

/-- The output pulse ends after width slots, counted as out_raster runs them. The width and the raster that RTB_FSYNC_CFG holds at the end govern the pulse, also where they
were written during it. (DEDUCED, log entry 40; DESIGN CHOICE for the rewrite, log entry 40.) -/
def fsyncOutputEnd (s : State) : State :=
  match s.fsync.outAt with
  | none => s
  | some d =>
    let s := s.advanceTo (s.slotsAfter (s.get RTB_FSYNC_CFG_out_raster) d (s.get RTB_FSYNC_CFG_width) s.fsync.outExt + 12)
    { s with fsync := { s.fsync with outAt := none, outExt := 0, high := s.bit RTB_FSYNC_CFG_pol } }

end State
end Sys2Proof.Machine
end

