-- ==== Sys2Proof/Machine/Psc.lean ====
section
/-! DEFINITION. Machine/Psc.lean: the Pulon sequencer complex (spec 03): edge queues, core states and starts, program digests, semaphores and
watchdogs. -/

namespace Sys2Proof.Machine
open R

/-- Instructions in a core's instruction memory, and bytes of its data memory (R71). -/
def imemWords (k : Nat) : Nat := if k < 4 then 4096 else if k = 4 then 32768 else 16384
def dmemBytes (k : Nat) : Nat := if k < 4 then 8192 else 262144

/-- Where core `k`'s memories begin in `State.imem` and `State.dmem`. -/
def coreBase (k : Nat) : Nat := k * 2 ^ 20

/-- Party code of a core index (R19). -/
def coreCode (k : Nat) : Nat := if k < 4 then 4 + k else if k = 4 then 1 else 2

/-- What became of a committed entry (R81). -/
inductive Commit where
  | pending | late | full
deriving DecidableEq, Repr

namespace State

/-! ## States of a core -/

/-- PSC_SQx_STAT.state: 0 HALTED, 1 ARMED, 2 RUNNING, 3 FENCED (R84). -/
def sqState (s : State) (q : Nat) : Nat := s.get (PSC_SQ_STAT_state q)

/-- Whether core `k` executes instructions: an SQ core in RUNNING, SUP unless halted, MET on a part that has one. -/
def coreRuns (s : State) (k : Nat) : Bool :=
  if k < 4 then s.sqState k == 2 else if k = 4 then !s.bit PSC_SUP_STAT_halted else s.variantM

/-- The instruction word at index `pc` of core `k`'s instruction memory. -/
def fetchWord (s : State) (k pc : Nat) : W32 := BitVec.ofNat 32 (Memory.num s.imem (coreBase k + 4 * pc) 4)

/-- The tick in which core `k`'s next instruction, of `n` cycles, begins: the first tick of the first Pulon cycle in which the core is ready. The clock may stand inside it
already, as the cores run side by side and another core's shorter instruction may have ended there; an instruction that the sender is late with begins as late as its end
needs. (DESIGN CHOICE, log entry 7; DEDUCED, log entry 10.) -/
def issueTick (s : State) (k n : Nat) : Nat := (max (s.core k).readyAt (s.now + 1 - 4 * n) + 3) / 4 * 4

/-- The next instruction boundary of core `k`. (DESIGN CHOICE, log entry 7; DEDUCED, log entry 10.) -/
def boundaryTick (s : State) (k : Nat) : Nat := (max s.now (s.core k).readyAt + 3) / 4 * 4

/-! ## Edge queue (R80, R81) -/

/-- An entry of core `k` is dropped as late. -/
def countLate (s : State) (k : Nat) : State :=
  (if k < 4 then s.bump (PSC_SQ_CNT_late k) else s.bump PSC_SUP_CNT_late).setBit PSC_EVT_late (min k 4)

/-- An entry of core `k` is dropped because the queue is full. -/
def countFull (s : State) (k : Nat) : State :=
  (if k < 4 then s.bump (PSC_SQ_CNT_full k) else s.bump PSC_SUP_CNT_full).setBit PSC_EVT_full (min k 4)

/-- Rule 2 of R81: the target is unreachable, names a raster other than an SQ core's own, or is at or before the locus at tick `t`. -/
def entryLate (s : State) (k : Nat) (target : W64) (t : Nat) : Bool :=
  unreachable target || (decide (k < 4) && locRaster target != k) ||
    ordLocus target ((s.raster (locRaster target)).posAt t) != .gt

/-- An entry is committed at tick `t`. -/
def commitEntry (s : State) (k : Nat) (e : QEntry) (t : Nat) : State × Commit :=
  if s.entryLate k e.target t then (s.countLate k, .late)
  else if 64 ≤ (s.core k).queue.length then (s.countFull k, .full)
  else (s.modCore k (fun x => { x with queue := x.queue ++ [e] }), .pending)

/-- The earliest tick at which a pending entry of core `k` fires, among those due in the lines now running. -/
def firstDue (s : State) (k : Nat) : Option Nat :=
  (s.core k).queue.foldl (fun o e =>
    match s.dueTick e.target, o with
    | some d, some m => some (min d m)
    | some d, none => some d
    | none, o => o) none

/-- The levels `mask` of `w` set to `lvl`. -/
def setLevels (w mask : Nat) (lvl : Bool) : Nat := if lvl then w ||| mask else w &&& (0xFFFF_FFFF ^^^ (mask % 2 ^ 32))

/-- Pins of `mask` that are in the timed-output function (R122). -/
def timedPins (s : State) (mask : Nat) : Nat :=
  ((List.range 32).filter (fun n => mask / 2 ^ n % 2 = 1 ∧ s.get (GPIO_FUN_func n) = 3)).foldl (fun m n => m + 2 ^ n) 0

/-- One entry of core `k` fires at tick `t` (R81, R122, R123): its outputs take the level, or a strobe run begins. -/
def fireEntry (s : State) (k t : Nat) (e : QEntry) : State :=
  if k < 4 then
    match e.kind with
    | .edge => s.modPort k (fun x => { x with lvl := setLevels x.lvl (e.mask.toNat % 4096) e.lvl })
    | .strobe =>
      s.modPort k (fun x =>
        { x with runs := x.runs ++ [{ kind := bitsOf e.mask 11 8, left := bitsOf e.mask 7 0 + 1, slot := locSlot e.target, tick := locTick e.target,
                                      bornAt := t, done := 0 }] })
  else { s with sio := { s.sio with timed := BitVec.ofNat 32 (setLevels s.sio.timed.toNat (s.timedPins e.mask.toNat) e.lvl) } }

/-- EDGE_ENTRY_FIRE: every pending entry of core `k` with the earliest due tick fires in that tick, in commit order, and the watchdog restarts (R81, R94). -/
def edgeEntryFire (s : State) (k : Nat) : State :=
  match s.firstDue k with
  | none => s
  | some t =>
    let due := fun (e : QEntry) => s.dueTick e.target == some t
    let es := (s.core k).queue.filter due
    let s := (s.advanceTo t).modCore k (fun x => { x with queue := x.queue.filter (fun e => !due e), wdCnt := if k < 4 then 0 else x.wdCnt })
    es.foldl (fun s e => s.fireEntry k t e) s

/-- At a line start of raster `r`, pending entries whose targets lay in slots that a lock removed are dropped and counted (R55, rule 5 of R81). -/
def dropRemoved (s : State) (r : Nat) : State :=
  [0, 1, 2, 3, 4].foldl (fun s k =>
    let gone := fun (e : QEntry) => locRaster e.target == r && ordLocus e.target (s.pos r) == .lt
    let n := ((s.core k).queue.filter gone).length
    let s := s.modCore k (fun x => { x with queue := x.queue.filter (fun e => !gone e) })
    (List.range n).foldl (fun s _ => s.countLate k) s) s

/-- The queue is emptied without firing. -/
def flushQueue (s : State) (k : Nat) : State := s.modCore k (fun x => { x with queue := [] })

/-! ## Programs, hashes and starts (R84–R90) -/

/-- Bytes of the constant region. -/
def constLen (s : State) (q : Nat) : Nat := s.get (PSC_SQ_CONST_len q)

/-- The bytes that the program digest of R86 covers, as they stand. -/
def programBytes (s : State) (q : Nat) : List Byte :=
  leBytes 4 (s.constLen q) ++ Memory.bytes s.imem (coreBase q) 16384 ++ Memory.bytes s.dmem (coreBase q) (s.constLen q)

/-- The hash in progress under a key of `Lines.hashes`. -/
def hashRun (s : State) (k : Nat) : HashRun := (Map.get (fun _ => none) s.lines.hashes k).getD { start := s.now }

def setHashRun (s : State) (k : Nat) (r : Option HashRun) : State := { s with lines := { s.lines with hashes := Map.set (fun _ => none) s.lines.hashes k r } }

/-- The digest that a hash ends with when it reads its remaining bytes from `l`, the whole range as it stands. -/
def hashEnd (s : State) (k : Nat) (l : List Byte) : List Byte := sha256 ((s.hashRun k).got ++ l.drop (s.hashRun k).got.length)

/-- A hash begins. -/
def hashStart (s : State) (q : Nat) : State := (s.setBit (PSC_SQ_STAT_hashing q)).setHashRun q (some { start := s.now })

/-- A hash is abandoned. -/
def hashDrop (s : State) (q : Nat) : State := (s.clrBit (PSC_SQ_STAT_hashing q)).setHashRun q none

/-- HASH_COMPLETE (R86, R87): the clock moves on until every byte is read, one a Pulon cycle. (DESIGN CHOICE, log entry 19.) -/
def hashComplete (s : State) (q : Nat) : State :=
  if !s.bit (PSC_SQ_STAT_hashing q) then s
  else
    let l := s.programBytes q
    let d := s.hashEnd q l
    let s := s.advanceTo ((s.hashRun q).start + 4 * l.length)
    let ref := Map.get (fun _ => []) s.progRef q
    let s := (List.range 8).foldl (fun s k => s.setNum (PSC_SQ_DIGEST q k) (ofLe ((d.drop (4 * k)).take 4))) s
    ((s.hashDrop q).wrBit (PSC_SQ_STAT_digest_ok q) 0 (!ref.isEmpty && decide (ref = d))).setBit PSC_EVT_hash q

/-- A core as it starts at index `pc` and tick `t`: every register and flag cleared (R73). -/
def freshCore (x : CoreSt) (pc t : Nat) : CoreSt :=
  { x with w := [], l := [], z := false, n := false, c := false, v := false, pc := pc, waiting := none, halting := false, readyAt := t }

/-- The core enters RUNNING: registers cleared, PC from the entry register, the watchdog restarted, the fence record dropped (R73, R85, R94, R96). -/
def sqRun (s : State) (q : Nat) : State :=
  ((s.put (PSC_SQ_STAT_state q) 2).setNum (PSC_SQ_CAUSE q) 0).modCore q (fun x => { freshCore x (s.get (PSC_SQ_ENTRY_entry q)) s.now with wdCnt := 0 })

/-- SQ_START at a frame start of the core's raster: an ARMED core whose hash is complete passes the gate of R88 or returns to HALTED. While the power-down that a fence began
has not reached OFF the core stays ARMED, as R150 has the port OFF before it starts. (DESIGN CHOICE, log entry 39.) -/
def sqStart (s : State) (q : Nat) : State :=
  if s.sqState q != 1 || s.bit (PSC_SQ_STAT_hashing q) || (s.port q).fencedDown then s
  else
    let ok := s.bit (PSC_SQ_STAT_digest_ok q)
    if s.sealed && !ok then (s.put (PSC_SQ_STAT_state q) 0).setBit PSC_EVT_refused q
    else (s.sqRun q).wrBit (PSC_SQ_STAT_unverified q) 0 (s.variantM && !ok)

/-- A RUNNING core is HALTED. -/
def sqHalted (s : State) (q : Nat) : State := (s.put (PSC_SQ_STAT_state q) 0).modCore q (fun x => { x with waiting := none, halting := false })

/-- The first Pulon cycle in which core `k` is ready has begun before the present tick, so that an instruction is in progress on it. -/
def inProgress (s : State) (k : Nat) : Bool := (s.core k).waiting.isNone && decide (((s.core k).readyAt + 3) / 4 * 4 < s.now)

/-- The halt command: an ARMED core is HALTED with its hash abandoned, a RUNNING one after the instruction in progress, or at once between two instructions and during a locus
wait (R84). -/
def sqHalt (s : State) (q : Nat) : State :=
  if s.sqState q = 1 then (s.put (PSC_SQ_STAT_state q) 0).hashDrop q
  else if s.sqState q = 2 then (if s.inProgress q then s.modCore q (fun x => { x with halting := true }) else s.sqHalted q)
  else s

/-- The end of an instruction of core `k`: a halt that waited for it takes effect (R84). -/
def haltAfter (s : State) (k : Nat) : State := if (s.core k).halting then s.sqHalted k else s

/-- A write to PSC_SQx_CTL: halt, then flush, then start or check; a start or check beside a halt is ignored (R84). -/
def sqCommand (s : State) (q : Nat) (v : W32) : State :=
  let s := if bitOf v 1 then s.sqHalt q else s
  let s := if bitOf v 2 then s.flushQueue q else s
  if bitOf v 1 || s.sqState q != 0 then s
  else if bitOf v 0 then (s.put (PSC_SQ_STAT_state q) 1).hashStart q
  else if bitOf v 3 then s.hashStart q
  else s

/-- The PSC's part of a port fence (R37, R84, R96): FENCED, cause and PC recorded, queue emptied. A hash in progress, of a start or a check, is abandoned.
(DESIGN CHOICE, log entry 19: the spec names only the halt of an ARMED core.) -/
def pscFence (s : State) (q cause pc : Nat) : State :=
  ((((s.put (PSC_SQ_STAT_state q) 3).hashDrop q).setNum (PSC_SQ_CAUSE q) (pc % 4096 * 65536 + cause)).setBit PSC_EVT_fenced q).modCore q
    (fun x => { x with queue := [], waiting := none, halting := false })

/-! ## Semaphores (R92, R93, R127) -/

/-- The word of a semaphore after every claim and free of one Pulon cycle, whatever their order: a free acts first, then the first claimant in the order SQA to SQD, SUP holds it (R92). -/
def semWord (o : SemOps) : Nat :=
  let w := if o.frees.any (fun k => 8 + coreCode k == o.start) then 0 else o.start
  if w ≠ 0 then w else match [0, 1, 2, 3, 4].find? (fun k => o.claims.contains k) with
    | some k => 8 + coreCode k
    | none => 0

/-- What the cores have asked of semaphore `n` in the present Pulon cycle. -/
def semOps (s : State) (n : Nat) : SemOps :=
  let o := Map.get (fun _ => {}) s.arb.sems n
  if o.cycle = s.now / 4 ∧ semWord o = s.num (PSC_SEM n) then o else { cycle := s.now / 4, start := s.num (PSC_SEM n) }

/-- The semaphore and the C of every claimant of the cycle as its claims and frees leave them (R92, R127). -/
def semSettle (s : State) (n : Nat) (o : SemOps) : State :=
  let t := (s.setNum (PSC_SEM n) (semWord o)).wrBit ⟨PSC_SEM_BUSY, 31, 0⟩ n (semWord o != 0)
  let t := { t with arb := { t.arb with sems := Map.set (fun _ => {}) s.arb.sems n o } }
  o.claims.foldl (fun s k => s.modCore k (fun x => { x with c := semWord o != 8 + coreCode k })) t

/-- CLAIM of semaphore `n` by core `k`; answers whether it succeeds, as far as the cycle's other claims are known. -/
def semClaim (s : State) (k n : Nat) : State × Bool :=
  let o := { s.semOps n with claims := k :: (s.semOps n).claims }
  (s.semSettle n o, semWord o == 8 + coreCode k)

/-- FREE of semaphore `n` by core `k`; answers whether the core held it. -/
def semFree (s : State) (k n : Nat) : State × Bool :=
  let o := { s.semOps n with frees := k :: (s.semOps n).frees }
  (s.semSettle n o, o.start == 8 + coreCode k)

/-- Semaphore `n` is freed for core `k`, which holds it, by a forced release or a reset. -/
def semRelease (s : State) (k n : Nat) : State :=
  if s.bit (PSC_SEM_busy n) && s.get (PSC_SEM_holder n) == coreCode k then (s.setNum (PSC_SEM n) 0).clrBit ⟨PSC_SEM_BUSY, 31, 0⟩ n else s

/-! ## Watchdogs (R94, R95) -/

/-- A line start of raster `r` counts for the watchdogs that name it. The count of an SQ core goes on while its limit is 0, and a limit written at or below the count expires at
once. (DESIGN CHOICE, log entry 33.) -/
def pscLine (s : State) (r : Nat) : State :=
  let s := [0, 1, 2, 3].foldl (fun s q =>
    if s.sqState q = 2 ∧ s.counted q = r then s.modCore q (fun x => { x with wdCnt := x.wdCnt + 1 }) else s) s
  if s.get PSC_SUP_WD_CFG_limit ≠ 0 ∧ s.counted (s.get PSC_SUP_WD_CFG_raster) = r then s.modCore 4 (fun x => { x with wdCnt := x.wdCnt + 1 }) else s

/-- The SQ watchdog of core `q` has reached its limit. -/
def sqExpired (s : State) (q : Nat) : Bool :=
  s.sqState q == 2 && s.get (PSC_SQ_WDOG_limit q) != 0 && decide (s.get (PSC_SQ_WDOG_limit q) ≤ (s.core q).wdCnt)

/-- The SUP watchdog has reached its limit. -/
def supExpired (s : State) : Bool := s.get PSC_SUP_WD_CFG_limit != 0 && decide (s.get PSC_SUP_WD_CFG_limit ≤ (s.core 4).wdCnt)

/-- SUP_WATCHDOG_FIRST_STAGE. -/
def supWdFirst (s : State) : State :=
  if s.supExpired && !(s.core 4).wdFirst then (s.setBit PSC_EVT_supwd).modCore 4 (fun x => { x with wdCnt := 0, wdFirst := true }) else s

/-- A kick restarts the count and withdraws the first stage. -/
def supWdKick (s : State) (v : W32) : State := if v = 0x5A#32 then s.modCore 4 (fun x => { x with wdCnt := 0, wdFirst := false }) else s

/-- A write of PSC_SUP_WD_CFG that changes raster or limit restarts the count; a raster of 5–7 leaves that field (R95, R100). -/
def supWdCfg (s : State) (v : W32) : State :=
  let r := if 4 < bitsOf v 18 16 then s.get PSC_SUP_WD_CFG_raster else bitsOf v 18 16
  let s' := (s.put PSC_SUP_WD_CFG_limit (bitsOf v 15 0)).put PSC_SUP_WD_CFG_raster r
  if s'.num PSC_SUP_WD_CFG = s.num PSC_SUP_WD_CFG then s else s'.modCore 4 (fun x => { x with wdCnt := 0 })

/-! ## SUP's start (R91) -/

/-- A write of 0 to rom_map: SUP leaves the boot ROM and starts at PSC_SUP_ENTRY with every register and flag cleared (R73, R91, R105); a write of 1 is ignored. -/
def romMapClear (s : State) : State :=
  if s.bit PSC_SUP_CTL_rom_map then
    ((s.clrBit PSC_SUP_CTL_rom_map).clrBit PSC_SUP_STAT_rom).modCore 4 (fun x => freshCore x (s.get PSC_SUP_ENTRY_entry) x.readyAt)
  else s

end State
end Sys2Proof.Machine
end

