-- ==== Sys2Proof/Machine/Sio.lean ====
section
/-! DEFINITION. Machine/Sio.lean: the raw-word side of the host port, the peripheral port and GPIO (spec 13, and R124–R126 of spec 04). -/

namespace Sys2Proof.Machine
open R

namespace State

def modSio (s : State) (f : SioSt → SioSt) : State := { s with sio := f s.sio }

/-! ## Raw-word frames (R364, R365) -/

/-- The port byte of R357. -/
def portByte (s : State) : Byte := BitVec.ofNat 8 (0xA0 + b2n s.sio.reply.isSome * 16 + b2n (!s.sio.txq.isEmpty) * 8)

/-- Byte 0 of a raw-word frame goes out: the port byte (R357). -/
def rawBegin (s : State) : State := s.modSio (fun x => { x with miso := [s.portByte] })

/-- RAW_WORD_UNIT: one unit of a raw-word frame with `mosi` from the host; not `full` when HCS_N rises within it. -/
def rawWordUnit (s : State) (mosi : W32) (full : Bool) : State :=
  if !s.bit HPORT_CFG_raw_en then s.modSio (fun x => { x with misoUnit := 0#32 })
  else
    let n := s.get HPORT_CFG_unit + 1
    let lim := fun (w : W32) => BitVec.ofNat 32 (w.toNat % 2 ^ n)
    let s := match s.sio.txq with
      | [] => (s.setBit SIO_EVT_tx_udf).modSio (fun x => { x with misoUnit := 0#32 })
      | h :: rest => s.modSio (fun x => { x with txq := rest, misoUnit := lim h })
    if !full then s.bump HPORT_CNT_partial
    else if 64 ≤ s.sio.rxq.length then (s.bump HPORT_CNT_rx_ovf).setBit SIO_EVT_rx_ovf
    else s.modSio (fun x => { x with rxq := x.rxq ++ [lim mosi] })

/-- HPORT_RXD_READ: SUP pops the head; any other party sees it without popping. -/
def rxdRead (s : State) (sup : Bool) : State × W32 :=
  match s.sio.rxq with
  | [] => (s, 0#32)
  | h :: rest => (if sup then s.modSio (fun x => { x with rxq := rest }) else s, h)

/-- HPORT_TXD_WRITE. -/
def txdWrite (s : State) (v : W32) : State :=
  if 64 ≤ s.sio.txq.length then s.setBit SIO_EVT_tx_ovf else s.modSio (fun x => { x with txq := x.txq ++ [v] })

/-- TX_FLUSH and RX_FLUSH. -/
def txFlush (s : State) : State := s.modSio (fun x => { x with txq := [] })
def rxFlush (s : State) : State := s.modSio (fun x => { x with rxq := [] })

/-- HPORT_DOORBELL_WRITE. -/
def doorbell (s : State) (v : W32) : State := (s.setReg HPORT_DOORBELL v).setBit SIO_EVT_doorbell

/-! ## Peripheral port (R124, R125, R370–R373) -/

/-- PPORT shifts: a unit of a core, or the bulk engine. -/
def pportBusy (s : State) : Bool := s.sio.ppUnit.isSome || s.sio.bulk.isSome

/-- Shift clocks of a unit of `bits` bits (R124). -/
def unitClocks (bits : Nat) (quad : Bool) : Nat := if quad then (bits + 3) / 4 else bits

/-- A core's PPX finds the port idle, or held by a unit that a core behind it in the order SQA to SQD, SUP issued in the same Pulon cycle (R371). -/
def ppMayIssue (s : State) (k : Nat) : Bool :=
  s.bit PPORT_CFG_en && s.sio.bulk.isNone &&
    (match s.sio.ppUnit with
     | none => true
     | some u => u.cycle == s.now / 4 && decide (k < u.core))

/-- The unit that the port holds is taken back from its core: another core of the same Pulon cycle is before it (R371). -/
def ppYield (s : State) : State :=
  match s.sio.ppUnit with
  | none => s
  | some u => s.modCore u.core (fun x => { x with c := true, ppAborted := u.wasAborted })

/-- PPX by core `k`; answers whether the unit is issued, as far as the cycle's other requests are known. Its first edge comes half a shift period after the issue, the least
that R126 gives for one issued after a select change, and its end no earlier than its shift periods after that. (DESIGN CHOICE, log entry 36.) -/
def ppIssue (s : State) (k : Nat) (v : W32) (len : Nat) (quad rx : Bool) : State × Bool :=
  if !s.ppMayIssue k then (s, false)
  else
    let s := s.ppYield
    let n := unitClocks (len + 1) quad
    let wire := if quad then 4 * n else n
    let u : PpUnit :=
      { core := k, bits := len + 1, quad := quad, rx := rx, tx := BitVec.ofNat 32 (v.toNat % 2 ^ (len + 1) * 2 ^ (wire - (len + 1))), clocks := n,
        edgeAt := s.now + 1 + s.get PPORT_CFG_div / 2, cycle := s.now / 4, wasAborted := (s.core k).ppAborted }
    let s := s.modSio (fun x => { x with ppUnit := some u })
    (((s.setBit PPORT_STAT_busy).put PPORT_STAT_holder (coreCode k)).modCore k (fun x => { x with ppAborted := false }), true)

/-- The port goes idle. -/
def ppIdle (s : State) : State := ((s.clrBit PPORT_STAT_busy).put PPORT_STAT_holder 0).modSio (fun x => { x with ppUnit := none })

/-- The unit's value among the bits that were on the wire: the extra bits of a final nibble are discarded (R124). -/
def unitValue (u : PpUnit) (wire : Nat) : Nat :=
  let w := if u.quad then 4 * u.clocks else u.clocks
  wire % 2 ^ w / 2 ^ (w - u.bits)

/-- PPORT_UNIT_COMPLETE: the unit ends, no earlier than its shift periods after its first edge, and shows from the next Pulon cycle on; a receiving unit keeps the bits that the
device drove, which are open when none drove them (R124, R125). -/
def ppComplete (s : State) (wire : Option W32) : State :=
  match s.sio.ppUnit with
  | none => s
  | some u =>
    let s := s.advanceTo (((u.edgeAt + u.clocks * s.get PPORT_CFG_div) / 4 + 1) * 4)
    let s := s.ppIdle
    if u.rx then
      let v := unitValue u (match wire with | some b => b.toNat | none => (Config.floatingPio s.freeCtr).toNat)
      (s.drawn).modCore u.core (fun x => { x with ppRx := BitVec.ofNat 32 v })
    else s

/-- Forced release aborts core `k`'s unit (R373); answers whether there was one. -/
def ppAbort (s : State) (k : Nat) : State × Bool :=
  match s.sio.ppUnit with
  | some u =>
    if u.core = k then (((s.ppIdle.modCore k (fun x => { x with ppAborted := true })).bump PPORT_CNT_aborted).setBit SIO_EVT_abort, true) else (s, false)
  | none => (s, false)

/-- Bulk data written to DRAM word by word from data address `a`; a guarded word is skipped (R347, R372). (DEDUCED, log entry 37.) -/
def bulkStore (s : State) (a : Nat) : Nat → List Byte → State
  | 0, _ => s
  | n + 1, l =>
    let w := l.take 8
    let s := if w.isEmpty then s
      else if s.guarded a then s.setBit PPORT_BULK_STAT_guard
      else s.dramWrite 3 1 a w
    s.bulkStore (a + 8) n (l.drop 8)

/-- BULK_START. -/
def bulkStart (s : State) (quad : Bool) : State :=
  if !s.bit PPORT_CFG_en || s.pportBusy then s.setBit SIO_EVT_bulk_err
  else
    let s := ((s.setNum PPORT_BULK_STAT (2 ^ 31)).setBit PPORT_STAT_busy).setBit PPORT_STAT_bulk
    s.modSio (fun x => { x with bulk := some quad })

/-- The bulk engine ends: the data received so far are in memory. (DEDUCED, log entry 37.) -/
def bulkEnd (s : State) (data : List Byte) (stopped : Bool) : State :=
  let n := s.get PPORT_BULK_LEN_4 * 4096
  let data := data.take n
  let s := s.bulkStore (s.get PPORT_BULK_DST_dram * 4096) ((data.length + 7) / 8) data
  let s := (s.put PPORT_BULK_STAT_units (data.length / 4096)).clrBit PPORT_BULK_STAT_busy
  let s := ((s.clrBit PPORT_STAT_busy).clrBit PPORT_STAT_bulk).modSio (fun x => { x with bulk := none })
  if stopped || s.bit PPORT_BULK_STAT_guard then s.setBit SIO_EVT_bulk_err else s.setBit SIO_EVT_bulk_done

/-- BULK_STOP: the engine ends at the next byte boundary, `data` received. (DEDUCED, log entry 37.) -/
def bulkStop (s : State) (data : List Byte) : State := if s.sio.bulk.isSome then s.bulkEnd data true else s

/-- BULK_DONE: all units are received. -/
def bulkDone (s : State) (data : List Byte) : State :=
  if s.sio.bulk.isSome && data.length == s.get PPORT_BULK_LEN_4 * 4096 then s.bulkEnd data false else s

/-! ## GPIO (R126, R374, R375) -/

/-- The level that a pin's function gives it; none for an input. -/
def pinFunction (s : State) (n : Nat) : Option Bool :=
  match s.get (GPIO_FUN_func n) with
  | 1 => some (bitOf (s.reg GPIO_OUT) n)
  | 2 => some (bitOf s.sio.sel n)
  | 3 => some (bitOf s.sio.timed n)
  | 4 => some (s.cmpLevel (s.get (GPIO_FUN_cmp n)))
  | _ => none

/-- What the SK4128 drives on pin `n`: an open-drain pin is released when high. -/
def pinDrive (s : State) (n : Nat) : Option Bool :=
  match s.pinFunction n with
  | some true => if s.bit (GPIO_FUN_od n) then none else some true
  | o => o

/-- The level of pin `n`: what drives it, else the pull-up, else no defined level. (UNVERIFIED, log entry 36.) -/
def pinLevel (s : State) (n : Nat) : Bool :=
  match s.pinDrive n with
  | some l => l
  | none =>
    match Map.get (fun _ => none) s.sio.ext n with
    | some l => l
    | none => if s.bit (GPIO_FUN_pull n) then true else Config.floatingPin (s.freeCtr * 32 + n)

/-- GPIO_EDGE: the board drives pin `n` with `drive` (none: not at all), and the edge detection sees the pin's level. (UNVERIFIED, log entry 36.) -/
def gpioEdge (s : State) (n : Nat) (drive : Option Bool) : State :=
  let s := s.modSio (fun x => { x with ext := Map.set (fun _ => none) x.ext n drive })
  let l := s.pinLevel n
  let was := bitOf s.sio.seen n
  let e := s.get (GPIO_FUN_edge n)
  let s := if l = was then s
    else
      let s := s.modSio (fun x => { x with seen := BitVec.ofNat 32 (setLevels x.seen.toNat (2 ^ n) l) })
      if (l && e % 2 == 1) || (!l && e / 2 == 1) then s.setBit ⟨GPIO_EVT, 31, 0⟩ n else s
  s.drawn

/-- Select pins that core `k` drives: those assigned to it, and every one for SUP (R126). -/
def selectPins (s : State) (k mask : Nat) : Nat :=
  ((List.range 32).filter (fun n => mask / 2 ^ n % 2 = 1 ∧ s.get (GPIO_FUN_func n) = 2 ∧ (k = 4 ∨ s.get (GPIO_FUN_core n) = coreCode k))).foldl (fun m n => m + 2 ^ n) 0

/-- Pins that SUP has driven in the present Pulon cycle (R126). -/
def supDriven (s : State) : Nat := if s.sio.supDrove.1 = s.now / 4 then s.sio.supDrove.2 else 0

/-- GSEL: the pins of a mask that core `k` may drive take a level; on a pin that SUP drives in the same Pulon cycle SUP's level stands (R126). -/
def gsel (s : State) (k mask : Nat) (lvl : Bool) : State :=
  let pins := s.selectPins k mask
  if k = 4 then s.modSio (fun x => { x with sel := BitVec.ofNat 32 (setLevels x.sel.toNat pins lvl), supDrove := (s.now / 4, s.supDriven ||| pins) })
  else s.modSio (fun x => { x with sel := BitVec.ofNat 32 (setLevels x.sel.toNat (pins - (pins &&& s.supDriven)) lvl) })

/-- Select pins assigned to core `k` that stand away from their idle level. -/
def activeSelects (s : State) (k : Nat) : List Nat :=
  (List.range 32).filter (fun n => s.get (GPIO_FUN_func n) = 2 ∧ s.get (GPIO_FUN_core n) = coreCode k ∧ bitOf s.sio.sel n ≠ s.bit (GPIO_FUN_idle n))

/-- Forced release returns a core's selects to their idle levels (R39). -/
def idleSelects (s : State) (k : Nat) : State :=
  (s.activeSelects k).foldl (fun s n => s.modSio (fun x => { x with sel := BitVec.ofNat 32 (setLevels x.sel.toNat (2 ^ n) (s.bit (GPIO_FUN_idle n))) })) s

/-- A write of GPIO_FUNn: a reserved function leaves the register unchanged, a reserved core code that field; a pin that enters function 2 or 3 takes its idle level
(R374, R375, R391). -/
def gpioFun (s : State) (n : Nat) (v : W32) : State :=
  if 4 < bitsOf v 2 0 then s
  else
    let old := s.reg (GPIO_FUN n)
    let c := bitsOf v 6 4
    let v := if c = 0 ∨ c = 2 ∨ c = 3 then withBits v 6 4 (bitsOf old 6 4) else v
    let v := BitVec.ofNat 32 (v.toNat &&& 0xF7F7)
    let s := s.setReg (GPIO_FUN n) v
    let enters := fun f => bitsOf v 2 0 = f ∧ bitsOf old 2 0 ≠ f
    if enters 2 then s.modSio (fun x => { x with sel := BitVec.ofNat 32 (setLevels x.sel.toNat (2 ^ n) (bitOf v 7)) })
    else if enters 3 then s.modSio (fun x => { x with timed := BitVec.ofNat 32 (setLevels x.timed.toNat (2 ^ n) (bitOf v 7)) })
    else s

/-- A write of PPORT_CFG is ignored while the port is busy or with a divisor that is odd or outside 30–254 (R370). -/
def pportCfg (s : State) (v : W32) : State :=
  let d := bitsOf v 7 0
  if s.pportBusy || d % 2 == 1 || decide (d < 30) || decide (254 < d) then s else s.setReg PPORT_CFG (BitVec.ofNat 32 (v.toNat &&& 0x103FF))

end State
end Sys2Proof.Machine
end

