-- ==== Sys2Proof/Machine/Intc.lean ====
section
/-! DEFINITION. Machine/Intc.lean: the interrupt controller (spec 14): source levels, pending and claimable sources, claims, completion and holdoff. -/

namespace Sys2Proof.Machine
open R

/-- Targets by number: 1 H0, 2 H1, 3 S. `tgt t` is the index of the registers of target `t` (R406). -/
def targets : List Nat := [1, 2, 3]

/-- Block of an address, as its interrupt group; the INTC itself, memories and private space have none (R14, R403). -/
def blockGroup (a : Nat) : Option Nat :=
  let k := a / 4096
  if 0x04_0000 ≤ a ∧ a < 0x08_0000 then some 7
  else match k with
    | 0 => some 0 | 2 => some 1 | 3 => some 2 | 4 => some 3 | 5 => some 4 | 6 => some 4 | 7 => some 5 | 8 => some 6 | 9 => some 7 | 10 => some 7
    | 11 => some 8 | 12 => some 9 | 13 => some 10 | 14 => some 11 | 15 => some 12 | 16 => some 13 | 17 => some 14 | 18 => some 15
    | _ => none

namespace State

/-- Any bit of a field is 1. -/
def any (s : State) (f : Field) : Bool := s.get f != 0

/-- Any port's copy of a field is 1. -/
def anyPort (s : State) (f : Nat → Field) : Bool := s.any (f 0) || s.any (f 1) || s.any (f 2) || s.any (f 3)

/-- RTB_EVT.subst: the latch of R49. -/
def substLatched (s : State) : Bool := s.lines.substEvt

/-- The levels of one interrupt group's sources, lowest source first (R394 and the source table of each block). -/
def groupLevels (s : State) (g : Nat) : List Bool :=
  match g with
  | 0 => [s.any SCA_EVT_warn, s.any SCA_EVT_recover, s.any SCA_EVT_pll, s.any SCA_EVT_age, s.any SCA_EVT_avs, s.any SCA_EVT_clk, s.any SCA_EVT_log]
  | 1 => [(List.range 8).any (fun n => s.any (RTB_CMP_CTL_hit n)), s.any RTB_EVT_lost, s.any RTB_EVT_acq, s.any RTB_EVT_slip, s.any RTB_EVT_late,
          s.any RTB_EVT_fsync, s.substLatched]
  | 2 => [s.any PSC_EVT_late, s.any PSC_EVT_full, s.any PSC_EVT_fenced, s.any PSC_EVT_supwd, s.any PSC_EVT_sup_fault, s.any PSC_EVT_hash,
          s.any PSC_EVT_refused, s.num PSC_SIG != 0 || s.any PSC_SIG_SUP_sup]
  | 3 => [s.anyPort FPP_EVT_up, s.anyPort FPP_EVT_down, s.anyPort FPP_EVT_fault, s.anyPort FPP_EVT_fenced, s.anyPort FPP_EVT_discard, s.anyPort FPP_EVT_test]
  | 4 => [s.any LCA_EVT_fence, s.any LCA_EVT_parity, s.any LCA_EVT_incomplete, s.any LCA_EVT_collide, s.any LCA_EVT_stray,
          s.any LCA_ST_STAT_done || s.any LCA_ST_STAT_refused || s.any LCA_ST_STAT_aborted]
  | 5 => [s.any PCE_EVT_refused, s.any PCE_EVT_check, s.any PCE_EVT_underrun, s.any PCE_EVT_ecc, s.any PCE_EVT_wedge,
          s.any PCE_EVT_rpl_done || s.any PCE_EVT_rpl_refused]
  | 6 => [s.any CSU_EVT_ff_done, s.any CSU_EVT_composed, s.any CSU_EVT_abort, s.any CSU_EVT_refused, s.any CSU_EVT_shutter, s.any CSU_EVT_overdue,
          s.any CSU_EVT_pixel, s.any CSU_EVT_resp]
  | 7 => [s.any IPL_EVT0_frame, s.any IPL_EVT0_drop, s.any IPL_EVT0_short, s.any IPL_EVT0_long, s.any IPL_EVT1_late, s.any IPL_EVT1_overrun,
          s.any IPL_EVT1_fence, s.any IPL_EVT1_throttle]
  | 8 => [s.any CER_EVT0_vfail || s.any CER_EVT2_rec_vfail, s.any CER_EVT0_refused, s.any CER_EVT1_drop || s.any CER_EVT2_lost, s.any CER_EVT2_fence,
          s.any CER_EVT2_freeze, s.any CER_EVT2_export, s.any CER_EVT2_load_done || s.any CER_EVT2_load_fail]
  | 9 => [s.any MEM_EVT_ce, s.any MEM_EVT_ue, s.any MEM_EVT_bs_ue, s.any MEM_EVT_scrub, s.any MEM_EVT_temp, s.any MEM_EVT_starve,
          s.any MEM_EVT_dma_done || s.any MEM_EVT_dma_err, s.any MEM_EVT_init_done]
  | 10 => [s.any NVS_EVT_ready, s.any NVS_EVT_done, s.any NVS_EVT_ce, s.any NVS_EVT_ue, s.any NVS_EVT_retire, s.any NVS_EVT_ambig, s.any NVS_EVT_wear]
  | 11 => [s.any HKT_WEVT_all, s.any HKT_REVT_all, s.any HKT_OEVT_bit || s.any HKT_EVT_fence, s.any HKT_EVT_round,
           s.any HKT_EVT_drop || s.any HKT_EVT_urg_done, s.any HKT_EVT_thr_req || s.any HKT_EVT_thr_enf || s.any HKT_EVT_thr_end, s.any HKT_EVT_ovr]
  | 12 => [s.any SDR_EVT_move, s.any SDR_EVT_nomove, s.any SDR_EVT_fence, s.any SDR_EVT_drop, s.any SDR_EVT_done]
  | 13 => [s.any HPORT_FIFO_rx_thr && decide (s.get HPORT_FIFO_rx_thr ≤ s.sio.rxq.length), decide (s.sio.txq.length < s.get HPORT_FIFO_tx_thr),
           s.any HPORT_STAT_crc || s.any HPORT_STAT_edge, s.any SIO_EVT_doorbell,
           s.any SIO_EVT_rx_ovf || s.any SIO_EVT_tx_udf || s.any SIO_EVT_tx_ovf,
           s.any SIO_EVT_bulk_done || s.any SIO_EVT_bulk_err || s.any SIO_EVT_abort, s.num GPIO_EVT != 0]
  | 14 => [s.any VIO_EVT_tx_up, s.any VIO_EVT_skip, s.any VIO_EVT_trunc || s.any VIO_EVT_memerr, s.any VIO_EVT_rx_frame, s.any VIO_EVT_rx_err,
           s.any VIO_EVT_rx_fence]
  | 15 => (List.range 8).map (fun b => bitOf (s.reg MEN_EVT) b)
  | _ => []

/-- The level of source `n` (R394). -/
def srcLevel (s : State) (n : Nat) : Bool := (s.groupLevels (n / 8)).getD (n % 8) false

/-- INTC_RAWn. -/
def rawWord (s : State) (n : Nat) : Nat := (List.range 32).foldl (fun m i => m + b2n (s.srcLevel (32 * n + i)) * 2 ^ i) 0

/-- Register index of target `t`. -/
def tx (t : Nat) : Nat := t - 1

/-- The software-pending bit, and the enable bit, of source `n` at target `t` (R395). -/
def swPending (s : State) (t n : Nat) : Bool := bitOf (s.reg (INTC_SWP (tx t) (n / 32))) (n % 32)
def enabledAt (s : State) (t n : Nat) : Bool := bitOf (s.reg (INTC_ENA (tx t) (n / 32))) (n % 32)

/-- Source `n` is pending at target `t`. -/
def pendingAt (s : State) (t n : Nat) : Bool := s.srcLevel n || s.swPending t n

/-- How source `n` is in service, if it is. -/
def serving (s : State) (n : Nat) : Option Serv := Map.get (fun _ => none) s.intc.serv n
def setServing (s : State) (n : Nat) (v : Option Serv) : State := { s with intc := { s.intc with serv := Map.set (fun _ => none) s.intc.serv n v } }

/-- Group `g`'s running holdoff at target `t`: line starts left, and the raster. -/
def holdOf (s : State) (t g : Nat) : Option (Nat × Nat) := Map.get (fun _ => none) s.intc.hold (t * 16 + g)
def setHold (s : State) (t g : Nat) (v : Option (Nat × Nat)) : State :=
  { s with intc := { s.intc with hold := Map.set (fun _ => none) s.intc.hold (t * 16 + g) v } }

/-- INTC_t_STAT.held (R404). -/
def heldGroups (s : State) (t : Nat) : Nat := (List.range 16).foldl (fun m g => m + b2n (s.holdOf t g).isSome * 2 ^ g) 0

/-- Source `n` is claimable at target `t` (R395). -/
def claimable (s : State) (t n : Nat) : Bool :=
  s.enabledAt t n && s.pendingAt t n && (s.serving n).isNone && (s.holdOf t (n / 8)).isNone

/-- Whether any source is enabled at target `t`; without enables nothing is looked at. -/
def anyEnabled (s : State) (t : Nat) : Bool := (List.range 4).any (fun k => s.num (INTC_ENA (tx t) k) != 0)

/-- The claimable sources of every target, each as target × 128 + number. -/
def claimables (s : State) : List Nat := targets.flatMap (fun t => if s.anyEnabled t then ((List.range 128).filter (s.claimable t)).map (t * 128 + ·) else [])

/-- Source `n` was claimable at target `t` at the start of the present Pulon cycle, as far as anything has happened in it (R400). -/
def startedClaimable (s : State) (t n : Nat) : Bool := s.lines.startCycle != s.now / 4 + 1 || s.lines.startable.contains (t * 128 + n)

/-- Priority of group `g` at target `t`. -/
def groupPrio (s : State) (t g : Nat) : Nat := s.num (INTC_PRIO (tx t)) / 4 ^ g % 4

/-- The source that a claim at target `t` would take: highest priority, then lowest number, of those claimable now and at the start of the cycle (R398, R400). -/
def bestSource (s : State) (t : Nat) : Option Nat :=
  ((List.range 128).filter (fun n => s.claimable t n && s.startedClaimable t n)).foldl (fun o n =>
    match o with
    | none => some n
    | some m => if s.groupPrio t (m / 8) < s.groupPrio t (n / 8) then some n else some m) none

/-- Whether target `t` requests (R396): some source is claimable. -/
def requesting (s : State) (t : Nat) : Bool := s.anyEnabled t && (List.range 128).any (s.claimable t)

/-- What a claim read returns. -/
def claimWord (o : Option Nat) : W32 :=
  match o with
  | none => 0#32
  | some n => BitVec.ofNat 32 (0x8000_0000 + n)

/-- Software-pending bit of source `n` at target `t` cleared. -/
def clearSwp (s : State) (t n : Nat) : State :=
  let a := INTC_SWP (tx t) (n / 32)
  if bitOf (s.reg a) (n % 32) then s.setNum a (s.num a - 2 ^ (n % 32)) else s

/-- A claim at target `t`: what it does, the word it returns, and its record (R398). -/
def claimOne (s : State) (t : Nat) : State × W32 × ClaimRec :=
  match s.bestSource t with
  | none => (s.bump (INTC_CNT_empty (tx t)), 0#32, { target := t, source := none, swp := false, empty := s.get (INTC_CNT_empty (tx t)) })
  | some n => ((s.clearSwp t n).setServing n (some { target := t, level := s.srcLevel n }), claimWord (some n),
      { target := t, source := some n, swp := s.swPending t n, empty := 0 })

/-- A claim of the cycle is taken back, since one that goes first has come (R401). -/
def claimUndo (s : State) (r : ClaimRec) : State :=
  match r.source with
  | none => s.put (INTC_CNT_empty (tx r.target)) r.empty
  | some n =>
    if (s.serving n).map (·.target) == some r.target then
      let s := s.setServing n none
      if r.swp then s.setReg (INTC_SWP (tx r.target) (n / 32)) (s.reg (INTC_SWP (tx r.target) (n / 32)) ||| BitVec.ofNat 32 (2 ^ (n % 32))) else s
    else s

/-- A claim that was taken back is served after the one that goes first: its word goes where its first one went. -/
def claimRedo (s : State) (r : ClaimRec) : State × ClaimRec :=
  let (t, v, r') := s.claimOne r.target
  let t := if r.target = 3 then { t with rdata := Map.set (fun _ => 0#32) t.rdata 1 v } else t
  let t :=
    match r.dest with
    | some (d, lo, n) => if d = 0#4 then t else t.modCore 4 (fun x => { x with w := Map.set (fun _ => 0#32) x.w d.toNat (BitVec.ofNat 32 (v.toNat / 256 ^ lo % 256 ^ n)) })
    | none => t
  (t, { r' with dest := r.dest })

/-- The claims of the present Pulon cycle, latest served first. -/
def cycleClaims (s : State) : List ClaimRec := if s.arb.claimCycle = s.now / 4 + 1 then s.arb.claims else []

/-- INTC_CLAIM by the owner (R398, R401): the claims of one Pulon cycle are served in the order H0, H1, S, so that one that comes later in the cycle and goes first in that order
takes its source before those behind it. -/
def intcClaim (s : State) (t : Nat) : State × W32 :=
  let behind := s.cycleClaims.filter (fun r => decide (t < r.target))
  let (s', v, r) := (behind.foldl claimUndo s).claimOne t
  let (s', l) := behind.reverse.foldl (fun (x : State × List ClaimRec) r => let (u, r') := x.1.claimRedo r; (u, r' :: x.2))
    (s', r :: s.cycleClaims.filter (fun r => !decide (t < r.target)))
  ({ s' with arb := { s'.arb with claims := l, claimCycle := s.now / 4 + 1 } }, v)

/-- A load by SUP of the claim register of its target keeps where its word went. -/
def claimDest (s : State) (d : BitVec 4) (lo n : Nat) : State :=
  match s.cycleClaims with
  | r :: l => if r.target = 3 ∧ r.dest.isNone then { s with arb := { s.arb with claims := { r with dest := some (d, lo, n) } :: l } } else s
  | [] => s

/-- INTC_CLAIM_PEEK (R399). -/
def intcPeek (s : State) (t : Nat) : W32 := claimWord (s.bestSource t)

/-- INTC_COMPLETE (R402–R404). -/
def intcComplete (s : State) (t n : Nat) : State :=
  match s.serving n with
  | none => s
  | some v =>
    if v.target != t then s
    else
      let s := if v.level && v.fell then s.bump (INTC_CNT_spurious (tx t)) else s
      let lines := s.get (INTC_HOLD_lines (tx t) (n / 8))
      let s := s.setServing n none
      if lines = 0 then s else s.setHold t (n / 8) (some (lines, s.get (INTC_HOLD_raster (tx t) (n / 8))))

/-- INTC_SET and INTC_CLR (R397): `on` sets bits of word `n`, else clears them, in the enables or the software-pending bits. -/
def intcSetClr (s : State) (t n : Nat) (v : W32) (on : Bool) : State :=
  let a := if s.bit (INTC_CFG_inject (tx t)) then INTC_SWP (tx t) n else INTC_ENA (tx t) n
  s.setReg a (if on then s.reg a ||| v else s.reg a &&& ~~~v)

/-- What reads of SETn and CLRn return. -/
def intcSetRead (s : State) (t n : Nat) : W32 := if s.bit (INTC_CFG_inject (tx t)) then s.reg (INTC_SWP (tx t) n) else s.reg (INTC_ENA (tx t) n)

/-- Number of sources in service at target `t`. -/
def servedAt (s : State) (t : Nat) : Nat :=
  (s.intc.serv.filter (fun e => match e.2 with | some v => v.target == t | none => false)).length

/-- INTC_t_STAT. -/
def intcStat (s : State) (t : Nat) : Nat := b2n (s.requesting t) * 2 ^ 31 + min 255 (s.servedAt t) * 65536 + s.heldGroups t

/-- INTC_INSVn and INTC_WHOn. -/
def insvWord (s : State) (n : Nat) : Nat := (List.range 32).foldl (fun m i => m + b2n (s.serving (32 * n + i)).isSome * 2 ^ i) 0
def whoWord (s : State) (n : Nat) : Nat :=
  (List.range 16).foldl (fun m i => m + (match s.serving (16 * n + i) with | some v => v.target | none => 0) * 4 ^ i) 0

/-- A line start of raster `r` counts for the holdoffs that name it (R404). -/
def holdLine (s : State) (r : Nat) : State :=
  { s with intc := { s.intc with hold := s.intc.hold.map (fun e =>
      match e.2 with
      | some (n, x) => (e.1, some (if s.counted x = r then n - 1 else n, x))
      | none => e) } }

/-- HOLDOFF_EXPIRY: the holdoff of group `g` at target `t` ends once its line starts have passed. -/
def holdoffExpiry (s : State) (t g : Nat) : State :=
  match s.holdOf t g with
  | some (0, _) => s.setHold t g none
  | _ => s

/-- An access by a party to address `a` counts for the sources in service at the targets that the party owns (R403). -/
def blockAccess (s : State) (sup : Bool) (a : Nat) : State :=
  match blockGroup a with
  | none => s
  | some g =>
    { s with intc := { s.intc with serv := s.intc.serv.map (fun e =>
        match e.2 with
        | some v => if e.1 / 8 = g ∧ (v.target == 3) = sup then (e.1, some { v with accessed := true }) else e
        | none => e) } }

/-- The watch of R403 over the sources in service. -/
def watchServed (s : State) (x : IntcSt) : IntcSt :=
  { x with serv := x.serv.map (fun e =>
      match e.2 with
      | some v => (e.1, some { v with fell := v.fell || (!v.accessed && !s.pendingAt v.target e.1) })
      | none => e) }

/-- R405: what a SUP reset does at target S. (DEDUCED, log entry 67.) -/
def intcSupReset (s : State) : State :=
  let s := { s with intc := { s.intc with serv := s.intc.serv.filter (fun e => match e.2 with | some v => v.target != 3 | none => false),
                                          hold := s.intc.hold.filter (fun e => e.1 / 16 != 3) } }
  (List.range 4).foldl (fun s n => s.setNum (INTC_SWP 2 n) 0) (s.setNum (INTC_CNT 2) 0)

end State
end Sys2Proof.Machine
end

