-- ==== Sys2Proof/Machine/Codec.lean ====
section
/-! DEFINITION. Machine/Codec.lean: the tile code of spec 11: one tile coded and decoded (R310, R311), its CRC and its headers. -/

namespace Sys2Proof.Machine

/-- Context state of a tile: A and N per gradient class (R310). -/
structure TileCtx where
  a : List Nat
  n : List Nat
deriving DecidableEq, Repr

def tileCtx0 : TileCtx := { a := List.replicate 9 8, n := List.replicate 9 1 }

def median3 (a b c : Int) : Int := max (min a b) (min (max a b) c)

/-- Prediction and gradient class of sample `i` of a row: `up` is the reconstructed row above (none in row 0), `cur` the row so far. -/
def predictAt (up : Option (List Nat)) (cur : List Nat) (i : Nat) : Int × Nat :=
  let abc : Int × Int × Int := match up with
    | none => let w : Int := cur.getD (i - 1) 0; (w, w, w)
    | some u =>
      if i = 0 then let v : Int := u.getD 0 0; (v, v, v)
      else (cur.getD (i - 1) 0, u.getD i 0, u.getD (i - 1) 0)
  let (a, b, c) := abc
  (median3 a b (a + b - c), min 8 (Nat.log2 (absI (a - c) + absI (b - c) + 1)))

/-- The code parameter: the least k up to 15 with N·2^k ≥ A. -/
def codeK (a n : Nat) : Nat → Nat
  | 0 => 15
  | fuel + 1 => if n * 2 ^ (15 - (fuel + 1)) < a then codeK a n fuel else 15 - (fuel + 1)

/-- The contexts after a quantised error in class `q`. -/
def ctxUpdate (t : TileCtx) (q : Nat) (eq : Int) : TileCtx :=
  let a := t.a.getD q 0 + absI eq
  let n := t.n.getD q 0 + 1
  if n = 64 then { a := t.a.set q (a / 2), n := t.n.set q (n / 2) } else { a := t.a.set q a, n := t.n.set q n }

/-- The `k` low bits of `v`, most significant first. -/
def putBits (v : Nat) : Nat → List Bool
  | 0 => []
  | k + 1 => (v / 2 ^ k % 2 = 1 : Bool) :: putBits v k

/-- The reconstruction from a prediction and a quantised error. -/
def reconstruct (p eq : Int) (delta : Nat) : Nat := (clampI 0 65535 (p + eq * (2 * delta + 1))).toNat

/-- One sample after the first: its bits, its reconstruction and the contexts after it. -/
def codeSample (delta : Nat) (t : TileCtx) (up : Option (List Nat)) (cur : List Nat) (i x : Nat) : List Bool × Nat × TileCtx :=
  let (p, q) := predictAt up cur i
  let e : Int := (x : Int) - p
  let s : Int := 2 * delta + 1
  let eq : Int := if 0 ≤ e then (e + delta) / s else -((-e + delta) / s)
  let m : Nat := if 0 ≤ eq then (2 * eq).toNat else (-2 * eq - 1).toNat
  let k := codeK (t.a.getD q 0) (t.n.getD q 0) 15
  let u := m / 2 ^ k
  let bits := if u < 24 then List.replicate u true ++ [false] ++ putBits m k else List.replicate 24 true ++ putBits m 17
  (bits, reconstruct p eq delta, ctxUpdate t q eq)

/-- The coder's progress through a tile. -/
structure CodeSt where
  bits : List Bool
  ctx : TileCtx
  /-- Reconstructed rows, the last one first, and the row in hand. -/
  up : Option (List Nat)
  cur : List Nat
  out : List Nat
deriving Repr

/-- One row of samples coded. -/
def codeRow (delta : Nat) (st : CodeSt) (row : List Nat) : CodeSt :=
  let r := row.foldl (fun (a : CodeSt) x =>
    if a.up.isNone && a.cur.isEmpty then { a with bits := putBits x 16, cur := [x] }
    else
      let y := codeSample delta a.ctx a.up a.cur a.cur.length x
      { a with bits := a.bits ++ y.1, ctx := y.2.2, cur := a.cur ++ [y.2.1] }) st
  { r with up := some r.cur, cur := [], out := r.out ++ r.cur }

/-- Bytes of bits, most significant first. -/
def packBits : Nat → List Bool → List Byte
  | 0, _ => []
  | n + 1, l => BitVec.ofNat 8 ((l.take 8).foldl (fun v b => 2 * v + (if b then 1 else 0)) 0) :: packBits n (l.drop 8)

/-- Bits padded to a multiple of 32, as bytes. -/
def payloadBytes (bits : List Bool) : List Byte :=
  let n := (bits.length + 31) / 32 * 32
  packBits (n / 8) (bits ++ List.replicate (n - bits.length) false)

/-- A tile coded: payload and reconstruction in raster order (R310). -/
def codeTile (delta : Nat) (rows : List (List Nat)) : List Byte × List Nat :=
  let st := rows.foldl (codeRow delta) { bits := [], ctx := tileCtx0, up := none, cur := [], out := [] }
  (payloadBytes st.bits, st.out)

/-- Bits of bytes. -/
def unpackBits (l : List Byte) : List Bool := l.flatMap (fun b => putBits b.toNat 8)

/-- The number of leading ones, at most `k`, and the rest. -/
def leadOnes : Nat → List Bool → Nat × List Bool
  | 0, l => (0, l)
  | k + 1, true :: r => let x := leadOnes k r; (x.1 + 1, x.2)
  | _ + 1, l => (0, l)

def bitsNum (l : List Bool) : Nat := l.foldl (fun v b => 2 * v + (if b then 1 else 0)) 0

/-- The decoder's progress through a tile. -/
structure DecodeSt where
  bits : List Bool
  ctx : TileCtx
  up : Option (List Nat)
  cur : List Nat
  out : List Nat
deriving Repr

/-- One sample decoded (R311). -/
def decodeSample (delta : Nat) (a : DecodeSt) : DecodeSt :=
  if a.up.isNone && a.cur.isEmpty then { a with bits := a.bits.drop 16, cur := [bitsNum (a.bits.take 16)] }
  else
    let (p, q) := predictAt a.up a.cur a.cur.length
    let k := codeK (a.ctx.a.getD q 0) (a.ctx.n.getD q 0) 15
    let (u, r) := leadOnes 24 a.bits
    let (m, r) := if u < 24 then (u * 2 ^ k + bitsNum ((r.drop 1).take k), (r.drop 1).drop k) else (bitsNum (r.take 17), r.drop 17)
    let eq : Int := if m % 2 = 0 then (m / 2 : Nat) else -((m + 1) / 2 : Nat)
    { a with bits := r, ctx := ctxUpdate a.ctx q eq, cur := a.cur ++ [reconstruct p eq delta] }

/-- One row of `w` samples decoded. -/
def decodeRow (delta w : Nat) (st : DecodeSt) : DecodeSt :=
  let r := (List.range w).foldl (fun a _ => decodeSample delta a) st
  { r with up := some r.cur, cur := [], out := r.out ++ r.cur }

/-- A tile of w × h samples decoded from its payload. -/
def decodeTile (delta w h : Nat) (payload : List Byte) : List Nat :=
  ((List.range h).foldl (fun a _ => decodeRow delta w a) { bits := unpackBits payload, ctx := tileCtx0, up := none, cur := [], out := [] }).out

/-- Samples as bytes, least significant byte first. -/
def sampleBytes (l : List Nat) : List Byte := l.flatMap (leBytes 2)

/-- Samples of a raw payload. -/
def rawSamples : Nat → List Byte → List Nat
  | 0, _ => []
  | n + 1, l => ofLe (l.take 2) :: rawSamples n (l.drop 2)

/-- Raw length of a tile (R314). -/
def rawLen (w h : Nat) : Nat := (2 * w * h + 3) / 4 * 4

/-- A raw payload. -/
def rawPayload (l : List Nat) (w h : Nat) : List Byte := sampleBytes l ++ List.replicate (rawLen w h - 2 * l.length) 0#8

end Sys2Proof.Machine
end

