-- ==== Sys2Proof/Machine/Ports.lean ====
section
/-! DEFINITION. Machine/Ports.lean: focal plane ports and the lane converter array (spec 05, 06): shadow copies, the power sequence, the test
DAC, strobe samples, pixel results, row close, the receiver's checks, lane fences and the lane self-test. -/

namespace Sys2Proof.Machine
open R

/-! ## Converters (R148, R156, R179) -/

/-- num / den rounded to the nearest integer, an exact half away from zero (R156); `den` is positive. -/
def roundDiv (num : Int) (den : Nat) : Int :=
  let q := (2 * num.natAbs + den) / (2 * den)
  if num < 0 then -(q : Int) else q

/-- A test DAC setting on a lane: mode 0 off, 1 force, 2 weak, and the code (R148). -/
structure Dac where
  mode : Nat
  code : Nat
deriving DecidableEq, Repr

/-- The differential lane voltage as a fraction of 1 V: numerator and denominator; `none` where the lane has no defined input (R148). One test DAC step is
1/2,048 V. -/
def laneVolts (d : Dac) (i : LaneInput) : Option (Int × Nat) :=
  let dac : Int := (d.code : Int) - 2048
  match d.mode, i with
  | 1, _ => some (dac, 2048)
  | 2, .openWire => some (dac, 2048)
  | 2, .volts nv rs => some (nv * 100000 * 2048 + dac * rs * 1000000000, 1000000000 * (100000 + rs) * 2048)
  | _, .openWire => none
  | _, .volts nv _ => some (nv, 1000000000)

/-- The code a pipeline converter delivers (R156). (UNVERIFIED, log entry 25.) -/
def pipeCode (d : Dac) (i : LaneInput) (free : Nat) : Nat :=
  match laneVolts d i with
  | some (n, q) => (clampI 0 65535 (32768 + roundDiv (n * 32768) q)).toNat
  | none => (Config.openLane free).toNat

/-- The 20-bit result of a legacy conversion: 524,288 at 0 V, 524,288 codes per volt, clipped (R179). The rule names no rounding between two codes, so which of them results is
open, and R148 names an open lane's codes for the 16-bit converters alone, so any 20-bit code may result here. (UNVERIFIED, log entry 25.) -/
def legacyCode (d : Dac) (i : LaneInput) (free : Nat) : Nat :=
  match laneVolts d i with
  | some (n, q) =>
    let up : Int := if n * 524288 % (q : Int) ≠ 0 ∧ Config.legacyUp free then 1 else 0
    (clampI 0 1048575 (524288 + n * 524288 / (q : Int) + up)).toNat
  | none => (Config.openLegacy free).toNat

/-- Even parity over a field: the parity bit makes the count of ones even (R162). -/
def parityBit : Nat → Nat → Bool
  | 0, _ => false
  | k + 1, v => (v % 2 == 1) != parityBit k (v / 2)

/-! ## Geometry (R143, R178) -/

/-- The fields of LCA_x_MODE_ACT as one: bit 3 legacy, bits 2:1 mode, bit 0 en. -/
def modeAct (p : Nat) : Field := ⟨LCA_MODE_ACT p, 3, 0⟩

namespace State

/-- Lanes that carry columns: 16 in legacy mode, else 32. -/
def laneStep (s : State) (p : Nat) : Nat := if s.bit (modeAct p) 3 then 16 else 32

/-- Columns per lane, ⌈W / lanes⌉ (R143). -/
def nc (s : State) (p : Nat) : Nat := ((s.port p).width + s.laneStep p - 1) / s.laneStep p

/-- Columns that lane `k` carries. -/
def ncLane (s : State) (p k : Nat) : Nat := ((s.port p).width + s.laneStep p - 1 - k) / s.laneStep p

/-- The active sampling mode: 0 single, 1 double, 2 quad (R160). -/
def samplingMode (s : State) (p : Nat) : Nat := s.get (modeAct p) / 2 % 4

/-- The kinds that a sampling mode uses (R159). -/
def kindsOf : Nat → List Nat
  | 0 => [0]
  | 1 => [1, 2]
  | 2 => [1, 2, 3, 4]
  | _ => []

/-! ## Lane fences (R171, R172) -/

def laneFenced (s : State) (p k : Nat) : Bool := s.bit ⟨LCA_FENCED p, 31, 0⟩ k

/-- A lane is fenced with a cause; a lane already fenced keeps its first cause, and one whose lift waits for the next frame is fenced anew. -/
def laneFence (s : State) (lane cause : Nat) : State :=
  if s.laneFenced (lane / 32) (lane % 32) && (s.port (lane / 32)).liftWait / 2 ^ (lane % 32) % 2 == 0 then s
  else
    let s := s.modPort (lane / 32) (fun x =>
      { x with liftWait := if x.liftWait / 2 ^ (lane % 32) % 2 = 1 then x.liftWait - 2 ^ (lane % 32) else x.liftWait })
    (((s.setBit ⟨LCA_FENCED (lane / 32), 31, 0⟩ (lane % 32)).setBit (LCA_LANE_CTL_fenced lane)).put (LCA_LANE_CTL_cause lane) cause).setBit
      LCA_EVT_fence

/-- A lift of a lane's fence: ignored while st_fail is 1; the lane rejoins at the next frame of its port raster (R172). Its cause reads 0 at once, and its fenced bits stay 1
until it rejoins. (DEDUCED, log entry 39.) -/
def laneLift (s : State) (lane : Nat) : State :=
  if s.bit (LCA_LANE_CTL_st_fail lane) then s
  else if s.laneFenced (lane / 32) (lane % 32) then
    (s.put (LCA_LANE_CTL_cause lane) 0).modPort (lane / 32) (fun x =>
      { x with liftWait := if x.liftWait / 2 ^ (lane % 32) % 2 = 1 then x.liftWait else x.liftWait + 2 ^ (lane % 32) })
  else s

/-- At a frame start the lanes whose lift was accepted rejoin. -/
def laneRejoin (s : State) (p : Nat) : State :=
  let w := (s.port p).liftWait
  ((List.range 32).foldl (fun s k =>
    if w / 2 ^ k % 2 = 1 then (s.clrBit ⟨LCA_FENCED p, 31, 0⟩ k).clrBit (LCA_LANE_CTL_fenced (32 * p + k)) else s) s).modPort p
    (fun x => { x with liftWait := 0 })

/-! ## Edge outputs (R133, R134) -/

/-- Logical level of output E`n` of port `p`; `none` where the pin is held as for an unpowered focal plane. -/
def edgeLevel (s : State) (p n : Nat) : Option Bool :=
  let x := s.port p
  let idle := x.idle / 2 ^ n % 2 = 1
  match s.get (FPP_STAT_pwr p) with
  | 1 => if x.pen && x.settled then some idle else none
  | 2 => if s.bit (FPP_CTL_out_en p) && decide (x.outEnAt ≤ s.now) then some (x.lvl / 2 ^ n % 2 = 1) else some idle
  | 3 => if x.pen then some idle else none
  | _ => none

/-- The balls of port `p` are high-impedance: the port is OFF and its VIOFx unpowered (R492). (DESIGN CHOICE, log entry 64.) -/
def ballsFloat (s : State) (p : Nat) : Bool := s.get (FPP_STAT_pwr p) == 0 && !Config.vioPowered p

/-- What FxPEN does: driven to its level, or high-impedance (R138, R492). -/
def penPin (s : State) (p : Nat) : Option Bool := if s.ballsFloat p then none else some (s.port p).pen

/-- What an edge output pin does: driven high or low, or released (R133, R134), and high-impedance without its supply (R492). -/
def edgePin (s : State) (p n : Nat) : Option Bool :=
  let mode := bitsOf (s.port p).outcfg (2 * n + 1) (2 * n)
  if s.ballsFloat p then none else
  match s.edgeLevel p n, mode with
  | _, 3 => none
  | none, 2 => none
  | none, _ => some false
  | some l, 0 => some l
  | some l, 1 => some (!l)
  | some l, _ => if l then none else some false

/-- Bias voltage at FxVB in units of 1/65,535 of 10 µV: 0.2 V + code × 1.8 V / 65,535 (R136). -/
def biasVolts (s : State) (p : Nat) : Nat := 20000 * 65535 + s.get (FPP_BIAS_ACT_code p) * 180000

/-! ## Power sequence (R138–R141) -/

/-- A step of the power sequence falls at the start of a line of H, at least `n` line starts after the step before it. -/
def pwrDue (s : State) (p n : Nat) : Bool := s.now == (s.raster 4).lineAt && decide (n ≤ (s.port p).pwrLines)

/-- Start of power-up, at the next line start of H after the request (step 1). -/
def pwrUpStart (s : State) (p : Nat) : State :=
  if s.pwrDue p 1 && (s.port p).reqPending && s.get (FPP_STAT_pwr p) == 0 && s.bit (FPP_PWR_req p) then
    ((s.put (FPP_STAT_pwr p) 1).put (FPP_BIAS_ACT_code p) 0).modPort p (fun x =>
      { x with reqPending := false, vcm := true, pen := false, settled := false, pwrLines := 0, zeroed := false })
  else s

/-- vcm_lines lines later the power enable goes active and FxFLT_N is masked (step 2). -/
def pwrPenOn (s : State) (p : Nat) : State :=
  let x := s.port p
  if s.get (FPP_STAT_pwr p) == 1 && !x.pen && s.pwrDue p (s.get (FPP_PWR_CFG_vcm_lines p)) then
    s.modPort p (fun x => { x with pen := true, pwrLines := 0 })
  else s

/-- settle_lines lines later FxFLT_N is unmasked and outputs take their idle levels (step 3). -/
def pwrSettleEnd (s : State) (p : Nat) : State :=
  let x := s.port p
  if s.get (FPP_STAT_pwr p) == 1 && x.pen && !x.settled && s.pwrDue p (s.get (FPP_PWR_SETTLE_settle_lines p)) then
    (s.modPort p (fun x => { x with settled := true, pwrLines := 1, fltFrom := s.now })).setBit (FPP_STAT_ramping p)
  else s

/-- The port enters ON: every internal level becomes its idle level (R134, step 5). -/
def pwrUpComplete (s : State) (p : Nat) : State :=
  (((s.put (FPP_STAT_pwr p) 2).clrBit (FPP_STAT_ramping p)).setBit (FPP_EVT_up p)).modPort p (fun x => { x with lvl := x.idle })

/-- One step of the bias code towards `target` (R138): 16 × ramp_step, or at once for a ramp_step of 0. -/
def rampCode (code target step : Nat) : Nat :=
  if step = 0 then target
  else if code < target then min target (code + 16 * step) else max target (code - 16 * step)

/-- At each line start of H the bias code moves: towards the active target in UP from the end of the settle time on, towards 0 in DOWN (R138). -/
def pwrBiasRampStep (s : State) (p : Nat) : State :=
  let x := s.port p
  let code := s.get (FPP_BIAS_ACT_code p)
  let step := s.get (FPP_PWR_CFG_ramp_step p)
  if !s.pwrDue p 1 then s
  else if s.get (FPP_STAT_pwr p) == 1 && x.settled then
    let c := rampCode code x.bias step
    let s := (s.put (FPP_BIAS_ACT_code p) c).modPort p (fun x => { x with pwrLines := 0 })
    if c = x.bias then s.pwrUpComplete p else s.setBit (FPP_STAT_ramping p)
  else if s.get (FPP_STAT_pwr p) == 3 && !x.zeroed then
    let c := rampCode code 0 step
    let s := (s.put (FPP_BIAS_ACT_code p) c).modPort p (fun x => { x with pwrLines := 0 })
    if c = 0 then (s.clrBit (FPP_STAT_ramping p)).modPort p (fun x => { x with zeroed := true }) else s
  else s

/-- Start of power-down, at the next line start of H after the request (step 1). -/
def pwrDownStart (s : State) (p : Nat) : State :=
  if s.pwrDue p 1 && (s.port p).reqPending && s.get (FPP_STAT_pwr p) == 2 && !s.bit (FPP_PWR_req p) then
    (((s.put (FPP_STAT_pwr p) 3).clrBit (FPP_CTL_live p)).setBit (FPP_STAT_ramping p)).modPort p (fun x =>
      { x with reqPending := false, zeroed := false, penDone := false, pwrLines := 0 })
  else s

/-- off_lines lines after code 0 the power enable goes inactive and outputs are low (step 3). -/
def pwrPenOff (s : State) (p : Nat) : State :=
  let x := s.port p
  if s.get (FPP_STAT_pwr p) == 3 && !x.penDone && x.zeroed && s.pwrDue p (s.get (FPP_PWR_CFG_off_lines p)) then
    s.modPort p (fun x => { x with pen := false, settled := false, penDone := true, pwrLines := 0 })
  else s

/-- vcm_lines lines later FxVCM is off and the state is OFF (step 4). -/
def pwrVcmOff (s : State) (p : Nat) : State :=
  let x := s.port p
  if s.get (FPP_STAT_pwr p) == 3 && x.penDone && s.pwrDue p (s.get (FPP_PWR_CFG_vcm_lines p)) then
    ((s.put (FPP_STAT_pwr p) 0).setBit (FPP_EVT_down p)).modPort p (fun x => { x with vcm := false, pwrLines := 0, fencedDown := false })
  else s

/-- A line of H passes: every port's power timer counts (R138). -/
def pwrTick (s : State) : State :=
  [0, 1, 2, 3].foldl (fun s p => s.modPort p (fun x => { x with pwrLines := x.pwrLines + 1 })) s

/-- What a port fence does to the port's pins and power (R141): power-down goes on from step 3. A fence while OFF changes no pin, and one in DOWN brings code 0 at
once where the ramp has not reached it. One in DOWN after the ramp has reached code 0 leaves the count of off_lines, or of vcm_lines, that runs then. (DESIGN CHOICE, log entry 69.) -/
def portFenceFpp (s : State) (p : Nat) : State :=
  let off := s.get (FPP_STAT_pwr p) == 0
  let late := s.get (FPP_STAT_pwr p) == 3 && (s.port p).zeroed
  let s := (((s.clrBit (FPP_PWR_req p)).clrBit (FPP_CTL_live p)).clrBit (FPP_STAT_delivering p)).setBit (FPP_STAT_fenced p)
  let s := s.setBit (FPP_EVT_fenced p)
  let s := s.modPort p (fun x => { x with lvl := x.idle, runs := [], reqPending := false, results := [], intake := [], interp := [] })
  if off then s
  else
    (((s.put (FPP_BIAS_ACT_code p) 0).put (FPP_STAT_pwr p) 3).clrBit (FPP_STAT_ramping p)).modPort p (fun x =>
      if late then { x with fencedDown := true } else { x with zeroed := true, penDone := false, pwrLines := 0, fencedDown := true })

/-! ## Test DAC (R148, R149) and self-test setting (R174) -/

/-- The test DAC's setting on lane `k` of port `p`; step 4's setting stands until the judgement. -/
def dacOn (s : State) (p k : Nat) : Dac :=
  let x := s.port p
  let own : Dac := if bitOf x.testMask k then ⟨bitsOf x.test 13 12, bitsOf x.test 11 0⟩ else ⟨0, 0⟩
  match x.selfTest with
  | some t =>
    if t.step = 0 then own
    else if t.step = 1 then ⟨1, 1024⟩ else if t.step = 2 then ⟨1, 3072⟩ else if t.step = 3 then ⟨2, 2048⟩ else ⟨2, 3072⟩
  | none => own

/-- FPP_x_STAT.test_on: a test mode is in effect on some lane. -/
def testOn (s : State) (p : Nat) : Bool :=
  match (s.port p).selfTest with
  | some t => t.step != 0 || (bitsOf (s.port p).test 13 12 != 0 && (s.port p).testMask != 0#32)
  | none => bitsOf (s.port p).test 13 12 != 0 && (s.port p).testMask != 0#32

/-! ## Strobe samples (R143, R144, R161) -/

/-- The tick of run `r`'s next sample on port `p` (R123, R178). -/
def runDue (s : State) (p : Nat) (r : Run) : Nat :=
  if s.laneStep p = 16 then r.bornAt + 1024 * r.done else (s.raster p).lineAt + 96 * r.slot + r.tick

/-- Whether the run's next sample lies in a slot of the current line. -/
def runHere (s : State) (p : Nat) (r : Run) : Bool := s.laneStep p = 16 || decide (r.slot < (s.raster p).slots)

/-- Of two runs, the one whose sample is decided first: earlier tick, then the run that began earlier, then the lower kind. -/
def runBefore (s : State) (p : Nat) (a b : Run) : Bool :=
  if s.runDue p a ≠ s.runDue p b then s.runDue p a < s.runDue p b
  else if a.bornAt ≠ b.bornAt then a.bornAt < b.bornAt else a.kind < b.kind

/-- A self-test's capture line takes its samples in slots 16 on, before any strobe run (R174). -/
def captures (s : State) (p slot : Nat) : Bool :=
  match (s.port p).selfTest with
  | some t => t.step != 0 && !t.judge && t.lines == s.get LCA_ST_CFG_settle + 1 && decide (16 ≤ slot) && decide (slot < 16 + 16 * 2 ^ s.get LCA_ST_CFG_samples)
  | none => false

/-- The run whose sample comes next, with the other runs. -/
def nextRun (s : State) (p : Nat) : List Run → Option (Run × List Run)
  | [] => none
  | r :: rs => match s.nextRun p rs with
    | none => if s.runHere p r then some (r, rs) else none
    | some (q, qs) => if s.runHere p r && !s.runBefore p q r then some (r, q :: qs) else some (q, r :: qs)

/-- Key of a sample taken: line, kind, index and lane. -/
def sampleKey (line kind n lane : Nat) : Nat := ((line * 16 + kind) * 256 + n) * 32 + lane

/-- A discarded and counted sample: once for each line (R144). -/
def countDiscard (s : State) (p : Nat) : State :=
  if (s.port p).discarded then s
  else ((s.bump (FPP_DISCARD_CNT_lines p)).setBit (FPP_EVT_discard p)).modPort p (fun x => { x with discarded := true })

/-- The pixel result of a column whose samples are all taken (R160, R162). -/
def formResult (s : State) (p lane n line row at_ : Nat) : PixRes :=
  let leg := s.laneStep p == 16
  let m := s.samplingMode p
  let g := fun kind => Map.get (fun _ => 0) (s.port p).taken (sampleKey line kind n lane)
  let sv := if m = 0 then g 0 else if m = 1 then g 2 else g 2 + g 4
  let bv := if m = 0 then (if leg then 524288 else 32768) else if m = 1 then g 1 else g 1 + g 3
  let top := if leg then 1048575 else 65535
  { at_ := at_, lane := lane, n := n, row := row, tag := row % 16, mode := m, legacy := leg, missing := false,
    clip := (kindsOf m).any (fun k => g k == 0 || g k == top), s := sv, b := bv, parS := parityBit 20 sv, parB := parityBit 20 bv,
    trim := s.reg (LCA_LANE_TRIM_ACT (32 * p + lane)) }

/-- Lane `k`'s share of one sample of kind `kind` and index `n` taken at tick `t`. -/
def takeLane (s : State) (p line row kind n t : Nat) (lanes : List LaneInput) (k : Nat) : State :=
  if (s.port p).width ≤ k + s.laneStep p * n then s
  else
    let inp := lanes.getD k .openWire
    let d := s.dacOn p k
    let code := if s.laneStep p = 16 then legacyCode d inp s.freeCtr else pipeCode d inp s.freeCtr
    let s := (s.drawn).modPort p (fun x =>
      { x with taken := Map.set (fun _ => 0) x.taken (sampleKey line kind n k) code,
               emitted := Map.set (fun _ => 0) x.emitted (sampleKey line (8 + kind) n k) 1,
               tested := x.tested || d.mode != 0 })
    let s := if d.mode != 0 then s.setBit (FPP_EVT_test p) else s
    if (kindsOf (s.samplingMode p)).all (fun kd => Map.get (fun _ => 0) (s.port p).emitted (sampleKey line (8 + kd) n k) == 1) then
      s.modPort p (fun x =>
        { x with results := x.results ++ [s.formResult p k n line row (t + (if s.laneStep p = 16 then 1408 else 1152))],
                 emitted := Map.set (fun _ => 0) x.emitted (sampleKey line 0 n k) 1 })
    else s

/-- STROBE_SAMPLE: the port's next strobe sample (R161, then R144). (DEDUCED, log entry 26.) -/
def strobeSample (s : State) (p : Nat) (lanes : List LaneInput) : State :=
  if !(s.raster p).running then s
  else
    match s.nextRun p (s.port p).runs with
    | none => s
    | some (r, others) =>
      let t := s.runDue p r
      let s := s.advanceTo t
      let x := s.raster p
      let q := x.posAt t
      let on := s.bit (modeAct p) 0
      let usable := fun (k : Nat) => on && (kindsOf (s.samplingMode p)).contains k
      let leg := s.laneStep p == 16
      let deliv := s.bit (FPP_STAT_delivering p)
      -- the run moves on to its next slot, and leaves when its samples are out
      let r' := { r with left := r.left - 1, slot := r.slot + 1, done := r.done + 1 }
      let s := s.modPort p (fun y => { y with runs := if r'.left = 0 then others else others ++ [r'] })
      if !usable r.kind then (s.bump (LCA_STRAY_CNT_stray p)).setBit LCA_EVT_stray
      else
        let n := Map.get (fun _ => 0) (s.port p).kindCnt r.kind
        let s := s.modPort p (fun y => { y with kindCnt := Map.set (fun _ => 0) y.kindCnt r.kind (n + 1) })
        let prior := fun (o : Run) => usable o.kind && o.slot == r.slot && (decide (o.bornAt < r.bornAt) || (o.bornAt == r.bornAt && decide (o.kind < r.kind)))
        let lost := if leg then (match (s.port p).legacyAt with | some u => decide (t < u + 1024) | none => false)
          else others.any prior || (s.port p).slotUsed == some (q.line, q.slot)
        if s.captures p q.slot then s
        else if lost then
          let place := if leg then ((s.port p).legacyAt.getD 0, 0) else (q.line, q.slot)
          if deliv && (s.port p).collided != some place then
            ((s.bump (LCA_CNT_collision p)).setBit LCA_EVT_collide).modPort p (fun y => { y with collided := some place })
          else s
        else
          let s := s.modPort p (fun y => { y with slotUsed := some (q.line, q.slot), legacyAt := if leg then some t else y.legacyAt })
          if !deliv then s
          else if q.line < (s.port p).line0 || (s.port p).line0 + (s.port p).height ≤ q.line || x.frameLines ≤ q.line + 1 ||
              q.slot ≤ 3 || s.nc p ≤ n then s.countDiscard p
          else (List.range (s.laneStep p)).foldl (fun s k => s.takeLane p q.line (q.line - (s.port p).line0) r.kind n t lanes k) s

/-! ## Receiver at the PCE input (R168–R170) -/

/-- The injection of R170 strikes a result of its lane once: par_s inverted, the tag one higher. -/
def injected (s : State) (p : Nat) (r : PixRes) : State × PixRes :=
  match (s.port p).inj with
  | some (l, par, tag) =>
    if l = r.lane then (s.modPort p (fun x => { x with inj := none }), { r with parS := r.parS != par, tag := if tag then (r.tag + 1) % 16 else r.tag }) else (s, r)
  | none => (s, r)

/-- A parity error is counted, and the lane's limit in the frame fences it with cause parity (R168). -/
def parityError (s : State) (p lane : Nat) : State :=
  let s := (s.bump (LCA_LANE_CTL_par_cnt (32 * p + lane))).setBit LCA_EVT_parity
  let c := Map.get (fun _ => 0) (s.port p).parFrame lane + 1
  let s := s.modPort p (fun x => { x with parFrame := Map.set (fun _ => 0) x.parFrame lane c })
  if s.get LCA_PAR_CFG_limit ≠ 0 ∧ s.get LCA_PAR_CFG_limit ≤ c then s.laneFence (32 * p + lane) 3 else s

/-- A result reaches the receiver, in the order of R168: its parity is judged, then its tag; a result of another row is discarded. (DEDUCED, log entry 24.) -/
def receive (s : State) (p : Nat) (r : PixRes) : State :=
  if s.laneFenced p r.lane then s
  else
    let (s, r) := s.injected p r
    let bad := r.parS != parityBit 20 r.s || r.parB != parityBit 20 r.b
    let s := if bad then s.parityError p r.lane else s
    if !(s.port p).suspended && r.tag != (s.port p).rows % 16 then s.laneFence (32 * p + r.lane) 2
    else
      let s := s.modPort p (fun x => { x with rowCnt := Map.set (fun _ => 0) x.rowCnt (r.lane * 256 + r.n) 1 })
      let col := r.lane + s.laneStep p * r.n
      if bad then s.modPort p (fun x => { x with interp := x.interp ++ [(r.row, col, 8 + (if r.missing then 16 else 0) + (if r.clip then 32 else 0))] })
      else if r.missing then s.modPort p (fun x => { x with interp := x.interp ++ [(r.row, col, 16)] })
      else s.modPort p (fun x => { x with intake := x.intake ++ [r] })

/-- PIXEL_RESULT_RECEIVE: the next pixel result arrives. -/
def pixelResultReceive (s : State) (p : Nat) : State :=
  match (s.port p).results with
  | [] => s
  | r :: rest => ((s.advanceTo r.at_).modPort p (fun x => { x with results := rest })).receive p r

/-- The row close of the current line of port `p`'s raster (R163). -/
def closeTick (s : State) (p : Nat) : Nat := (s.raster p).lineAt + 96 * 15

/-- Every result that enters by the row close arrives; those of the line that runs enter later (R157). -/
def receiveAll (s : State) (p : Nat) : State :=
  let due := fun (r : PixRes) => decide (r.at_ ≤ s.closeTick p)
  let rs := (s.port p).results.filter due
  rs.foldl (fun s r => s.receive p r) (s.modPort p (fun x => { x with results := x.results.filter (fun r => !due r) }))

/-- Rows that the frame in hand of port `p` delivers when it runs to its end (R145). -/
def rowsDue (s : State) (p : Nat) : Nat := min (s.port p).height ((s.raster p).frameLines - 1 - (s.port p).line0)

/-- The row that closes at (ℓ + 1, 15, 0) of the current line, if the frame delivers and the row has not closed (R145, R163). -/
def closingRow (s : State) (p : Nat) : Option Nat :=
  let x := s.raster p
  let y := s.port p
  if s.bit (FPP_STAT_delivering p) && x.running && decide (y.line0 + 1 ≤ x.line) && decide (x.line ≤ y.line0 + y.height) && y.rows == x.line - 1 - y.line0
  then some y.rows else none

/-- The combiner's and the receiver's part of a row close (R163, R168): missing results, the count check of each lane that delivers, and the columns of
fenced lanes that no decided neighbour has handed to interpolation before are handed to it; a lane whose lift waits for the next frame is still fenced (R172). -/
def closeRow (s : State) (p row : Nat) : State :=
  let line := (s.port p).line0 + row
  let s := s.receiveAll p
  let cols := (List.range (s.laneStep p)).flatMap (fun k => (List.range (s.ncLane p k)).map (fun n => (k, n)))
  let lacking := cols.filter (fun kn => Map.get (fun _ => 0) (s.port p).emitted (sampleKey line 0 kn.2 kn.1) == 0)
  let s := if lacking.isEmpty then s else (s.bump (LCA_CNT_incomplete p)).setBit LCA_EVT_incomplete
  let s := lacking.foldl (fun s kn =>
    s.receive p { at_ := s.now, lane := kn.1, n := kn.2, row := row, tag := row % 16, mode := s.samplingMode p, legacy := s.laneStep p == 16,
                  missing := true, clip := false, s := 0, b := 0, parS := false, parB := false,
                  trim := s.reg (LCA_LANE_TRIM_ACT (32 * p + kn.1)) }) s
  let got := fun (s : State) k n => Map.get (fun _ => 0) (s.port p).rowCnt (k * 256 + n) == 1
  let s := if (s.port p).suspended then s
    else (List.range (s.laneStep p)).foldl (fun s k =>
      if s.laneFenced p k || (List.range (s.ncLane p k)).all (fun n => got s k n) then s else s.laneFence (32 * p + k) 2) s
  let s := cols.foldl (fun s kn =>
    let col := kn.1 + s.laneStep p * kn.2
    let handed := (s.port p).interp.any (fun q => q.1 == row && q.2.1 == col) || (s.port p).pix.any (fun e => e.1 == row * 4096 + col)
    if s.laneFenced p kn.1 && !got s kn.1 kn.2 && !handed then
      s.modPort p (fun x => { x with interp := x.interp ++ [(row, col, 8)] })
    else s) s
  s.modPort p (fun x => { x with rows := row + 1, rowCnt := [],
                                 taken := x.taken.filter (fun e => decide (sampleKey (line + 1) 0 0 0 ≤ e.1)),
                                 emitted := x.emitted.filter (fun e => decide (sampleKey (line + 1) 0 0 0 ≤ e.1)) })

/-! ## Self-test (R173–R177) -/

/-- The pacing raster of port `p`'s self-test: its own, or H while that is stopped. -/
def pacing (s : State) (p : Nat) : Nat := s.counted p

/-- Samples per capture line (R184). -/
def stSamples (s : State) : Nat := 16 * 2 ^ s.get LCA_ST_CFG_samples

/-- A request for port `p` (R173). -/
def selfTestRequest (s : State) (p : Nat) : State :=
  if s.bit LCA_ST_STAT_busy p then s
  else if s.get (FPP_STAT_pwr p) != 2 || s.bit (FPP_CTL_live p) || decide ((s.raster (s.pacing p)).lineLen < s.stSamples + 32) then
    s.setBit LCA_ST_STAT_refused p
  else
    (s.setBit LCA_ST_STAT_busy p).modPort p (fun x => { x with selfTest := some {} })

/-- A line start of the pacing raster: the test aborts, or enters its next line or step (R174, R177). -/
def selfTestLine (s : State) (p : Nat) : State :=
  match (s.port p).selfTest with
  | none => s
  | some t =>
    if s.bit (FPP_CTL_live p) || s.get (FPP_STAT_pwr p) != 2 || s.bit (FPP_STAT_fenced p) then
      ((s.setBit LCA_ST_STAT_aborted p).clrBit LCA_ST_STAT_busy p).modPort p (fun x => { x with selfTest := none })
    else
      let t' := if t.judge then t
        else if t.step = 0 then { t with step := 1, lines := 1 }
        else if t.lines ≤ s.get LCA_ST_CFG_settle then { t with lines := t.lines + 1 }
        else if t.step = 4 then { t with judge := true }
        else { t with step := t.step + 1, lines := 1 }
      s.modPort p (fun x => { x with selfTest := some t' })

/-- Mean of the samples, rounded half up, and their spread (R174). -/
def meanOf (l : List Nat) : Nat := if l.length = 0 then 0 else (2 * l.sum + l.length) / (2 * l.length)
def spreadOf (l : List Nat) : Nat := l.foldl max 0 - l.foldl min (l.headD 0)

/-- A lane's capture as the self-test uses it: a legacy result is shifted right by 4 (R181). -/
def captured (s : State) (p : Nat) (c : LaneCapture) : LaneCapture :=
  let f := fun (l : List Nat) => if s.laneStep p = 16 then l.map (· / 16) else l
  ⟨f c.s1, f c.s2, f c.s3, f c.s4⟩

/-- A capture holds ns samples of each step for each lane of the port, and each is a code that its converter can give (R174, R178). -/
def captureOk (s : State) (p : Nat) (cap : List LaneCapture) : Bool :=
  let top := if s.laneStep p = 16 then 2 ^ 20 else 2 ^ 16
  cap.length == s.laneStep p && cap.all (fun c => [c.s1, c.s2, c.s3, c.s4].all (fun l => l.length == s.stSamples && l.all (fun v => decide (v < top))))

/-- One lane judged (R175, R176). -/
def judgeLane (s : State) (p k : Nat) (c : LaneCapture) : State :=
  let c := s.captured p c
  let lane := 32 * p + k
  let lo := meanOf c.s1
  let hi := meanOf c.s2
  let tol := s.get LCA_ST_LIM_tol
  let spr := s.get LCA_ST_LIM_spread
  let open_ := decide ((s.get LCA_ST_CFG_open_thr : Int) ≤ (meanOf c.s4 : Int) - (meanOf c.s3 : Int))
  let fail := open_ || decide (tol < ((lo : Int) - 16384).natAbs) || decide (tol < ((hi : Int) - 49152).natAbs) ||
    decide (spr < spreadOf c.s1) || decide (spr < spreadOf c.s2)
  let s := s.setNum (LCA_LANE_CAP lane) (hi % 65536 * 65536 + lo % 65536)
  let s := (s.wrBit (LCA_LANE_CTL_st_fail lane) 0 fail).wrBit (LCA_LANE_CTL_open lane) 0 open_
  let s := (s.wrBit ⟨LCA_ST_FAIL p, 31, 0⟩ k fail).wrBit ⟨LCA_ST_OPEN p, 31, 0⟩ k open_
  if fail && s.bit LCA_ST_CTL_fence_fail then s.laneFence lane 1 else s

/-- The judgement at the row close of step 4's capture line, of the lanes that the port's mode leaves powered (R178); the test DAC keeps step 4's setting until the next line
start (R175). (DEDUCED, log entry 26.) -/
def selfTestJudge (s : State) (p : Nat) (cap : List LaneCapture) : State :=
  match (s.port p).selfTest with
  | none => s
  | some t =>
    if !t.judge || !s.captureOk p cap then s
    else
      let s := (List.range (s.laneStep p)).foldl (fun s k => s.judgeLane p k (cap.getD k ⟨[], [], [], []⟩)) s
      ((s.setBit LCA_ST_STAT_done p).clrBit LCA_ST_STAT_busy p).modPort p (fun x =>
        { x with selfTest := none, test := 0x2C00#32, testMask := 0xFFFF_FFFF#32 })

/-! ## Line and frame starts of a port -/

/-- An armed lane trim is copied (R166). -/
def trimCopy (s : State) (p : Nat) : State :=
  (List.range 32).foldl (fun s k =>
    let lane := 32 * p + k
    if s.bit (LCA_LANE_CTL_arm lane) then (s.setReg (LCA_LANE_TRIM_ACT lane) (s.reg (LCA_LANE_TRIM lane))).clrBit (LCA_LANE_CTL_arm lane) else s) s

/-- Line start of the raster that times port `p`'s test DAC, trims and self-test (R149, R166, R174). -/
def portTimedLine (s : State) (p : Nat) : State :=
  let s := s.modPort p (fun x => { x with test := s.reg (FPP_TEST p), testMask := s.reg (FPP_TEST_MASK p) })
  (s.trimCopy p).selfTestLine p

/-- Line start of port `p`'s own raster: per-line counts restart, and a strobe run whose slots a lock removed moves on (R55, R123). `oldLen` is the active
length of the line that ended. -/
def portOwnLine (s : State) (p oldLen : Nat) : State :=
  s.modPort p (fun x =>
    { x with kindCnt := [], discarded := false, slotUsed := none, collided := if s.laneStep p = 16 then x.collided else none,
             runs := if s.laneStep p = 16 then x.runs
               else (x.runs.map (fun r => { r with left := r.left - (oldLen - r.slot), done := r.done + (oldLen - r.slot), slot := 0 })).filter
                 (fun r => decide (0 < r.left)) })

/-- Frame start of port `p`'s raster: LCA_x_MODE and the five FPP shadows are taken, and it is decided whether the frame delivers (R137, R142, R158). -/
def portFrame (s : State) (p : Nat) : State :=
  let was := s.bit (modeAct p) 0
  let s := if s.bit (LCA_CTL_arm p) then (s.setReg (LCA_MODE_ACT p) (s.reg (LCA_MODE p))).clrBit (LCA_CTL_arm p) else s
  let on := s.bit (modeAct p) 0
  let warm := on && !was
  let s := if s.bit (FPP_CTL_arm p) then
      let s := (s.clrBit (FPP_CTL_arm p)).modPort p (fun x =>
        { x with idle := s.get (FPP_IDLE_idle p), outcfg := s.reg (FPP_OUTCFG p), bias := s.get (FPP_BIAS_bias p),
                 width := s.get (FPP_FMT_width p), height := s.get (FPP_FMT_height p), line0 := s.get (FPP_WIN_line0 p) })
      if s.get (FPP_STAT_pwr p) = 2 then s.put (FPP_BIAS_ACT_code p) (s.get (FPP_BIAS_bias p)) else s
    else s
  let s := s.laneRejoin p
  let deliv := s.bit (FPP_CTL_live p) && on && !warm
  let s := s.wrBit (FPP_STAT_delivering p) 0 deliv
  s.modPort p (fun x => { x with suspended := false, parFrame := [], rows := 0, closed := !deliv, rowCnt := [], tested := false,
                                 pix := [], taken := [], emitted := [] })

end State
end Sys2Proof.Machine
end

