-- ==== Sys2Proof/Machine/Pce.lean ====
section
/-! DEFINITION. Machine/Pce.lean: the pixel correction engine (spec 07): the stages of a stream, table words, the wedge's step, flags, interpolation, the
radiometric code, output slots and their headers, table checks and activation, replay and known-answer vectors. -/

namespace Sys2Proof.Machine
open R

/-! ## Arithmetic of the stages (R188) -/

/-- Saturation to signed 18 bits, with whether it changed the value. -/
def s18 (i : Int) : Int × Bool := (clampI (-131072) 131071 i, clampI (-131072) 131071 i != i)

/-- A table word taken apart (R189). -/
structure TableWord where
  ofs : Int
  gain : Nat
  drift : Int
  nl : Int
  flags : Nat
  spare : Nat
deriving DecidableEq, Repr

/-- A native table word (R189). -/
def TableWord.ofNat (w : Nat) : TableWord :=
  { ofs := sgn 16 w, gain := w / 2 ^ 16 % 2 ^ 16, drift := sgn 8 (w / 2 ^ 32), nl := sgn 8 (w / 2 ^ 40), flags := w / 2 ^ 48 % 256,
    spare := w / 2 ^ 56 % 256 }

/-- The native word of these fields. -/
def TableWord.toNat (t : TableWord) : Nat :=
  unsgn 16 t.ofs + t.gain % 2 ^ 16 * 2 ^ 16 + unsgn 8 t.drift * 2 ^ 32 + unsgn 8 t.nl * 2 ^ 40 + t.flags % 256 * 2 ^ 48 + t.spare % 256 * 2 ^ 56

/-- The neutral word (R190). -/
def neutralWord : TableWord := { ofs := 0, gain := 0x4000, drift := 0, nl := 0, flags := 0, spare := 0 }

/-- A legacy table word of 32 bits expanded to a native one (R191). -/
def TableWord.ofLegacy (w : Nat) : TableWord :=
  { ofs := sgn 12 w, gain := w / 2 ^ 12 % 2 ^ 12 * 16, drift := 0, nl := 0, flags := w / 2 ^ 24 % 256, spare := 0 }

/-- Stage 1: the double-sample difference. -/
def stage1 (legacy : Bool) (mode s b : Nat) : Int :=
  if legacy then asr ((s : Int) - b + 8) 4
  else if mode = 2 then asr ((s : Int) - b + 1) 1
  else (s : Int) - b

/-- Stage 2: the lane trim (R165). -/
def stage2 (d : Int) (trim : W32) : Int × Bool :=
  s18 (asr ((d - sgn 16 (bitsOf trim 15 0)) * (bitsOf trim 31 16 : Nat) + 16384) 15)

/-- The frame's correction values. -/
structure Corr where
  dt : Int
  dsh : Nat
  nsh : Nat
  ped : Nat
deriving DecidableEq, Repr

/-- Stages 3–7: from the trimmed value to the corrected count, with whether anything saturated. -/
def stages37 (t : Int) (tw : TableWord) (c : Corr) : Nat × Bool :=
  let u := s18 (t - tw.ofs)
  let v := s18 (asr (u.1 * (tw.gain : Nat) + 8192) 14)
  let m := s18 (v.1 - asr (tw.drift * c.dt + 2 ^ (c.dsh - 1)) c.dsh)
  let x := s18 (m.1 + asr (tw.nl * m.1 * m.1 + 2 ^ (c.nsh - 1)) c.nsh)
  let y := x.1 + (c.ped : Int)
  ((clampI 0 65535 y).toNat, u.2 || v.2 || m.2 || x.2 || clampI 0 65535 y != y)

/-- Stage 8: the radiometric code of a count under coefficients `c seg k` (R196). -/
def stage8 (cnt : Nat) (c : Nat → Nat → Int) : Nat × Bool :=
  let seg := cnt / 1024
  let x : Int := (cnt % 1024 : Nat)
  let h := c seg 3
  let h := c seg 2 + asr (h * x) 10
  let h := c seg 1 + asr (h * x) 10
  let y := c seg 0 + asr (h * x) 10
  let q := asr (y + 128) 8
  ((clampI 0 65535 q).toNat, clampI 0 65535 q != q)

/-- One limited step of the wedge (R207). -/
def wedgeStep (start goal lim : Int) : Int := start + clampI (-lim) lim (goal - start)

/-- The next word of a pixel under the wedge (R207). -/
def wedgeWord (a g : TableWord) (oslew gslew : Nat) : TableWord :=
  { ofs := wedgeStep a.ofs g.ofs oslew,
    gain := (wedgeStep a.gain g.gain (max 1 (a.gain * gslew / 65536) : Nat)).toNat,
    drift := wedgeStep a.drift g.drift 1, nl := wedgeStep a.nl g.nl 1, flags := g.flags, spare := g.spare }

/-- A whole pixel: t of stage 2, the count, the code, and sat. -/
structure PixVal where
  t : Int
  cnt : Nat
  code : Nat
  sat : Bool
deriving DecidableEq, Repr

/-- Stages 1–8 of one result. -/
def correctPixel (legacy : Bool) (mode s b : Nat) (trim : W32) (tw : TableWord) (c : Corr) (co : Nat → Nat → Int) : PixVal :=
  let t := stage2 (stage1 legacy mode s b) trim
  let n := stages37 t.1 tw c
  let r := stage8 n.1 co
  { t := t.1, cnt := n.1, code := r.1, sat := t.2 || n.2 || r.2 }

namespace State

/-! ## The stream's values of a frame -/

/-- Active coefficient of port `p` (R196). -/
def coef (s : State) (p seg k : Nat) : Int := Map.get (fun _ => 0) s.coefAct ((p * 64 + seg) * 4 + k)

/-- Correction values of stream `p`'s frame. -/
def corrOf (s : State) (p : Nat) : Corr :=
  let x := s.stream p
  { dt := x.dt, dsh := bitsOf x.corr 4 0, nsh := bitsOf x.corr 13 8, ped := x.ped }

/-- The active table has the legacy format (R191). -/
def legacyTable (s : State) (p : Nat) : Bool := bitOf (s.stream p).corr 16

/-- Byte offset of pixel `i`'s word in a table of stream `p`'s format (R190, R191). -/
def wordOff (s : State) (p i : Nat) : Nat := (if s.legacyTable p then 4 else 8) * i

/-- The table word at byte address `a` of DRAM, in the stream's format. -/
def wordAt (s : State) (p a : Nat) : TableWord :=
  if s.legacyTable p then TableWord.ofLegacy (s.dramNum a 4) else TableWord.ofNat (s.dramNum a 8)

/-- Bytes of a word in a table of stream `p`'s format. -/
def wordLen (s : State) (p : Nat) : Nat := if s.legacyTable p then 4 else 8

/-- The word that pixel `i` of stream `p` uses, and whether it is neutral with nocorr (R190, R192). An underrun or an uncorrectable word is counted, one beyond the
table's length is not, and each keeps a running wedge from being complete; while a wedge runs the word is moved, written back and its remainders noted (R207, R208). -/
def tableWord (s : State) (p i : Nat) (f : Fetch) : TableWord × Bool × State :=
  if !s.bit (PCE_TBL_STAT_active p) then (neutralWord, true, s)
  else
    let off := s.wordOff p i
    if s.get (PCE_TBL_ACT_LEN_active p) * 4096 ≤ off then
      (neutralWord, true, (s.setBit PCE_EVT_underrun p).modStream p (fun x => { x with tblUnderrun := true, wedgeEq := x.wedgeEq && x.wedge.isNone }))
    else
      let base := s.get (PCE_TBL_ACT_BASE_active p) * 4096
      let k := s.wordLen p
      let s := if f = .uncorrectable then s.upset false (base + off) true else s
      let s := if f = .underrun then s else s.dramRead 0 (2 + p) (base + off) k
      let s := match (s.stream p).wedge with | some tgt => if f = .underrun then s else s.dramRead 0 (2 + p) (tgt + off) k | none => s
      let bad := s.poisoned (base + off) || (s.stream p).wedge.any (fun tgt => s.poisoned (tgt + off))
      match (if f = .inTime ∧ bad then .uncorrectable else f) with
      | .underrun =>
        (neutralWord, true, ((s.bump (PCE_CNT_underrun p)).setBit PCE_EVT_underrun p).modStream p (fun x =>
          { x with underruns := x.underruns + 1, tblUnderrun := true, wedgeEq := x.wedgeEq && x.wedge.isNone }))
      | .uncorrectable =>
        (neutralWord, true, ((s.bump (PCE_CNT_ecc p)).setBit PCE_EVT_ecc p).modStream p (fun x =>
          { x with underruns := x.underruns + 1, tblUnderrun := true, wedgeEq := x.wedgeEq && x.wedge.isNone }))
      | .inTime =>
        let a := s.wordAt p (base + off)
        match (s.stream p).wedge with
        | none => (a, false, s)
        | some tgt =>
          let g := s.wordAt p (tgt + off)
          let n := wedgeWord a g (s.get PCE_WEDGE_CFG_oslew) (s.get PCE_WEDGE_CFG_gslew)
          let s := s.dramWrite 0 (2 + p) (base + off) (leBytes 8 n.toNat)
          (n, false, s.modStream p (fun x =>
            { x with ofsRem := max x.ofsRem (g.ofs - n.ofs).natAbs, gainRem := max x.gainRem ((g.gain : Int) - n.gain).natAbs,
                     wedgeEq := x.wedgeEq && n.ofs == g.ofs && n.gain == g.gain && n.drift == g.drift && n.nl == g.nl }))

/-! ## Output slots (R200–R203) -/

/-- A byte count rounded up to whole 4 KiB units. -/
def up4k (n : Nat) : Nat := (n + 4095) / 4096 * 4096

/-- Pixels of the port's frame. -/
def pixels (s : State) (p : Nat) : Nat := (s.port p).width * (s.port p).height

/-- Offsets of the planes in a slot of `n` pixels: 0 raw, 1 count, 2 code, 3 flags. -/
def planeAt (n k : Nat) : Nat := 4096 + k * up4k (2 * n)

/-- Bytes of a slot of `n` pixels. -/
def slotBytes (n : Nat) : Nat := planeAt n 3 + up4k n

/-- Where slot `n` of stream `p`'s active ring lies in DRAM, and the pixels of its planes. -/
def ringSlot (s : State) (p n : Nat) : Nat × Nat := ((s.stream p).outBase * 4096 + n * slotBytes (s.pixels p), s.pixels p)

/-- Where the frame of slot `n` lies: the place at which its writing began; a slot that no frame has begun lies in the active ring. (DEDUCED, log entry 24.) -/
def slotPlace (s : State) (p n : Nat) : Nat × Nat := ((s.stream p).laid.find? (fun e => e.1 == n)).elim (s.ringSlot p n) (·.2)

/-- Columns of the frame in slot `n`, likewise. -/
def slotWidth (s : State) (p n : Nat) : Nat := ((s.stream p).laidW.find? (fun e => e.1 == n)).elim (s.port p).width (·.2)

/-- DRAM address of slot `n` of stream `p`. -/
def slotBase (s : State) (p n : Nat) : Nat := (s.slotPlace p n).1

/-- Offset of plane `k` in slot `n` of stream `p`. -/
def planeOff (s : State) (p n k : Nat) : Nat := planeAt (s.slotPlace p n).2 k

/-- The words of slot `n` of stream `p` that were left in parts are merged, by requester `req` (R337). -/
def mergeSlot (s : State) (req p n : Nat) : State := s.mergeGathered req (s.slotPlace p n).1 (slotBytes (s.slotPlace p n).2)

/-- The writing of slot `n` begins in the active ring; what the frame before left of it in parts is merged where it lay. -/
def laySlot (s : State) (p n : Nat) : State :=
  let s := s.mergeSlot (2 + p) p n
  s.modStream p (fun x => { x with laid := Map.set (fun _ => (0, 0)) x.laid n (s.ringSlot p n), laidW := Map.set (fun _ => 0) x.laidW n (s.port p).width })

/-- Slots in the active ring. -/
def ringSlots (s : State) (p : Nat) : Nat := bitsOf (s.stream p).outCfg 4 0

/-- The next slot in index order after `n` whose hold bit is 0. -/
def nextSlot (s : State) (p n : Nat) : Nat :=
  let k := s.ringSlots p
  (((List.range k).map (fun i => (n + 1 + i) % k)).find? (fun j => !s.bit ⟨PCE_HOLD p, 15, 0⟩ j)).getD n

/-- The slot being written. -/
def curSlot (s : State) (p : Nat) : Nat := s.get (PCE_SLOT_cur p)

/-- Pixel `i` written to the planes of the slot being written; the raw plane only when raw_en is 1 and the pixel went through stage 2. -/
def writePixel (s : State) (p i : Nat) (t : Option Int) (o : PixOut) : State :=
  let n := s.curSlot p
  let b := s.slotBase p n
  let s := match t with
    | some v => if bitOf (s.stream p).outCfg 8 then s.dramGather 0 (b + s.planeOff p n 0 + 2 * i) (leBytes 2 (unsgn 16 (clampI (-32768) 32767 v))) else s
    | none => s
  let s := s.dramGather 0 (b + s.planeOff p n 1 + 2 * i) (leBytes 2 o.cnt)
  let s := s.dramGather 0 (b + s.planeOff p n 2 + 2 * i) (leBytes 2 o.code)
  s.dramGather 0 (b + s.planeOff p n 3 + i) (leBytes 1 o.flags)

/-- The slot header of the frame (R202). -/
def slotHeader (s : State) (p : Nat) (fenced replayed : Bool) (rows frame epoch fpaT : Nat) (unmeasured : Bool) : List Byte :=
  let x := s.stream p
  let (under, count) := if replayed then (s.replay.tblUnderrun, s.replay.underruns) else (x.tblUnderrun, x.underruns)
  leBytes 4 frame ++ leBytes 2 epoch ++ leBytes 2 rows ++ leBytes 4 fpaT ++
    leBytes 4 (b2n fenced + 2 * b2n under + 4 * b2n unmeasured + 8 * b2n (s.bit (PCE_TBL_STAT_unverified p)) +
      16 * b2n (x.wedge.isSome && !replayed) + 32 * b2n replayed + 64 * b2n (!s.bit (PCE_TBL_STAT_active p))) ++
    leBytes 4 (sat 0xFFFF_FFFF count) ++
    leBytes 2 (if x.wedge.isSome && !replayed then sat 0xFFFF x.ofsRem else 0) ++
    leBytes 2 (if x.wedge.isSome && !replayed then sat 0xFFFF x.gainRem else 0) ++
    (x.digest ++ List.replicate 8 0#8).take 8 ++ List.replicate 32 0#8

/-- The metadata marks that a slot header states, from its bits (R202, R382). -/
def headerMarks (bits : Nat) : Nat :=
  bits % 2 + bits / 8 % 2 * 2 ^ 11 + bits / 2 % 2 * 2 ^ 12 + bits / 4 % 2 * 2 ^ 13 + bits / 16 % 2 * 2 ^ 14 + bits / 32 % 2 * 2 ^ 15 + bits / 64 % 2 * 2 ^ 16

/-- The header of the frame in hand is written, the rest of its 4 KiB unit zero, and the slot is complete. -/
def writeHeader (s : State) (p : Nat) (fenced : Bool) : State :=
  let r := s.raster p
  let x := s.stream p
  let h := s.slotHeader p fenced false (s.port p).rows r.frame r.epoch (s.get (PCE_FPA_T_temperature p)) x.driftUnmeasured
  let n := s.curSlot p
  let s := (s.mergeSlot (2 + p) p n).dramWrite 0 (2 + p) (s.slotBase p n) (h ++ List.replicate (4096 - 64) 0#8)
  let s := s.put (PCE_SLOT_last p) n
  let raw := bitOf x.outCfg 8
  let was := x.rawSlots / 2 ^ n % 2 = 1
  let bits := ofLe ((h.drop 12).take 4)
  let m := s.marksOf (64 + p) ||| (b2n (s.port p).tested * 2 ^ 9 + headerMarks bits)
  let s := s.setMarks (p * 16 + n) m
  s.modStream p (fun x =>
    { x with writing := false,
             rawSlots := if raw && !was then x.rawSlots + 2 ^ n else if !raw && was then x.rawSlots - 2 ^ n else x.rawSlots })

/-! ## Frame start of a stream -/

/-- A running wedge has ended: no arming is deferred any longer (R209). -/
def takeDeferred (s : State) : State := [0, 1, 2, 3].foldl (fun s p => s.clrBit (PCE_WEDGE_STAT_deferred p)) s

/-- The bytes of port `p`'s shadow table as a reader receives them: a poisoned word is zero (R204, R338). -/
def tableBytes (s : State) (p : Nat) : List Byte := s.dramBytes (s.get (PCE_TBL_BASE_table p) * 4096) (s.get (PCE_TBL_LEN_table p) * 4096)

/-- Whether the activation itself reads the table: it is one not checked. (DEDUCED, log entry 23.) -/
def uncheckedTable (s : State) (p : Nat) : Bool := !s.bit (PCE_TBL_STAT_check_ok p) && !s.bit (PCE_TBL_STAT_check_fail p)

/-- The digest of the table that is activated: that of its check, or for a table not checked that of its bytes at the activation (R202). (DEDUCED, log entry 23.) -/
def shadowDigest (s : State) (p : Nat) : List Byte :=
  if s.uncheckedTable p then sha256 (s.tableBytes p) else (List.range 8).flatMap (fun k => leBytes 4 (s.num (PCE_TBL_DIGEST p k)))

/-- TABLE_ACTIVATION: an armed stream copies its shadows together, or refuses an unchecked table while sealed (R205). A held arm waits for a replay of the
port to end. (DEDUCED, log entry 23.) -/
def tableActivation (s : State) (p : Nat) : State :=
  if !s.bit (PCE_TBL_CTL_arm p) || (s.replay.running && s.replay.port == p) then s
  else
    let s := s.clrBit (PCE_TBL_CTL_arm p)
    let differs := s.get (PCE_TBL_BASE_table p) != s.get (PCE_TBL_ACT_BASE_active p) || s.get (PCE_TBL_LEN_table p) != s.get (PCE_TBL_ACT_LEN_active p)
    let ok := s.bit (PCE_TBL_STAT_check_ok p)
    if differs && s.sealed && !ok then s.setBit PCE_EVT_refused p
    else
      let s := if differs then
          let s := (s.put (PCE_TBL_ACT_BASE_active p) (s.get (PCE_TBL_BASE_table p))).put (PCE_TBL_ACT_LEN_active p) (s.get (PCE_TBL_LEN_table p))
          let s := (s.setBit (PCE_TBL_STAT_active p)).wrBit (PCE_TBL_STAT_unverified p) 0 (s.variantM && !ok)
          let s := if (s.stream p).wedge.isSome then (s.clrBit (PCE_WEDGE_STAT_running p)).takeDeferred else s
          let t := if s.uncheckedTable p then s.dramRead 3 6 (s.get (PCE_TBL_BASE_table p) * 4096) (s.get (PCE_TBL_LEN_table p) * 4096) else s
          t.modStream p (fun x => { x with wedge := none, digest := s.shadowDigest p })
        else s
      s.modStream p (fun x => { x with corr := s.reg (PCE_CORR_CFG p), ped := s.get (PCE_PEDESTAL_ped p), driftRef := s.get (PCE_DRIFT_REF_reference p),
                                       outBase := s.get (PCE_OUT_BASE_slot p), outCfg := s.reg (PCE_OUT_CFG p) })

/-- DRIFT_LATCH: FPA_T and dt of the frame (R195), from the latest result of the port's diode channel. -/
def driftLatch (s : State) (p : Nat) : State :=
  let t := s.get (HKT_CH_RES_value p)
  let s := s.put (PCE_FPA_T_temperature p) t
  let d := (s.get (PCE_FPA_T_temperature p) : Int) - (s.stream p).driftRef
  s.modStream p (fun x => { x with dt := clampI (-32768) 32767 d, dtSat := clampI (-32768) 32767 d != d,
                                   driftUnmeasured := s.bit ⟨HKT_FENCED, 23, 0⟩ (2 * p) || s.bit ⟨HKT_FENCED, 23, 0⟩ (2 * p + 1) })

/-- A port's armed coefficient shadow is copied (R197, R198). -/
def radCopy (s : State) (p : Nat) : State :=
  let arm := if s.variantM then s.coefArm / 2 ^ p % 2 = 1 else s.bit PCE_RAD_CTL_arm p
  if arm then
    let keep := s.coefAct.filter (fun e => e.1 / 256 != p)
    let new := s.coefShadow.filter (fun e => e.1 / 256 == p)
    let act := new.foldl (fun m e => Map.set (fun _ => 0) m e.1 e.2) keep
    let s := { s with coefAct := act, coefArm := if s.coefArm / 2 ^ p % 2 = 1 then s.coefArm - 2 ^ p else s.coefArm }
    s.clrBit PCE_RAD_CTL_arm p
  else s

/-- The slot of a delivering frame is chosen: a truncated frame's slot again, else the next unheld one (R57, R201). -/
def chooseSlot (s : State) (p : Nat) : State :=
  if !s.bit (FPP_STAT_delivering p) then s
  else
    let s := if (s.stream p).writing then s
      else if !(s.stream p).began then
        s.put (PCE_SLOT_cur p) (s.nextSlot p (s.ringSlots p - 1))
      else s.put (PCE_SLOT_cur p) (s.nextSlot p (s.get (PCE_SLOT_last p)))
    let s := s.laySlot p (s.curSlot p)
    s.modStream p (fun x => { x with writing := true, began := true, underruns := 0, tblUnderrun := false, ofsRem := 0, gainRem := 0, wedgeEq := true })

/-- A frame of port `p`'s raster starts: the stream's share. -/
def streamFrame (s : State) (p : Nat) : State :=
  (((s.tableActivation p).driftLatch p).radCopy p).chooseSlot p

/-! ## Pixels -/

/-- Key of a pixel kept for its neighbours. -/
def pixKey (row col : Nat) : Nat := row * 4096 + col

/-- A finished pixel: kept for its neighbours and written to the slot. -/
def emitPixel (s : State) (p row col : Nat) (t : Option Int) (o : PixOut) : State :=
  (s.modPort p (fun x => { x with pix := Map.set (fun _ => ⟨0, 0, 255, 255⟩) x.pix (pixKey row col) o })).writePixel p (row * (s.port p).width + col) t o

/-- A column of a fenced lane whose pixel of the row in hand has neither come nor been handed to interpolation. -/
def fencedColumn (s : State) (p row col : Nat) : Bool :=
  let k := s.laneStep p
  s.laneFenced p (col % k) && Map.get (fun _ => 0) (s.port p).rowCnt (col % k * 256 + col / k) != 1 &&
    !(s.port p).interp.any (fun q => q.1 == row && q.2.1 == col) && !(s.port p).pix.any (fun e => e.1 == pixKey row col)

/-- A pixel of a row in hand is decided: the columns of fenced lanes that waited for it on its left, and on its right up to the window's end where nothing else comes there, are
handed to interpolation (R194). -/
def handFenced (s : State) (p row col : Nat) : State :=
  if row != (s.port p).rows then s
  else
    let left := (List.range col).reverse.takeWhile (s.fencedColumn p row)
    let rest := (List.range (s.port p).width).drop (col + 1)
    let cols := left.reverse ++ (if rest.all (s.fencedColumn p row) then rest else [])
    s.modPort p (fun x => { x with interp := x.interp ++ cols.map (fun c => (row, c, 8)) })

/-- PIXEL_CORRECT: stage 1 takes the oldest accepted result, and 15 ticks later the pixel is decided (R29, R187, R188). Answers the decided pixel. -/
def pixelCorrect (s : State) (p : Nat) (f : Fetch) : State × Option (Nat × Nat × PixOut) :=
  match (s.port p).intake with
  | [] => (s, none)
  | r :: rest =>
    let s := (s.advanceTo (r.at_ + r.lane + 15)).modPort p (fun x => { x with intake := rest })
    let col := r.lane + (if r.legacy then 16 else 32) * r.n
    let (tw, nocorr, s) := s.tableWord p (r.row * (s.port p).width + col) f
    let v := correctPixel r.legacy r.mode r.s r.b r.trim tw (s.corrOf p) (s.coef p)
    let o : PixOut := { cnt := v.cnt, code := v.code,
                        flags := (if nocorr then 128 else tw.flags % 8) + 32 * b2n r.clip + 64 * b2n (v.sat || (s.stream p).dtSat) }
    ((s.emitPixel p r.row col (some v.t) o).handFenced p r.row col, some (r.row, col, o))

/-- A neighbour that R194 may use. -/
def usable (o : PixOut) : Bool := o.flags % 2 == 0 && o.flags / 8 % 4 == 0 && o.flags / 128 == 0

/-- The interpolated pixel of flag byte `own` (R193) from its neighbours inside the window (R194). (DEDUCED, log entry 24.) -/
def interpolate (own : Nat) (l r : Option PixOut) : PixOut :=
  let has := fun (bit : Nat) => own / bit % 2 == 1 || l.any (fun x => x.own / bit % 2 == 1) || r.any (fun x => x.own / bit % 2 == 1)
  let f := own - own / 32 % 4 * 32 + 32 * b2n (has 32) + 64 * b2n (has 64)
  match l.filter usable, r.filter usable with
  | some a, some b => ⟨(a.cnt + b.cnt + 1) / 2, (a.code + b.code + 1) / 2, f, own⟩
  | some a, none => ⟨a.cnt, a.code, f, own⟩
  | none, some b => ⟨b.cnt, b.code, f, own⟩
  | none, none => ⟨0, 0, f - f / 8 % 4 * 8 + 24, own⟩

/-- What is known of the pixel of column `col` of a row in hand: decided, or itself to be formed by R194. -/
def knownPixel (s : State) (p row col : Nat) : Option PixOut :=
  match (s.port p).pix.find? (fun e => e.1 == pixKey row col) with
  | some e => some e.2
  | none => ((s.port p).interp.find? (fun q => q.1 == row && q.2.1 == col)).map (fun q => ⟨0, 0, q.2.2, q.2.2 + 64 * b2n (s.stream p).dtSat⟩)

/-- The neighbours of a column that lie inside the window, as far as they are known. -/
def leftPixel (s : State) (p row col : Nat) : Option PixOut := if col = 0 then none else s.knownPixel p row (col - 1)
def rightPixel (s : State) (p row col : Nat) : Option PixOut := if col + 1 < (s.port p).width then s.knownPixel p row (col + 1) else none

/-- Both neighbours of a waiting pixel that lie inside the window are known. -/
def fillReady (s : State) (p : Nat) (q : Nat × Nat × Nat) : Bool :=
  (q.2.1 == 0 || (s.leftPixel p q.1 q.2.1).isSome) && (!decide (q.2.1 + 1 < (s.port p).width) || (s.rightPixel p q.1 q.2.1).isSome)

/-- PIXEL_INTERPOLATE: the stream forms the oldest of the waiting pixels whose neighbours inside the window are known. (DEDUCED, log entry 24.) -/
def pixelInterpolate (s : State) (p : Nat) (f : Fetch) : State :=
  match (s.port p).interp.find? (s.fillReady p) with
  | none => s
  | some (row, col, fl) =>
    let (l, r) := (s.leftPixel p row col, s.rightPixel p row col)
    let s := s.modPort p (fun x => { x with interp := x.interp.erase (row, col, fl) })
    let (tw, nocorr, s) := s.tableWord p (row * (s.port p).width + col) f
    s.emitPixel p row col none (interpolate (fl + (if nocorr then 128 else tw.flags % 8) + 64 * b2n (s.stream p).dtSat) l r)

/-- What remains of a running wedge is published at the end of a frame (R208). -/
def wedgePublish (s : State) (p : Nat) : State :=
  let x := s.stream p
  if x.wedge.isSome then (s.put (PCE_WEDGE_STAT_ofs_rem p) (sat 0xFFFF x.ofsRem)).put (PCE_WEDGE_STAT_gain_rem p) (sat 0xFFF x.gainRem) else s

/-- The end of a wedge frame: remainders are published, and the wedge completes when every pixel's word equals its target (R208). -/
def wedgeFrameEnd (s : State) (p : Nat) : State :=
  let x := s.stream p
  let s := s.wedgePublish p
  if x.wedge.isSome && x.wedgeEq && decide ((s.port p).height ≤ (s.port p).rows) then
    (((s.clrBit (PCE_WEDGE_STAT_running p)).takeDeferred).setBit PCE_EVT_wedge p).modStream p (fun y => { y with wedge := none })
  else s

/-! ## Table checks (R204) -/

/-- A write of 1 to check starts the hash; a check while one runs is ignored. -/
def tableCheckStart (s : State) (p : Nat) : State :=
  if s.bit (PCE_TBL_STAT_checking p) then s else (s.setBit (PCE_TBL_STAT_checking p)).setHashRun (4 + p) (some { start := s.now })

/-- The hash ends, 132 ticks for every 64 bytes after its start. (DEDUCED, log entry 19.) -/
def tableCheckComplete (s : State) (p : Nat) : State :=
  if !s.bit (PCE_TBL_STAT_checking p) then s
  else
    let d := s.hashEnd (4 + p) (s.tableBytes p)
    let s := (s.advanceTo ((s.hashRun (4 + p)).start + 132 * (s.get (PCE_TBL_LEN_table p) * 64))).setHashRun (4 + p) none
    let s := s.dramRead 3 6 (s.get (PCE_TBL_BASE_table p) * 4096) (s.get (PCE_TBL_LEN_table p) * 4096)
    let s := (List.range 8).foldl (fun s k => s.setNum (PCE_TBL_DIGEST p k) (ofLe ((d.drop (4 * k)).take 4))) s
    let ref := Map.get (fun _ => []) s.tblRef p
    let ok := !ref.isEmpty && decide (ref = d)
    (((s.clrBit (PCE_TBL_STAT_checking p)).wrBit (PCE_TBL_STAT_check_ok p) 0 ok).wrBit (PCE_TBL_STAT_check_fail p) 0 (!ok)).setBit PCE_EVT_check p

/-- A write to TBL_BASE or TBL_LEN abandons a running check and its results. -/
def tableCheckDrop (s : State) (p : Nat) : State :=
  (((s.clrBit (PCE_TBL_STAT_checking p)).clrBit (PCE_TBL_STAT_check_ok p)).clrBit (PCE_TBL_STAT_check_fail p)).setHashRun (4 + p) none

/-! ## Replay (R210, R211) -/

/-- A replay request (R210). -/
def replayRequest (s : State) (v : W32) : State :=
  let p := bitsOf v 1 0
  let src := bitsOf v 9 6
  if s.replay.running || !s.bit ⟨PCE_HOLD p, 15, 0⟩ src || (s.stream p).rawSlots / 2 ^ src % 2 == 0 then s.setBit PCE_EVT_rpl_refused
  else
    let h := s.slotBase p src
    let dst := bitsOf v 13 10
    let s := ((s.setBit PCE_RPL_STAT_busy).put PCE_RPL_STAT_rows 0).dramRead 3 6 h 64
    let s := if dst = src then s else s.laySlot p dst
    { s with replay := { running := true, port := p, src := src, dst := dst, next := 0, readyAt := s.now, rows := s.dramNum (h + 6) 2,
                         fpaT := s.dramNum (h + 8) 4 } }

/-- How the replay finds the word of pixel `i`: the word, whether it lies beyond the table, and whether it is poisoned (R192). -/
def replayWord (s : State) (p i : Nat) : TableWord × Bool × Bool :=
  if !s.bit (PCE_TBL_STAT_active p) then (neutralWord, false, false)
  else
    let off := s.wordOff p i
    let a := s.get (PCE_TBL_ACT_BASE_active p) * 4096 + off
    if s.get (PCE_TBL_ACT_LEN_active p) * 4096 ≤ off then (neutralWord, true, false)
    else if s.poisoned a then (neutralWord, false, true)
    else (s.wordAt p a, false, false)

/-- Pixel `i` of the running replay before interpolation: count, code and flags (R210). -/
def replayValue (s : State) (i : Nat) : PixOut :=
  let q := s.replay
  let p := q.port
  let b := s.slotBase p q.src
  let rawAt := b + s.planeOff p q.src 0 + 2 * i
  let flAt := b + s.planeOff p q.src 3 + i
  let t := sgn 16 (s.dramNum rawAt 2)
  let fl0 := s.dramNum flAt 1
  let fl := if (s.poisoned rawAt || s.poisoned flAt) && fl0 / 16 % 2 == 0 then fl0 + 16 else fl0
  let w := s.replayWord p i
  let d := (q.fpaT : Int) - (s.stream p).driftRef
  let c := { s.corrOf p with dt := clampI (-32768) 32767 d }
  let n := stages37 t w.1 c
  let r := stage8 n.1 (s.coef p)
  let nocorr := !s.bit (PCE_TBL_STAT_active p) || w.2.1 || w.2.2
  { cnt := n.1, code := r.1, flags := fl / 8 % 8 * 8 + (if nocorr then 128 else w.1.flags % 8) + 64 * b2n (n.2 || r.2 || clampI (-32768) 32767 d != d) }

/-- What the word of pixel `i` leaves behind: a word beyond the table and a poisoned one set the event and the frame's bit, and a poisoned one counts (R192). -/
def replayNote (s : State) (i : Nat) : State :=
  let p := s.replay.port
  let w := s.replayWord p i
  if w.2.1 then { s.setBit PCE_EVT_underrun p with replay := { s.replay with tblUnderrun := true } }
  else if w.2.2 then
    { (s.bump (PCE_CNT_ecc p)).setBit PCE_EVT_ecc p with replay := { s.replay with tblUnderrun := true, underruns := s.replay.underruns + 1 } }
  else s

/-- The words that pixel `i` of the replay is the first to need are read: raw plane, flags plane and table. -/
def replayReads (s : State) (i : Nat) : State :=
  let p := s.replay.port
  let n := s.replay.src
  let b := s.slotBase p n
  let s := if i % 4 = 0 then s.dramRead 3 6 (b + s.planeOff p n 0 + 2 * i) 8 else s
  let s := if i % 8 = 0 then s.dramRead 3 6 (b + s.planeOff p n 3 + i) 8 else s
  if s.bit (PCE_TBL_STAT_active p) && decide (s.wordOff p i < s.get (PCE_TBL_ACT_LEN_active p) * 4096) then
    s.dramRead 3 6 (s.get (PCE_TBL_ACT_BASE_active p) * 4096 + s.wordOff p i) (s.wordLen p)
  else s

/-- The ticks in which stage 1 of stream `p` takes a live result, as far as the results have been formed. -/
def liveTicks (s : State) (p : Nat) : List Nat := ((s.port p).intake ++ (s.port p).results.filter (fun r => !r.missing)).map (fun r => r.at_ + r.lane)

/-- The first tick from `t` on that is none of `busy`; as many ticks are tried as `busy` has. -/
def freeTick (busy : List Nat) : Nat → Nat → Nat
  | 0, t => t
  | k + 1, t => if busy.contains t then freeTick busy k (t + 1) else t

/-- REPLAY_PIXEL: the next pixel of the replay, in a cycle that no live pixel takes and at least div cycles after the one before, with R194 applied where its source flags say so (R210, R211). -/
def replayPixel (s : State) : State :=
  let p := s.replay.port
  let w := (s.port p).width
  if !s.replay.running ∨ w * s.replay.rows ≤ s.replay.next then s
  else
    let busy := s.liveTicks p
    let s := s.advanceTo (freeTick busy busy.length (max s.now s.replay.readyAt))
    let i := s.replay.next
    let v := s.replayValue i
    let o := if v.flags / 8 % 4 = 0 then v
      else interpolate v.flags (if i % w = 0 then none else some (s.replayValue (i - 1))) (if i % w + 1 = w then none else some (s.replayValue (i + 1)))
    let s := (s.replayReads i).replayNote i
    let d := s.replay.dst
    let b := s.slotBase p d
    let s := s.dramGather 3 (b + s.planeOff p d 1 + 2 * i) (leBytes 2 o.cnt)
    let s := s.dramGather 3 (b + s.planeOff p d 2 + 2 * i) (leBytes 2 o.code)
    let s := s.dramGather 3 (b + s.planeOff p d 3 + i) (leBytes 1 o.flags)
    let s := { s with replay := { s.replay with next := i + 1, readyAt := s.now + s.get PCE_RPL_CFG_div } }
    if (i + 1) % w = 0 then s.put PCE_RPL_STAT_rows ((i + 1) / w) else s

/-- REPLAY_COMPLETE: every pixel of the source's rows is done; the header with "replayed" is written, and the marks that a header states follow it (R210, R382). -/
def replayComplete (s : State) : State :=
  let q := s.replay
  let p := q.port
  if !q.running ∨ q.next < (s.port p).width * q.rows then s
  else
    let b := s.slotBase p q.src
    let bits := s.dramNum (b + 12) 4
    let h := s.slotHeader p (bits % 2 == 1) true q.rows (s.dramNum b 4) (s.dramNum (b + 4) 2) q.fpaT (bits / 4 % 2 == 1)
    let s := { (s.mergeSlot 6 p q.dst).dramWrite 3 6 (s.slotBase p q.dst) (h ++ List.replicate (4096 - 64) 0#8) with replay := { q with running := false } }
    let own := 2 ^ 17 - 2 ^ 11 + 1
    let src := s.marksOf (p * 16 + q.src)
    let s := s.setMarks (p * 16 + q.dst) ((src - (src &&& own)) ||| headerMarks (ofLe ((h.drop 12).take 4)))
    (s.clrBit PCE_RPL_STAT_busy).setBit PCE_EVT_rpl_done

/-! ## Known-answer vectors (R212) -/

/-- One result of a vector through stages 1–8 with its own table word, or the neutral word where the vector withholds it; before R194. -/
def katValue (s : State) (p : Nat) (k : KatItem) : PixOut :=
  let tw := if k.late then neutralWord else TableWord.ofNat k.tw.toNat
  let lane := 32 * p + k.col % (if k.legacy then 16 else 32)
  let v := correctPixel k.legacy k.mode k.s k.b (s.reg (LCA_LANE_TRIM_ACT lane)) tw (s.corrOf p) (s.coef p)
  { cnt := v.cnt, code := v.code, flags := (if k.late then 128 else tw.flags % 8) + 8 * b2n k.parity + 16 * b2n k.missing + 32 * b2n k.clip + 64 * b2n (v.sat || (s.stream p).dtSat) }

/-- What the stream answers for one result: an interpolated or missing one is formed from its neighbours in the vector (R194). -/
def katAnswer (s : State) (p : Nat) (vec : List KatItem) (k : KatItem) : PixOut :=
  let o := s.katValue p k
  let at_ := fun (c : Nat) => (vec.find? (fun q => q.row == k.row && q.col == c)).map (s.katValue p)
  if o.flags / 8 % 4 = 0 then o
  else interpolate o.flags (if k.col = 0 then none else at_ (k.col - 1)) (at_ (k.col + 1))

/-- Every output of the vector is what is expected: count, code, flags, and the windows that `hits row col code flags` names (R212, R270). -/
def katOk (s : State) (p : Nat) (hits : Nat → Nat → Nat → Nat → List Nat) (vec : List KatItem) : Bool :=
  vec.all (fun k =>
    let o := s.katAnswer p vec k
    o.cnt == k.cnt && o.code == k.code && o.flags == k.flags && decide (hits k.row k.col o.code o.flags = k.hits))

/-- The lines of port `p` are free from now: a held vector enters stage 1 (R212). -/
def katRelease (s : State) (p : Nat) : State :=
  if (Map.get (fun _ => []) s.kat p).isEmpty || (s.stream p).katAt.isSome then s else s.modStream p (fun x => { x with katAt := some s.now })

end State
end Sys2Proof.Machine
end

