-- ==== Sys2Proof/Machine/Sdr.lean ====
section
/-! DEFINITION. Machine/Sdr.lean: the shutter drive (spec 17): triggers, profiles and their phases, gates and the high-side switch, current samples, armature
movement, and channel fences. -/

namespace Sys2Proof.Machine
open R

/-- Wall-time units (1/27 ns) of one unit of SDR_CHc_CFG.max_on: 1,024 housekeeping clocks of 160 ns (R27, R463). -/
def maxOnUnit : Nat := 1024 * 160 * 27

namespace State

def pair (s : State) (n : Nat) : PairSt := Map.get (fun _ => {}) s.pairs n
def setPair (s : State) (n : Nat) (x : PairSt) : State := { s with pairs := Map.set (fun _ => {}) s.pairs n x }
def modPair (s : State) (n : Nat) (f : PairSt → PairSt) : State := s.setPair n (f (s.pair n))
def chan (s : State) (c : Nat) : ChanSt := Map.get (fun _ => {}) s.chans c
def setChan (s : State) (c : Nat) (x : ChanSt) : State := { s with chans := Map.set (fun _ => {}) s.chans c x }

/-- The channel that profile `k` drives on pair `n` (R453, R455). -/
def profChan (s : State) (n k : Nat) : Nat := 2 * n + s.get (SDR_PRF_CFG_coil k)

/-- The raster of a profile run (R456). -/
def profRaster (s : State) (q : ProfRun) : Nat := if s.bit (SDR_PRF_CFG_follow q.prof) then q.trig else s.get (SDR_PRF_CFG_raster q.prof)

/-- Duration of phase `j` of profile `k` on pair `n`, in the profile's units (R455). -/
def phaseLen (s : State) (n k j : Nat) : Nat :=
  s.get (SDR_PRF_PH_duration k j) + (if s.bit (SDR_PRF_PH_ext k j) then s.get (SDR_PAIR_CFG_ext n) else 0)

/-- Line starts within which a waiting trigger of the profile must start; 0: any number (R461). -/
def profDeadline (s : State) (q : ProfRun) : Nat := s.get (SDR_PRF_CFG_deadline q.prof)

/-- Tick 0 of the next slot of raster `r`, the slots as the raster runs them (R55): H while `r` is stopped (R49, R460). -/
def nextSlotTick (s : State) (r : Nat) : Nat :=
  let x := s.raster (s.counted r)
  if !x.running then s.now
  else
    let k := (s.now - x.lineAt) / 96 + 1
    if k < x.slots then x.lineAt + 96 * k else max x.lineEnd (s.now + 1)

/-- Slot within its line that begins at tick `t` on raster `r`. -/
def slotOf (s : State) (r t : Nat) : Nat :=
  let x := s.raster (s.counted r)
  if x.lineEnd ≤ t then 0 else min ((t - x.lineAt) / 96) (x.slots - 1)

/-- HSn and the gate for pair `n` as the running phase wants them: the gate `g`, and the switch by the off-mode rule (R458). -/
def drive (s : State) (n c : Nat) (g : Bool) : State :=
  let q := s.pair n
  let off := match q.run with | some r => s.get (SDR_PRF_PH_off_mode r.prof q.phase) | none => 0
  let clamp := if q.releasing then q.clamp || off == 1 || off == 2
    else off == 1 || (off == 2 && (match q.run with | some r => s.get (SDR_PRF_PH_mode r.prof q.phase) < 2 && q.gateWas | none => false))
  let s := s.wrBit (SDR_CH_STAT_gate c) 0 g
  let s := s.wrBit (SDR_PAIR_STAT_hs n) 0 (g || !clamp)
  if g && q.onWall.isNone then s.modPair n (fun x => { x with onWall := some (s.wall + (q.phaseAt - s.now) * (if s.sca.slow then 10 else 9)) }) else s

/-- Phase `j` of the profile running on pair `n` begins at tick `t` (R455, R457). -/
def beginPhase (s : State) (n j t : Nat) : State :=
  match (s.pair n).run with
  | none => s
  | some q =>
    let c := s.profChan n q.prof
    let rel := s.get (SDR_PRF_CFG_nphase q.prof) ≤ j + 1
    let was := s.bit (SDR_CH_STAT_gate c)
    let s := s.modPair n (fun x => { x with phase := j, phaseAt := t, phaseSlot := s.slotOf (s.profRaster q) t, phaseExt := 0, pwmAt := t, pwmExt := 0, releasing := rel,
                                            gateWas := was, run := some { q with lines := 0 } })
    let s := s.put (SDR_PAIR_STAT_phase n) j
    let mode := s.get (SDR_PRF_PH_mode q.prof j)
    let duty := s.get (SDR_PRF_PH_duty q.prof j) * s.get (SDR_PRF_DRV_pwm_per q.prof) * 96 / 256
    let s := s.drive n c (!rel && (mode == 1 || mode == 3 || (mode == 2 && decide (0 < duty))))
    if rel && (s.pair n).move != .done && decide (0 < j ∨ s.get (SDR_PRF_CFG_nphase q.prof) = 1) then
      let s := (s.setBit SDR_EVT_nomove c).bump (SDR_CH_CNT_nomove c)
      if (s.pair n).peak < s.get (SDR_CH_DET_i_min c) then s.setBit (SDR_CH_STAT_low c) else s
    else s

/-- A profile starts on an idle pair at tick `t` (R460). -/
def startProfile (s : State) (n : Nat) (q : ProfRun) (t : Nat) : State :=
  let s := s.setPair n { (s.pair n) with run := some q, startAt := t, onWall := none, samples := 0, move := .rise, peak := 0, lo := 0, tpeak := 0, tmin := 0, clamp := false }
  let s := ((s.setBit (SDR_PAIR_STAT_running n)).put (SDR_PAIR_STAT_profile n) q.prof).put (SDR_PAIR_STAT_holder n) q.holder
  let s := s.clrBit (SDR_CH_STAT_low (s.profChan n q.prof))
  (s.setBit (SDR_PAIR_STAT_hs n)).beginPhase n 0 t

/-- A trigger is dropped: counted, and its event set (R461). -/
def dropTrigger (s : State) (n : Nat) : State := (s.bump ⟨SDR_DROP_CNT, 8 * n + 7, 8 * n⟩).setBit SDR_EVT_drop n

/-- A trigger waits in the waiting slot (R461). -/
def deferTrigger (s : State) (n : Nat) (q : ProfRun) : State :=
  ((s.modPair n (fun x => { x with wait := some q })).setBit (SDR_PAIR_STAT_waiting n)).put (SDR_PAIR_STAT_wprofile n) q.prof

/-- Trigger `q` starts before trigger `r` of the same Pulon cycle on an idle pair: the calibration unit's before a write, the lower port's before the higher's (R462). -/
def outranks (q r : ProfRun) : Bool :=
  q.at_ / 4 == r.at_ / 4 && (match q.csu, r.csu with | some a, some b => decide (a < b) | some _, none => true | none, _ => false)

/-- A trigger for pair `n` (R460 to R462): a profile that the pair's first trigger of the same cycle has begun gives way to one that outranks it, and waits. Answers whether it was
dropped. (DESIGN CHOICE, log entry 7.) -/
def sdrTrigger (s : State) (n : Nat) (q : ProfRun) : State × Bool :=
  let q := { q with at_ := s.now, lines := 0 }
  if s.get (SDR_PRF_CFG_nphase q.prof) = 0 ∨ s.bit SDR_FENCED_channels (s.profChan n q.prof) then (s.dropTrigger n, true)
  else
    match (s.pair n).run, (s.pair n).wait with
    | none, none => (s.startProfile n q (s.nextSlotTick (s.profRaster q)), false)
    | _, some _ => (s.dropTrigger n, true)
    | some r, none =>
      if outranks q r && decide (s.now < (s.pair n).startAt) then ((s.startProfile n q (s.nextSlotTick (s.profRaster q))).deferTrigger n r, false)
      else (s.deferTrigger n q, false)

/-- The waiting trigger leaves the waiting slot. -/
def clearWait (s : State) (n : Nat) : State := (s.modPair n (fun x => { x with wait := none })).clrBit (SDR_PAIR_STAT_waiting n)

/-- Tick at which the running phase of pair `n` ends, once its units have passed: lines end at the slot in which the phase began. -/
def phaseEndTick (s : State) (n : Nat) (q : ProfRun) : Option Nat :=
  let x := s.pair n
  let r := s.profRaster q
  let len := s.phaseLen n q.prof x.phase
  if s.bit (SDR_PRF_CFG_unit q.prof) then some (s.slotsAfter (s.counted r) x.phaseAt len x.phaseExt)
  else if len ≤ q.lines then some (max s.now ((s.raster (s.counted r)).lineAt + 96 * x.phaseSlot)) else none

/-- PHASE_END: the next phase begins, or the release ends the profile: switch open, gate off, done (R455, R458). -/
def phaseEnd (s : State) (n : Nat) : State :=
  match (s.pair n).run with
  | none => s
  | some q =>
    match s.phaseEndTick n q with
    | none => s
    | some t =>
      let s := s.advanceTo t
      if (s.pair n).releasing then
        let c := s.profChan n q.prof
        let s := (((s.clrBit (SDR_CH_STAT_gate c)).clrBit (SDR_PAIR_STAT_hs n)).clrBit (SDR_PAIR_STAT_running n)).setBit SDR_EVT_done n
        s.modPair n (fun x => { x with run := none, releasing := false, onWall := none })
      else s.beginPhase n ((s.pair n).phase + 1) t

/-- The deadline of the waiting trigger of pair `n` has passed; a line start in the present tick counts (R461). -/
def deadlinePassed (s : State) (q : ProfRun) : Bool :=
  let x := s.raster (s.counted (s.profRaster q))
  s.profDeadline q != 0 && decide (s.profDeadline q ≤ q.lines + b2n (x.running && decide (x.lineEnd ≤ s.now)))

/-- TRIGGER_DEADLINE: a waiting trigger whose deadline has passed is dropped (R461). Answers the calibration port of the dropped trigger. -/
def triggerDeadline (s : State) (n : Nat) : State × Option Nat :=
  match (s.pair n).wait with
  | some q => if s.deadlinePassed q then ((s.clearWait n).dropTrigger n, q.csu) else (s, none)
  | none => (s, none)

/-- WAITING_PROFILE_START: the waiting profile starts at the slot that follows the end of the running one, unless its deadline has passed, also in the tick of that end: then it is
dropped (R461). Answers the calibration port of a dropped trigger. -/
def waitingProfileStart (s : State) (n : Nat) : State × Option Nat :=
  match (s.pair n).run, (s.pair n).wait with
  | none, some q =>
    if s.deadlinePassed q then s.triggerDeadline n
    else let s := s.clearWait n; (s.startProfile n { q with lines := 0 } (s.nextSlotTick (s.profRaster q)), none)
  | _, _ => (s, none)

/-- PWM_PERIOD: the next boundary of the PWM pattern of the running phase (R457). -/
def pwmPeriod (s : State) (n : Nat) : State :=
  match (s.pair n).run with
  | none => s
  | some q =>
    let x := s.pair n
    if x.releasing ∨ s.get (SDR_PRF_PH_mode q.prof x.phase) ≠ 2 then s
    else
      let per := s.get (SDR_PRF_DRV_pwm_per q.prof)
      let on := s.get (SDR_PRF_PH_duty q.prof x.phase) * per * 96 / 256
      let next := s.slotsAfter (s.counted (s.profRaster q)) x.pwmAt per x.pwmExt
      let c := s.profChan n q.prof
      if max s.now x.pwmAt < x.pwmAt + on then (s.advanceTo (x.pwmAt + on)).drive n c false
      else ((s.advanceTo next).modPair n (fun x => { x with pwmAt := next, pwmExt := 0 })).drive n c (decide (0 < on))

/-- A channel fence (R464): gate off, a running profile jumps to its release, which begins with its raster's next slot (R456), a release that runs goes on with active clamp
unless SUP fenced, and a waiting trigger of the channel is dropped. `cause` is 1 overcurrent, 2 on_time, 3 SUP. Answers the port of a calibration trigger that was dropped. -/
def sdrFence (s : State) (c cause : Nat) : State × Option Nat :=
  if s.bit SDR_FENCED_channels c then (s, none)
  else
    let n := c / 2
    let s := (((s.setBit SDR_FENCED_channels c).setBit (SDR_CH_STAT_fenced c)).put (SDR_CH_STAT_last c) cause).setBit SDR_EVT_fence c
    let s := if cause = 1 then s.bump (SDR_CH_CNT_overcurrent c) else if cause = 2 then s.bump (SDR_CH_CNT_on_time c) else s
    let s := match (s.pair n).run with
      | some q =>
        if s.profChan n q.prof ≠ c then s
        else
          let s := s.modPair n (fun x => { x with clamp := x.clamp || cause != 3 })
          if (s.pair n).releasing then s.drive n c false
          else s.beginPhase n (s.get (SDR_PRF_CFG_nphase q.prof) - 1) (s.nextSlotTick (s.profRaster q))
      | none => s
    let s := s.clrBit (SDR_CH_STAT_gate c)
    match (s.pair n).wait with
    | some q => if s.profChan n q.prof = c then ((s.clearWait n).dropTrigger n, q.csu) else (s, none)
    | none => (s, none)

/-- A lift of a channel's fence always succeeds (R464). -/
def sdrLift (s : State) (c : Nat) : State := (s.clrBit SDR_FENCED_channels c).clrBit (SDR_CH_STAT_fenced c)

/-- ON_TIME_LIMIT: the on-time limit of the profile running on channel `c` is reached (R463). The clock moves to that moment. -/
def onTimeLimit (s : State) (c : Nat) : State × Option Nat :=
  let n := c / 2
  match (s.pair n).run, (s.pair n).onWall with
  | some q, some w =>
    if s.profChan n q.prof ≠ c ∨ (s.pair n).releasing then (s, none)
    else
      let due := w + s.get (SDR_CH_CFG_max_on c) * maxOnUnit
      let rate := if s.sca.slow then 10 else 9
      (s.advanceTo (s.now + (due - s.wall + rate - 1) / rate)).sdrFence c 2
  | _, _ => (s, none)

/-- The code of a shunt voltage in microvolts: round(V × 4 / 1 mV), clamped (R454). -/
def senseCode (uv : Int) : Nat := (clampI 0 1023 ((uv * 4 + 500) / 1000)).toNat

/-- One step of movement detection with the moving mean `x` (R459); the Bool says that a movement was confirmed. -/
def moveStep (q : PairSt) (x iMin dip : Nat) : PairSt × Bool :=
  match q.move with
  | .rise =>
    if q.peak < x then ({ q with peak := x, tpeak := q.samples }, false)
    else if iMin ≤ q.peak ∧ dip ≤ q.peak - x then ({ q with move := .fall, lo := x, tmin := q.samples }, false)
    else (q, false)
  | .fall =>
    if x < q.lo then ({ q with lo := x, tmin := q.samples }, false)
    else if dip ≤ x - q.lo then ({ q with move := .done }, true)
    else (q, false)
  | .done => (q, false)

/-- The tick of channel `c`'s next sample: samples fall at every 1,500th tick since power-on (R454). (DESIGN CHOICE for their phase, log entry 26.) -/
def sampleTick (s : State) (c : Nat) : Nat := max ((s.chan c).at_ / 1500 + 1) ((s.now + 1499) / 1500) * 1500

/-- CURRENT_SAMPLE: the next converter sample of channel `c`: the clock moves to its tick (R454, R457, R459, R463). Answers the port whose flat-field the movement reports to with the
profile that moved, and the port of a calibration trigger that a fence dropped. (DEDUCED, log entry 26; DESIGN CHOICE for the tick, log entry 26.) -/
def currentSample (s : State) (c : Nat) (uv : Int) : State × Option (Nat × Nat) × Option Nat :=
  let s := s.advanceTo (s.sampleTick c)
  let code := senseCode uv
  let s := s.put (SDR_CH_I_latest c) code
  let old := (s.chan c).codes
  let x := (code + old.getD 0 0 + old.getD 1 0 + old.getD 2 0) / 4
  let overRun := if s.get (SDR_CH_CFG_i_max c) ≤ code then (s.chan c).overRun + 1 else 0
  let s := s.setChan c { codes := (code :: old).take 3, overRun := overRun, at_ := s.now }
  let n := c / 2
  let (s, rep) := match (s.pair n).run with
    | some q =>
      if s.profChan n q.prof = c ∧ (s.pair n).startAt ≤ s.now then
        let ph := (s.pair n).phase
        let s := if !(s.pair n).releasing && s.get (SDR_PRF_PH_mode q.prof ph) == 3 then
            if s.get (SDR_PRF_DRV_i_set q.prof) ≤ code then s.drive n c false
            else if (code : Int) ≤ (s.get (SDR_PRF_DRV_i_set q.prof) : Int) - s.get (SDR_PRF_DRV_i_hyst q.prof) then s.drive n c true
            else s
          else s
        let (y, moved) := if s.bit (SDR_PRF_PH_detect q.prof ph) then
            moveStep (s.pair n) x (s.get (SDR_CH_DET_i_min c)) (s.get (SDR_CH_DET_dip_thr c)) else (s.pair n, false)
        let s := s.setPair n { y with samples := y.samples + 1 }
        if moved then
          (((s.put (SDR_CH_TPEAK_sample c) y.tpeak).put (SDR_CH_TMIN_sample c) y.tmin).setBit SDR_EVT_move c, q.csu.map (fun p => (p, q.prof)))
        else (s, none)
      else (s, none)
    | none => (s, none)
  if 4 ≤ overRun then
    let (s, d) := s.sdrFence c 1
    (s, rep, d)
  else (s, rep, none)

/-- The current line of raster `r` ends at tick `t`: phases and PWM periods counted in its slots gain the ticks of a lengthened final slot (R55, R455, R457). -/
def sdrGains (s : State) (r t : Nat) : State :=
  [0, 1, 2, 3].foldl (fun s n =>
    let x := s.pair n
    match x.run with
    | some q =>
      if s.counted (s.profRaster q) == r then
        s.setPair n { x with pwmExt := x.pwmExt + s.slotGain r t x.pwmAt (s.get (SDR_PRF_DRV_pwm_per q.prof)) x.pwmExt,
                             phaseExt := x.phaseExt + if s.bit (SDR_PRF_CFG_unit q.prof) then s.slotGain r t x.phaseAt (s.phaseLen n q.prof x.phase) x.phaseExt else 0 }
      else s
    | none => s) s

/-- The profile of pair `n` has been triggered and its first slot has not begun: its gate is still off and its switch open (R456, R460). -/
def notBegun (s : State) (n : Nat) : Bool := (s.pair n).run.isSome && decide (s.now < (s.pair n).startAt)

/-- A line start of raster `r`: running and waiting profiles that count it (R49, R455, R461). A phase counts the line starts after its own start, and a trigger those after it. -/
def sdrLine (s : State) (r : Nat) : State :=
  [0, 1, 2, 3].foldl (fun s n =>
    let tick := fun (from_ : Nat) (q : ProfRun) => if s.counted (s.profRaster q) = r ∧ from_ < (s.raster r).lineAt then { q with lines := q.lines + 1 } else q
    let x := s.pair n
    if x.run.isNone && x.wait.isNone then s
    else s.setPair n { x with run := x.run.map (tick x.phaseAt), wait := x.wait.map (fun q => tick q.at_ q) }) s

/-- Logic levels of HS3–HS0: closed by polarity (R453). -/
def hsLevels (s : State) : Nat :=
  (List.range 4).foldl (fun m n => m + b2n ((s.bit (SDR_PAIR_STAT_hs n) && !s.notBegun n) != s.bit (SDR_PAIR_CFG_hs_pol n)) * 2 ^ n) 0

/-- A thermal shutdown stops every profile at once (R446, R464). -/
def sdrStop (s : State) : State :=
  let s := [0, 1, 2, 3].foldl (fun s n => ((((s.setPair n {}).clrBit (SDR_PAIR_STAT_running n)).clrBit (SDR_PAIR_STAT_waiting n)).clrBit (SDR_PAIR_STAT_hs n))) s
  (List.range 8).foldl (fun s c => s.clrBit (SDR_CH_STAT_gate c)) s

end State
end Sys2Proof.Machine
end

