-- ==== Sys2Proof/Machine/Csu.lean ====
section
/-! DEFINITION. Machine/Csu.lean: calibration and scene statistics (spec 08): flat-fields and their scheduling, the compositions, the statistics words, and the
arming of the wedge. -/

namespace Sys2Proof.Machine
open R

/-! ## Integer arithmetic of the chapter -/

/-- num / den rounded to the nearest integer, an exact half away from zero; a zero divisor leaves the value open. -/
def rdiv (free : Nat) (num den : Int) : Int :=
  if den = 0 then Config.divZero free
  else
    let q : Int := ((2 * num.natAbs + den.natAbs) / (2 * den.natAbs) : Nat)
    if (num < 0) = (den < 0) then q else -q

/-- num / den rounded towards zero, as the pseudocode's `/` divides; a zero divisor leaves the value open. -/
def cdiv (free : Nat) (num den : Int) : Int := if den = 0 then Config.divZero free else num.tdiv den

/-- Integer square root rounded to nearest (R231). -/
def isqrtRound (n : Nat) : Nat := let r := Nat.sqrt n; if r < n - r * r then r + 1 else r

/-- A mean rounded half up; of nothing, open. -/
def meanUp (free sum n : Nat) : Nat := if n = 0 then Config.emptyMean free else (2 * sum + n) / (2 * n)

/-- A mean for which the spec names no rounding: of the two integers around it either; of nothing, open. (DESIGN CHOICE, log entry 42.) -/
def meanFree (free : Nat) (sum : Int) (n : Nat) : Int :=
  if n = 0 then Config.emptyMean free else sum / n + b2n (sum % n != 0 && Config.meanRoundsUp sum.natAbs n)

/-- A statistics word (R217). -/
structure StatWord where
  anc : Int
  n : Nat
  var : Nat
  mean : Nat
deriving DecidableEq, Repr

def StatWord.ofNat (w : Nat) : StatWord := { anc := sgn 16 (w / 2 ^ 48), n := w / 2 ^ 40 % 256, var := w / 2 ^ 24 % 65536, mean := w % 2 ^ 24 }
def StatWord.toNat (x : StatWord) : Nat := unsgn 16 x.anc * 2 ^ 48 + x.n % 256 * 2 ^ 40 + x.var % 65536 * 2 ^ 24 + x.mean % 2 ^ 24

/-- An accumulation word (R218). -/
structure AccWord where
  max : Int
  min : Int
  sum : Int
deriving DecidableEq, Repr

def AccWord.ofNat (w : Nat) : AccWord := { max := sgn 16 (w / 2 ^ 48), min := sgn 16 (w / 2 ^ 32), sum := sgn 32 w }
def AccWord.toNat (x : AccWord) : Nat := unsgn 16 x.max * 2 ^ 48 + unsgn 16 x.min * 2 ^ 32 + unsgn 32 x.sum

/-- apply_flags of R224 on a table word's flag byte; `unflag` is CSU_x_PIX.unflag. The count of clean flat-fields reaches unflag where it equals it: one that an unflag lowered
meanwhile has left behind goes on modulo 8. (DESIGN CHOICE, log entry 68.) -/
def applyFlags (f unflag : Nat) (dead noisy : Bool) : Nat :=
  let b7 := f / 128 % 2
  let b2 := f / 4 % 2
  if dead || noisy then (if dead then 1 else f % 2) + (if noisy then 2 else f / 2 % 2 * 2) + b2 * 4 + 64 + b7 * 128
  else if f / 64 % 2 = 1 ∧ b7 = 0 then
    let k := f / 8 % 8 + 1
    if k = unflag then b2 * 4 else f % 8 + k % 8 * 8 + 64
  else f

/-- The anchor offset of a table word in counts (R217); one that its 16 bits do not hold is open. -/
def ancOf (free : Nat) (b : TableWord) : Int :=
  let v := asr (b.ofs * (b.gain : Nat) + 8192) 14
  if clampI (-32768) 32767 v = v then v else sgn 16 (Config.outOfField free)

/-- One pixel of the flat-field composition (R222): from base word, statistics word and accumulation word to their successors, with whether drift clamped. `c` holds the
correction values with dt = dt_ff, `lvl` is L. -/
structure FfParam where
  c : Corr
  lvl : Nat
  nav : Nat
  tbarMean : Int
  deadThr : Nat
  noisyThr : Nat
  anchored : Bool
  dT : Int
  driftDt : Nat
  wd : Nat
  unflag : Nat
  free : Nat

def ffPixel (q : FfParam) (b : TableWord) (x : StatWord) (a : AccWord) (struck : Bool) : TableWord × StatWord × Bool :=
  let tbar := rdiv q.free a.sum q.nav
  let dead := b.gain == 0 || a.min == -32768 || a.max == 32767 || decide ((q.deadThr : Int) < ((tbar - q.tbarMean).natAbs : Nat))
  let noisy := struck || decide ((q.noisyThr : Int) < a.max - a.min)
  let r : TableWord × StatWord × Bool :=
    if b.gain = 0 then (b, x, false)
    else
      let e : Int := ((stages37 tbar b q.c).1 : Int) - q.lvl
      let refit := q.anchored && decide (q.driftDt ≤ q.dT.natAbs)
      let d := if refit then b.drift + rdiv q.free ((asr (b.ofs * (b.gain : Nat) + 8192) 14 - x.anc + e) * q.wd * 2 ^ q.c.dsh) (256 * q.dT) else b.drift
      let drift := clampI (-128) 127 d
      let xf : Int := (q.lvl : Int) - q.c.ped
      let one := fun (m : Int) => xf - asr (b.nl * m * m + 2 ^ (q.c.nsh - 1)) q.c.nsh
      let mm := one (one xf)
      let vv := mm + asr (drift * q.c.dt + 2 ^ (q.c.dsh - 1)) q.c.dsh
      let b' := { b with drift := drift, ofs := clampI (-32768) 32767 (tbar - rdiv q.free (vv * 2 ^ 14) b.gain) }
      (b', { x with anc := ancOf q.free b' }, drift != d)
  ({ r.1 with flags := applyFlags r.1.flags q.unflag dead noisy }, r.2.1, r.2.2)

/-- One update of a statistics word by a gated sample (R230). -/
def statUpdate (x : StatWord) (cnt km kv : Nat) : StatWord :=
  let v : Int := (cnt : Int) * 256
  let y : StatWord :=
    if x.n = 0 then { x with mean := cnt * 256, var := 0 }
    else
      let d : Int := v - x.mean
      let d2 : Int := min (asr (d * d) 12) 65535
      { x with mean := ((x.mean : Int) + asr (d + 2 ^ (km - 1)) km).toNat, var := ((x.var : Int) + asr (d2 - x.var + 2 ^ (kv - 1)) kv).toNat }
  { y with n := min (x.n + 1) 255 }

namespace State

/-! ## Planes (R216) -/

/-- The CSU's word of pixel `i` of the statistics plane and of target buffer `b`. -/
def statAt (s : State) (p i : Nat) : Nat := s.get (CSU_STATS_BASE_statistics p) * 4096 + 8 * i
def tgtBase (s : State) (p b : Nat) : Nat := (if b = 0 then s.get (CSU_TGT_BASE0_target p) else s.get (CSU_TGT_BASE1_target p)) * 4096

/-- A whole word written, which clears any error it carried, and a word as the CSU receives it: a poisoned one is zero (R338). -/
def putWord (s : State) (a v : Nat) : State := s.dramWrite 1 7 a (leBytes 8 v)
def getWord (s : State) (a : Nat) : Nat := s.dramNum a 8

/-- The CSU reads `k` bytes; plane `pl` of slot `n`; and the active table (R338, R339). -/
def csuRead (s : State) (a k : Nat) : State := s.dramRead 1 7 a k
def csuPlane (s : State) (p n pl : Nat) : State := s.csuRead (s.slotBase p n + s.planeOff p n pl) ((if pl = 3 then 1 else 2) * s.pixels p)
def csuTable (s : State) (p : Nat) : State :=
  if s.bit (PCE_TBL_STAT_active p) then s.csuRead (s.get (PCE_TBL_ACT_BASE_active p) * 4096) (s.wordLen p * s.pixels p) else s

/-- The free target buffer (R219). -/
def freeBuf (s : State) (p : Nat) : Nat := if (s.stream p).wedge.isSome then 1 - s.get (CSU_STAT_wedge_buf p) else 0

/-- The active table word of pixel `i` lies in a poisoned word. -/
def activePoisoned (s : State) (p i : Nat) : Bool := s.bit (PCE_TBL_STAT_active p) && s.poisoned (s.get (PCE_TBL_ACT_BASE_active p) * 4096 + s.wordOff p i)

/-- The active table word of pixel `i`; a poisoned one is received as zero (R338). -/
def activeWord (s : State) (p i : Nat) : TableWord :=
  if s.activePoisoned p i then TableWord.ofNat 0
  else if s.bit (PCE_TBL_STAT_active p) then s.wordAt p (s.get (PCE_TBL_ACT_BASE_active p) * 4096 + s.wordOff p i) else neutralWord

/-- The base word of a flat-field (R222): the running wedge's target, else the active word. -/
def baseWord (s : State) (p i : Nat) : TableWord :=
  match (s.stream p).wedge with
  | some t => TableWord.ofNat (s.getWord (t + 8 * i))
  | none => s.activeWord p i

/-- The base word of pixel `i` is poisoned. -/
def basePoisoned (s : State) (p i : Nat) : Bool :=
  match (s.stream p).wedge with
  | some t => s.poisoned (t + 8 * i)
  | none => s.activePoisoned p i

/-- A native table is active on the port (R205, R209). -/
def nativeActive (s : State) (p : Nat) : Bool := s.bit (PCE_TBL_STAT_active p) && !s.legacyTable p

/-- CSU_x_STAT.state: 0 idle, 1 closing, 2 settling, 3 averaging, 4 opening, 5 composing. -/
def ffState (s : State) (p : Nat) : Nat := s.get (CSU_STAT_state p)
def setFf (s : State) (p v : Nat) : State := (s.put (CSU_STAT_state p) v).wrBit CSU_ACTIVE_ports p (v != 0)

/-! ## Shutter (R221, R226, R227) -/

/-- The shutter becomes unavailable: counted, with its event, for every cause, also where it is unavailable already; `keep` says whether frames keep "shutter" (R227). (DESIGN CHOICE
for a second cause, log entry 68.) -/
def shutUnavail (s : State) (p : Nat) (keep : Option Bool) : State :=
  let s := ((s.setBit (CSU_STAT_shut_unavail p)).bump (CSU_CNT_shutter p)).setBit CSU_EVT_shutter p
  match keep with
  | some k => s.modCsu p (fun x => { x with shutterNext := k })
  | none => s

/-- The flat-field ends: DUE reloads and the gap starts, unless an abort has done so. -/
def ffEnd (s : State) (p : Nat) : State :=
  let s := s.setFf p 0
  let ab := (s.csuOf p).aborted
  let s := s.modCsu p (fun x => { x with aborted := false, composing := false, avgLive := false, avgSlots := [], openPend := false, openWait := false,
                                         sinceFf := if ab then x.sinceFf else some 0 })
  if ab then s else s.setNum (CSU_DUE p) (s.get (CSU_INTERVAL_frames p))

/-- A shutter fault of a running flat-field (R221, R227). While a composition runs the flat-field goes on to its end. -/
def ffFault (s : State) (p : Nat) (keep : Bool) : State :=
  let s := s.shutUnavail p (some keep)
  if s.ffState p = 4 ∧ (s.csuOf p).composing then (s.setFf p 5).modCsu p (fun x => { x with openPend := false, openWait := false }) else s.ffEnd p

/-- A profile of the port's head is triggered (R221). A trigger that the shutter drive drops is a fault; a dropped close leaves the flag open. -/
def ffTrigger (s : State) (p prof : Nat) : State :=
  let (s, dropped) := s.sdrTrigger (s.get (CSU_SHT_CFG_head p)) { prof := prof, trig := p, holder := 0, csu := some p }
  if dropped then s.ffFault p (s.ffState p != 1) else s

/-- The shutter drive reports that it dropped port `p`'s waiting trigger. -/
def ffDropped (s : State) (p : Nat) : State :=
  if s.ffState p = 1 ∨ (s.ffState p = 4 ∧ (s.csuOf p).openWait) then s.ffFault p (s.ffState p != 1) else s.shutUnavail p none

/-- Channel `c` is the shutter channel of port `p`'s head: its close or its open profile drives it (R227). (DESIGN CHOICE, log entry 68.) -/
def headUses (s : State) (p c : Nat) : Bool :=
  let n := s.get (CSU_SHT_CFG_head p)
  s.profChan n (s.get (CSU_SHT_CFG_close_prof p)) == c || s.profChan n (s.get (CSU_SHT_CFG_open_prof p)) == c

/-- The shutter is available again: frames drop "shutter" from the next one on (R227), also while a flat-field whose opening has failed still composes. In states 1 to 4 a
flat-field's own frames keep it until the flag has opened, as R221 says of them. (DESIGN CHOICE for states 1 to 4, log entry 68.) -/
def shutAvail (s : State) (p : Nat) : State :=
  let s := s.clrBit (CSU_STAT_shut_unavail p)
  if s.ffState p = 0 ∨ s.ffState p = 5 then s.modCsu p (fun x => { x with shutterNext := false }) else s

/-- A channel of the shutter drive has been fenced, and, below, lifted. -/
def csuChannelFenced (s : State) (c : Nat) : State := [0, 1, 2, 3].foldl (fun s p => if s.headUses p c then s.shutUnavail p none else s) s
def csuChannelLifted (s : State) (c : Nat) : State := [0, 1, 2, 3].foldl (fun s p => if s.headUses p c then s.shutAvail p else s) s

/-- The pair of port `p`'s head still runs the close profile that its flat-field triggered. -/
def closingRuns (s : State) (p : Nat) : Bool :=
  (s.pair (s.get (CSU_SHT_CFG_head p))).run.any (fun q => q.csu == some p && q.prof == s.get (CSU_SHT_CFG_close_prof p))

/-- FF_ABORT (R226): averages are dropped, the target buffer is free, DUE reloads, and the open profile is triggered: at once while the close profile still runs, where it waits
for the pair, else at the next frame start. A flat-field whose composition has ended is complete. (DEDUCED, log entry 41.) -/
def ffAbort (s : State) (p : Nat) : State :=
  if s.ffState p = 0 ∨ (s.csuOf p).aborted ∨ (s.ffState p = 4 ∧ !(s.csuOf p).composing) then s
  else
    let s := ((s.bump (CSU_CNT_abort p)).setBit CSU_EVT_abort p).setNum (CSU_DUE p) (s.get (CSU_INTERVAL_frames p))
    let opening := decide (s.ffState p = 4 ∨ s.ffState p = 5)
    let atOnce := !opening && s.closingRuns p
    let s := s.modCsu p (fun x => { x with aborted := true, composing := false, avgLive := false, avgSlots := [], sinceFf := some 0,
                                           openPend := !opening && !atOnce, openWait := x.openWait || atOnce, moveFrames := if atOnce then 0 else x.moveFrames })
    if s.ffState p = 5 then s.ffEnd p
    else
      let s := s.setFf p 4
      if atOnce then s.ffTrigger p (s.get (CSU_SHT_CFG_open_prof p)) else s

/-- FF_MOVE_REPORT: armature movement of profile `prof` for port `p` (R221). -/
def ffMoveReport (s : State) (p prof : Nat) : State :=
  if s.ffState p = 1 ∧ prof = s.get (CSU_SHT_CFG_close_prof p) then (s.setFf p 2).modCsu p (fun x => { x with stage := 0 })
  else if s.ffState p = 4 ∧ (s.csuOf p).openWait ∧ prof = s.get (CSU_SHT_CFG_open_prof p) then
    let s := s.modCsu p (fun x => { x with openWait := false, shutterNext := false })
    if (s.csuOf p).composing then s.setFf p 5 else s.ffEnd p
  else s

/-- FF_MOVE_TIMEOUT: no report by line 0 of the move_to-th frame after the trigger (R221). -/
def ffMoveTimeout (s : State) (p : Nat) : State :=
  let late := decide (s.get (CSU_SHT_CFG_move_to p) ≤ (s.csuOf p).moveFrames)
  if late && (s.ffState p == 1 || (s.ffState p == 4 && (s.csuOf p).openWait)) then s.ffFault p true else s

/-! ## A frame start of the port raster -/

/-- The frame no longer delivers, or takes the slot of an averaging frame that has not been added: a running flat-field aborts (R221, R226). -/
def ffLost (s : State) (p : Nat) : Bool :=
  s.bit (FPP_STAT_fenced p) || !s.bit (FPP_STAT_delivering p) || (s.csuOf p).avgSlots.contains (s.get (PCE_SLOT_cur p))

/-- The running flat-field at a frame start (R221, R226). -/
def ffFrame (s : State) (p : Nat) : State :=
  let st := s.ffState p
  if st = 0 then s
  else if st = 5 then if s.ffLost p then s.ffAbort p else s
  else if st = 4 then
    if (s.csuOf p).openPend then
      (s.modCsu p (fun x => { x with openPend := false, openWait := true, moveFrames := 0 })).ffTrigger p (s.get (CSU_SHT_CFG_open_prof p))
    else
      let s := s.modCsu p (fun x => { x with moveFrames := x.moveFrames + 1 })
      if s.ffLost p then s.ffAbort p else s
  else if s.ffLost p then s.ffAbort p
  else if st = 1 then s.modCsu p (fun x => { x with moveFrames := x.moveFrames + 1 })
  else
    let k := (s.csuOf p).stage + 1
    let settle := s.get (CSU_FF_CFG_settle p)
    let nav := s.get (CSU_FF_CFG_nav p)
    if k ≤ settle then s.modCsu p (fun x => { x with stage := k })
    else if k ≤ settle + nav then
      let flag := s.get (HKT_CH_RES_value (s.get (CSU_FF_CFG_flag_hk p) - 4))
      (s.setFf p 3).modCsu p (fun x =>
        { x with stage := k, avgLive := true, fpaSum := x.fpaSum + s.get (PCE_FPA_T_temperature p), flagSum := x.flagSum + flag })
    else
      let s := (s.setFf p 4).modCsu p (fun x =>
        { x with avgLive := false, composing := true, openWait := true, moveFrames := 0, faFrame := ((s.raster p).frame + (2 ^ 32 - 1)) % 2 ^ 32 })
      s.ffTrigger p (s.get (CSU_SHT_CFG_open_prof p))

/-- Whether port `p` is due at this frame start, by force, by request (R225). -/
def ffForced (s : State) (p : Nat) : Bool :=
  (s.csuOf p).anchored &&
    decide (s.get (CSU_FORCE_force_dt p) < ((s.get (PCE_FPA_T_temperature p) : Int) - s.get (CSU_FF_FPAT_mean p)).natAbs)
def ffDue (s : State) (p : Nat) : Bool :=
  s.bit (CSU_CTL_en p) && (s.get (CSU_DUE_frames p) == 0 || s.ffForced p || (s.csuOf p).request)

/-- Whether eligible port `a` comes before eligible port `b` (R226). How long a port has been due is counted in frames of its own raster, and it is eligible as its own last frame
start has judged it. (DESIGN CHOICE, log entry 68.) -/
def ffBefore (s : State) (a b : Nat) : Bool :=
  let x := s.csuOf a
  let y := s.csuOf b
  if x.urgent != y.urgent then x.urgent
  else if x.dueFor ≠ y.dueFor then decide (y.dueFor < x.dueFor)
  else decide (a < b)

/-- The flat-field starts (R221 step 1, R233). Its frames are no frames without a flat-field: the count of R228 begins anew after it, also after an abort. (DESIGN CHOICE for the
count, log entry 68.) -/
def ffStart (s : State) (p : Nat) : State :=
  let buf := s.freeBuf p
  let s := (s.setFf p 1).clrBit (CSU_STAT_ready p)
  let s := s.modCsu p (fun x =>
    { x with request := false, dueFor := 0, refusedEp := false, deferredEp := false, eligible := false, moveFrames := 0, aborted := false, stage := 0,
             averaged := 0, fpaSum := 0, flagSum := 0, avgLive := false, avgSlots := [], bad := [], buf := buf, openPend := false, openWait := false,
             composing := false, statComposing := false, shutter := true, shutterNext := true })
  s.ffTrigger p (s.get (CSU_SHT_CFG_close_prof p))

/-- CSU_DUE_JUDGE (R225, R226, R228). A port whose flat-field runs is judged like any other, and is neither chosen nor refused. -/
def dueJudge (s : State) (p : Nat) : State :=
    let due := s.ffDue p
    let s := ((s.wrBit (CSU_STAT_due p) 0 due).wrBit CSU_ACTIVE_ports4 p due).clrBit (CSU_STAT_deferred p)
    if s.ffState p ≠ 0 then s
    else if !due then s.modCsu p (fun x => { x with dueFor := 0, refusedEp := false, deferredEp := false, eligible := false })
    else
      let s := s.modCsu p (fun x => { x with dueFor := x.dueFor + 1, eligible := false })
      let s := if s.get (CSU_INTERVAL_frames p) < (s.csuOf p).dueFor ∧ s.bit (CSU_STAT_overdue p) = false then
          (s.setBit (CSU_STAT_overdue p)).setBit CSU_EVT_overdue p else s
      if !s.nativeActive p || !bitOf (s.stream p).outCfg 8 || s.bit (CSU_STAT_shut_unavail p) then
        let s := if (s.csuOf p).refusedEp then s else (s.bump (CSU_CNT_refused p)).setBit CSU_EVT_refused p
        s.modCsu p (fun x => { x with refusedEp := true, request := false })
      else
        let urgent := (s.csuOf p).request || s.ffForced p
        let gapOk := (s.csuOf p).request ||
          (match (s.csuOf p).sinceFf with | none => true | some n => decide (s.get (CSU_FORCE_min_gap p) ≤ n))
        if !s.bit (FPP_STAT_delivering p) || !gapOk then s
        else if s.bit MEN_ALARM_facets p then
          let s := if (s.csuOf p).deferredEp then s else s.bump (CSU_CNT_deferred p)
          (s.setBit (CSU_STAT_deferred p)).modCsu p (fun x => { x with deferredEp := true })
        else
          let s := s.modCsu p (fun x => { x with eligible := true, urgent := urgent })
          let first := [0, 1, 2, 3].all (fun q => q == p || !(s.csuOf q).eligible || !(s.raster q).running || s.ffBefore p q)
          let busy := ([0, 1, 2, 3].filter (fun q => s.ffState q ≠ 0)).length
          if first && decide (busy < s.get CSU_SCHED_max_conc) then s.ffStart p else s

/-- COMPOSE, or UPD frames: a statistics composition starts unless one of R231's conditions holds. Answers whether it could. -/
def composeStart (s : State) (p : Nat) : State × Bool :=
  if (s.stream p).wedge.isSome || s.ffState p != 0 || (s.bit (CSU_STAT_ready p) && !s.bit (CSU_CTL_arm p)) then (s, false)
  else (s.modCsu p (fun x => { x with statComposing := true, buf := s.freeBuf p }), true)

/-- A compose request that is refused is counted (R231). (DEDUCED, log entry 41.) -/
def composeRequest (s : State) (p : Nat) : State :=
  let (s, ok) := s.composeStart p
  if ok then s else (s.bump (CSU_CNT_refused p)).setBit CSU_EVT_refused p

/-- Streams that run a wedge. (DEDUCED, log entry 41.) -/
def wedges (s : State) : Nat := ([0, 1, 2, 3].filter (fun q => (s.stream q).wedge.isSome)).length

/-- WEDGE_TARGET_COPY: an armed target is taken, refused or deferred (R209, R232). A statistics composition that runs ends without a target, as the CSU composes only while no
wedge runs and its buffer may be the one taken (R219, R231). (DEDUCED, log entry 41.) -/
def wedgeCopy (s : State) (p : Nat) : State :=
  if !s.bit (CSU_CTL_arm p) then s
  else if !s.bit (CSU_STAT_ready p) then (s.clrBit (CSU_CTL_arm p)).clrBit (PCE_WEDGE_STAT_deferred p)
  else if !s.nativeActive p then
    (((s.clrBit (CSU_CTL_arm p)).clrBit (CSU_STAT_ready p)).clrBit (PCE_WEDGE_STAT_deferred p)).setBit PCE_EVT_refused p
  else if (s.stream p).wedge.isNone && decide (2 ≤ s.wedges) then s.setBit (PCE_WEDGE_STAT_deferred p)
  else
    let b := s.get (CSU_STAT_ready_buf p)
    let s := (((s.clrBit (CSU_CTL_arm p)).clrBit (CSU_STAT_ready p)).put (CSU_STAT_wedge_buf p) b).clrBit (PCE_WEDGE_STAT_deferred p)
    let s := (s.setBit (PCE_WEDGE_STAT_running p)).setBit (CSU_SETTLE_settling p)
    (s.modStream p (fun x => { x with wedge := some (s.tgtBase p b) })).modCsu p (fun x => { x with statComposing := false })

/-- SETTLE_BOUND: from the remainders of the frame that ends (R234); without a wedge both fields read 0. -/
def settleBound (s : State) (p : Nat) : State :=
  if (s.stream p).wedge.isNone then s.setNum (CSU_SETTLE p) 0
  else
    let sum := s.get (PCE_WEDGE_STAT_ofs_rem p) * s.get (CSU_GMAX_gmax p) + s.get (PCE_WEDGE_STAT_gain_rem p) * s.get (CSU_SETTLE_CFG_span p)
    (s.put (CSU_SETTLE_bound p) (sat 65535 ((sum * s.get (CSU_SETTLE_CFG_kresp p) + (2 ^ 22 - 1)) / 2 ^ 22))).setBit (CSU_SETTLE_settling p)

/-- A frame start of H counts for the shutter intervals of ports whose raster is stopped (R49). -/
def dueOnH (s : State) : State :=
  [0, 1, 2, 3].foldl (fun s p => if s.bit (CSU_CTL_en p) && !(s.raster p).running then s.put (CSU_DUE_frames p) (s.get (CSU_DUE_frames p) - 1) else s) s

/-- A frame start of port `p`'s raster: the CSU's share, after the stream's. -/
def csuFrame (s : State) (p : Nat) : State :=
  let s := s.modCsu p (fun x => { x with shutter := x.shutterNext, updFor := x.updFor + 1, sinceFf := x.sinceFf.map (· + 1) })
  let s := s.put (CSU_DUE_frames p) (s.get (CSU_DUE_frames p) - 1)
  let s := (s.ffFrame p).wedgeCopy p
  let s := (if (s.stream p).wedge.isNone then s.setNum (CSU_SETTLE p) 0 else s).dueJudge p
  let u := s.get (CSU_UPD_frames p)
  if u ≠ 0 ∧ u ≤ (s.csuOf p).updFor ∧ (s.csuOf p).statComposing = false then (s.composeStart p).1 else s

/-! ## Complete frames -/

/-- The frame in hand of port `p` is complete in its slot. -/
def csuFrameDone (s : State) (p : Nat) : State :=
  let n := s.get (PCE_SLOT_last p)
  let f := (s.raster p).frame
  let div := s.get (CSU_GATE_div p)
  s.modCsu p (fun x =>
    { x with prevDone := x.lastDone, lastDone := some (n, f), sampleDue := div != 0 && f % div == 0 && s.bit (CSU_CTL_en p),
             avgSlots := if x.avgLive then x.avgSlots ++ [n] else x.avgSlots, avgLive := false })

/-- The raw-plane value of pixel `i` in slot `n`, its count and its flag byte. -/
def rawOf (s : State) (p n i : Nat) : Int := sgn 16 (s.dramNum (s.slotBase p n + s.planeOff p n 0 + 2 * i) 2)
def cntOf (s : State) (p n i : Nat) : Nat := s.dramNum (s.slotBase p n + s.planeOff p n 1 + 2 * i) 2
def codeOf (s : State) (p n i : Nat) : Nat := s.dramNum (s.slotBase p n + s.planeOff p n 2 + 2 * i) 2
def flagOf (s : State) (p n i : Nat) : Nat := s.dramNum (s.slotBase p n + s.planeOff p n 3 + i) 1

/-- Pixel `i` of slot `n` takes part in the CSU's means: its flag byte is zero, and neither it nor the count is poisoned (R338). -/
def usablePx (s : State) (p n i : Nat) : Bool :=
  decide (s.flagOf p n i = 0) && !s.poisoned (s.slotBase p n + s.planeOff p n 3 + i) && !s.poisoned (s.slotBase p n + s.planeOff p n 1 + 2 * i)

/-- FF_AVERAGE_FRAME: the oldest complete averaging frame is added into the accumulation words (R221). -/
def ffAverage (s : State) (p : Nat) : State :=
  match (s.csuOf p).avgSlots with
  | [] => s
  | n :: rest =>
    let first := (s.csuOf p).averaged = 0
    let buf := (s.csuOf p).buf
    let px := List.range (s.pixels p)
    let s := s.csuPlane p n 0
    let s := if first then s else s.csuRead (s.tgtBase p buf) (8 * s.pixels p)
    let s := px.foldl (fun s i =>
      let a := s.tgtBase p buf + 8 * i
      if s.poisoned (s.slotBase p n + s.planeOff p n 0 + 2 * i) || (!first && s.poisoned a) then s.modCsu p (fun x => { x with bad := i :: x.bad })
      else
        let t := s.rawOf p n i
        let w := AccWord.ofNat (s.getWord a)
        s.putWord a (if first then AccWord.toNat ⟨t, t, t⟩ else AccWord.toNat ⟨max w.max t, min w.min t, w.sum + t⟩)) s
    let k := (s.csuOf p).averaged + 1
    let s := s.modCsu p (fun x => { x with averaged := k, avgSlots := rest })
    if k < s.get (CSU_FF_CFG_nav p) then s
    else
      let s := ((((s.csuTable p).csuRead (s.tgtBase p buf) (8 * s.pixels p)).csuPlane p n 3).csuPlane p n 1)
      let clear := px.filter (fun i => (s.activeWord p i).flags % 8 = 0)
      let sum : Int := clear.foldl (fun m i => m + rdiv s.freeCtr (AccWord.ofNat (s.getWord (s.tgtBase p buf + 8 * i))).sum k) 0
      let tb : Int := meanFree s.freeCtr sum clear.length
      let good := px.filter (fun i => s.usablePx p n i)
      let lv := meanUp s.freeCtr (good.foldl (fun m i => m + s.cntOf p n i) 0) good.length
      (s.drawn).modCsu p (fun x => { x with tbarMean := tb, meanLevel := lv })

/-- The count whose radiometric code lies nearest temperature `t` in mK (R220); of several equally near, the spec names none. -/
def nearestCount (s : State) (p : Nat) (t : Int) : Nat :=
  let dist := fun c => ((200000 : Int) + 10 * ((stage8 c (s.coef p)).1 : Nat) - t).natAbs
  let best := (List.range 65536).foldl (fun m c => min m (dist c)) (dist 0)
  let cs := (List.range 65536).filter (fun c => dist c = best)
  cs.getD (Config.nearestPick s.freeCtr % max 1 cs.length) 0

/-- FF_COMPOSE_END (R221 step 7, R222–R224, R235), once every averaging frame has been added. -/
def ffComposeEnd (s : State) (p : Nat) : State :=
  let x := s.csuOf p
  if !x.composing || !x.avgSlots.isEmpty then s
  else
    let nav := x.averaged
    let fpa := meanFree s.freeCtr x.fpaSum nav
    let flag := meanFree s.freeCtr x.flagSum nav
    let anchor := s.get (CSU_FF_CFG_anchor p)
    let lvl := if anchor = 2 then s.get (CSU_FF_CFG_level p) else if anchor = 0 ∧ s.variantM then s.nearestCount p flag else x.meanLevel
    let st := s.stream p
    let q : FfParam :=
      { c := { s.corrOf p with dt := clampI (-32768) 32767 (fpa - st.driftRef) }, lvl := lvl, nav := nav, tbarMean := x.tbarMean,
        deadThr := s.get (CSU_PIX_dead_thr p), noisyThr := s.get (CSU_PIX_noisy_thr p), anchored := x.anchored,
        dT := fpa - s.get (CSU_FF_FPAT_mean p), driftDt := s.get (CSU_DRIFT_drift_dt p), wd := s.get (CSU_DRIFT_wd p),
        unflag := s.get (CSU_PIX_unflag p), free := s.freeCtr }
    let s := s.drawn
    let s := match st.wedge with | some t => s.csuRead t (8 * s.pixels p) | none => s.csuTable p
    let s := (s.csuRead (s.statAt p 0) (8 * s.pixels p)).csuRead (s.tgtBase p x.buf) (8 * s.pixels p)
    -- every pixel in turn; the running totals are: flagged pixels, whether a drift clamped, whether bit 6 is new on some pixel
    let r := (List.range (s.pixels p)).foldl (fun (r : State × Nat × Bool × Bool) i =>
      let (s, fl, sat, new) := r
      let b := s.baseWord p i
      let sa := s.statAt p i
      let ta := s.tgtBase p x.buf + 8 * i
      let (b', w', c) := ffPixel q b (StatWord.ofNat (s.getWord sa)) (AccWord.ofNat (s.getWord ta)) (x.bad.contains i || s.basePoisoned p i || s.poisoned sa || s.poisoned ta)
      let s := (s.putWord ta b'.toNat)
      let s := if s.poisoned sa then s else s.putWord sa w'.toNat
      (s, fl + b2n (b'.flags % 4 != 0), sat || c, new || (b'.flags / 64 % 2 == 1 && b.flags / 64 % 2 == 0))) (s, 0, false, false)
    let (s, fl, satd, new) := r
    let s := if satd then s.bump (CSU_CNT2_drift_sat p) else s
    let s := if new then s.setBit CSU_EVT_pixel p else s
    let s := s.put (CSU_FLAGGED_flagged p) fl
    -- responsivity
    let prevFlag := s.get (CSU_FF_FLAG_mean p)
    let prevT := sgn 16 (s.get (CSU_FF_LEVEL_t p))
    let s := if x.anchored ∧ s.get (CSU_RESP_CFG_resp_dt p) ≤ (flag - prevFlag).natAbs ∧ q.dT.natAbs ≤ s.get (CSU_RESP_CFG_resp_fpa p) then
        let m := rdiv s.freeCtr ((x.tbarMean - prevT) * 16000) (flag - prevFlag)
        let m' : Nat := if 0 ≤ m ∧ m ≤ 65535 then m.toNat else Config.outOfField s.freeCtr % 65536
        let ref := s.get (CSU_RESP_REF_reference p)
        let ra := if ref = 0 then 0 else (2 * m' * 16384 + ref) / (2 * ref)
        let ra' := if ra ≤ 65535 then ra else Config.outOfField (s.freeCtr + 1) % 65536
        ((((s.drawn).drawn).put (CSU_RESP_MEAS_meas p) m').put (CSU_RESP_MEAS_ratio p) ra').setBit CSU_EVT_resp p
      else s
    let s := (((s.setNum (CSU_FF_LAST p) x.faFrame).put (CSU_FF_FPAT_mean p) fpa.toNat).put (CSU_FF_FLAG_mean p) flag.toNat)
    let s := (s.put (CSU_FF_LEVEL_l p) lvl).put (CSU_FF_LEVEL_t p) (unsgn 16 x.tbarMean)
    let s := (((s.setBit CSU_EVT_ff_done p).setBit (CSU_STAT_ready p)).put (CSU_STAT_ready_buf p) x.buf).clrBit (CSU_STAT_overdue p)
    let s := s.modCsu p (fun y => { y with composing := false, anchored := true, updFor := 0 })
    if s.ffState p = 5 then s.ffEnd p else s

/-! ## Scene statistics (R229–R231) -/

/-- Frames whose marks keep them out of the statistics: shutter, port fenced, test injected, table underrun, drift unmeasured, supply-disturbed or realigned. -/
def unsampled (m : Nat) : Bool :=
  m % 2 = 1 || m / 2 ^ 4 % 2 = 1 || m / 2 ^ 6 % 2 = 1 || m / 2 ^ 7 % 2 = 1 || m / 2 ^ 9 % 2 = 1 || m / 2 ^ 12 % 2 = 1 || m / 2 ^ 13 % 2 = 1

/-- Whether band `b` of slots `n` and `m` is moving (R229). -/
def bandMoves (s : State) (p n m b : Nat) : Bool :=
  let w := (s.port p).width
  let rows := min 64 ((s.port p).height - 64 * b)
  let px := (List.range (rows * w)).map (fun j => 64 * b * w + j)
  let use := px.filter (fun i => s.usablePx p n i && s.usablePx p m i)
  let sum := use.foldl (fun t i => t + ((s.cntOf p n i : Int) - s.cntOf p m i).natAbs) 0
  decide (1024 ≤ use.length) && decide (s.get (CSU_GATE_mot_thr p) * use.length ≤ 16 * sum)

/-- STATS_SAMPLE. -/
def statsSample (s : State) (p : Nat) : State :=
  let x := s.csuOf p
  if !x.sampleDue then s
  else
    let s := s.modCsu p (fun y => { y with sampleDue := false })
    match x.lastDone, x.prevDone with
    | some (n, f), some (m, g) =>
      if (g + 1) % 2 ^ 32 ≠ f || unsampled (s.marksOf (p * 16 + n)) || unsampled (s.marksOf (p * 16 + m)) || (s.stream p).wedge.isSome || s.marksOf (p * 16 + n) / 2 ^ 14 % 2 = 1 || s.ffState p ≠ 0 then s
      else
        let w := (s.port p).width
        let s := (((s.csuPlane p n 3).csuPlane p n 1).csuPlane p m 3).csuPlane p m 1
        let bands := (List.range (((s.port p).height + 63) / 64)).filter (fun b => s.bandMoves p n m b)
        let s := bands.foldl (fun s b =>
          let rows := min 64 ((s.port p).height - 64 * b)
          let s := s.csuRead (s.statAt p (64 * b * w)) (8 * rows * w)
          (List.range (rows * w)).foldl (fun s j =>
            let i := 64 * b * w + j
            let a := s.statAt p i
            if !s.usablePx p n i || s.poisoned a then s
            else
              let y := StatWord.ofNat (s.getWord a)
              let y := if x.reseed then { y with n := 0 } else y
              s.putWord a (statUpdate y (s.cntOf p n i) (s.get (CSU_GATE_k_mean p)) (s.get (CSU_GATE_k_var p))).toNat) s) s
        (s.put (CSU_GATED_moving p) bands.length).modCsu p (fun y => { y with reseed := false })
    | _, _ => s

/-- STATS_CLR. -/
def statsClr (s : State) (p : Nat) : State := s.modCsu p (fun x => { x with reseed := true })

/-- Usable neighbours of pixel `i` for the estimators: of the eight in the window, those unflagged with n_min samples. -/
def statNeighbours (s : State) (p i : Nat) : List StatWord :=
  let w := (s.port p).width
  let h := (s.port p).height
  let r := i / w
  let c := i % w
  let at_ := ([(0, 0), (0, 1), (0, 2), (1, 0), (1, 2), (2, 0), (2, 1), (2, 2)] : List (Nat × Nat)).filter (fun d =>
    1 ≤ r + d.1 ∧ r + d.1 ≤ h ∧ 1 ≤ c + d.2 ∧ c + d.2 ≤ w)
  at_.filterMap (fun d =>
    let j := (r + d.1 - 1) * w + (c + d.2 - 1)
    let y := StatWord.ofNat (s.getWord (s.statAt p j))
    if (s.activeWord p j).flags % 8 = 0 ∧ s.activePoisoned p j = false ∧ s.poisoned (s.statAt p j) = false ∧ s.get (CSU_EST_n_min p) ≤ y.n then some y else none)

/-- One pixel of a statistics composition (R231). -/
def statPixel (s : State) (p i : Nat) : TableWord :=
  let b := s.activeWord p i
  let x := StatWord.ofNat (s.getWord (s.statAt p i))
  if b.flags % 8 ≠ 0 ∨ s.activePoisoned p i = true ∨ s.poisoned (s.statAt p i) = true ∨ x.n < s.get (CSU_EST_n_min p) then b
  else
    let q := s.statNeighbours p i
    let b := if q.length < 3 then b
      else
        let mm := meanUp s.freeCtr (q.foldl (fun t y => t + y.mean) 0) q.length
        let mv := meanUp s.freeCtr (q.foldl (fun t y => t + y.var) 0) q.length
        let e : Int := (x.mean : Int) - mm
        let b := if s.get (CSU_EST_dband p) * 16 ≤ e.natAbs then
            { b with ofs := clampI (-32768) 32767 (b.ofs + asr (cdiv s.freeCtr (e * s.get (CSU_EST_w_ofs p) * 16384) b.gain + 32768) 16) } else b
        if s.get (CSU_GAIN_EST_var_min p) ≤ mv ∧ 0 < x.var then
          let gq := isqrtRound (mv * 2 ^ 28 / x.var)
          let gn : Int := asr ((b.gain : Int) * gq + 8192) 14
          let step : Int := s.get (CSU_GAIN_EST_g_step p)
          if s.get (CSU_EST_gdband p) ≤ (gn - b.gain).natAbs then
            { b with gain := (clampI 1 65535 ((b.gain : Int) + clampI (-step) step (gn - b.gain))).toNat } else b
        else b
    if x.n = 255 ∧ x.var = 0 then { b with flags := applyFlags b.flags (s.get (CSU_PIX_unflag p)) true false } else b

/-- STATS_COMPOSE_END (R231). -/
def statsComposeEnd (s : State) (p : Nat) : State :=
  let x := s.csuOf p
  if !x.statComposing then s
  else
    let s := (s.csuTable p).csuRead (s.statAt p 0) (8 * s.pixels p)
    let s0 := s
    let r := (List.range (s.pixels p)).foldl (fun (r : State × Nat × Bool) i =>
      let b := s0.statPixel p i
      (r.1.putWord (s0.tgtBase p x.buf + 8 * i) b.toNat, r.2.1 + b2n (b.flags % 4 != 0),
        r.2.2 || (b.flags / 64 % 2 == 1 && (s0.activeWord p i).flags / 64 % 2 == 0))) (s.drawn, 0, false)
    let s := r.1.put (CSU_FLAGGED_flagged p) r.2.1
    let s := if r.2.2 then s.setBit CSU_EVT_pixel p else s
    let s := ((s.setBit CSU_EVT_composed p).setBit (CSU_STAT_ready p)).put (CSU_STAT_ready_buf p) x.buf
    s.modCsu p (fun y => { y with statComposing := false, updFor := 0 })

/-! ## Commands -/

/-- ff_now (R225): ignored while a flat-field runs (R226). -/
def ffNow (s : State) (p : Nat) : State := if s.ffState p = 0 then s.modCsu p (fun x => { x with request := true }) else s

/-- arm (R232): ignored while no target is ready. -/
def wedgeArm (s : State) (p : Nat) : State := if s.bit (CSU_STAT_ready p) then s.setBit (CSU_CTL_arm p) else s

/-- The end of a wedge frame at the stream and in the CSU (R208, R230, R234). -/
def wedgeEnd (s : State) (p : Nat) : State :=
  let was := (s.stream p).wedge.isSome
  let s := s.wedgeFrameEnd p
  let s := if was ∧ (s.stream p).wedge.isNone then s.modCsu p (fun x => { x with reseed := true, updFor := 0 }) else s
  s.settleBound p

end State
end Sys2Proof.Machine
end

