-- ==== Sys2Proof/Machine/Ecdsa.lean ====
section
/-! DEFINITION. Machine/Ecdsa.lean: the signature scheme of R252, R253 and R255: ECDSA over the curve P-256 with SHA-256 and the deterministic nonce of RFC 6979.
Numbers are plain naturals; a point of the curve is a pair of coordinates, and none is the point at infinity. -/

namespace Sys2Proof.Machine

namespace P256

/-- The field prime, the curve's constant b, the order of the base point and the base point. -/
def prime : Nat := 2 ^ 256 - 2 ^ 224 + 2 ^ 192 + 2 ^ 96 - 1
def constB : Nat := 0x5AC635D8_AA3A93E7_B3EBBD55_769886BC_651D06B0_CC53B0F6_3BCE3C3E_27D2604B
def order : Nat := 0xFFFFFFFF_00000000_FFFFFFFF_FFFFFFFF_BCE6FAAD_A7179E84_F3B9CAC2_FC632551
def base : Option (Nat × Nat) :=
  some (0x6B17D1F2_E12C4247_F8BCE6E5_63A440F2_77037D81_2DEB33A0_F4A13945_D898C296,
    0x4FE342E2_FE1A7F9B_8EE7EB4A_7C0F9E16_2BCE3357_6B315ECE_CBB64068_37BF51F5)

/-- `x` to the power `e` modulo `m`, over the low `k` bits of `e`, most significant first. -/
def powMod (m x e : Nat) : Nat → Nat
  | 0 => 1 % m
  | k + 1 =>
    let r := powMod m x (e / 2) k
    if e % 2 = 1 then r * r % m * x % m else r * r % m

/-- The inverse modulo a prime below 2^256, by Fermat's little theorem. -/
def inv (m x : Nat) : Nat := powMod m (x % m) (m - 2) 256

/-- `a − b` modulo `m` for reduced operands. -/
def subMod (m a b : Nat) : Nat := (a + (m - b)) % m

/-- The point that the line of slope `l` through (x1, y1) and a point with abscissa x2 gives. -/
def chord (l x1 y1 x2 : Nat) : Option (Nat × Nat) :=
  let x := subMod prime (subMod prime (l * l % prime) x1) x2
  some (x, subMod prime (l * subMod prime x1 x % prime) y1)

/-- Sum of two points of the curve y² = x³ − 3x + b. -/
def add : Option (Nat × Nat) → Option (Nat × Nat) → Option (Nat × Nat)
  | none, q => q
  | p, none => p
  | some (x1, y1), some (x2, y2) =>
    if x1 = x2 then
      if (y1 + y2) % prime = 0 then none
      else chord (subMod prime (3 * x1 * x1 % prime) 3 * inv prime (2 * y1) % prime) x1 y1 x2
    else chord (subMod prime y2 y1 * inv prime (subMod prime x2 x1) % prime) x1 y1 x2

/-- The multiple of a point by the low `k` bits of `e`. -/
def mul (p : Option (Nat × Nat)) (e : Nat) : Nat → Option (Nat × Nat)
  | 0 => none
  | k + 1 =>
    let q := mul p (e / 2) k
    if e % 2 = 1 then add (add q q) p else add q q

/-- The point lies on the curve, its coordinates reduced. -/
def onCurve (x y : Nat) : Bool :=
  decide (x < prime) && decide (y < prime) && y * y % prime == subMod prime ((x * x % prime * x + constB) % prime) (3 * x % prime)

/-- A big-endian number. -/
def ofBe (l : List Byte) : Nat := ofLe l.reverse

/-- The 64-byte public key of private key `d`: X then Y, each big-endian (R252, R255). -/
def publicKey (d : Nat) : List Byte :=
  match mul base d 256 with
  | some (x, y) => beBytes 32 x ++ beBytes 32 y
  | none => List.replicate 64 0#8

/-- HMAC with SHA-256 over a key of 32 bytes. -/
def hmac (key m : List Byte) : List Byte :=
  let pad := fun (c : Byte) => key.map (· ^^^ c) ++ List.replicate 32 c
  sha256 (pad 0x5C#8 ++ sha256 (pad 0x36#8 ++ m))

/-- The signature with nonce `k`, where it exists: no component is zero. -/
def signWith (d z k : Nat) : Option (Nat × Nat) :=
  match mul base k 256 with
  | none => none
  | some (x, _) =>
    let r := x % order
    let t := inv order k * ((z + r * d) % order) % order
    if r = 0 ∨ t = 0 then none else some (r, t)

/-- The nonce generator of RFC 6979: from the working values it tries candidates until one serves, at most `n` times. -/
def signLoop (d z : Nat) : Nat → List Byte → List Byte → Nat × Nat
  | 0, _, _ => (0, 0)
  | n + 1, key, v =>
    let v := hmac key v
    let k := ofBe v
    match if k = 0 ∨ order ≤ k then none else signWith d z k with
    | some r => r
    | none =>
      let key := hmac key (v ++ [0#8])
      signLoop d z n key (hmac key v)

/-- The signature of a 32-byte digest under private key `d`: r then s, each 32 bytes big-endian (R253). A candidate nonce fails with
probability about 2^-32; the search that RFC 6979 leaves unbounded ends after 64 of them. (DESIGN CHOICE, log entry 43.) -/
def sign (d : Nat) (digest : List Byte) : List Byte :=
  let seed := beBytes 32 d ++ beBytes 32 (ofBe digest % order)
  let v0 := List.replicate 32 1#8
  let k1 := hmac (List.replicate 32 0#8) (v0 ++ [0#8] ++ seed)
  let v1 := hmac k1 v0
  let k2 := hmac k1 (v1 ++ [1#8] ++ seed)
  let r := signLoop d (ofBe digest) 64 k2 (hmac k2 v1)
  beBytes 32 r.1 ++ beBytes 32 r.2

/-- A signature of 64 bytes over a 32-byte digest verifies under a 64-byte public key (R255). -/
def verifies (key digest sig : List Byte) : Bool :=
  let x := ofBe (key.take 32)
  let y := ofBe (key.drop 32)
  let r := ofBe (sig.take 32)
  let t := ofBe (sig.drop 32)
  if key.length = 64 ∧ sig.length = 64 ∧ onCurve x y = true ∧ 0 < r ∧ r < order ∧ 0 < t ∧ t < order then
    let w := inv order t
    match add (mul base (ofBe digest * w % order) 256) (mul (some (x, y)) (r * w % order) 256) with
    | some (px, _) => px % order == r
    | none => false
  else false

end P256
end Sys2Proof.Machine
end

