-- ==== Sys2Proof/Machine/Met.lean ====
section
/-! DEFINITION. Machine/Met.lean: what the metrology core keeps (spec 09): the audit trail, the identity, time, the record builder, the causes and the metrology
state. -/

namespace Sys2Proof.Machine
open R

/-- First four bytes of a byte string, as a number. -/
def first4 (l : List Byte) : Nat := ofLe (l.take 4)

/-- Digest prefix of R506; an absent item gives 0. -/
def prefix4 (l : List Byte) : Nat := if l.isEmpty then 0 else first4 (sha256 l)

/-- The record configuration at reset (R268). -/
def defaultRec : List Byte := (List.replicate 4 (leBytes 2 60)).flatten ++ leBytes 2 500 ++ [0#8, 16#8] ++ leBytes 4 3600 ++ List.replicate 16 0#8

/-- A little-endian field of a zone descriptor (R256). -/
def zf (d : List Byte) (o k : Nat) : Nat := ofLe ((d.drop o).take k)

/-- A descriptor that defines a zone. -/
def zoneDefined (d : List Byte) : Bool := d.length == 32 && zf d 15 1 / 128 == 1

namespace State

/-- Zone `n` of facet `x` as MET holds it in P1, which is the shadow of the window (R24, R256). -/
def zoneHeld (s : State) (x n : Nat) : List Byte := Map.get (fun _ => []) s.men.zones (x * 64 + n)

def modMen (s : State) (f : MenSt → MenSt) : State := { s with men := f s.men }
def facetMen (s : State) (x : Nat) : FacetMen := Map.get (fun _ => {}) s.men.facets x
def setFacetMen (s : State) (x : Nat) (v : FacetMen) : State := s.modMen (fun m => { m with facets := Map.set (fun _ => {}) m.facets x v })
def modFacetMen (s : State) (x : Nat) (f : FacetMen → FacetMen) : State := s.setFacetMen x (f (s.facetMen x))

/-- MET runs on a part that has it. (DESIGN CHOICE, log entry 1.) -/
def metUp (s : State) : Bool := s.variantM && s.men.up

/-- MEN_EVT bits, in the order of R275. -/
def menEvt (s : State) (b : Nat) : State := s.setBit ⟨MEN_EVT, 31, 0⟩ b

/-- MEN_STAT.seal: 0 OPEN, 1 CLOSING, 2 SEALED. -/
def sealState (s : State) : Nat := s.get MEN_STAT_seal

/-! ## Record configuration (R268) -/

def recCfg (s : State) : List Byte := if s.men.recCfg.isEmpty then defaultRec else s.men.recCfg
def recDiv (s : State) (x : Nat) : Nat := ofLe ((s.recCfg.drop (2 * x)).take 2)
def settleMax (s : State) : Nat := ofLe ((s.recCfg.drop 8).take 2)
def pinPolarity (s : State) (k : Nat) : Bool := ofLe ((s.recCfg.drop 10).take 1) / 2 ^ k % 2 = 1
def katDiv (s : State) : Nat := ofLe ((s.recCfg.drop 11).take 1)
def timeValid (s : State) : Nat := ofLe ((s.recCfg.drop 12).take 4)

/-! ## Time (R255) -/

/-- Wall units in a millisecond. -/
def wallMs : Nat := 27000000

/-- UTC in ms; 0 while the time is not set. -/
def utcNow (s : State) : Nat := if s.bit MEN_STAT_time_set then s.men.utc + (s.wall - s.men.utcWall) / wallMs else 0

/-! ## Audit (R243–R245, R506) -/

/-- An occurrence: it opens an entry or joins the one that its frame of H has opened for its class and register or item. (DEDUCED, log entry 44.) -/
def auditNote (s : State) (cls kind item old new : Nat) : State :=
  if !s.variantM then s
  else
    let same := fun (e : AuditOpen) => e.cls == cls && e.item == item && e.frame == s.men.frames
    if s.men.opens.any same then
      s.modMen (fun m => { m with opens := m.opens.map (fun e => if same e then { e with count := sat 0xFFFF (e.count + 1), new := new } else e) })
    else s.modMen (fun m => { m with opens := m.opens ++ [⟨cls, kind, item, old, new, 1, s.men.frames⟩] })

/-- A rejected write or a refused request: counted at once, and noted (R244). (DEDUCED, log entry 44.) -/
def auditReject (s : State) (cls kind item old new : Nat) : State :=
  if !s.variantM then s else (s.bump (MEN_REJ_rejections cls)).auditNote cls kind item old new

/-- The 32 bytes of a committed entry (R245). -/
def entryBytes (s : State) (no : Nat) (e : AuditOpen) : List Byte :=
  let b := leBytes 4 no ++ leBytes 1 e.cls ++ leBytes 1 (e.kind + 128 * b2n (s.bit MEN_STAT_time_verified)) ++ leBytes 2 e.count ++ leBytes 4 e.item ++
    leBytes 4 e.old ++ leBytes 4 e.new ++ leBytes 8 s.utcNow
  b ++ leBytes 4 (crc32 b)

/-- One open entry is committed to P1, and its class's audit counter increments. -/
def commitOne (s : State) (e : AuditOpen) : State :=
  let no := s.men.entries
  let b := s.entryBytes no e
  let s := s.modMen (fun m => { m with entries := no + 1, trail := Map.set (fun _ => []) m.trail (no % 1024) b })
  let s := s.setNum (MEN_AUDCNT e.cls) (sat 0xFFFF_FFFF (s.num (MEN_AUDCNT e.cls) + 1))
  (s.put MEN_AUD_HEAD_index (no % 1024)).put MEN_AUD_HEAD_total (sat (2 ^ 22 - 1) (no + 1))

/-- The open entries that `due` picks are committed in their order. -/
def commitWhere (s : State) (due : AuditOpen → Bool) : State :=
  (s.men.opens.filter due).foldl commitOne (s.modMen (fun m => { m with opens := m.opens.filter (fun e => !due e) }))

/-- AUDIT_COMMIT: at the end of a frame of H the entries that it opened are committed (R244). (DEDUCED, log entry 44.) -/
def auditCommit (s : State) : State := s.commitWhere (fun e => decide (e.frame < s.men.frames))

/-- The audit class of a legally relevant register (R243). -/
def auditClass (a : Nat) : Nat :=
  if PSC_OWN 0 ≤ a ∧ a ≤ PSC_OWN 31 then
    let n := (a - PSC_OWN 0) / 4
    if n ≤ 8 then 1 else if n ≤ 13 then 2 else if n = 14 then 3 else if n = 15 then 4 else if n = 25 then 9 else 5
  else match a / 0x1000 with
    | 4 => 1 | 5 => 2 | 6 => 2 | 7 => 3 | 8 => 4 | _ => 8

/-- A MET-private parameter changes: an entry, and the identity is stale (R244, R251). -/
def menChange (s : State) (cls item old new : Nat) : State := (s.auditNote cls 3 item old new).setBit MEN_STAT_ident_stale

/-! ## Identity (R250, R251) -/

/-- The firmware image in P1. -/
def image (s : State) : List Byte := s.men.image.getD Config.firmwareImage

/-- Whether the PSC_OWN register of a group is legally relevant (R239). -/
def ownLegal (n : Nat) : Bool := (5 ≤ n && n ≤ 15) || n == 25 || n == 26

/-- The RWS registers of R484, in ascending host address. (DEDUCED, log entry 18.) -/
def rwsAddrs : List Nat :=
  ((List.range 0x4C00).map (fun k => 4 * k)).filter (fun a =>
    (PSC_OWN 0 ≤ a && a ≤ PSC_OWN 31 && ownLegal ((a - PSC_OWN 0) / 4)) ||
      (match findRow a with | some r => r.rws != 0 && !(LCA_LANE_CTL 0 ≤ a && a / 0x1000 == 6 && (a - LCA_LANE_CTL 0) % 16 == 0) | none => false))

/-- Bits of an RWS register that are no arm field. -/
def imageValue (s : State) (a : Nat) : Nat :=
  if a = LCA_CTL 0 ∨ a = LCA_CTL 1 ∨ a = LCA_CTL 2 ∨ a = LCA_CTL 3 then 0 else s.num a

/-- 32 bytes of a reference, zero when missing. -/
def ref32 (l : List Byte) : List Byte := if l.isEmpty then List.replicate 32 0#8 else l

/-- A port's active coefficient set as the sealed image holds it. -/
def coefBytes (m : List (Nat × Int)) (p : Nat) : List Byte := (List.range 256).flatMap (fun i => leBytes 4 (unsgn 32 (Map.get (fun _ => 0) m (p * 256 + i))))

/-- The coefficient set of a port as MET holds it: the set last accepted, from which the shadow of R197 is filled. -/
def coefHeld (s : State) (p : Nat) : List Byte := coefBytes s.coefShadow p

/-- A zone as the sealed image and the digests hold it; a descriptor with defined = 0 is an undefined zone, which is absent (R250, R256). (DEDUCED, log entry 44.) -/
def zoneItem (d : List Byte) : List Byte := if zoneDefined d then d else []

def zoneBytes (s : State) (x n : Nat) : List Byte := ref32 (zoneItem (s.zoneHeld x n))

/-- The sealed image of R250. -/
def sealedImage (s : State) : List Byte :=
  leBytes 4 s.image.length ++ s.image ++ rwsAddrs.flatMap (fun a => leBytes 4 a ++ leBytes 4 (s.imageValue a)) ++
    [0, 1, 2, 3].flatMap (fun q => ref32 (Map.get (fun _ => []) s.progRef q)) ++
    [0, 1, 2, 3].flatMap (fun p => ref32 (Map.get (fun _ => []) s.tblRef p)) ++ [0, 1, 2, 3].flatMap s.coefHeld ++
    (List.range 256).flatMap (fun i => s.zoneBytes (i / 64) (i % 64)) ++ Memory.bytes s.men.masks 0 327680 ++ leBytes 4 s.men.evid ++ s.recCfg ++
    (if s.men.timeKey.isEmpty then List.replicate 64 0#8 else s.men.timeKey) ++ (if s.men.pubKey.isEmpty then List.replicate 64 0#8 else s.men.pubKey)

/-- The identity is computed and published (R251). -/
def computeIdentity (s : State) : State :=
  let im := s.sealedImage
  ((s.setNum MEN_LEGAL_CRC (crc32 im)).modMen (fun m => { m with digest := sha256 im })).clrBit MEN_STAT_ident_stale

/-- MEN_KEYHASH and key_present follow the public key. -/
def publishKey (s : State) : State :=
  let h := if s.men.pubKey.isEmpty then List.replicate 32 0#8 else sha256 s.men.pubKey
  ((List.range 8).foldl (fun s k => s.setNum (MEN_KEYHASH k) (ofLe ((h.drop (4 * k)).take 4))) s).wrBit MEN_STAT_key_present 0 (!s.men.pubKey.isEmpty)

/-! ## Records (R263–R268) -/

/-- The twelve audit counters, added. -/
def auditSum (s : State) : Nat := sat 0xFFFF_FFFF (((List.range 12).map (fun c => s.num (MEN_AUDCNT c))).sum)

/-- Byte x of MEN_FACET: bit `b`. -/
def facetBit (s : State) (x b : Nat) : Bool := s.bit ⟨MEN_FACET, 31, 0⟩ (8 * x + b)
def setFacetBit (s : State) (x b : Nat) (v : Bool) : State := s.wrBit ⟨MEN_FACET, 31, 0⟩ (8 * x + b) v

/-- A global cause of R273 is present. (DEDUCED, log entry 45.) -/
def globalCause (s : State) : Bool := bitsOf (s.reg MEN_CAUSE) 3 0 != 0

/-- Status bits of a record (R264). -/
def recStatus (s : State) (x : Option Nat) (fr : Option RecFrame) (replayed : Bool) : Nat :=
  let mk := fun b => match fr with | some r => b2n (r.marks / 2 ^ b % 2 = 1) | none => 0
  b2n (!s.bit MEN_STAT_time_verified) + 2 * (match fr with | some r => b2n r.settling | none => 0) +
    4 * (match fr with | some r => b2n (s.settleMax < r.bound) | none => 0) +
    8 * b2n (s.globalCause || (match x with | some f => s.facetBit f 2 || s.facetBit f 3 | none => false)) +
    16 * b2n (x.isSome && fr.isNone) + 32 * mk 6 + 64 * mk 2 + 128 * mk 5 + 256 * mk 8 + 512 * mk 13 + 1024 * b2n (s.sealState = 0) + 2048 * b2n s.men.lostBit +
    4096 * b2n replayed

/-- Bytes 0–191 of a record: `entries` are the zone entries, `frame` the counter and epoch when there is no measured frame. -/
def recBody (s : State) (typ : Nat) (x : Option Nat) (code : Nat) (fr : Option RecFrame) (frame epoch : Nat) (entries : List (List Byte)) (seq : Nat) (replayed : Bool) :
    List Byte :=
  let z := entries.flatten
  [1#8] ++ leBytes 1 (typ * 16 + entries.length) ++ leBytes 1 (x.getD 0xFF) ++ leBytes 1 code ++ leBytes 8 seq ++ leBytes 8 s.utcNow ++
    leBytes 4 (match fr with | some r => r.frame | none => frame) ++ leBytes 2 (match fr with | some r => r.epoch | none => epoch) ++
    leBytes 2 (s.recStatus x fr replayed) ++ leBytes 2 (match fr with | some r => r.bound | none => 0) ++
    leBytes 2 (match x with | some f => (s.facetMen f).since | none => 0) ++ (s.men.digest ++ List.replicate 8 0#8).take 8 ++ leBytes 4 s.auditSum ++
    leBytes 4 (s.num (MEN_KEYHASH 0)) ++ (z ++ List.replicate 144 0#8).take 144

/-- Records that wait, signed or not. (DEDUCED, log entry 48.) -/
def recDepth (s : State) : Nat := s.men.queue.length + s.men.built.length

/-- MEN_REC_CNT.queue follows the queue. -/
def showDepth (s : State) : State := s.put MEN_REC_CNT_queue (min 512 s.recDepth)

/-- The next sequence number; a block is reserved before its first number is used (R267). (DEDUCED, log entry 48.) -/
def takeSeq (s : State) : State × Nat :=
  let m := s.men
  let m := if m.left = 0 then { m with next := m.blocks * 4096, blocks := m.blocks + 1, left := 4096 } else m
  let n := m.next
  ((({ s with men := { m with next := n + 1, left := m.left - 1 } }).setNum MEN_REC_SEQ_LO (n % 2 ^ 32)).setNum MEN_REC_SEQ_HI (n / 2 ^ 32 % 2 ^ 32), n)

/-- RECORD_BUILD: the builder skips, loses or builds a record (R266). Records are built only while MET runs and a key exists (R252, R274). Answers the sequence number. (DEDUCED, log entry 48.) -/
def buildRecord (s : State) (typ : Nat) (x : Option Nat) (code : Nat) (fr : Option RecFrame) (frame epoch : Nat) (entries : List (List Byte)) (replayed : Bool) :
    State × Option Nat :=
  if !s.metUp || s.men.pubKey.isEmpty then (s, none)
  else if typ = 0 ∧ 448 ≤ s.recDepth then (s.bump MEN_REC_CNT_skipped, none)
  else if 512 ≤ s.recDepth then (((s.bump MEN_REC_CNT_lost).menEvt 4).modMen (fun m => { m with lostBit := true }), none)
  else
    let (s, n) := s.takeSeq
    let b := s.recBody typ x code fr frame epoch entries n replayed
    ((s.modMen (fun m => { m with built := m.built ++ [b], lostBit := false })).showDepth, some n)

/-- An event record (R263). (DEDUCED, log entry 48.) -/
def eventRecord (s : State) (code : Nat) : State := (s.buildRecord 2 none code none 0 0 [] false).1

/-- RECORD_SIGNED: the signer completes the oldest record, which joins the queue (R253). -/
def recordSigned (s : State) : State :=
  match s.men.built with
  | [] => s
  | b :: rest => s.modMen (fun m => { m with built := rest, queue := m.queue ++ [b ++ P256.sign s.men.privKey (sha256 b)] })

/-! ## Causes and state (R272, R273) -/

/-- A live port lacks its program or table reference. -/
def refMissing (s : State) : Bool :=
  [0, 1, 2, 3].any (fun p => s.bit (FPP_CTL_live p) && ((Map.get (fun _ => []) s.progRef p).isEmpty || (Map.get (fun _ => []) s.tblRef p).isEmpty))

/-- A facet's causes, the bits of its byte and their audit entry. (DEDUCED, log entry 45.) -/
def facetJudge (s : State) (x : Nat) : State :=
  let old := bitsOf (s.reg MEN_FACET) (8 * x + 7) (8 * x)
  let was := s.facetBit x 2
  let bad := s.bit (PSC_SQ_STAT_unverified x) || s.bit (PCE_TBL_STAT_unverified x) || s.facetBit x 3
  let ready := s.bit (FPP_CTL_live x) && s.bit (PCE_TBL_STAT_active x) && s.bit (PCE_TBL_STAT_check_ok x) && s.sqState x == 2 && s.bit (PSC_SQ_STAT_digest_ok x) &&
    (s.csuOf x).anchored && (s.facetMen x).passed && !bad
  let s := (((s.setFacetBit x 0 (s.bit (FPP_CTL_live x))).setFacetBit x 1 ready).setFacetBit x 2 bad).setFacetBit x 4 ((s.stream x).wedge.isSome)
  let s := s.setFacetBit x 7 (s.csuOf x).anchored
  if was = bad then s else s.auditNote 11 6 (0xFF00_0024 + x) old (bitsOf (s.reg MEN_FACET) (8 * x + 7) (8 * x))

/-- MET judges causes and its state; a change of state emits event record 4 (R272). (DEDUCED, log entry 45.) -/
def metJudge (s : State) : State :=
  if !s.metUp then s
  else
    let s := [0, 1, 2, 3].foldl facetJudge s
    let s := if s.men.p1Bad.isEmpty then s else s.setBit MEN_CAUSE_p1_corrupt
    let s := if s.men.pubKey.isEmpty then s.setBit MEN_CAUSE_key_missing else s
    let s := if s.men.testFail then s.setBit MEN_CAUSE_selftest else s
    let s := if s.refMissing then s.setBit MEN_CAUSE_ref_missing else s
    let any := fun (f : Nat → Bool) => [0, 1, 2, 3].any f
    let s := s.wrBit MEN_CAUSE_program 0 (any (fun x => s.bit (PSC_SQ_STAT_unverified x)))
    let s := s.wrBit MEN_CAUSE_table 0 (any (fun x => s.bit (PCE_TBL_STAT_unverified x)))
    let s := s.wrBit MEN_CAUSE_kat 0 (any (fun x => s.facetBit x 3))
    let old := s.get MEN_STAT_state
    let new := if s.globalCause then 3 else if any (fun x => s.facetBit x 1) then 2 else 1
    if old = new then s
    else
      let s := (s.put MEN_STAT_state new).menEvt 1
      let s := if old = 3 ∨ new = 3 then s.auditNote 11 6 0xFF00_0020 old new else s
      s.eventRecord 4

/-- Causes whose clearing waits for the seal to close (R273). -/
def clearCauses (s : State) : State :=
  ((s.wrBit MEN_CAUSE_p1_corrupt 0 (!s.men.p1Bad.isEmpty)).wrBit MEN_CAUSE_key_missing 0 s.men.pubKey.isEmpty).wrBit MEN_CAUSE_ref_missing 0 s.refMissing

/-- The program digest that an SQ core starts with differs from the last it started: an entry of class 5 (R243). -/
def auditStart (s : State) (q : Nat) : State :=
  let d := (List.range 8).flatMap (fun k => leBytes 4 (s.num (PSC_SQ_DIGEST q k)))
  let l := Map.get (fun _ => []) s.men.lastProg q
  if l = d then s
  else (s.auditNote 5 6 (0xFF00_0010 + q) (first4 l) (first4 d)).modMen (fun m => { m with lastProg := Map.set (fun _ => []) m.lastProg q d })

end State
end Sys2Proof.Machine
end

