-- ==== Sys2Proof/Machine/Cer.lean ====
section
/-! DEFINITION. Machine/Cer.lean: tile compression, self-verification, the pre-event recorder and the table decoder (spec 11). -/

namespace Sys2Proof.Machine
open R

/-- The first of a list whose key is smallest. -/
def firstMin (key : CerJob → Nat) : List CerJob → Option CerJob
  | [] => none
  | a :: r => match firstMin key r with | none => some a | some b => some (if key b < key a then b else a)

namespace State

def coder (s : State) (k : Nat) : CoderSt := Map.get (fun _ => {}) s.cer.coders k
def setCoder (s : State) (k : Nat) (x : CoderSt) : State := { s with cer := { s.cer with coders := Map.set (fun _ => {}) s.cer.coders k x } }
def modCoder (s : State) (k : Nat) (f : CoderSt → CoderSt) : State := s.setCoder k (f (s.coder k))
def ring (s : State) (u : Nat) : RingSt := Map.get (fun _ => {}) s.cer.rings u
def setJobs (s : State) (l : List CerJob) : State := { s with cer := { s.cer with jobs := l } }
def jobOf (s : State) (id : Nat) : Option CerJob := s.cer.jobs.find? (fun j => j.id == id)
def modJob (s : State) (id : Nat) (f : CerJob → CerJob) : State := s.setJobs (s.cer.jobs.map (fun j => if j.id == id then f j else j))
def dropJob (s : State) (id : Nat) : State := s.setJobs (s.cer.jobs.filter (fun j => j.id != id))

/-- Place and size in bytes of unit `u`'s ring (R319, R321). -/
def ringBase (s : State) (u : Nat) : Nat := (if u < 16 then s.get (CER_S_OUT_BASE_ring u) else s.get (CER_REC_BASE_ring (u - 16))) * 4096
def ringSize (s : State) (u : Nat) : Nat := (if u < 16 then s.get (CER_S_OUT_SIZE_ring u) else s.get (CER_REC_SIZE_ring (u - 16))) * 4096

/-- A ring changes; its fill register follows, in 4 KiB units rounded up, and a recorder's count of frames held. -/
def setRing (s : State) (u : Nat) (x : RingSt) : State :=
  let s := { s with cer := { s.cer with rings := Map.set (fun _ => {}) s.cer.rings u x } }
  let fill := min 0xFFFF ((x.used + x.held + 4095) / 4096)
  if u < 16 then s.put (CER_S_FILL_ring u) fill else (s.put (CER_REC_FILL_ring (u - 16)) fill).put (CER_REC_STAT_held (u - 16)) (min 255 x.recs.length)

/-- Bytes written into a ring from offset `o`, wrapping byte-wise at its end (R319). -/
def ringPut (s : State) (u o : Nat) (l : List Byte) : State :=
  let n := s.ringSize u
  let room := n - o % n
  let b := s.ringBase u
  (s.dramWrite 1 9 (b + o % n) (l.take room)).dramWrite 1 9 b (l.drop room)

/-- Bytes read from a ring; those of poisoned words are zero. -/
def ringGet (s : State) (u o k : Nat) : List Byte :=
  let n := s.ringSize u
  let room := n - o % n
  s.dramBytes (s.ringBase u + o % n) (min k room) ++ s.dramBytes (s.ringBase u) (k - room)

/-- Whether stream `n` is in the evidential mask (R307). -/
def evidential (s : State) (n : Nat) : Bool := s.men.evid / 2 ^ n % 2 = 1

/-- State of recorder x: 0 OFF, 1 RUN, 2 TRIGGERED, 3 FROZEN, 4 EXPORTING (R322). -/
def recState (s : State) (x : Nat) : Nat := s.get (CER_REC_STAT_state x)

/-- The coder of a unit (R317). -/
def unitCoder (s : State) (u : Nat) : Nat := if u < 16 then s.get (CER_S_CFG_coder u) else s.get (CER_REC_CFG_coder (u - 16))

/-- A new frame for unit `u` from slot `slot` of port `p`. -/
def addJob (s : State) (u p slot plane frame epoch : Nat) : State :=
  let j : CerJob := { id := s.cer.nextId, unit := u, port := p, slot := slot, plane := plane, frame := frame, epoch := epoch, w := (s.port p).width, h := (s.port p).height }
  { s with cer := { s.cer with jobs := s.cer.jobs ++ [j], nextId := s.cer.nextId + 1 } }

/-- Port `p` begins a delivering frame: each stream that codes it and its recorder take the frame (R307, R321). -/
def cerFrame (s : State) (p : Nat) : State :=
  if !(s.stream p).writing then s
  else
    let r := s.raster p
    let slot := s.curSlot p
    let s := (List.range 16).foldl (fun s n =>
      let plane := s.get (CER_S_CFG_plane n)
      if s.bit (CER_S_CFG_en n) && s.get (CER_S_CFG_port n) == p && (plane != 0 || bitOf (s.stream p).outCfg 8) then s.addJob n p slot plane r.frame r.epoch else s) s
    if s.recState p = 1 ∨ s.recState p = 2 then s.addJob (16 + p) p slot 2 r.frame r.epoch else s

/-! ## Ends of frames -/

/-- The frame header of R319. -/
def frameHeader (s : State) (j : CerJob) : List Byte :=
  let h := s.slotBase j.port j.slot
  let bits := s.dramBytes (h + 12) 4
  leBytes 4 j.frame ++ leBytes 2 j.epoch ++ leBytes 1 (if j.unit < 16 then j.unit else 0xFF) ++
    leBytes 1 (j.plane + 4 * j.delta + 64 * b2n (16 ≤ j.unit) + 128 * b2n j.incomplete) ++ leBytes 2 j.w ++ leBytes 2 (j.rows.getD (8 * j.row)) ++
    leBytes 2 j.tiles ++ [0#8, 0#8] ++ leBytes 4 j.len ++ bits ++ s.dramBytes (h + 20) 4 ++ List.replicate 4 0#8

/-- A recorder freezes (R322). -/
def recFrozen (s : State) (x : Nat) : State := ((s.put (CER_REC_STAT_state x) 3).clrBit (CER_REC_STAT_exported x)).setBit CER_EVT2_freeze x

/-- The oldest of unit `u`'s frames that have begun and not closed: its record is the one that grows at the ring's write offset. -/
def openJob (s : State) (u : Nat) : Option CerJob := s.cer.jobs.find? (fun j => j.unit == u && j.started)

/-- A frame record is complete: the header is written last, and the rest of the reservation is freed (R319, R320). -/
def closeRecord (s : State) (j : CerJob) : State :=
  let g := s.ring j.unit
  let s := ((s.dramRead 1 9 (s.slotBase j.port j.slot) 32).ringPut j.unit g.wr (s.frameHeader j)).dropJob j.id
  let n := s.ringSize j.unit
  let s := s.setRing j.unit { g with wr := (g.wr + j.len) % n, used := g.used + j.len, held := g.held - j.need, recs := g.recs ++ [⟨g.wr, j.len, j.frame, j.replay⟩] }
  if j.unit < 16 then s.setNum (CER_S_BYTES j.unit) j.len
  else
    let x := j.unit - 16
    let ahead := (j.frame + 2 ^ 32 - s.num (CER_REC_TRIG x)) % 2 ^ 32
    if s.recState x = 2 ∧ ¬ j.replay ∧ 0 < ahead ∧ ahead < 2 ^ 31 then
      let left := s.get (CER_REC_STAT_post_rem x) - 1
      let s := s.put (CER_REC_STAT_post_rem x) left
      if left = 0 then s.recFrozen x else s
    else s

/-- Released bytes go to the ring behind the records closed before; a frame whose tiles are all coded and verified closes, and the unit's next one follows. -/
def settleUnit (s : State) (u : Nat) : Nat → State
  | 0 => s
  | fuel + 1 =>
    match s.openJob u with
    | none => s
    | some j =>
      let s := if j.out.isEmpty then s else (s.ringPut u ((s.ring u).wr + (j.len - j.out.length)) j.out).modJob j.id (fun y => { y with out := [] })
      if j.ended && j.waiting == 0 then (s.closeRecord j).settleUnit u fuel else s

/-- A job whose tiles are all coded and verified ends. -/
def settleJob (s : State) (id : Nat) : State :=
  match s.jobOf id with
  | none => s
  | some j => if j.started then s.settleUnit j.unit (s.cer.jobs.length + 1) else if j.ended && j.waiting == 0 then s.dropJob id else s

/-- A recorder discards the frame it is recording (R318). -/
def recLost (s : State) (j : CerJob) : State :=
  let x := j.unit - 16
  let s := if j.started then s.setRing j.unit { (s.ring j.unit) with held := (s.ring j.unit).held - j.need } else s
  let s := ((s.dropJob j.id).bump (CER_REC_CNT_lost x)).setBit CER_EVT2_lost x
  s.settleUnit j.unit (s.cer.jobs.length + 1)

/-- The PCE begins writing slot `slot` of port `p`: frames that still need it are abandoned (R318). -/
def cerAbandon (s : State) (p slot : Nat) : State :=
  (s.cer.jobs.filter (fun j => j.port == p && j.slot == slot && !j.ended)).foldl (fun s j =>
    let s := [0, 1].foldl (fun s k => s.modCoder k (fun c => { c with cur := match c.cur with | some (i, r, t) => if i = j.id then none else some (i, r, t) | none => none })) s
    if j.unit < 16 then
      (((s.modJob j.id (fun y => { y with ended := true, incomplete := true })).bump (CER_S_CNT2_incomplete j.unit)).setBit CER_EVT1_drop j.unit).settleJob j.id
    else s.recLost j) s

/-! ## Codable tile rows (R317) -/

/-- Rows of port `p`'s frame whose every pixel is in the slot. -/
def finishedRows (s : State) (p : Nat) : Nat :=
  let x := s.port p
  let pend := x.intake.map (·.row) ++ x.results.map (·.row) ++ x.interp.map (·.1)
  pend.foldl min x.rows

/-- Tile rows that have become codable since the last look. -/
def cerRows (s : State) (p : Nat) : State :=
  let done := s.finishedRows p
  s.setJobs (s.cer.jobs.map (fun j =>
    if j.port == p && j.rows.isNone && !j.ended && !j.replay && j.slot == s.curSlot p then
      let n := if j.h ≤ done then (j.h + 7) / 8 else done / 8
      { j with codable := j.codable ++ List.replicate (n - j.codable.length) s.now }
    else j))

/-- The slot header of port `p`'s frame is written: the rows delivered are known. -/
def cerFrameDone (s : State) (p : Nat) : State :=
  let slot := s.get (PCE_SLOT_last p)
  let rows := s.dramNum (s.slotBase p slot + 6) 2
  let mine := fun (j : CerJob) => j.port == p && j.slot == slot && j.rows.isNone && !j.ended
  let ids := (s.cer.jobs.filter mine).map (·.id)
  let s := s.setJobs (s.cer.jobs.map (fun j =>
    if mine j then
      { j with rows := some rows, codable := j.codable ++ List.replicate ((rows + 7) / 8 - j.codable.length) s.now, ended := decide ((rows + 7) / 8 ≤ j.row) }
    else j))
  ids.foldl settleJob s

/-- Coder `k`'s next tile row, chosen at tick `t`, or else at the first tick after it at which one is codable: recorders, evidential streams, others; the oldest first, then
the lower unit (R317). -/
def chooseRow (s : State) (k t : Nat) : Option CerJob :=
  let rowAt := fun (j : CerJob) => j.codable.getD j.row 0
  let ok := s.cer.jobs.filter (fun j => !j.ended && decide (j.row < j.codable.length) && s.unitCoder j.unit == k)
  let first := (ok.map rowAt).foldl min (2 ^ 64)
  let cls := fun (j : CerJob) => if 16 ≤ j.unit then 0 else if s.evidential j.unit then 1 else 2
  firstMin (fun j => (cls j * 2 ^ 64 + rowAt j % 2 ^ 64) * 64 + j.unit) (ok.filter (fun j => decide (rowAt j ≤ max t first)))

/-! ## First tile: δ, admission and reservation (R309, R320, R321) -/

/-- DELTA_COPY: an armed δ is taken at the stream's next first tile, or refused for an evidential stream (R26, R269, R309). -/
def deltaCopy (s : State) (n : Nat) : State :=
  if !s.bit (CER_S_DELTA_arm n) then s
  else
    let d := s.get (CER_S_DELTA_delta n)
    let s := s.clrBit (CER_S_DELTA_arm n)
    if s.variantM && s.evidential n && d != 0 then
      ((s.setBit CER_EVT0_refused n).bump (CER_S_CNT2_refused n)).auditReject 8 5 (CER_S_DELTA n) (s.get (CER_S_DELTA_delta_act n)) d
    else s.put (CER_S_DELTA_delta_act n) d

/-- The worst case of a frame of w × h (R320). -/
def worstCase (w h : Nat) : Nat :=
  let row := fun n => ((List.range ((w + 255) / 256)).map (fun k => 8 + rawLen (min 256 (w - 256 * k)) n)).sum
  32 + (h / 8) * row 8 + (if h % 8 = 0 then 0 else row (h % 8))

/-- Oldest frames are evicted until fewer than `depth` are held and the reservation fits (R321). -/
def evict (size depth need : Nat) : Nat → RingSt → RingSt
  | 0, g => g
  | fuel + 1, g =>
    if depth ≤ g.recs.length ∨ size < g.used + g.held + need then
      match g.recs with
      | [] => g
      | r :: rest => evict size depth need fuel { g with recs := rest, used := g.used - r.len }
    else g

/-- Frame `j` is admitted with its reservation: it takes its place behind the unit's frames that have begun. -/
def admitJob (s : State) (j : CerJob) (g : RingSt) (need delta : Nat) : State :=
  let s := (s.dropJob j.id).setRing j.unit { g with held := g.held + need }
  s.setJobs (s.cer.jobs ++ [{ j with started := true, need := need, delta := delta }])

/-- The frame begins: answers whether it is coded. -/
def startJob (s : State) (j : CerJob) : State × Bool :=
  let need := worstCase j.w (j.rows.getD j.h)
  let size := s.ringSize j.unit
  if j.unit < 16 then
    let g := s.ring j.unit
    if size < g.used + g.held + need then (((s.dropJob j.id).bump (CER_S_CNT_dropped j.unit)).setBit CER_EVT1_drop j.unit, false)
    else
      let s := s.deltaCopy j.unit
      (s.admitJob j g need (s.get (CER_S_DELTA_delta_act j.unit)), true)
  else
    let x := j.unit - 16
    let st := s.recState x
    let g := s.ring j.unit
    if st = 1 ∨ st = 2 then
      let g := evict size (s.get (CER_REC_CFG_depth x)) need (g.recs.length + 1) g
      if size < g.used + g.held + need then ((s.setRing j.unit g).recLost j, false)
      else (s.admitJob j g need 0, true)
    else if j.replay && st == 3 && decide (g.used + g.held + need ≤ size) then (s.admitJob j g need 0, true)
    else
      let s := s.dropJob j.id
      (if j.replay then s.bump (CER_REC_CNT_no_append x) else s, false)

/-- The coder takes its next tile row; a frame that is not coded gives way to the next. -/
def takeRow (s : State) (k : Nat) : Nat → State
  | 0 => s
  | fuel + 1 =>
    match s.chooseRow k (s.coder k).codeAt with
    | none => s.modCoder k (fun c => { c with cur := none })
    | some j =>
      let (s, ok) := if j.started then (s, true) else s.startJob j
      if ok then s.modCoder k (fun c => { c with cur := some (j.id, j.row, 0), codeAt := max c.codeAt (j.codable.getD j.row 0) }) else s.takeRow k fuel

/-! ## Tiles -/

/-- Sample (r, c) of a plane as the coder takes it; none when its word is poisoned (R307, R338). -/
def sampleAt (s : State) (j : CerJob) (r c : Nat) : Option Nat :=
  let a := s.slotBase j.port j.slot + s.planeOff j.port j.slot j.plane + 2 * (r * j.w + c)
  if s.poisoned a then none
  else if j.plane = 0 then some ((sgn 16 (s.dramNum a 2) + 32768).toNat) else some (s.dramNum a 2)

/-- A tile of the frame: its samples by row, or none when a word of it is poisoned. -/
def tileSamples (s : State) (j : CerJob) (row k w h : Nat) : Option (List (List Nat)) :=
  (List.range h).mapM (fun y => (List.range w).mapM (fun i => s.sampleAt j (8 * row + y) (256 * k + i)))

/-- A tile's samples are read from DRAM, line by line. -/
def tileRead (s : State) (j : CerJob) (row k w h : Nat) : State :=
  (List.range h).foldl (fun s y => s.dramRead 1 9 (s.slotBase j.port j.slot + s.planeOff j.port j.slot j.plane + 2 * ((8 * row + y) * j.w + 256 * k)) (2 * w)) s

/-- Ticks that the tile (row, col) of a frame costs a coder (R317). -/
def tileCost (j : CerJob) (row col : Nat) : Nat := 2 * (min 256 (j.w - 256 * col) * min 8 (j.rows.getD j.h - 8 * row) + 24)

/-- TILE_CODE: coder `k` codes one tile, from the tick at which it was free and the tile row codable, while the other coder and the decoder lanes go on; at the end of a tile
row it chooses the next (R310, R315, R317). (DEDUCED, log entry 58.) -/
def tileCode (s : State) (k : Nat) : State :=
  let s := if (s.coder k).cur.isSome then s else s.takeRow k (s.cer.jobs.length + 1)
  match (s.coder k).cur with
  | none => s
  | some (id, row, col) =>
    match s.jobOf id with
    | none => s.modCoder k (fun c => { c with cur := none })
    | some j =>
      let w := min 256 (j.w - 256 * col)
      let h := min 8 (j.rows.getD j.h - 8 * row)
      let cols := (j.w + 255) / 256
      let last := col + 1 = cols
      let rowsAll := (j.rows.getD j.h + 7) / 8
      let start := (s.coder k).codeAt
      let fin := start + tileCost j row col
      let s := (s.advanceTo fin).modCoder k (fun c => { c with busy := c.busy + (fin - max start s.cer.frameAt), codeAt := fin })
      let s := s.tileRead j row col w h
      let s := match s.tileSamples j row col w h with
        | none => s.modJob id (fun y => { y with incomplete := true })
        | some rows =>
          let z := codeTile j.delta rows
          let head := j.delta * 8 + j.port + (row * cols + col) % 65536 * 256 +
            (j.plane + 16 * b2n (16 ≤ j.unit) + 32 * b2n (decide (last ∧ row + 1 = rowsAll))) * 2 ^ 24
          let t : CodedTile := { job := id, unit := j.unit, head := head, delta := j.delta, w := w, h := h, at_ := fin, x := rows.flatten, r := z.2, payload := z.1 }
          (s.modCoder k (fun c => { c with queue := c.queue ++ [t] })).modJob id (fun y => { y with waiting := y.waiting + 1 })
      if !last then s.modCoder k (fun c => { c with cur := some (id, row, col + 1) })
      else
        let s := s.modJob id (fun y => { y with row := y.row + 1, ended := y.rows.isSome && decide ((y.rows.getD 0 + 7) / 8 ≤ y.row + 1) })
        (s.settleJob id).takeRow k (s.cer.jobs.length + 1)

/-- Coder `k` is fenced (R316). -/
def coderFence (s : State) (k : Nat) (verification : Bool) : State :=
  if s.bit CER_STAT_coder k then s else ((s.setBit CER_STAT_coder k).wrBit CER_STAT_cause k verification).setBit CER_EVT2_fence k
def coderLift (s : State) (k : Nat) : State := (s.clrBit CER_STAT_coder k).clrBit CER_STAT_cause k

/-- A tile that fails verification is counted (R316). -/
def verifyFail (s : State) (k unit : Nat) : State :=
  let s := if unit < 16 then (s.bump (CER_S_CNT_vfail unit)).setBit CER_EVT0_vfail unit
    else (s.bump (CER_REC_CNT_vfail (unit - 16))).setBit CER_EVT2_rec_vfail (unit - 16)
  let s := (s.bump (if k = 0 then CER_VER_CNT_coder else CER_VER_CNT_coder16)).modCoder k (fun c => { c with fails := c.fails + 1 })
  if s.get CER_VER_CFG_limit ≠ 0 ∧ s.get CER_VER_CFG_limit ≤ (s.coder k).fails then s.coderFence k true else s

/-- TILE_VERIFY: the decoder lane of coder `k` decodes the oldest tile; `upset` says that an upset struck the tile's coding or decoding. The tile is released coded or raw
(R314–R316). The release comes as late as R315 allows. (DESIGN CHOICE for that tick, log entry 58.) -/
def tileVerify (s : State) (k : Nat) (upset : Bool) : State :=
  match (s.coder k).queue with
  | [] => s
  | t :: rest =>
    let s := (s.advanceTo (t.at_ + 2 * (t.w * t.h + 64))).modCoder k (fun c => { c with queue := rest })
    match s.jobOf t.job with
    | none => s
    | some _ =>
      let ok := !upset && decide (decodeTile t.delta t.w t.h t.payload = t.r)
      let s := if ok then s else s.verifyFail k t.unit
      let raw := !ok || s.bit CER_STAT_coder k || decide (rawLen t.w t.h ≤ t.payload.length)
      let body := if raw then rawPayload t.x t.w t.h else t.payload
      let crc := crc16 (sampleBytes (if raw then t.x else t.r))
      let rec_ := leBytes 3 (t.head % 2 ^ 24 + 128 * b2n raw) ++ leBytes 2 body.length ++ leBytes 1 (t.head / 2 ^ 24) ++ leBytes 2 crc ++ body
      let s := if raw && decide (t.unit < 16) then s.bump (CER_S_CNT_raw t.unit) else s
      (s.modJob t.job (fun y => { y with len := y.len + rec_.length, out := y.out ++ rec_, tiles := y.tiles + 1, waiting := y.waiting - 1 })).settleJob t.job

/-- A frame of H starts: busy shares are shown, with the part of the tile that each coder has in hand or has begun since it was idle, and the failure count of the limit restarts
(R316, R317). -/
def cerHFrame (s : State) : State :=
  let len := s.now - s.cer.frameAt
  let part := fun k =>
    let s' := if (s.coder k).cur.isSome then s else s.takeRow k (s.cer.jobs.length + 1)
    match (s'.coder k).cur with
    | none => 0
    | some (id, row, col) => match s'.jobOf id with
      | none => 0
      | some j => min s.now ((s'.coder k).codeAt + tileCost j row col) - max (s'.coder k).codeAt s.cer.frameAt
  let share := fun k => if len = 0 then 0 else min 1024 (((s.coder k).busy + part k) * 1024 / len)
  let s := (s.put CER_BUSY_coder (share 0)).put CER_BUSY_coder16 (share 1)
  let s := [0, 1].foldl (fun s k => s.modCoder k (fun c => { c with busy := 0, fails := 0 })) s
  { s with cer := { s.cer with frameAt := s.now } }

/-! ## Recorder (R322–R325) -/

/-- Recorder x's ring and frames in hand are discarded. -/
def recClear (s : State) (x : Nat) : State :=
  let s := s.setJobs (s.cer.jobs.filter (fun j => j.unit != 16 + x))
  s.setRing (16 + x) {}

/-- A write changes CER_RECx_CFG.en (R322). -/
def recEnable (s : State) (x : Nat) (en : Bool) : State :=
  if en then (if s.recState x = 0 then (s.recClear x).setNum (CER_REC_STAT x) 1 else s)
  else (s.recClear x).setNum (CER_REC_STAT x) 0

/-- A trigger in RUN, at the frame with counter `frame`. -/
def recTrigger (s : State) (x frame cause : Nat) : State :=
  let g : RingSt := { s.ring (16 + x) with trigAt := s.now }
  let s := ((s.setNum (CER_REC_TRIG x) frame).put (CER_REC_STAT_cause x) cause).setRing (16 + x) g
  let post := s.get (CER_REC_CFG_post x)
  if post = 0 then s.recFrozen x
  else ((s.put (CER_REC_STAT_state x) 2).put (CER_REC_STAT_post_rem x) post).clrBit (CER_REC_STAT_exported x)

/-- A trigger or freeze that meets the other kind in its own cycle makes one trigger with cause 3 (R323). (DEDUCED, log entry 58.) -/
def recBoth (s : State) (x own : Nat) : Bool :=
  (s.recState x == 2 || s.recState x == 3) && (s.ring (16 + x)).trigAt == s.now && s.get (CER_REC_STAT_cause x) + own == 3 && s.get (CER_REC_STAT_cause x) != 0

/-- REC_ALARM_TRIGGER: an alarm was set on the facet at the confirmation of frame `frame`. -/
def recAlarm (s : State) (x frame : Nat) : State :=
  if !s.bit (CER_REC_CFG_alarm_trig x) || s.recState x == 0 then s
  else if s.recState x = 1 then s.recTrigger x frame 1
  else if s.recBoth x 1 then s.put (CER_REC_STAT_cause x) 3
  else s.bump (CER_REC_CNT_late_trig x)

/-- REC_FREEZE. (DEDUCED, log entry 58.) -/
def recFreeze (s : State) (x : Nat) : State :=
  match s.recState x with
  | 1 =>
    let frame := match s.cer.jobs.find? (fun j => j.unit == 16 + x && j.started && !j.ended && !j.replay) with | some j => j.frame | none => (s.raster x).frame
    s.recTrigger x frame 2
  | 2 => if s.recBoth x 2 then s.put (CER_REC_STAT_cause x) 3 else s.recFrozen x
  | 3 => if s.recBoth x 2 then s.put (CER_REC_STAT_cause x) 3 else s.bump (CER_REC_CNT_late_trig x)
  | 4 => s.bump (CER_REC_CNT_late_trig x)
  | _ => s

/-- REC_EXPORT_COMPLETE. -/
def recExported (s : State) (x : Nat) : State := ((s.put (CER_REC_STAT_state x) 3).setBit (CER_REC_STAT_exported x)).setBit CER_EVT2_export x

/-- REC_EXPORT: a frozen recorder begins to send; with no frame held it has sent its last. (DEDUCED, log entry 58.) -/
def recExport (s : State) (x : Nat) : State :=
  if s.recState x = 3 then
    let g := s.ring (16 + x)
    let s := (s.put (CER_REC_STAT_state x) 4).setRing (16 + x) { g with sent := 0 }
    if g.recs.isEmpty then s.recExported x else s
  else s

/-- REC_RELEASE. -/
def recRelease (s : State) (x : Nat) : State := if s.recState x = 3 then (s.recClear x).setNum (CER_REC_STAT x) 1 else s

/-- A replay into slot `dst` of port `p` has completed: the facet's recorder appends it when it holds the frame (R324). (DEDUCED, log entry 58.) -/
def recReplay (s : State) (p dst : Nat) : State :=
  let b := s.slotBase p dst
  let s := s.dramRead 1 9 b 64
  let frame := s.dramNum b 4
  if s.recState p = 0 ∨ ¬ s.bit (CER_REC_CFG_replay_en p) ∨ ¬ (s.ring (16 + p)).recs.any (fun r => r.frame == frame) then s
  else
    let rows := s.dramNum (b + 6) 2
    let id := s.cer.nextId
    (s.addJob (16 + p) p dst 2 frame (s.dramNum (b + 4) 2)).modJob id
      (fun j => { j with rows := some rows, replay := true, codable := List.replicate ((rows + 7) / 8) s.now, ended := rows == 0 })

/-! ## Table images (R326, R327) -/

/-- Bytes of the image as the decoder reads them: a poisoned word reads zero. (DEDUCED, log entry 60.) -/
def imageBytes (s : State) (a k : Nat) : List Byte := s.dramBytes a k

/-- The chunk that fails its CRC-32, if any. (DEDUCED, log entry 60.) -/
def badChunk (s : State) (src n : Nat) : Option Nat :=
  (List.range n).find? (fun i =>
    let c := s.imageBytes (src + 4096 * i) 4096
    crc32 (c.take 4092) != ofLe (c.drop 4092))

/-- TABLE_LOAD_START. -/
def tableLoadStart (s : State) : State :=
  if s.bit CER_LOAD_STAT_busy then s
  else
    let s := s.setNum CER_LOAD_STAT 0
    let len := ofLe (s.imageBytes (s.get CER_LOAD_SRC_image * 4096 + 8) 4)
    let dst := s.get CER_LOAD_DST_table * 4096
    if (List.range ((len + 4095) / 4096)).any (fun i => s.guarded (dst + 4096 * i)) then (s.setBit CER_LOAD_STAT_guard).setBit CER_EVT2_load_fail
    else s.setBit CER_LOAD_STAT_busy

/-- One decoded sample stored: bits [16i + 15 : 16i] of the table word of pixel n, a write of part of a word (R326, R337). -/
def storeSample (s : State) (dst size plane n v : Nat) : State :=
  let a := dst + size * n + 2 * plane
  if s.guarded a then s else s.dramWrite 3 9 a (leBytes 2 v)

/-- The tile records of the image, decoded one after the other until the bytes end. Answers the samples written. -/
def loadTiles (s : State) (dst size w h : Nat) : Nat → List Byte → State × Nat
  | 0, _ => (s, 0)
  | fuel + 1, l =>
    if l.length < 8 then (s, 0)
    else
      let b0 := ofLe (l.take 1)
      let idx := ofLe ((l.drop 1).take 2)
      let len := ofLe ((l.drop 3).take 2)
      let b5 := ofLe ((l.drop 5).take 1)
      let cols := (w + 255) / 256
      let tw := min 256 (w - 256 * (idx % cols))
      let th := min 8 (h - 8 * (idx / cols))
      let body := (l.drop 8).take len
      if b5 % 4 ≠ 3 ∨ len = 0 ∨ body.length < len then (s, 0)
      else
        let x := if b0 / 128 = 1 then rawSamples (tw * th) body else decodeTile 0 tw th body
        let s := (List.range (tw * th)).foldl (fun s i =>
          s.storeSample dst size (b5 / 4 % 4) ((8 * (idx / cols) + i / tw) * w + 256 * (idx % cols) + i % tw) (x.getD i 0)) s
        let (s, n) := s.loadTiles dst size w h fuel (l.drop (8 + len))
        (s, n + tw * th)

/-- TABLE_LOAD_END: the image is decoded, and the load ends with load_done or load_fail. -/
def tableLoadEnd (s : State) : State :=
  if !s.bit CER_LOAD_STAT_busy then s
  else
    let s := s.clrBit CER_LOAD_STAT_busy
    let src := s.get CER_LOAD_SRC_image * 4096
    let n := s.get CER_LOAD_LEN_chunks
    let bad := s.badChunk src n
    let s := s.dramRead 3 9 src (4096 * min n (bad.getD n + 1))
    let data := (List.range (bad.getD n)).flatMap (fun i => (s.imageBytes (src + 4096 * i) 4096).take 4092)
    let legacy := ofLe ((data.drop 1).take 1) % 2 = 1
    let w := ofLe ((data.drop 2).take 2)
    let h := ofLe ((data.drop 4).take 2)
    let size := if legacy then 4 else 8
    let known := ofLe (data.take 1) = 1 ∧ w ≠ 0 ∧ h ≠ 0
    let tiles := (if legacy then 2 else 4) * ((w + 255) / 256) * ((h + 7) / 8)
    let (s, got) := if known then s.loadTiles (s.get CER_LOAD_DST_table * 4096) size w h tiles (data.drop 64) else (s, 0)
    match bad with
    | some i => ((s.setBit CER_LOAD_STAT_crc_fail).put CER_LOAD_STAT_chunk i).setBit CER_EVT2_load_fail
    | none =>
      if known ∧ 2 * got = ofLe ((data.drop 8).take 4) then s.setBit CER_EVT2_load_done
      else (s.setBit CER_LOAD_STAT_fmt_fail).setBit CER_EVT2_load_fail

end State
end Sys2Proof.Machine
end

