-- ==== Sys2Proof/Machine/Men.lean ====
section
/-! DEFINITION. Machine/Men.lean: the metrology enclave at work (spec 09): window hits, zones, alarms and their records, known-answer tests, the seal, the
start and the reset of MET. -/

namespace Sys2Proof.Machine
open R

/-- Whether a descriptor may be installed (R256). -/
def zoneValid (d : List Byte) : Bool :=
  d.length == 32 && zf d 0 2 ≤ zf d 4 2 && zf d 2 2 ≤ zf d 6 2 && zf d 4 2 < 2560 && zf d 6 2 < 2048 && zf d 12 1 != 0 && zf d 13 1 != 0 && zf d 16 3 != 0 &&
    zf d 14 1 / 32 == 0 && zf d 15 1 / 8 % 16 == 0 && (d.drop 19).all (fun b => b == 0#8)

namespace State

/-- The active descriptor of window `n` of stream `x` (R24, R199). -/
def zoneDesc (s : State) (x n : Nat) : List Byte := Map.get (fun _ => []) s.men.winAct (x * 64 + n)
def zoneSt (s : State) (x n : Nat) : ZoneSt := Map.get (fun _ => {}) s.men.zone (x * 64 + n)
def setZoneSt (s : State) (x n : Nat) (z : ZoneSt) : State := s.modMen (fun m => { m with zone := Map.set (fun _ => {}) m.zone (x * 64 + n) z })

/-- Zones of facet x that are defined. -/
def definedZones (s : State) (x : Nat) : List Nat := (List.range 64).filter (fun n => zoneDefined (s.zoneDesc x n))

/-! ## Windows (R199, R257) -/

/-- MET sets the arm bit of facet `x`'s windows and exclusion plane (R25). -/
def armWindows (s : State) (x : Nat) : State :=
  s.modMen (fun m => if m.winArm / 2 ^ x % 2 = 1 then m else { m with winArm := m.winArm + 2 ^ x })

/-- At line 0, slot 0 of a frame of port `x` the stream takes an armed set of windows with its plane (R24, R25). A window that becomes undefined leaves no
alarm behind. (DEDUCED, log entry 47.) -/
def winCopy (s : State) (x : Nat) : State :=
  if s.men.winArm / 2 ^ x % 2 = 0 then s
  else
    let mine := fun (k : Nat) => decide (x * 81920 ≤ k) && decide (k < (x + 1) * 81920)
    let s := s.modMen (fun m =>
      { m with winArm := m.winArm - 2 ^ x,
               winAct := (List.range 64).foldl (fun z n => Map.set (fun _ => []) z (x * 64 + n) (s.zoneHeld x n)) m.winAct,
               maskAct := m.maskAct.filter (fun e => decide (e.1 < x * 81920)) ++ m.masks.filter (fun e => mine e.1) ++
                 m.maskAct.filter (fun e => decide ((x + 1) * 81920 ≤ e.1)),
               zone := m.zone.filter (fun e => e.1 / 64 != x || zoneDefined (s.zoneHeld x (e.1 % 64))) })
    s

/-- The exclusion cell of a pixel. -/
def cellOf (s : State) (x row col : Nat) : Nat :=
  (Memory.byte s.men.maskAct (x * 81920 + row / 4 * 160 + col / 16)).toNat / 4 ^ (col / 4 % 4) % 4

/-- The cell is excluded from a zone of these layers. -/
def cellExcluded (cell layers : Nat) : Bool := cell != 0 && layers / 2 ^ (cell - 1) % 2 == 1

/-- Pixel (row, col) lies in the zone's rectangle and in no excluded cell. -/
def inZone (s : State) (x : Nat) (d : List Byte) (row col : Nat) : Bool :=
  zf d 0 2 ≤ col && col ≤ zf d 4 2 && zf d 2 2 ≤ row && row ≤ zf d 6 2 && !cellExcluded (s.cellOf x row col) (zf d 15 1)

/-- The windows that a pixel hits (R199); none on a part without the enclave. -/
def windowHits (s : State) (x row col code flags : Nat) : List Nat :=
  if !s.variantM || flags != 0 then []
  else (s.definedZones x).filter (fun n => let d := s.zoneDesc x n; s.inZone x d row col && decide (zf d 8 2 ≤ code))

/-! ## Pins (R260) -/

/-- A zone of facet x is in alarm. -/
def zoneAlarm (s : State) (x n : Nat) : Bool := (s.zoneSt x n).absOn || (s.zoneSt x n).rateOn

/-- Pin k is active through the alarms of zones routed to it. -/
def pinAlarm (s : State) (k : Nat) : Bool :=
  [0, 1, 2, 3].any (fun x => (s.definedZones x).any (fun n => s.zoneAlarm x n && zf (s.zoneDesc x n) 14 1 / 2 ^ k % 2 == 1))

/-- Pin k is active: alarms, or a hit of a frame in hand; inactive while MET does not run. -/
def pinActive (s : State) (k : Nat) : Bool := s.metUp && (s.pinAlarm k || [0, 1, 2, 3].any (fun x => (s.facetMen x).hits / 2 ^ k % 2 == 1))

/-- MEN_ALARM, MEN_ZALM and the alarm bits of MEN_FACET follow the zones and hits. -/
def showAlarms (s : State) : State :=
  let bits := fun (f : Nat → Bool) (n : Nat) => ((List.range n).filter f).foldl (fun v k => v + 2 ^ k) 0
  let al := fun x => (s.definedZones x).any (s.zoneAlarm x)
  let s' := (s.put MEN_ALARM_pins (bits s.pinActive 4)).put MEN_ALARM_facets (bits al 4)
  [0, 1, 2, 3].foldl (fun t x =>
    ((t.setNum (MEN_ZALM_LO x) (bits (fun n => zoneDefined (s.zoneDesc x n) && s.zoneAlarm x n) 32)).setNum (MEN_ZALM_HI x)
      (bits (fun n => zoneDefined (s.zoneDesc x (n + 32)) && s.zoneAlarm x (n + 32)) 32)).setFacetBit x 5 (al x)) s'

/-- ALARM_HIT: a decided pixel of port p that hits an immediate window drives the pins of its route, unless the frame carries "shutter" or the test DAC is on. (DEDUCED, log entry 47.) -/
def alarmHit (s : State) (p row col : Nat) (o : PixOut) : State :=
  if !s.metUp || s.marksOf (64 + p) / 2 ^ 7 % 2 == 1 || s.testOn p then s
  else
    let pins := ((s.windowHits p row col o.code o.flags).filter (fun n => zf (s.zoneDesc p n) 14 1 / 16 % 2 == 1)).foldl
      (fun m n => m ||| zf (s.zoneDesc p n) 14 1 % 16) 0
    if pins = 0 then s
    else
      let fresh := ((List.range 4).filter (fun k => pins / 2 ^ k % 2 == 1 && !s.pinActive k)).foldl (fun v k => v + 2 ^ k) 0
      (s.modFacetMen p (fun f => { f with hits := f.hits ||| pins, pulses := f.pulses ||| fresh })).showAlarms

/-! ## Zone statistics (R258) -/

/-- The pixels of a zone in a slot: (row, col, code, counts). -/
def zonePixels (s : State) (x slot : Nat) (d : List Byte) (rows : Nat) : List (Nat × Nat × Nat × Bool) :=
  let w := (s.port x).width
  let base := s.slotBase x slot
  let y1 := min (zf d 6 2 + 1) rows
  let x1 := min (zf d 4 2 + 1) w
  (List.range (y1 - zf d 2 2)).flatMap (fun i => (List.range (x1 - zf d 0 2)).filterMap (fun j =>
    let r := zf d 2 2 + i
    let c := zf d 0 2 + j
    let k := r * w + c
    if s.inZone x d r c then
      let bad := s.poisoned (base + s.planeOff x slot 2 + 2 * k) || s.poisoned (base + s.planeOff x slot 3 + k)
      some (r, c, s.codeOf x slot k, !bad && s.flagOf x slot k == 0)
    else none))

/-- MET reads the lines of a zone's box from the code and flags planes of a slot. (DESIGN CHOICE for the class, log entry 65.) -/
def zoneRead (s : State) (x slot : Nat) (d : List Byte) (rows : Nat) : State :=
  let w := (s.port x).width
  let base := s.slotBase x slot
  let n := min (zf d 4 2 + 1) w - zf d 0 2
  (List.range (min (zf d 6 2 + 1) rows - zf d 2 2)).foldl (fun s i =>
    let k := (zf d 2 2 + i) * w + zf d 0 2
    (s.dramRead 3 14 (base + s.planeOff x slot 2 + 2 * k) (2 * n)).dramRead 3 14 (base + s.planeOff x slot 3 + k) n) s

/-- The values of a zone over a frame in slot `slot`. With no counting pixel the spec states no maximum, minimum, mean or place: they are free. (DEDUCED, log entry 47.) -/
def zoneValues (s : State) (x n slot rows : Nat) (z : ZoneSt) : ZoneSt :=
  let d := s.zoneDesc x n
  let px := s.zonePixels x slot d rows
  let good := px.filter (fun q => q.2.2.2)
  let codes := good.map (fun q => q.2.2.1)
  let mx := codes.foldl max 0
  let place := good.find? (fun q => q.2.2.1 == mx)
  let free := fun (k : Nat) => Config.emptyMean (s.freeCtr + k) % 65536
  let any := !good.isEmpty
  { z with n := good.length, max := if any then mx else free 0, min := if any then codes.foldl min 65535 else free 1,
           mean := if any then (2 * codes.sum + codes.length) / (2 * codes.length) else free 2,
           row := match place with | some q => q.1 | none => free 3, col := match place with | some q => q.2.1 | none => free 4,
           above := (codes.filter (fun c => decide (zf d 8 2 ≤ c))).length, excluded := px.length - good.length }

/-- One condition's alarm: set at once, cleared after `hold` measured frames without it (R259). -/
def alarmStep (cond on : Bool) (off hold : Nat) : Bool × Nat :=
  if cond then (true, 0) else if on then (if hold ≤ off + 1 then (false, 0) else (true, off + 1)) else (false, 0)

/-- A zone judged at the confirmation of a measured frame. (DEDUCED, log entry 47.) -/
def zoneJudge (s : State) (x n slot rows frame : Nat) : State :=
  let d := s.zoneDesc x n
  let z := s.zoneValues x n slot rows (s.zoneSt x n)
  let abs := decide (zf d 16 3 ≤ z.above)
  let prev := (z.hist.find? (fun e => (e.1 + zf d 12 1) % 2 ^ 32 == frame)).map (·.2)
  let rate := zf d 10 2 != 0 && z.n != 0 && (match prev with | some m => decide (m + zf d 10 2 ≤ z.max) | none => false)
  let a := alarmStep abs z.absOn z.absOff (zf d 13 1)
  let r := alarmStep rate z.rateOn z.rateOff (zf d 13 1)
  s.setZoneSt x n { z with absCond := abs, rateCond := rate, absOn := a.1, absOff := a.2, rateOn := r.1, rateOff := r.2,
                           hist := (if z.n = 0 then z.hist else (frame, z.max) :: z.hist).take 256 }

/-- A zone entry of a record (R265). -/
def zoneEntry (n : Nat) (z : ZoneSt) : List Byte :=
  leBytes 1 n ++ leBytes 1 (b2n z.absOn + 2 * b2n z.rateOn + 4 * b2n z.absCond + 8 * b2n z.rateCond + 16 * b2n (z.n == 0)) ++ leBytes 2 z.max ++ leBytes 2 z.min ++
    leBytes 2 z.mean ++ leBytes 2 z.col ++ leBytes 2 z.row ++ leBytes 3 z.above ++ leBytes 3 z.excluded

/-- Defined zones of a group. -/
def groupZones (s : State) (x g : Nat) : List Nat := (s.definedZones x).filter (fun n => n / 8 == g)

/-- The tick of the confirmation locus (line0 + Hf, 32, 0) of the frame in hand of port p, if its raster has come to that line (R258). -/
def confirmTick (s : State) (p : Nat) : Option Nat :=
  let x := s.raster p
  let l := (s.port p).line0 + (s.port p).height
  if !x.running ∨ x.line < l then none
  else if x.line = l then some (min (x.lineAt + 96 * 32) x.lineEnd)
  else some s.now

/-- ZONE_CONFIRMATION: at its locus the frame of port p is judged; alarms, records and pins follow (R258–R260, R263), and a new alarm aborts the port's
flat-field (R226). A frame that does not deliver is confirmed as not measured. -/
def zoneConfirmation (s : State) (p : Nat) : State :=
  match (if s.metUp && (s.facetMen p).confirm then s.confirmTick p else none) with
  | none => s
  | some t =>
    let s := s.advanceTo t
    let r := s.raster p
    let slot := s.get (PCE_SLOT_last p)
    let blank := (s.facetMen p).blank
    let marks := s.marksOf (if blank then 64 + p else p * 16 + slot)
    let m := fun b => marks / 2 ^ b % 2 == 1
    let measured := !(blank || m 7 || m 9 || m 0)
    let s := (s.modFacetMen p (fun f => { f with confirm := false, judged := true })).setFacetBit p 6 (!measured)
    let zones := s.definedZones p
    let rows := s.dramNum (s.slotBase p slot + 6) 2
    let s := if measured then s.dramRead 3 14 (s.slotBase p slot) 8 else s
    let before := fun n => ((s.zoneSt p n).absOn, (s.zoneSt p n).rateOn)
    let s' := if measured then (zones.foldl (fun t n => (t.zoneRead p slot (t.zoneDesc p n) rows).zoneJudge p n slot rows r.frame) s).drawn else s
    let fr : RecFrame := { frame := r.frame, epoch := r.epoch, marks := marks, settling := s.bit (CSU_SETTLE_settling p), bound := s.get (CSU_SETTLE_bound p) }
    let s' := if measured then s'.modFacetMen p (fun f => { f with last := some fr }) else s'
    let after := fun n => ((s'.zoneSt p n).absOn, (s'.zoneSt p n).rateOn)
    let changed := zones.filter (fun n => before n != after n)
    let set := zones.any (fun n => (!(before n).1 && (after n).1) || (!(before n).2 && (after n).2))
    let div := s.recDiv p
    let periodic := div != 0 && r.frame % div == 0
    let s' := if changed.isEmpty then s' else s'.menEvt 2
    let s' := (List.range 8).foldl (fun t g =>
      let zs := t.groupZones p g
      let es := zs.map (fun n => zoneEntry n (t.zoneSt p n))
      let t := if changed.any (fun n => n / 8 == g) then (t.buildRecord 1 (some p) 0 (some fr) r.frame r.epoch es false).1 else t
      if periodic && !zs.isEmpty then
        match (t.facetMen p).last with
        | some f => (t.buildRecord 0 (some p) 0 (some f) r.frame r.epoch es false).1
        | none => (t.buildRecord 0 (some p) 0 none r.frame r.epoch [] false).1
      else t) s'
    let s' := if periodic then s'.modFacetMen p (fun f => { f with last := none }) else s'
    let s' := if set then (s'.recAlarm p r.frame).ffAbort p else s'
    let pulses := (s'.facetMen p).pulses
    let lone := ((List.range 4).filter (fun k => pulses / 2 ^ k % 2 == 1 && !s'.pinAlarm k)).length
    let s' := s'.modFacetMen p (fun f => { f with hits := 0, pulses := 0 })
    ((List.range lone).foldl (fun t _ => t.bump MEN_ALARM_pulses) s').showAlarms

/-- The header of port p's frame is written: a full frame waits for its confirmation, a short one is not measured (R259). -/
def menFrameDone (s : State) (p : Nat) : State :=
  if (s.port p).height ≤ (s.port p).rows then s.modFacetMen p (fun f => { f with confirm := true })
  else (s.modFacetMen p (fun f => { f with judged := true })).setFacetBit p 6 s.metUp

/-- Port p's frame takes an armed set of windows; the alarm registers and pins follow it at once, and an alarm that goes with its window is an alarm cleared (R275–R277).
(DEDUCED, log entry 47.) -/
def takeWindows (s : State) (p : Nat) : State :=
  let t := s.winCopy p
  if !s.metUp || s.men.winArm / 2 ^ p % 2 = 0 then t
  else
    let gone := (s.definedZones p).any (fun n => s.zoneAlarm p n && !t.zoneAlarm p n)
    (if gone then t.menEvt 2 else t).showAlarms

/-- A frame of port p starts: an armed set of windows is taken, a frame before it that was never judged is not measured (R259, R277), frames since the last passed
test count up (R264), a frame that does not deliver waits for its confirmation, and every kat_div-th frame makes a vector due (R270). -/
def menFrame (s : State) (p : Nat) : State :=
  let s := s.takeWindows p
  let s := if s.metUp && !(s.facetMen p).judged then s.setFacetBit p 6 true else s
  let blank := !s.bit (FPP_STAT_delivering p)
  let due := s.katDiv != 0 && (s.raster p).frame % s.katDiv == 0
  s.modFacetMen p (fun f => { f with since := sat 0xFFFF (f.since + 1), confirm := blank, blank := blank, judged := false,
                                     katDue := f.katDue || due, katDone := false })

/-- The port starts anew: it must pass a known-answer test again (R272). -/
def katRestart (s : State) (p : Nat) : State := s.modFacetMen p (fun f => { f with passed := false })

/-! ## Known-answer tests (R270, R271) -/

/-- The last delivered row of port p's frame has closed. -/
def rowsClosed (s : State) (p : Nat) : Bool := (s.port p).closed || decide (0 < (s.port p).rows ∧ s.rowsDue p ≤ (s.port p).rows)

/-- The blanking of R212: the last delivered row of port p's frame has closed, or the raster has not reached line0. -/
def katWindow (s : State) (p : Nat) : Bool := s.rowsClosed p || decide ((s.raster p).line < (s.port p).line0)

/-- A vector of `n` results that enters stage 1 now meets no live result: none of those accepted enters in its ticks, and the raster stays in the blanking. -/
def katFits (s : State) (p n : Nat) : Bool :=
  let x := s.raster p
  let e := x.posAt (s.now + n)
  (s.liveTicks p).all (fun t => decide (t < s.now ∨ s.now + n ≤ t)) &&
    (!x.running || decide (e.line < (s.port p).line0) || (s.rowsClosed p && e.frame == x.frame))

/-- KAT_INJECT: a live port's vector that is due is injected in the blanking, one in a frame; after a first mismatch MET repeats the same vector in the next
frame. One that would meet a live result is held (R212, R270, R271). -/
def katInject (s : State) (p : Nat) (vec : List KatItem) : State :=
  let f := s.facetMen p
  if !s.metUp || !s.bit (FPP_CTL_live p) || !s.katWindow p || !(f.again.isSome || f.katDue) || f.katDone || !(Map.get (fun _ => []) s.kat p).isEmpty then s
  else
    let v := (f.again.getD vec).take 64
    let s := { s with kat := Map.set (fun _ => []) s.kat p v }
    let s := s.modStream p (fun x => { x with katAt := if s.katFits p v.length then some s.now else none })
    s.modFacetMen p (fun g => { g with katDone := true, katDue := g.katDue && g.again.isSome })

/-- KAT_RESULT: once the last result of the vector has left stage 9, MET compares every output with its expectation. Answers whether the port must be fenced. -/
def katResult (s : State) (p : Nat) : State × Bool :=
  let vec := Map.get (fun _ => []) s.kat p
  match (if vec.isEmpty || !s.metUp then none else (s.stream p).katAt) with
  | none => (s, false)
  | some t =>
    let s := s.advanceTo (t + vec.length + 15)
    let ok := s.katOk p (s.windowHits p) vec
    let s := { s.modStream p (fun x => { x with katAt := none }) with kat := Map.set (fun _ => []) s.kat p [] }
    if ok then (((s.modFacetMen p (fun f => { f with since := 0, passed := true, again := none })).setFacetBit p 3 false).metJudge, false)
    else if (s.facetMen p).again.isNone then (s.modFacetMen p (fun f => { f with again := some vec }), false)
    else
      let s := s.bump MEN_KAT_CNT_known
      let s := ((s.setFacetBit p 3 true).menEvt 5).auditNote 11 6 (0xFF00_0030 + p) 0 (s.get MEN_KAT_CNT_known)
      let s := (s.modFacetMen p (fun f => { f with again := none, katFence := true })).eventRecord 5
      (s.metJudge, true)

/-! ## Seal (R240, R241) -/

/-- SEAL_LOW_DECIDED; a part without the enclave has no seal (R2). -/
def sealLow (s : State) : State :=
  if !s.variantM then s
  else
    let s := (s.clrBit MEN_STAT_seal_pin).modMen (fun m => { m with decided := true })
    match s.sealState with
    | 2 => (((s.put MEN_STAT_seal 0).menEvt 0).auditNote 0 1 0xFF00_0001 2 0).eventRecord 2
    | 1 => ((s.put MEN_STAT_seal 0).menEvt 0).auditNote 0 1 0xFF00_0001 1 0
    | _ => s

/-- The staging areas that stand when the seal leaves OPEN: none, but that of a WRITE_CURVE request in progress, which completes (R242, R262). -/
def stagingKept (m : MenSt) : List (Nat × List W32) :=
  match m.busy with
  | some (_, 0x12, pay, true) => m.staging.filter (fun e => e.1 == ofLe (pay.take 1))
  | _ => []

/-- SEAL_HIGH_DECIDED: OPEN moves to CLOSING, and every staging area empties (R262). -/
def sealHigh (s : State) : State :=
  if !s.variantM then s
  else
    let s := (s.setBit MEN_STAT_seal_pin).modMen (fun m => { m with decided := true })
    if s.sealState = 0 then ((s.put MEN_STAT_seal 1).menEvt 0).modMen (fun m => { m with staging := stagingKept m, leftOpen := m.busy.isSome }) else s

/-- IDENTITY_COMPLETE: CLOSING moves to SEALED, once a request in progress has completed (R242). -/
def identityComplete (s : State) : State :=
  if s.sealState != 1 || !s.metUp || s.men.busy.isSome then s
  else
    let s := s.computeIdentity
    ((((s.put MEN_STAT_seal 2).menEvt 0).auditNote 0 2 0xFF00_0001 1 2).eventRecord 3).clearCauses.metJudge

/-! ## Start and reset of MET (R274) -/

/-- Registers of the public page that a reset of the enclave returns to their reset values; MEN_ID never reads zero again (R3). -/
def menRegs : List Nat :=
  [MEN_EVT, MEN_LEGAL_CRC, MEN_CAUSE, MEN_FACET, MEN_ALARM, MEN_REC_SEQ_LO, MEN_REC_SEQ_HI, MEN_REC_CNT, MEN_KAT_CNT, MEN_TIME_NONCE_LO, MEN_TIME_NONCE_HI] ++
    (List.range 8).map MEN_KEYHASH ++ (List.range 12).map MEN_REJ ++ [0, 1, 2, 3].map MEN_ZALM_LO ++ [0, 1, 2, 3].map MEN_ZALM_HI ++ [MEN_RSP_SEQ, MEN_RSP_STATUS] ++
    (List.range 16).map MEN_RSP_DATA

/-- MET, its private memory, the zone engine, the signer and the read latches of the public page and of MET-private space are reset; P1 and the windows in the streams stay (R34, R274). (DEDUCED, log entry 46.) -/
def menClear (s : State) : State :=
  let s := { s with rlatch := s.rlatch.filter (fun e => e.1 % 2 ^ 24 / 0x1000 != 0x12 && e.1 % 2 ^ 24 / 0x8_0000 != 1) }
  let s := menRegs.foldl (fun s a => s.setReg a (regReset a)) s
  let s := ((s.clrBit MEN_STAT_key_present).clrBit MEN_STAT_time_set).clrBit MEN_STAT_time_verified
  let s := (s.put MEN_STAT_state 0).clrBit MEN_STAT_ident_stale
  let s := { s with kat := [], cores := Map.set (fun _ => {}) s.cores 5 { readyAt := s.now }, nvs := { s.nvs with mregs := [], mbuf := [], pendM := none, run := s.nvs.run.map (fun (r : NvsRun) => { r with lost := r.lost || r.met }) } }
  s.modMen (fun m => { m with up := false, sig := 0, staging := [], opens := [], built := [], queue := [], left := 0, lostBit := false, zone := [], busy := none, leftOpen := false,
                              facets := m.facets.filterMap (fun e => if e.2.katFence then some (e.1, { katFence := true }) else none),
                              digest := [], utc := 0, utcWall := 0, p1Bad := [], testFail := false, fwFail := false, retryAt := [] })

/-- Every port leaves its fence, and with it the fence of its known-answer test. -/
def dropKatFences (s : State) : State := [0, 1, 2, 3].foldl (fun s p => s.modFacetMen p (fun f => { f with katFence := false })) s

/-- ENCLAVE_RESET. (DEDUCED, log entry 46.) -/
def enclaveReset (s : State) : State :=
  if !s.variantM then s
  else ((s.menClear.setNum MEN_RSTCNT (sat 0xFFFF (s.num MEN_RSTCNT + 1))).modMen (fun m => { m with wasReset := true }))

/-- A new nonce (R255). -/
def drawNonce (s : State) : State :=
  let v := (Config.random64 s.freeCtr).toNat
  ((s.drawn).setNum MEN_TIME_NONCE_LO (v % 2 ^ 32)).setNum MEN_TIME_NONCE_HI (v / 2 ^ 32)

/-- MET_BOOT_COMPLETE, after NVS recall: `fwOk` and `testOk` are the outcomes of the firmware verification and the self-test, `bad` the P1 items whose two copies
differ. An enclave whose firmware fails stays in BOOT until it is reset. (DEDUCED, log entry 51.) -/
def metBoot (s : State) (fwOk testOk : Bool) (bad : List Nat) : State :=
  if !s.variantM || s.men.up || s.men.fwFail || !s.bit NVS_STAT_ready then s
  else if !fwOk then (s.setNum MEN_ID 0xFFFF_FFFF).modMen (fun m => { m with fwFail := true })
  else
    let v := (Config.imageVersion s.image).toNat
    let s := s.setNum MEN_ID (if v = 0 then 1 else v)
    let s := { s.modMen (fun m => { m with up := true, p1Bad := bad, testFail := !testOk, winArm := 15 }) with coefArm := 15 }
    let s := ((s.publishKey).drawNonce).computeIdentity
    let n := s.num MEN_RSTCNT
    let s := if s.men.wasReset then
        ((s.menEvt 6).auditNote 11 6 0xFF00_0040 (n - 1) n).modMen (fun m => { m with wasReset := false })
      else s
    ((s.eventRecord 1).metJudge).showAlarms

/-- TIME_VERIFY_EXPIRY: time_valid seconds after the verified time was set (R255). -/
def timeVerifyExpiry (s : State) : State :=
  if !s.bit MEN_STAT_time_verified then s
  else
    (s.advanceWall (s.men.utcWall + s.timeValid * 1000 * wallMs)).clrBit MEN_STAT_time_verified

end State
end Sys2Proof.Machine
end

