-- ==== Sys2Proof/Machine/Nvs.lean ====
section
/-! DEFINITION. Machine/Nvs.lean: the non-volatile store (spec 15): pages and partitions, the window, the write engine, records, counters, wear and
retirement, recall and the hold of writes. `m` is true for MET's private copy of the registers. -/

namespace Sys2Proof.Machine
open R

/-- Partition of a page (R408). -/
def partition (p : Nat) : Nat := if p < 256 then 0 else if p < 768 then 1 else if p < 1024 then 2 else 3

/-- A group as a counter cell: its CRC-8 is right and the constant byte stands at `pos` (R421). -/
def cellOk (b : List Byte) (pos c : Nat) : Bool :=
  decide (crc8 (b.take 7) = (b.getD 7 0#8).toNat) && decide ((b.getD pos 0#8).toNat = c)

/-- U of an upper copy, if it is valid; a zero copy holds 0. -/
def upperOf (b : List Byte) : Option Nat :=
  if b.all (fun x => decide (x = 0#8)) then some 0
  else if cellOk b 5 0x5C && decide ((b.getD 6 0#8).toNat = 0) then some (ofLe (b.take 5)) else none

/-- An upper copy, and unary cell `i` with tag `u`. -/
def upperBytes (u : Nat) : List Byte :=
  let b := leBytes 5 u ++ [0x5C#8, 0#8]
  b ++ leBytes 1 (crc8 b)
def unaryBytes (u i : Nat) : List Byte :=
  let b := leBytes 5 u ++ [BitVec.ofNat 8 i, 0xA5#8]
  b ++ leBytes 1 (crc8 b)

/-- Whether a group is unary cell `i` with tag `u`. -/
def unaryIs (b : List Byte) (u i : Nat) : Bool := decide (b = unaryBytes u i)

namespace State

def modNvs (s : State) (f : NvsSt → NvsSt) : State := { s with nvs := f s.nvs }

/-! ## Registers of the two sides -/

/-- Register `a` of a side. -/
def nreg (s : State) (m : Bool) (a : Nat) : W32 := if m then Map.get regReset s.nvs.mregs a else s.reg a
def setNreg (s : State) (m : Bool) (a : Nat) (v : W32) : State := if m then s.modNvs (fun x => { x with mregs := Map.set regReset x.mregs a v }) else s.setReg a v
def nget (s : State) (m : Bool) (f : Field) : Nat := bitsOf (s.nreg m f.addr) f.hi f.lo
def nput (s : State) (m : Bool) (f : Field) (v : Nat) : State := s.setNreg m f.addr (withBits (s.nreg m f.addr) f.hi f.lo v)
def nbump (s : State) (m : Bool) (f : Field) : State := s.nput m f (sat 0xFFFF (s.nget m f + 1))

/-- An event bit of a side. -/
def nvsEvt (s : State) (m : Bool) (f : Field) : State := s.nput m f 1

def nvsReady (s : State) : Bool := s.bit NVS_STAT_ready
def wrHold (s : State) : Bool := s.bit NVS_STAT_wr_hold

/-! ## Pages -/

def pageMeta (s : State) (p : Nat) : PageMeta := Map.get (fun _ => {}) s.nvs.pages p
def setPage (s : State) (p : Nat) (x : PageMeta) : State := s.modNvs (fun n => { n with pages := Map.set (fun _ => {}) n.pages p x })
def isRetired (s : State) (p : Nat) : Bool := (s.pageMeta p).retired != 0
def isTorn (s : State) (p g : Nat) : Bool := Map.get (fun _ => false) s.nvs.torn (p * 256 + g)

/-- The page that the engine writes (R414). -/
def busyPage (s : State) : Option Nat := s.nvs.run.map (fun r => r.cmd.page)

/-- Whether a side can read page `p` now: recall complete, not busy, not retired, and P1 only by MET (R408, R414, R416, R424). -/
def pageReads (s : State) (m : Bool) (p : Nat) : Bool :=
  s.nvsReady && decide (s.busyPage ≠ some p) && !s.isRetired p && (m || partition p != 1)

/-- The eight bytes of a group as they lie in the array. -/
def groupBytes (s : State) (p g : Nat) : List Byte := Memory.bytes s.nvs.arr (p * 2048 + 8 * g) 8

/-- What a counter or record resolution reads of a group: zero where the page cannot be read, nothing where the group is torn. -/
def readGroup (s : State) (m : Bool) (p g : Nat) : Option (List Byte) :=
  if !s.pageReads m p then some (List.replicate 8 0#8) else if s.isTorn p g then none else some (s.groupBytes p g)

/-- A group written and verified. -/
def putGroup (s : State) (p g : Nat) (b : List Byte) : State :=
  s.modNvs (fun n => { n with arr := Memory.setBytes n.arr (p * 2048 + 8 * g) b, torn := Map.set (fun _ => false) n.torn (p * 256 + g) false })

/-- A group write: one more in the page's count (R424). -/
def writeGroup (s : State) (p g : Nat) (b : List Byte) : State :=
  let x := s.pageMeta p
  (s.putGroup p g b).setPage p { x with groupWrites := sat 0xFF_FFFF (x.groupWrites + 1) }

/-- A page write that took `t` units of 10 µs: count, times and the wear event (R424). -/
def countPageWrite (s : State) (m : Bool) (p t : Nat) : State :=
  let x := s.pageMeta p
  let t := sat 0xFFFF t
  let s := s.setPage p { x with pageWrites := sat 0xFF_FFFF (x.pageWrites + 1), last := t, largest := max x.largest t }
  if s.nget m NVS_CFG_warn_wt < t then s.nvsEvt m NVS_EVT_wear else s

/-- A group whose contents are undefined (R415, R426). -/
def tearGroup (s : State) (p g : Nat) : State :=
  let b := (List.range 8).map (fun i => Config.tornByte (s.freeCtr * 8 + i))
  (s.drawn).modNvs (fun n => { n with arr := Memory.setBytes n.arr (p * 2048 + 8 * g) b, torn := Map.set (fun _ => false) n.torn (p * 256 + g) true })

/-- A page is retired (R424). -/
def retire (s : State) (p cause : Nat) : State :=
  if s.isRetired p then s
  else ((s.setPage p { s.pageMeta p with retired := cause }).nvsEvt false NVS_EVT_retire).nvsEvt true NVS_EVT_retire

/-- Pages of partition `k` that are not retired (NVS_FREE0, NVS_FREE1). -/
def freePages (s : State) (k : Nat) : Nat :=
  let size := match k with | 0 => 256 | 1 => 512 | 2 => 256 | _ => 1024
  size - (s.nvs.pages.filter (fun e => partition e.1 == k && e.2.retired != 0)).length

/-! ## Counters (R421–R423) -/

/-- Group `k` of counter slot `slot` as a side reads it. -/
def slotGroup (s : State) (m : Bool) (p slot k : Nat) : Option (List Byte) := s.readGroup m p (64 * slot + k)

/-- U of upper copy `k`, when it is valid. -/
def upper (s : State) (m : Bool) (p slot k : Nat) : Option Nat := (s.slotGroup m p slot k).bind upperOf

/-- U: the larger value that a valid upper copy holds. -/
def counterU (s : State) (m : Bool) (p slot : Nat) : Option Nat :=
  match s.upper m p slot 0, s.upper m p slot 1 with
  | some x, some y => some (max x y)
  | some x, none => some x
  | none, some y => some y
  | none, none => none

/-- k: unary cells in place, counted from cell 0. -/
def countCells (s : State) (m : Bool) (p slot u : Nat) : Nat → Nat → Nat
  | 0, i => i
  | n + 1, i =>
    match s.slotGroup m p slot (2 + i) with
    | some b => if unaryIs b u i then s.countCells m p slot u n (i + 1) else i
    | none => i

/-- U and k of a slot; none: the counter is corrupt (R422). -/
def resolveSlot (s : State) (m : Bool) (p slot : Nat) : Option (Nat × Nat) :=
  (s.counterU m p slot).map (fun u => (u, s.countCells m p slot u 32 0))

/-- Unary cells beyond the count that are not zero. -/
def staleCells (s : State) (p slot k : Nat) : List Nat :=
  (List.range 32).filter (fun i => decide (k ≤ i) && (s.isTorn p (64 * slot + 2 + i) || (s.groupBytes p (64 * slot + 2 + i)).any (fun b => b != 0#8)))

/-- The group writes of an INCR, in order: stale cells erased, then the increment (R422, R423). None: the counter is corrupt. -/
def incrSteps (s : State) (p slot : Nat) : Option (List (Nat × List Byte)) :=
  let m := true
  let s' := s.modNvs (fun n => { n with run := none })
  (s'.resolveSlot m p slot).map (fun (u, k) =>
    let zero := List.replicate 8 (0#8 : Byte)
    let stale := (s.staleCells p slot k).map (fun i => (64 * slot + 2 + i, zero))
    stale ++
      (if k < 31 then [(64 * slot + 2 + k, unaryBytes u k)]
       else
         let other := if s'.upper m p slot 1 = some u then 0 else 1
         (64 * slot + other, upperBytes (u + 1)) :: (List.range 31).map (fun i => (64 * slot + 2 + i, zero))))

/-! ## Commands (R412–R415) -/

/-- Whether a side may write page `p` (R408). -/
def mayWrite (m : Bool) (p : Nat) : Bool := if m then partition p == 1 else partition p == 2 || partition p == 3

/-- A side's slot is occupied. (DEDUCED, log entry 38.) -/
def slotTaken (s : State) (m : Bool) : Bool :=
  (if m then s.nvs.pendM.isSome else s.nvs.pendS.isSome) || (match s.nvs.run with | some r => r.met == m | none => false)

/-- A write command arrives: PROGRAM, GROUP, ERASE, INCR, CFMT. (DEDUCED, log entry 38.) -/
def nvsCommand (s : State) (m : Bool) (c : NvsCmd) : State :=
  if !s.nvsReady || s.wrHold || s.slotTaken m || s.isRetired c.page || !mayWrite m c.page || decide (s.busyPage = some c.page) ||
      (decide (c.op = 4) && !(s.pageMeta c.page).counter) then s
  else s.modNvs (fun n => if m then { n with pendM := some c } else { n with pendS := some c })

/-- The group writes of a write, in order, with the buffer's bytes of now. -/
def writeSteps (s : State) (m : Bool) (c : NvsCmd) : Option (List (Nat × List Byte)) :=
  let zero := List.replicate 8 (0#8 : Byte)
  match c.op with
  | 2 => some [(c.group, Memory.bytes (if m then s.nvs.mbuf else s.nvs.wbuf) (8 * c.group) 8)]
  | 3 => some ((List.range 256).map (fun g => (g, zero)))
  | 4 => s.incrSteps c.page c.slot
  | 6 => some ((List.range 256).map (fun g => (g, zero)))
  | _ => some ((List.range 256).map (fun g => (g, Memory.bytes (if m then s.nvs.mbuf else s.nvs.wbuf) (8 * g) 8)))

/-- NVS_CMD_STAT of a command that has ended. -/
def nvsResult (s : State) (m : Bool) (op page result : Nat) : State := s.setNreg m NVS_CMD_STAT (BitVec.ofNat 32 (2 ^ 31 + result * 2 ^ 28 + op * 2 ^ 24 + page))

/-- A write ends: the engine is free, NVS_CMD_STAT is written and done is set (R413); what an enclave reset has cut off from MET is lost (R417). -/
def nvsEnd (s : State) (r : NvsRun) (result : Nat) : State :=
  let s := s.modNvs (fun n => { n with run := none, cut := none })
  if r.lost then s else (s.nvsResult r.met r.cmd.op r.cmd.page result).nvsEvt r.met NVS_EVT_done

/-- NVS_WRITE_START: MET's command first. A command whose page has been retired meanwhile is dropped. From the decision of a shutdown on the engine takes
nothing but its record (R446). The write works with the buffer as it stands at its start. (DEDUCED, log entry 38.) -/
def nvsWriteStart (s : State) : State :=
  if s.hk.shdn.isSome || s.nvs.run.isSome || s.wrHold || !s.nvsReady then s
  else
    match s.nvs.pendM, s.nvs.pendS with
    | some c, _ =>
      let s := s.modNvs (fun n => { n with pendM := none })
      if s.isRetired c.page then s else s.modNvs (fun n => { n with run := some { met := true, cmd := c, steps := s.writeSteps true c } })
    | none, some c =>
      let s := s.modNvs (fun n => { n with pendS := none })
      if s.isRetired c.page then s else s.modNvs (fun n => { n with run := some { met := false, cmd := c, steps := s.writeSteps false c } })
    | none, none => s

/-- The effect of the first `n` steps of a verified write; `t` is its time in units of 10 µs. Answers whether every step was done: only then is a page write counted. -/
def applyWrite (s : State) (r : NvsRun) (steps : List (Nat × List Byte)) (n t : Nat) : State × Bool :=
  let c := r.cmd
  let whole := decide (steps.length ≤ n)
  let s :=
    if c.op = 2 ∨ c.op = 4 then (steps.take n).foldl (fun s e => s.writeGroup c.page e.1 e.2) s
    else
      let s := (steps.take n).foldl (fun s e => s.putGroup c.page e.1 e.2) s
      if whole then s.countPageWrite r.met c.page t else s
  let s := if c.op = 6 ∧ whole then s.setPage c.page { s.pageMeta c.page with counter := true } else s
  (if c.op = 3 ∧ whole then
      s.modNvs (fun x => { x with
        shdnFull := (if x.shdnFull = some c.page then none else x.shdnFull), logFull := (if x.logFull = some c.page then none else x.logFull) })
    else s, whole)

/-- Every group of a write is undefined (R415). -/
def tearWrite (s : State) (r : NvsRun) : State := (r.steps.getD []).foldl (fun s e => s.tearGroup r.cmd.page e.1) s

/-- A PROGRAM is one attempt over its whole page; every other write goes on group by group. -/
def stepwise (r : NvsRun) : Bool := r.cmd.op != 1

/-- The step of a write whose attempt is in progress or has failed last: the one before those that the hold has cut off, or one that the spec leaves open. -/
def stepInHand (s : State) (r : NvsRun) : Nat :=
  match s.nvs.cut with
  | some n => n - 1
  | none => Config.stepInHand s.freeCtr

/-- A failed or interrupted attempt leaves what it was writing undefined; the steps before it stand and those after it have not begun (R423, R425, R426). (DEDUCED, log entry 50.) -/
def tearAttempt (s : State) (r : NvsRun) : State :=
  if !stepwise r then s.tearWrite r
  else
    let l := r.steps.getD []
    let k := min (s.stepInHand r) (l.length - 1)
    let s := (l.take k).foldl (fun s e => if r.cmd.op = 4 then s.writeGroup r.cmd.page e.1 e.2 else s.putGroup r.cmd.page e.1 e.2) s.drawn
    ((l.drop k).take 1).foldl (fun s e => s.tearGroup r.cmd.page e.1) s

/-- NVS_WRITE_DONE: the attempt in progress ends, verified or failed after 8 ms; a verified page write took `t` units of 10 µs. -/
def nvsWriteDone (s : State) (ok : Bool) (t : Nat) : State :=
  match s.nvs.run with
  | none => s
  | some r =>
    if r.retry.isSome then s
    else if ok then
      match r.steps with
      | none => s.nvsEnd r 3
      | some steps =>
        let n := match s.nvs.cut with | some k => if stepwise r then max 1 k else steps.length | none => steps.length
        let (s, whole) := s.applyWrite r steps n t
        if whole then s.nvsEnd r 0 else { s.nvsEnd r 2 with sca := { s.sca with lost := s.sca.lost + 1 } }
    else if s.nget r.met NVS_CFG_retries ≤ r.fails then ((s.tearWrite r).retire r.cmd.page 1).nvsEnd r 1
    else if s.nvs.cut.isSome then
      { (s.tearAttempt r).nvsEnd r 2 with sca := { s.sca with lost := s.sca.lost + 1 } }
    else s.modNvs (fun n => { n with run := some { r with fails := r.fails + 1, retry := some (s.nget r.met NVS_CFG_retry_lines) } })

/-- A line start of H counts for a waiting retry (R415). -/
def nvsLine (s : State) : State :=
  match s.nvs.run with
  | some r => s.modNvs (fun n => { n with run := some { r with retry := r.retry.map (fun k => k - 1) } })
  | none => s

/-- NVS_RETRY: retry_lines after a failed attempt the next attempt begins. -/
def nvsRetry (s : State) : State :=
  match s.nvs.run with
  | some r => if r.retry = some 0 then s.modNvs (fun n => { n with run := some { r with retry := none } }) else s
  | none => s

/-- CREAD (R422): read at once; a page without the counter flag is ignored. -/
def nvsCread (s : State) (m : Bool) (p slot : Nat) : State :=
  if !s.nvsReady || !(s.pageMeta p).counter then s
  else
    let (v, res) := match s.resolveSlot m p slot with
      | some (u, k) => (32 * u + k, 0)
      | none => (2 ^ 45 - 1, 3)
    ((s.setNreg m NVS_CNT_VAL_LO (BitVec.ofNat 32 v)).setNreg m NVS_CNT_VAL_HI (BitVec.ofNat 32 (v / 2 ^ 32 % 2 ^ 13))).nvsResult m 5 p res

/-! ## Records (R418–R420) -/

/-- Bytes of a page from group `g` on, `n` of them; none where a group is torn. -/
def recordBytes (s : State) (m : Bool) (p g n : Nat) : Option (List Byte) :=
  ((List.range ((n + 7) / 8)).foldr (fun i o =>
    match s.readGroup m p (g + i), o with
    | some b, some r => some (b ++ r)
    | _, _ => none) (some [])).map (fun l => l.take n)

/-- A valid copy's sequence number and bytes (R418). -/
def recordCopy (s : State) (m : Bool) (p g : Nat) : Option (Nat × List Byte) :=
  match s.recordBytes m p g 16 with
  | none => none
  | some h =>
    let len := ofLe ((h.drop 8).take 2)
    if h.take 2 != [0x5A#8, 0xA5#8] || len % 8 != 0 || decide (2032 < len) || decide (2048 < 8 * g + 16 + len) then none
    else
      match s.recordBytes m p (g + 2) len with
      | none => none
      | some pay => if crc32 (h.take 12 ++ pay) = ofLe ((h.drop 12).take 4) then some (ofLe ((h.drop 4).take 4), h ++ pay) else none

/-- RESOLVE: an invalid request ends at once, any other is busy until RESOLVE_DONE. -/
def nvsResolve (s : State) (m : Bool) : State :=
  if !s.nvsReady || s.nget m NVS_REC_STAT_busy = 1 then s
  else
    let a := s.nget m NVS_REC_A_page
    let b := s.nget m NVS_REC_B_page
    if a = b ∨ partition a ≠ partition b then (s.setNreg m NVS_REC_STAT 3#32).nvsResult m 7 a 0
    else s.setNreg m NVS_REC_STAT 0x8000_0000#32

/-- The copies of P1 item `n` differ (R420). Which of the enclave's items bears the number is open. (UNVERIFIED, log entry 50.) -/
def p1Corrupt (s : State) (n : Nat) : State := { s with men := { s.men with p1Bad := Config.p1Item n :: s.men.p1Bad.filter (fun i => i != Config.p1Item n) } }

/-- RESOLVE_DONE (R419). -/
def nvsResolveDone (s : State) (m : Bool) : State :=
  if s.nget m NVS_REC_STAT_busy = 0 then s
  else
    let pa := s.nget m NVS_REC_A_page
    let pb := s.nget m NVS_REC_B_page
    let a := s.recordCopy m pa (s.nget m NVS_REC_A_group)
    let b := s.recordCopy m pb (s.nget m NVS_REC_B_group)
    let done := fun (s : State) (v : W32) => (s.setNreg m NVS_REC_STAT v).nvsResult m 7 pa 0
    match a, b with
    | none, none => done s 0#32
    | some _, none => done s 1#32
    | none, some _ => done s 2#32
    | some (x, ba), some (y, bb) =>
      if x = y then
        if ba = bb then done s 1#32
        else if partition pa = 1 then (done s 8#32).p1Corrupt (ofLe ((ba.drop 2).take 2))
        else (done s 5#32).nvsEvt m NVS_EVT_ambig
      else
        let d := (x + 2 ^ 32 - y) % 2 ^ 32
        if d = 2 ^ 31 then (done s (if Config.tieNewer s.freeCtr then 1#32 else 2#32)).drawn else done s (if d < 2 ^ 31 then 1#32 else 2#32)

/-! ## The window (R411) -/

/-- The word at byte offset `o` of the window; `err` is what the code finds in the group: one wrong bit, or an uncorrectable error. -/
def nvsWindowRead (s : State) (m : Bool) (o : Nat) (err : Option Bool) : State × W32 :=
  let p := s.nget m NVS_RD_PAGE_page
  let o := o % 2048 / 4 * 4
  if !s.pageReads m p then (s, 0#32)
  else
    let w := BitVec.ofNat 32 (Memory.num s.nvs.arr (p * 2048 + o) 4)
    match err with
    | none => (s, w)
    | some false => ((s.nbump m NVS_ECC_CNT_ce).nvsEvt m NVS_EVT_ce, w)
    | some true =>
      let s := s.nbump m NVS_ECC_CNT_ue
      let s := if s.nget m NVS_EVT_ue = 1 then s else s.setNreg m NVS_UE_ADDR (BitVec.ofNat 32 (p * 65536 + o / 8))
      (s.nvsEvt m NVS_EVT_ue, 0#32)

/-- A word stored into a side's write buffer. -/
def nvsWindowWrite (s : State) (m : Bool) (o : Nat) (v : W32) : State :=
  s.modNvs (fun n =>
    if m then { n with mbuf := Memory.setNum n.mbuf (o % 2048 / 4 * 4) 4 v.toNat } else { n with wbuf := Memory.setNum n.wbuf (o % 2048 / 4 * 4) 4 v.toNat })

/-- A write of NVS_CMD (R412). -/
def nvsCmdWrite (s : State) (m : Bool) (v : W32) : State :=
  let c : NvsCmd := { op := bitsOf v 31 28, page := bitsOf v 26 16, group := bitsOf v 15 8, slot := bitsOf v 1 0 }
  match c.op with
  | 1 => s.nvsCommand m c | 2 => s.nvsCommand m c | 3 => s.nvsCommand m c | 4 => s.nvsCommand m c | 6 => s.nvsCommand m c
  | 5 => s.nvsCread m c.page c.slot
  | 7 => s.nvsResolve m
  | _ => s

/-- NVS_STAT, NVS_INFO0–2 and NVS_FREE0–1 as a side reads them; the metadata is there once recall has loaded it (R416). -/
def nvsStat (s : State) (m : Bool) : Nat :=
  let mine := fun (r : NvsRun) => r.met == m
  (match s.busyPage with | some p => 2 ^ 31 + p * 65536 | none => 0) + b2n s.nvs.shdnFull.isSome * 16 + b2n s.wrHold * 8 +
    b2n (if m then s.nvs.pendM.isSome else s.nvs.pendS.isSome) * 4 + b2n (s.nvs.run.any mine) * 2 + b2n s.nvsReady
def nvsInfo (s : State) (m : Bool) (k : Nat) : Nat :=
  let x := if s.nvsReady then s.pageMeta (s.nget m NVS_INFO_SEL_page) else {}
  match k with
  | 0 => x.pageWrites
  | 1 => x.largest * 65536 + x.last
  | _ => b2n (x.retired != 0) * 2 ^ 31 + x.retired * 2 ^ 29 + b2n x.counter * 2 ^ 28 + x.groupWrites
def nvsFree (s : State) (k : Nat) : Nat :=
  if !s.nvsReady then (if k = 0 then 0x0100_0100 else 0x0400_0200)
  else if k = 0 then s.freePages 2 * 65536 + s.freePages 0 else s.freePages 3 * 65536 + s.freePages 1

/-! ## Recall, hold and system records -/

/-- Stale cells of one counter slot erased (R422). -/
def eraseStale (s : State) (p slot : Nat) : State :=
  match s.resolveSlot true p slot with
  | none => s
  | some (_, k) => (s.staleCells p slot k).foldl (fun s i => s.writeGroup p (64 * slot + 2 + i) (List.replicate 8 0#8)) s

/-- NVS_RECALL_DONE (R416): metadata loaded, every counter page resolved, ready. -/
def nvsRecallDone (s : State) : State :=
  if s.nvsReady then s
  else
    let s := ((s.setBit NVS_STAT_ready).nvsEvt false NVS_EVT_ready).nvsEvt true NVS_EVT_ready
    let cs := (s.nvs.pages.filter (fun e => e.2.counter && e.2.retired == 0)).map (fun e => e.1)
    cs.foldl (fun s p => [0, 1, 2, 3].foldl (fun s k => s.eraseStale p k) s) s

/-- The hold of writes at a supply warning (R425): `steps` is how many steps of the running command are done when the one in progress ends. -/
def nvsHold (s : State) (steps : Nat) : State :=
  let gone := b2n s.nvs.pendS.isSome + b2n s.nvs.pendM.isSome
  let s := (s.setBit NVS_STAT_wr_hold).modNvs (fun n => { n with pendS := none, pendM := none })
  let s := { s with sca := { s.sca with lost := s.sca.lost + gone } }
  match s.nvs.run with
  | none => s
  | some r =>
    if r.retry.isSome then { (s.tearAttempt r).nvsEnd r 2 with sca := { s.sca with lost := s.sca.lost + 1 } }
    else if s.nvs.cut.isSome then s else s.modNvs (fun n => { n with cut := some steps })

/-- The lowest slot of 64 bytes of a page whose eight groups are all zero. -/
def erasedSlot (s : State) (p : Nat) : Option Nat :=
  if s.isRetired p then none
  else (List.range 32).find? (fun k => (List.range 8).all (fun i => !s.isTorn p (8 * k + i) && (s.groupBytes p (8 * k + i)).all (fun b => b == 0#8)))

/-- A 64-byte record of the NVS's own written into that slot by eight group writes; answers whether there was one. (DEDUCED, log entry 52.) -/
def logRecord (s : State) (p : Nat) (r : List Byte) : State × Bool :=
  match s.erasedSlot p with
  | none => (s, false)
  | some k => ((List.range 8).foldl (fun s i => s.writeGroup p (8 * k + i) ((r.drop (8 * i)).take 8)) s, true)

/-- The supply or the clock fails: the attempt in progress leaves its groups undefined, everything volatile is gone (R426). -/
def nvsPowerCut (s : State) : State :=
  let s := match s.nvs.run with | some r => s.tearAttempt r | none => s
  s.modNvs (fun n => { n with wbuf := [], mbuf := [], mregs := [], run := none, pendS := none, pendM := none, cut := none })

end State
end Sys2Proof.Machine
end

