-- ==== Sys2Proof/Machine/Slots.lean ====
section
/-! DEFINITION. Machine/Slots.lean: the frames that producers complete and the output streams that send them (R377, R379, R383). -/

namespace Sys2Proof.Machine
open R

namespace State

def txStream (s : State) (k : Nat) : TxStream := Map.get (fun _ => {}) s.vio.streams k
def setTxStream (s : State) (k : Nat) (x : TxStream) : State := { s with vio := { s.vio with streams := Map.set (fun _ => {}) s.vio.streams k x } }
def modTxStream (s : State) (k : Nat) (f : TxStream → TxStream) : State := s.setTxStream k (f (s.txStream k))

/-- Complete frames of a source: facet f under f, correction stream p under 8 + p. -/
def doneCount (s : State) (key : Nat) : Nat := Map.get (fun _ => 0) s.vio.done key
def frameDone (s : State) (key : Nat) : State := { s with vio := { s.vio with done := Map.set (fun _ => 0) s.vio.done key (s.doneCount key + 1) } }

/-- A frame of correction stream `p` is complete. One without a raw plane is passed over without count by the streams that send that plane (R378). -/
def pceFrameDone (s : State) (p : Nat) : State :=
  let s := s.frameDone (8 + p)
  if (s.stream p).rawSlots / 2 ^ s.get (PCE_SLOT_last p) % 2 = 1 then s
  else (List.range 16).foldl (fun s k =>
    if s.get (VIO_S_CFG_kind k) = 1 ∧ s.get (VIO_S_CFG_index k) = p then s.modTxStream k (fun x => { x with seen := x.seen + 1 }) else s) s

/-- The source of a kind 0 or 1 stream in `VioSt.done`. -/
def sourceKey (kind index : Nat) : Nat := if kind = 0 then index else 8 + index % 4

/-- A producer begins writing slot `n` of a source: a stream that is sending it sends the rest with zero payload (R383). -/
def vioTruncate (s : State) (key n : Nat) : State :=
  (List.range 16).foldl (fun s k =>
    match (s.txStream k).cur with
    | some f =>
      if f.kind ≤ 1 ∧ sourceKey f.kind f.index = key ∧ f.slot = n ∧ ¬ f.truncated then
        ((s.modTxStream k (fun x => { x with cur := some { f with truncated := true } })).bump (VIO_S_CNT_truncated k)).setBit VIO_EVT_trunc
      else s
    | none => s) s

end State
end Sys2Proof.Machine
end

