-- ==== Sys2Proof/Machine/Ipl.lean ====
section
/-! DEFINITION. Machine/Ipl.lean: the image pipeline (spec 10): facets, the band scheduler, the thermal and the visible path and the output frames. -/

namespace Sys2Proof.Machine
open R

/-! ## Pixel arithmetic -/

/-- Mean of numbers, rounded half up; over none, `d`. -/
def meanHalfUp (d : Nat) (l : List Nat) : Nat := if l.length = 0 then d else (2 * l.sum + l.length) / (2 * l.length)

/-- A mean whose rounding the spec does not name. -/
def meanOpen (sum n : Nat) : Nat := sum / n + (if sum % n ≠ 0 ∧ Config.meanRoundsUp sum n then 1 else 0)

/-- A coordinate limited to the frame: missing lines and columns repeat the nearest (R284). -/
def edge (n : Nat) (i : Int) : Nat := (clampI 0 ((n : Int) - 1) i).toNat

/-- Stage 1: dead-pixel replacement (R290). -/
def deadPixel (mask : Nat) (inp : Int → Int → Nat × Nat) (r c : Int) : Nat :=
  let x := inp r c
  if x.2 &&& mask = 0 then x.1
  else
    let good := fun (o : List (Int × Int)) => (o.map (fun d => inp (r + d.1) (c + d.2))).filter (fun y => y.2 &&& mask == 0) |>.map (·.1)
    let direct := good [(0, -1), (0, 1), (-1, 0), (1, 0)]
    let diag := good [(-1, -1), (-1, 1), (1, -1), (1, 1)]
    if direct ≠ [] then meanHalfUp x.1 direct else meanHalfUp x.1 diag

/-- Distance class of a window offset (R291). -/
def distClass (i j : Int) : Nat :=
  match (i * i + j * j).toNat with | 0 => 0 | 1 => 1 | 2 => 2 | 4 => 3 | 5 => 4 | _ => 5

/-- The 25 offsets of a 5 × 5 window. -/
def window5 : List (Int × Int) := ([-2, -1, 0, 1, 2] : List Int).flatMap (fun i => ([-2, -1, 0, 1, 2] : List Int).map (fun j => (i, j)))

/-- The offsets of the same colour in a Bayer window (R296). -/
def windowBayer : List (Int × Int) := ([-2, 0, 2] : List Int).flatMap (fun i => ([-2, 0, 2] : List Int).map (fun j => (i, j)))

/-- Stage 2: edge-preserving filter over a window (R291). -/
def spatialNr (offs : List (Int × Int)) (sk : Nat → Nat) (sigma0 strength : Nat) (x : Int → Int → Nat) (r c : Int) : Nat :=
  let sigma := max sigma0 1
  let pc := x r c
  let ws := offs.map (fun o =>
    let q := x (r + o.1) (c + o.2)
    let dd := absI ((q : Int) - pc)
    (sk (distClass o.1 o.2) * (if sigma ≤ dd then 0 else 16 - dd * 16 / sigma), q))
  let sw := (ws.map (·.1)).sum
  let acc := (ws.map (fun w => w.1 * w.2)).sum
  let out : Int := if sw = 0 then pc else ((acc + sw / 2) / sw : Nat)
  ((pc : Int) + asr ((out - pc) * strength + 128) 8).toNat

/-- Stage 3: motion-adaptive recursion against the history value (R292). -/
def temporalNr (kMax lo hi x h : Nat) : Nat :=
  let d := absI ((x : Int) - h)
  let k := if d ≤ lo then kMax else if hi ≤ d ∨ hi ≤ lo then 0 else kMax * (hi - d) / (hi - lo)
  ((x : Int) + asr (((h : Int) - x) * k + 128) 8).toNat

/-- A 1,024-entry table read with interpolation at a 16-bit value (R298). -/
def curveAt (t : Nat → Nat) (v : Nat) : Nat :=
  let i := v / 64
  let a : Int := t i
  let b : Int := t (if i < 1023 then i + 1 else 1023)
  (a + asr ((b - a) * (v % 64 : Nat) + 32) 6).toNat

/-- Stage 4: the palette index (R294). -/
def toneIndex (curve : Nat → Nat) (dgain dlim x lp : Nat) : Nat :=
  let det : Int := (x : Int) - lp
  let o := clampI 0 65535 ((curveAt curve lp : Int) + clampI (-(dlim : Int)) dlim (asr (det * dgain + 128) 8))
  o.toNat / 64

/-- A palette word widened to three 16-bit channels (R295). -/
def paletteRgb (w : Nat) : Nat × Nat × Nat :=
  let f := fun v => v * 64 + v / 16
  (f (w / 2 ^ 20 % 1024), f (w / 2 ^ 10 % 1024), f (w % 1024))

/-- The colour matrix (R297). -/
def colourMatrix (c : Nat → Nat → Int) (ofs : Nat → Int) (x : Nat × Nat × Nat) : Nat × Nat × Nat :=
  let f := fun i => (clampI 0 65535 (asr (c i 0 * x.1 + c i 1 * x.2.1 + c i 2 * x.2.2 + 2048) 12 + ofs i)).toNat
  (f 0, f 1, f 2)

/-- Colour of a Bayer site: 0 red, 1 green, 2 blue (R296). -/
def bayer (cfa r c : Nat) : Nat :=
  let y := (r + cfa / 2) % 2
  let x := (c + cfa % 2) % 2
  if y = 0 ∧ x = 0 then 0 else if y = 1 ∧ x = 1 then 2 else 1

/-- Demosaic at a site (R296). -/
def demosaic (cfa : Nat) (x : Int → Int → Nat) (r c : Nat) : Nat × Nat × Nat :=
  let at_ := fun (i j : Int) => x (r + i) (c + j)
  let own := at_ 0 0
  let hPair := meanHalfUp own [at_ 0 (-1), at_ 0 1]
  let vPair := meanHalfUp own [at_ (-1) 0, at_ 1 0]
  if bayer cfa r c = 1 then
    if bayer cfa r (c + 1) = 0 then (hPair, own, vPair) else (vPair, own, hPair)
  else
    let dh := absI ((at_ 0 (-1) : Int) - at_ 0 1)
    let dv := absI ((at_ (-1) 0 : Int) - at_ 1 0)
    let g := if dh < dv then hPair else if dv < dh then vPair else meanHalfUp own [at_ 0 (-1), at_ 0 1, at_ (-1) 0, at_ 1 0]
    let o := meanHalfUp own [at_ (-1) (-1), at_ (-1) 1, at_ 1 (-1), at_ 1 1]
    if bayer cfa r c = 0 then (own, g, o) else (o, g, own)

/-- Y, Cb and Cr of an RGB pixel (R299). (PRESUMED, log entry 56.) -/
def toYuv (std709 limited : Bool) (p : Nat × Nat × Nat) : Nat × Nat × Nat :=
  let f := fun (a b c : Int) (ofs : Int) => (clampI 0 255 (asr (a * p.1 + b * p.2.1 + c * p.2.2 + 128) 8 + ofs)).toNat
  match std709, limited with
  | false, false => (f 77 150 29 0, f (-43) (-85) 128 128, f 128 (-107) (-21) 128)
  | false, true => (f 66 129 25 16, f (-38) (-74) 112 128, f 112 (-94) (-18) 128)
  | true, false => (f 54 183 19 0, f (-29) (-99) 128 128, f 128 (-116) (-12) 128)
  | true, true => (f 47 157 16 16, f (-26) (-86) 112 128, f 112 (-102) (-10) 128)

namespace State

def facet (s : State) (f : Nat) : FacetSt := Map.get (fun _ => {}) s.ipl.facets f
def setFacet (s : State) (f : Nat) (x : FacetSt) : State := { s with ipl := { s.ipl with facets := Map.set (fun _ => {}) s.ipl.facets f x } }
def modFacet (s : State) (f : Nat) (g : FacetSt → FacetSt) : State := s.setFacet f (g (s.facet f))

/-- A facet is ready (R287). -/
def facetReady (s : State) (f : Nat) : Bool :=
  s.bit (IPL_CTL_en f) && !s.bit (IPL_F_STAT_fenced f) && ((s.facet f).run.isSome || !(s.facet f).waiting.isEmpty)

/-- The facet's frames or its readiness have changed: IPL_f_STAT.active and backlog follow, and the credit of a facet that is not ready is 0 (R287, R289, R305). -/
def iplStat (s : State) (f : Nat) : State :=
  let s := if s.facetReady f then s else s.modFacet f (fun x => { x with credit := 0 })
  let x := s.facet f
  (s.wrBit (IPL_F_STAT_active f) 0 (x.run.isSome || !x.waiting.isEmpty || s.ipl.band == some f)).put (IPL_F_STAT_backlog f) (min 15 x.waiting.length)

/-- The facet's history becomes invalid (R293). -/
def histInvalid (s : State) (f : Nat) : State :=
  (s.modFacet f (fun x => { x with histValid := false, run := x.run.map (fun r => { r with cleared := true }) })).clrBit (IPL_F_STAT_seeded f)

/-! ## Active parameters and tables -/

/-- The active copy of a shadowed register. -/
def actReg (s : State) (a : Nat) : W32 := Map.get regReset s.ipl.act a
def actField (s : State) (f : Field) : Nat := bitsOf (s.actReg f.addr) f.hi f.lo

/-- Addresses of facet `f`'s shadowed registers (R304). -/
def shadowRegs (f : Nat) : List Nat :=
  [IPL_BLACK f, IPL_DPR f, IPL_SNR f, IPL_SNR_K f, IPL_TNR_K f, IPL_TNR_M f, IPL_TM f, IPL_WB0 f, IPL_WB1 f, IPL_CCM0 f, IPL_CCM1 f, IPL_CCM2 f,
   IPL_CCM3 f, IPL_CCM4 f, IPL_CCM_OFS0 f, IPL_CCM_OFS1 f]

/-- Word of a table bank. -/
def bankWord (s : State) (bank f off : Nat) : W32 := Map.get (fun _ => 0#32) s.ipl.banks (bank * 2 ^ 20 + f * 32768 + off)

/-- Entry formats of R306: bits that an entry of the window's offset keeps for facet `f`. -/
def tableMask (f off : Nat) : Nat :=
  if off < 0x1000 then (if f < 4 then 0x3FFF_FFFF else 0)
  else if off < 0x2000 then (if f < 4 then 0xFFFF else 0)
  else if off < 0x2C00 then 0xFFFF_FFFF
  else 0

/-- The table window shows the shadow bank (R286, R306). -/
def tableRead (s : State) (f off : Nat) : W32 := s.bankWord (1 - s.get (IPL_F_STAT_bank f)) f (off / 4 * 4)
def tableWrite (s : State) (f off : Nat) (v : W32) : State :=
  if s.bit (IPL_F_STAT_syncing f) then s
  else
    let k := (1 - s.get (IPL_F_STAT_bank f)) * 2 ^ 20 + f * 32768 + off / 4 * 4
    { s with ipl := { s.ipl with banks := Map.set (fun _ => 0#32) s.ipl.banks k (v &&& BitVec.ofNat 32 (tableMask f off)) } }

/-- TABLE_SYNC: the active bank is to be copied to the shadow bank. -/
def tableSync (s : State) (f : Nat) : State :=
  if s.bit (IPL_F_STAT_syncing f) then s else (s.setBit (IPL_F_STAT_syncing f)).modFacet f (fun x => { x with syncAt := s.now })

/-- A byte table (tone curve `ch`) of the active bank. -/
def toneEntry (s : State) (f ch i : Nat) : Nat :=
  (s.bankWord (s.get (IPL_F_STAT_bank f)) f (0x2000 + 0x400 * ch + i / 4 * 4)).toNat / 256 ^ (i % 4) % 256

/-! ## Output slots (R300) -/

def outStride (f w : Nat) : Nat := ((if f < 4 then 3 else 2) * w + 63) / 64 * 64
def outSlotSize (f w h : Nat) : Nat := up4k (4096 + outStride f w * h)
def outSlotBase (s : State) (f w h n : Nat) : Nat := s.get (IPL_OUT_BASE_output f) * 4096 + n * outSlotSize f w h

/-- The mean-field lookup of R294: bilinear among the block means of a grid of `bh` × `bw` blocks, centres at 64 b + 32, positions limited to the outermost centres. -/
def localMean (m : List (Nat × Nat)) (bw bh r c : Nat) : Nat :=
  let pos := fun (x n : Nat) => min (x - 32) (64 * (n - 1))
  let y := pos r bh
  let x := pos c bw
  let g := fun (i j : Nat) => Map.get (fun _ => 0) m (min i (bh - 1) * 256 + min j (bw - 1))
  let fy := y % 64
  let fx := x % 64
  ((64 - fy) * ((64 - fx) * g (y / 64) (x / 64) + fx * g (y / 64) (x / 64 + 1)) +
    fy * ((64 - fx) * g (y / 64 + 1) (x / 64) + fx * g (y / 64 + 1) (x / 64 + 1)) + 2048) / 4096

/-- Base of history plane `k` for a frame of w × h (R292). -/
def histBase (s : State) (f w h : Nat) (k : Bool) : Nat := s.get (IPL_HIST_BASE_history f) * 4096 + (if k then up4k (2 * w * h) else 0)

/-- Bytes of a visible input slot (R280). -/
def inSlotBase (s : State) (f n : Nat) : Nat := s.get (IPL_IN_BASE_visible f) * 4096 + n * up4k (2 * s.get (IPL_FMT_width f) * s.get (IPL_FMT_height f))

/-- Matrix coefficients and offsets of R297. -/
def ccm (s : State) (f i j : Nat) : Int :=
  sgn 16 (s.actField (match 3 * i + j with
    | 0 => IPL_CCM0_c00 f | 1 => IPL_CCM0_c01 f | 2 => IPL_CCM1_c02 f | 3 => IPL_CCM1_c10 f | 4 => IPL_CCM2_c11 f | 5 => IPL_CCM2_c12 f
    | 6 => IPL_CCM3_c20 f | 7 => IPL_CCM3_c21 f | _ => IPL_CCM4_c22 f))
def ccmOfs (s : State) (f i : Nat) : Int :=
  sgn 16 (s.actField (match i with | 0 => IPL_CCM_OFS0_ofs0 f | 1 => IPL_CCM_OFS0_ofs1 f | _ => IPL_CCM_OFS1_ofs2 f))

/-- Matrix and tone curves: three 8-bit channels (R297, R298). (PRESUMED, log entry 56.) -/
def finishRgb (s : State) (f : Nat) (rgb : Nat × Nat × Nat) : Nat × Nat × Nat :=
  let o := colourMatrix (s.ccm f) (s.ccmOfs f) rgb
  (curveAt (s.toneEntry f 0) o.1, curveAt (s.toneEntry f 1) o.2.1, curveAt (s.toneEntry f 2) o.2.2)

/-- Weight sk[k] of a distance class. -/
def snrWeight (s : State) (f k : Nat) : Nat := s.actField (IPL_SNR_K_all f) / 16 ^ k % 16

/-- The history value of pixel (r, c) of a frame of w × h (R292). -/
def histAt (s : State) (f w h : Nat) (k : Bool) (r c : Nat) : Nat := s.dramNum (s.histBase f w h k + 2 * (r * w + c)) 2

/-- Stage 3 of facet `f` on value `v` at (r, c) (R292, R293). -/
def stage3 (s : State) (f : Nat) (x : FacetSt) (w h r c v : Nat) : Nat :=
  if x.histValid then
    temporalNr (s.actField (IPL_TNR_K_k_max f)) (s.actField (IPL_TNR_M_m_lo f)) (s.actField (IPL_TNR_M_m_hi f)) v (s.histAt f w h x.histSel r c)
  else v

/-- One thermal pixel: its stage-3 value and its output bytes, in the order B, G, R of CSI-2 data type 0x24 (R290–R298). -/
def thermalPixel (s : State) (f : Nat) (x : FacetSt) (q : FacetFrame) (r c : Nat) : Nat × List Byte :=
  let plane := if s.bit (IPL_IN_CFG_plane f) then 2 else 1
  let inp := fun (i j : Int) =>
    let k := edge q.rows i * q.w + edge q.w j
    let a := q.base + planeAt q.pix plane + 2 * k
    let fl := q.base + planeAt q.pix 3 + k
    if s.poisoned a || s.poisoned fl then (0, 1) else (s.dramNum a 2, s.dramNum fl 1)
  let x2 := spatialNr window5 (s.snrWeight f) (s.actField (IPL_SNR_sigma f)) (s.actField (IPL_SNR_strength f)) (deadPixel (s.actField (IPL_DPR_mask f)) inp) r c
  let y := s.stage3 f x q.w q.rows r c x2
  let bank := s.get (IPL_F_STAT_bank f)
  let lp := if s.actField (IPL_TM_local_en f) = 1 ∧ x.meansOk then localMean x.means ((x.lastW + 63) / 64) ((x.lastRows + 63) / 64) r c else y
  let idx := toneIndex (fun i => (s.bankWord bank f (0x1000 + 4 * i)).toNat) (s.actField (IPL_TM_dgain f)) (s.actField (IPL_TM_dlim f)) y lp
  let o := s.finishRgb f (paletteRgb (s.bankWord bank f (4 * idx)).toNat)
  (y, [o.2.2, o.2.1, o.1].map (BitVec.ofNat 8))

/-- A raw value unpacked to the 16-bit scale (R296). -/
def unpackRaw (s : State) (f raw : Nat) : Nat :=
  (clampI 0 65535 ((raw * 2 ^ (if s.bit (IPL_FMT_raw12 f) then 4 else 6) : Nat) - (s.actField (IPL_BLACK_black f) : Int))).toNat

/-- Stage 1 of the visible path at (r, c): the temporal filter on the raw Bayer value. -/
def visibleStage1 (s : State) (f : Nat) (x : FacetSt) (q : FacetFrame) (r c : Nat) : Nat :=
  let a := q.base + 2 * (r * q.w + c)
  s.stage3 f x q.w q.rows r c (if s.poisoned a then 0 else s.unpackRaw f (s.dramNum a 2))

/-- R, G and B of a visible pixel, 8 bits each (R296–R298). -/
def visibleRgb (s : State) (f : Nat) (x : FacetSt) (q : FacetFrame) (r c : Nat) : Nat × Nat × Nat :=
  let y1 := fun (i j : Int) => s.visibleStage1 f x q (edge q.rows i) (edge q.w j)
  let y2 := spatialNr windowBayer (s.snrWeight f) (s.actField (IPL_SNR_sigma f)) (s.actField (IPL_SNR_strength f)) y1
  let d := demosaic (s.get (IPL_FMT_cfa f)) y2 r c
  let g := fun (v gain : Nat) => min ((v * gain + 2048) / 4096) 65535
  s.finishRgb f (g d.1 (s.actField (IPL_WB0_r f)), g d.2.1 (s.actField (IPL_WB0_g f)), g d.2.2 (s.actField (IPL_WB1_b f)))

/-- The four bytes of a horizontal pixel pair, in the order Cb, Y, Cr, Y of CSI-2 data type 0x1E (R299). -/
def visiblePair (s : State) (f : Nat) (x : FacetSt) (q : FacetFrame) (r c : Nat) : List Byte :=
  let yuv := fun (j : Nat) => toYuv (s.bit (IPL_OUT_CFG_std f)) (s.bit (IPL_OUT_CFG_range f)) (s.visibleRgb f x q r j)
  let a := yuv c
  let b := yuv (c + 1)
  [(a.2.1 + b.2.1 + 1) / 2, a.1, (a.2.2 + b.2.2 + 1) / 2, b.1].map (BitVec.ofNat 8)

/-- One line of a band: the stage-3 values (visible: stage-1 values) that become the history, and the output bytes. -/
def bandLine (s : State) (f : Nat) (x : FacetSt) (q : FacetFrame) (r : Nat) : List Nat × List Byte :=
  if f < 4 then
    let l := (List.range q.w).map (s.thermalPixel f x q r)
    (l.map (·.1), l.flatMap (·.2))
  else ((List.range q.w).map (s.visibleStage1 f x q r), (List.range (q.w / 2)).flatMap (fun j => s.visiblePair f x q r (2 * j)))

/-- Bytes 8–31 zero except width and height; the header of an output slot (R300). -/
def outHeader (s : State) (f : Nat) (q : FacetFrame) (fenced late throttled seeded : Bool) : List Byte :=
  leBytes 4 q.cnt ++
    leBytes 4 (b2n fenced + 2 * b2n late + 4 * b2n throttled + 8 * b2n seeded + 16 * b2n q.portFenced + 32 * b2n q.long) ++
    leBytes 2 q.w ++ leBytes 2 q.h ++ List.replicate 20 0#8 ++
    (if f < 4 then s.dramBytes q.base 32 else List.replicate 32 0#8)

/-- Key of the metadata marks of facet `f`'s output slot `n`. -/
def outMarkKey (f n : Nat) : Nat := 128 + f * 16 + n

/-- An output ring that has become shorter than its next slot goes on at slot 0 (R300). (DEDUCED, log entry 57.) -/
def outRewind (s : State) (f : Nat) : State := if s.get (IPL_OUT_CFG_slots f) ≤ s.get (IPL_OUT_SLOT_slot f) then s.put (IPL_OUT_SLOT_slot f) 0 else s

/-- The output frame of `q` is complete: header, marks of R382, slot registers and event (R300). (PRESUMED, log entry 56; DEDUCED, log entry 57.) -/
def outputFrame (s : State) (f : Nat) (q : FacetFrame) (fenced late throttled seeded : Bool) : State :=
  let n := s.get (IPL_OUT_SLOT_slot f)
  let base := s.outSlotBase f q.w q.h n
  let hdr := s.outHeader f q fenced late throttled seeded
  let src := if f < 4 then s.marksOf (f * 16 + q.slot) else 0
  let m := src ||| (2 * b2n fenced + 2 ^ 17 * b2n late + 2 ^ 18 * b2n throttled + 2 ^ 19 * b2n seeded + 2 ^ 20 * b2n q.long + 2 ^ 21 * b2n q.missed + 2 ^ 6 * b2n (decide (4 ≤ f) && q.supply) + 2 ^ 5 * b2n (decide (4 ≤ f) && q.slow))
  let s := ((if f < 4 then s.dramRead 2 8 q.base 32 else s).dramWrite 2 8 base (hdr ++ List.replicate (4096 - 64) 0#8)).setMarks (outMarkKey f n) m
  let slots := s.get (IPL_OUT_CFG_slots f)
  let s := { s with ipl := { s.ipl with outAt := Map.set (fun _ => 0) s.ipl.outAt (f * 16 + n) base } }
  (((s.vioTruncate f n).frameDone f).put (IPL_OUT_SLOT_last f) n |>.put (IPL_OUT_SLOT_slot f) (if n + 1 < slots then n + 1 else 0)).setBit IPL_EVT0_frame f

/-! ## Bands and the scheduler (R284–R289) -/

/-- Bands of a frame. -/
def bandsOf (q : FacetFrame) : Nat := max 1 ((q.rows + 63) / 64)

/-- Lines of band `b`. -/
def bandLines (q : FacetFrame) (b : Nat) : Nat := min 64 (q.rows - 64 * b)

/-- The frame at the head of a facet: in progress, else the oldest waiting. -/
def headFrame (s : State) (f : Nat) : Option FacetFrame := match (s.facet f).run with | some r => some r.frame | none => (s.facet f).waiting.head?

def sched (s : State) (f : Nat) (fld : Nat → Field) : Nat := s.get (fld f)

/-- `a` is preferred to `b` on a tie: lower prio value, then lower index. -/
def prioBefore (s : State) (a b : Nat) : Bool :=
  s.get (IPL_SCHED_prio a) < s.get (IPL_SCHED_prio b) || (s.get (IPL_SCHED_prio a) == s.get (IPL_SCHED_prio b) && decide (a < b))

/-- Tick at which a frame's deadline ends, at the line length now running. -/
def deadlineTick (s : State) (f : Nat) (q : FacetFrame) : Int :=
  let x := s.raster (s.counted (s.get (IPL_SCHED_raster f)))
  (x.lineAt : Int) + ((s.get (IPL_SCHED_deadline f) : Int) - q.age) * (96 * x.lineLen : Nat)

/-- Half of the facet's deadline, as it now stands, has passed for a frame (R288). -/
def halfPassed (s : State) (f : Nat) (q : FacetFrame) : Bool :=
  s.get (IPL_SCHED_deadline f) != 0 && decide (s.get (IPL_SCHED_deadline f) ≤ 2 * q.age)

/-- The best of a list under an order. -/
def bestOf (better : Nat → Nat → Bool) : List Nat → Option Nat
  | [] => none
  | a :: r => match bestOf better r with | none => some a | some b => some (if better b a then b else a)

/-- The scheduler's choice with the credits it leaves (R287). -/
def pickBand (s : State) : Option Nat × State :=
  let ready := [0, 1, 2, 3, 4, 5].filter s.facetReady
  let urg := ready.filter (fun f => match s.headFrame f with | some q => q.urgent && s.halfPassed f q | none => false)
  let due := fun f => match s.headFrame f with | some q => s.deadlineTick f q | none => 0
  match bestOf (fun a b => due a < due b || (due a == due b && s.prioBefore a b)) urg with
  | some f => (some f, s)
  | none =>
    let s := ready.foldl (fun s f => s.modFacet f (fun x => { x with credit := x.credit + s.get (IPL_SCHED_weight f) })) s
    let tot : Nat := (ready.map (fun f => s.get (IPL_SCHED_weight f))).sum
    match bestOf (fun a b => (s.facet a).credit > (s.facet b).credit || ((s.facet a).credit == (s.facet b).credit && s.prioBefore a b)) ready with
    | some f => (some f, s.modFacet f (fun x => { x with credit := x.credit - tot }))
    | none => (none, s)

/-- Byte range of a facet's context in the band store (R285). -/
def ctxBase (s : State) (f : Nat) : Nat := s.get IPL_CTX_BASE_context * 4096 + 16384 * f

/-- Band-store bytes from `b` on that the IPL writes: any error of their words is gone. The spec gives the region, not what lies where in it. (UNVERIFIED, log entry 57.) -/
def bandFill (s : State) (b k : Nat) : State :=
  let k := min k (bandBytes - b)
  let s := (s.badWords true b k).foldl (fun s w => s.setErr w none) s
  ({ s with band := Memory.setBytes s.band b ((List.range k).map (Config.contextByte s.freeCtr)) }).drawn

/-- Band-store words that the IPL reads are checked. Answers the offsets of those that could not be corrected (R302, R339). -/
def bandCheck (s : State) (b k : Nat) : State × List Nat :=
  (s.badWords true b k).foldl (fun x w => let y := x.1.eccRead true ((w - 2 ^ 40) * 8) 8; (y.1, if y.2 then x.2 ++ [(w - 2 ^ 40) * 8] else x.2)) (s, [])

/-- A context is saved. -/
def ctxSave (s : State) (f : Nat) : State := s.bandFill (s.ctxBase f) 16384

/-- A context is loaded: every word is checked. Answers whether one could not be corrected. -/
def ctxLoad (s : State) (f : Nat) : State × Bool :=
  let x := s.bandCheck (s.ctxBase f) 16384
  (x.1, !x.2.isEmpty)

/-! ## Input lines (R284, R345, R348) -/

/-- Byte range of facet `f`'s halo lines in the band store: six lines of 16 KiB after the contexts (R348). (DESIGN CHOICE for the lines' places, log entry 57.) -/
def haloBase (s : State) (f : Nat) : Nat := s.get IPL_CTX_BASE_context * 4096 + 6 * 16384 + 98304 * f

/-- Line `r` of a frame is read from DRAM: the facet's input and history. -/
def lineRead (s : State) (f : Nat) (q : FacetFrame) (r : Nat) : State :=
  let plane := if s.bit (IPL_IN_CFG_plane f) then 2 else 1
  let s := if f < 4 then
      (s.dramRead 2 8 (q.base + planeAt q.pix plane + 2 * q.w * r) (2 * q.w)).dramRead 2 8 (q.base + planeAt q.pix 3 + q.w * r) q.w
    else s.dramRead 2 8 (q.base + 2 * q.w * r) (2 * q.w)
  let x := s.facet f
  if x.histValid then s.dramRead 2 8 (s.histBase f q.w q.rows x.histSel + 2 * q.w * r) (2 * q.w) else s

/-- The lines of band `b` that no band of the frame has read from DRAM before. -/
def newLines (q : FacetFrame) (b : Nat) : List Nat := (List.range (min q.rows (64 * b + 67))).filter (fun r => b == 0 || decide (64 * b + 3 ≤ r))

/-- The six lines that a band and the next share are kept in the band store. -/
def haloSave (s : State) (f : Nat) : State := s.bandFill (s.haloBase f) 98304

/-- Band `b` begins with the halo lines that the band before kept; a line with a word that could not be corrected is read again from DRAM (R348). -/
def haloLoad (s : State) (f : Nat) (q : FacetFrame) (b : Nat) : State :=
  if b = 0 then s
  else
    let x := s.bandCheck (s.haloBase f) 98304
    ((List.range 6).filter (fun k => x.2.any (fun o => (o - s.haloBase f) / 16384 == k))).foldl (fun s k => s.lineRead f q (min (q.rows - 1) (64 * b - 3 + k))) x.1

/-- FACET_CONTEXT_COPY: at a band boundary an armed facet takes its shadows and swaps its banks, unless a bank copy runs (R285, R286). -/
def contextCopy (s : State) (f : Nat) : State :=
  if !s.bit (IPL_CTL_arm f) || s.bit (IPL_F_STAT_syncing f) then s
  else
    let s := (shadowRegs f).foldl (fun s a => { s with ipl := { s.ipl with act := Map.set regReset s.ipl.act a (s.reg a) } }) s
    (s.clrBit (IPL_CTL_arm f)).put (IPL_F_STAT_bank f) (1 - s.get (IPL_F_STAT_bank f))

/-- The facet takes its oldest waiting frame. -/
def takeFrame (s : State) (f : Nat) : State :=
  match (s.facet f).waiting with
  | [] => s
  | q :: rest =>
    let x := s.facet f
    let s := s.setFacet f { x with waiting := rest, run := some { frame := q } }
    if f < 4 ∧ (x.lastW ≠ q.w ∨ x.lastRows ≠ q.rows) then (s.modFacet f (fun y => { y with histValid := false })).clrBit (IPL_F_STAT_seeded f) else s

/-- The throttle is enforced (R444). -/
def enforced (s : State) : Bool := s.get HKT_THR_STAT_state == 2

/-- At a band boundary of the pipeline the throttle measures begin or end; waiting odd frames of thermal facets are skipped while they run (R301). -/
def throttleJudge (s : State) : State :=
  let s := if s.bit IPL_STAT_throttled = s.enforced then s else (s.wrBit IPL_STAT_throttled 0 s.enforced).setBit IPL_EVT1_throttle
  if s.bit IPL_STAT_throttled then
    [0, 1, 2, 3].foldl (fun s f => (s.modFacet f (fun x => { x with waiting := x.waiting.filter (fun q => q.cnt % 2 == 0) })).iplStat f) s
  else s

/-- The facet's fence takes effect (R302): no further band, no waiting frame. -/
def facetFenceNow (s : State) (f cause : Nat) : State :=
  let s := ((s.setBit (IPL_F_STAT_fenced f)).put (IPL_F_STAT_cause f) cause).setBit IPL_EVT1_fence f
  let s := s.modFacet f (fun x => { x with run := none, waiting := [] })
  let s := if s.ipl.loaded = some f then { s with ipl := { s.ipl with cont := false } } else s
  s.iplStat f

/-- The band of the chosen facet begins at its tick; a facet that is no longer ready gives way to a new choice, and so does one whose context cannot be read, which is fenced.
A context is saved and another loaded unless the last band was of the same facet and frame (R284, R285, R302). With the frame's first band its output slot is
written anew (R383). `fuel` bounds the choices by the number of facets.
(DEDUCED, log entry 57.) -/
def beginBand (s : State) : Nat → State
  | 0 => s
  | fuel + 1 =>
    match s.ipl.chosen with
    | none => s
    | some f0 =>
      let s := s.throttleJudge
      let (o, s) := if s.facetReady f0 then (some f0, s) else s.pickBand
      match o with
      | none => { s with ipl := { s.ipl with chosen := none } }
      | some f =>
        let s := if (s.facet f).run.isSome then s else s.takeFrame f
        match (s.facet f).run with
        | none => s
        | some r =>
          let switch := !(s.ipl.loaded == some f && s.ipl.cont)
          let (s, bad) := if switch then (match s.ipl.loaded with | some g => s.ctxSave g | none => s).ctxLoad f else (s, false)
          if bad then ({ s.facetFenceNow f 2 with ipl := { (s.facetFenceNow f 2).ipl with chosen := some f } }).beginBand fuel
          else
            let s := (if switch then s.contextCopy f else s).haloLoad f r.frame r.band
            let cyc := (bandLines r.frame r.band + 6) * ((r.frame.w + 1) / 2) + (if switch then 512 else 0)
            let s := { s with ipl := { s.ipl with band := some f, chosen := none, endAt := s.ipl.startAt + 2 * cyc, loaded := some f, cont := true,
                                                  busyFrom := s.ipl.startAt } }
            let s := s.modFacet f (fun x => { x with run := x.run.map (fun q => { q with throttled := q.throttled || s.bit IPL_STAT_throttled }) })
            let s := if r.band = 0 then s.vioTruncate f (s.get (IPL_OUT_SLOT_slot f)) else s
            ((s.put IPL_STAT_facet f).put (IPL_F_STAT_band f) r.band).iplStat f

/-- A chosen band whose tick has come begins. -/
def iplBegin (s : State) : State := if s.ipl.chosen.isSome && decide (s.ipl.startAt ≤ s.now) then s.beginBand 7 else s

/-- TABLE_SYNC_COMPLETE: 5,120 pipeline cycles later the banks agree. A band that was to begin before then began with the copy still running (R286). -/
def tableSyncComplete (s : State) (f : Nat) : State :=
  if !s.bit (IPL_F_STAT_syncing f) then s
  else
    let b := s.get (IPL_F_STAT_bank f)
    let s := ((s.advanceTo ((s.facet f).syncAt + 10240)).iplBegin).clrBit (IPL_F_STAT_syncing f)
    let m := (List.range 2816).foldl (fun m i => Map.set (fun _ => 0#32) m ((1 - b) * 2 ^ 20 + f * 32768 + 4 * i) (s.bankWord b f (4 * i))) s.ipl.banks
    { s with ipl := { s.ipl with banks := m } }

/-- The scheduler chooses; the band begins at the first tick that the pipeline is free (R287, R301). -/
def chooseBand (s : State) : State :=
  let (o, s) := s.pickBand
  ({ s with ipl := { s.ipl with band := none, chosen := o, startAt := max s.now s.ipl.freeAt } }.put IPL_STAT_facet 7).iplBegin

/-- An idle pipeline chooses at once. -/
def wakePipeline (s : State) : State := if s.ipl.band.isNone && s.ipl.chosen.isNone then s.chooseBand else s

/-- The frame of a facet ends: emitted, or abandoned. -/
def endFrame (s : State) (f : Nat) (r : FacetRun) : State :=
  let x := s.facet f
  let q := r.frame
  let s := if s.ipl.loaded = some f then { s with ipl := { s.ipl with cont := false } } else s
  if r.abandon then (s.setFacet f { x with run := none }).iplStat f
  else
    let late := s.get (IPL_SCHED_deadline f) != 0 && decide (s.get (IPL_SCHED_deadline f) ≤ q.age)
    let stride := outStride f q.w
    let base := s.outSlotBase f q.w q.h (s.get (IPL_OUT_SLOT_slot f)) + 4096
    let s := s.dramWrite 2 8 (base + stride * q.rows) (List.replicate (stride * (q.h - q.rows)) 0#8)
    let s := s.outputFrame f q false late r.throttled r.seeded
    let s := if late then (s.bump (IPL_CNT_late f)).setBit IPL_EVT1_late f else s
    let s := ((s.put (IPL_FSTAT0_minimum f) r.lo).put (IPL_FSTAT0_maximum f) r.hi).put (IPL_FSTAT1_mean f) (meanOpen r.sum r.n)
    let s := s.setFacet f { x with run := none, histValid := !r.cleared, histSel := !x.histSel, lastW := q.w, lastRows := q.rows, means := r.means,
                                   meansOk := !r.seeded }
    (s.wrBit (IPL_F_STAT_seeded f) 0 (!r.cleared)).iplStat f

/-- The lines of the band in progress are processed: history, statistics and output lines. -/
def runBand (s : State) (f : Nat) (r : FacetRun) : State × FacetRun :=
  let x := s.facet f
  let q := r.frame
  let stride := outStride f q.w
  let base := s.outSlotBase f q.w q.h (s.get (IPL_OUT_SLOT_slot f)) + 4096
  let hist := s.histBase f q.w q.rows (!x.histSel)
  let lines := (List.range (bandLines q r.band)).map (fun i => (64 * r.band + i, s.bandLine f x q (64 * r.band + i)))
  let s := (newLines q r.band).foldl (fun s i => s.lineRead f q i) s
  let s := lines.foldl (fun s l => (s.dramWrite 2 8 (hist + 2 * q.w * l.1) (l.2.1.flatMap (leBytes 2))).dramWrite 2 8 (base + stride * l.1) l.2.2) s
  let s := if r.band + 1 < bandsOf q then s.haloSave f else s
  let ys := lines.flatMap (fun l => l.2.1)
  let block := fun (k : Nat) => lines.flatMap (fun l => (l.2.1.drop (64 * k)).take 64)
  let means := (List.range ((q.w + 63) / 64)).foldl (fun a k => Map.set (fun _ => 0) a (r.band * 256 + k) (meanOpen (block k).sum (block k).length)) r.means
  (s,
    { r with band := r.band + 1, seeded := r.seeded || !x.histValid, lo := ys.foldl min r.lo, hi := ys.foldl max r.hi, sum := r.sum + ys.sum, n := r.n + ys.length,
             means := means })

/-- Busy ticks of the band just ended or stopped are added. -/
def addBusy (s : State) : State := { s with ipl := { s.ipl with busy := s.ipl.busy + (s.now - s.ipl.busyFrom) } }

/-- The pipeline is free again at `t`, or, while throttled, after an idle gap as long as the band just ended or stopped (R301). -/
def freeFrom (s : State) (t : Nat) : State :=
  { s with ipl := { s.ipl with band := none, freeAt := if s.bit IPL_STAT_throttled then t + (t - s.ipl.startAt) else t } }

/-- BAND_END: the band in progress ends, and the next is chosen. A band that waits for the end of an idle gap begins first. -/
def bandEnd (s : State) : State :=
  let s := if s.ipl.chosen.isSome then (s.advanceTo s.ipl.startAt).iplBegin else s
  match s.ipl.band with
  | none => s
  | some f =>
    match (s.facet f).run with
    | none => s
    | some r =>
      let s := (s.advanceTo s.ipl.endAt).addBusy
      let (s, r) := s.runBand f r
      let s := s.modFacet f (fun x => { x with run := some r })
      let s := { s with ipl := { s.ipl with band := none } }
      let s := if r.abandon || decide (bandsOf r.frame ≤ r.band) then s.endFrame f r else s.iplStat f
      ((s.throttleJudge).freeFrom s.ipl.endAt).chooseBand

/-- Backlogs above two drop the oldest waiting frame of the lowest-priority facet that has one (R289). -/
def backlogDrop (s : State) : Nat → State
  | 0 => s
  | fuel + 1 =>
    if [0, 1, 2, 3, 4, 5].any (fun f => decide (2 < (s.facet f).waiting.length)) then
      match bestOf (fun a b => s.prioBefore b a) ([0, 1, 2, 3, 4, 5].filter (fun f => !(s.facet f).waiting.isEmpty)) with
      | none => s
      | some h =>
        (((s.modFacet h (fun x => { x with waiting := x.waiting.tail })).bump (IPL_CNT_drop h)).setBit IPL_EVT0_drop h |>.iplStat h).backlogDrop fuel
    else s

/-- IPL_FRAME_ARRIVAL: facet `f` takes a frame; a fenced facet answers with a header alone (R278, R302). -/
def frameArrival (s0 : State) (f : Nat) (q : FacetFrame) : State :=
  let s := s0.iplBegin
  if !s.bit (IPL_CTL_en f) then s
  else if s.bit (IPL_F_STAT_fenced f) then (s.outputFrame f q true false false false).bump (IPL_CNT2_fenced f)
  else if f < 4 ∧ s.bit IPL_STAT_throttled ∧ q.cnt % 2 = 1 then s
  else
    let n := ((List.range 6).map (fun g => (s.facet g).waiting.length)).sum + 1
    (((s.modFacet f (fun x => { x with waiting := x.waiting ++ [q] })).iplStat f).backlogDrop n).wakePipeline

/-- A correction stream completes a slot header: its facet takes the frame (R279). -/
def thermalArrival (s : State) (p slot : Nat) : State :=
  let b := s.slotBase p slot
  let s := s.dramRead 2 8 b 64
  let rows := s.dramNum (b + 6) 2
  let fenced := s.dramNum (b + 12) 4 % 2 = 1
  s.frameArrival p { slot := slot, base := b, pix := (s.slotPlace p slot).2, cnt := s.dramNum b 4, w := s.slotWidth p slot, rows := rows, h := if fenced then (s.port p).height else rows,
                     portFenced := fenced }

/-- Bytes that a frame takes in its input ring. -/
def frameSpan (f : Nat) (q : FacetFrame) : Nat := if f < 4 then slotBytes q.pix else up4k (2 * q.w * q.h)

/-- A producer begins writing the `k` bytes from `b` on of facet `f`'s input: the frames that lie there are overrun (R282). (DEDUCED, log entry 57.) -/
def slotOverrun (s0 : State) (f b k : Nat) : State :=
  let s := s0.iplBegin
  let x := s.facet f
  let meets := fun (q : FacetFrame) => decide (q.base < b + k) && decide (b < q.base + frameSpan f q)
  let w := x.waiting.filter meets
  let hit := match x.run with | some r => meets r.frame && !r.abandon | none => false
  let cnt := fun (s : State) => (s.bump (IPL_CNT2_overrun f)).setBit IPL_EVT1_overrun f
  let s := if w.isEmpty then s else w.foldl (fun s _ => cnt s) (s.modFacet f (fun y => { y with waiting := y.waiting.filter (fun q => !meets q) }))
  let s := if hit then
      let s := cnt s
      if s.ipl.band = some f then s.modFacet f (fun y => { y with run := y.run.map (fun r => { r with abandon := true }) })
      else match x.run with | some r => s.endFrame f { r with abandon := true } | none => s
    else s
  s.iplStat f

/-- FACET_ENABLE_WRITE: en changes (R283). -/
def facetEnable (s0 : State) (f : Nat) (en : Bool) : State :=
  let s := s0.iplBegin
  if en = s.bit (IPL_CTL_en f) then s
  else if en then (s.setBit (IPL_CTL_en f)).histInvalid f
  else
    let s := (s.clrBit (IPL_CTL_en f)).modFacet f (fun x => { x with waiting := [] })
    let s := match (s.facet f).run with
      | none => s
      | some r => if s.ipl.band = some f then s.modFacet f (fun x => { x with run := some { r with abandon := true } }) else s.endFrame f { r with abandon := true }
    s.iplStat f

/-- A facet is idle (R283). -/
def facetIdle (s : State) (f : Nat) : Bool := !s.bit (IPL_CTL_en f) && !s.bit (IPL_F_STAT_active f)

/-- FENCE of a facet (R302): a band in progress stops and the pipeline goes on. -/
def facetFence (s0 : State) (f cause : Nat) : State :=
  let s := s0.iplBegin
  if s.bit (IPL_F_STAT_fenced f) then s
  else if s.ipl.band = some f then
    let s := (((s.addBusy).facetFenceNow f cause).freeFrom s.now).iplStat f
    s.chooseBand
  else s.facetFenceNow f cause

/-- FLIFT of a facet: it takes the next frame that arrives, with its history invalid (R293, R302). -/
def facetLift (s0 : State) (f : Nat) : State :=
  let s := s0.iplBegin
  if s.bit (IPL_F_STAT_fenced f) then ((s.clrBit (IPL_F_STAT_fenced f)).put (IPL_F_STAT_cause f) 0).histInvalid f else s

/-- A line start of raster `r` ages the frames whose deadline counts it (R288). -/
def iplLine (s0 : State) (r : Nat) : State :=
  let s := s0.iplBegin
  [0, 1, 2, 3, 4, 5].foldl (fun s f =>
    if s.counted (s.get (IPL_SCHED_raster f)) = r then
      s.modFacet f (fun x => { x with waiting := x.waiting.map (fun q => { q with age := q.age + 1 }),
                                      run := x.run.map (fun y => { y with frame := { y.frame with age := y.frame.age + 1 } }) })
    else s) s

/-- FRAME_URGENT: the facet's frames of which half the deadline has passed become urgent. -/
def frameUrgent (s0 : State) (f : Nat) : State :=
  let s := s0.iplBegin
  let d := s.get (IPL_SCHED_deadline f)
  if d = 0 then s
  else
    let g := fun (q : FacetFrame) => { q with urgent := q.urgent || decide (d ≤ 2 * q.age) }
    s.modFacet f (fun x => { x with waiting := x.waiting.map g, run := x.run.map (fun y => { y with frame := g y.frame }) })

/-- A frame of H starts: the busy share of the last one is shown. -/
def iplFrame (s0 : State) : State :=
  let s := s0.iplBegin
  let part := if s.ipl.band.isSome then s.now - s.ipl.busyFrom else 0
  let busy := s.ipl.busy + part
  let len := s.now - s.ipl.frameAt
  let s := s.put IPL_LOAD_busy (if len = 0 then 0 else min 1024 (busy * 1024 / len))
  { s with ipl := { s.ipl with busy := 0, busyFrom := if s.ipl.band.isSome then s.now else s.ipl.busyFrom, frameAt := s.now } }

end State
end Sys2Proof.Machine
end

