-- ==== Sys2Proof/Machine/Vio.lean ====
section
/-! DEFINITION. Machine/Vio.lean: the CSI-2 transmit and receive ports (spec 13). -/

namespace Sys2Proof.Machine
open R

/-- Pixels of a CSI-2 RAW10 payload: four in five bytes. -/
def unpackRaw10 : Nat → List Byte → List Nat
  | 0, _ => []
  | n + 1, a :: b :: c :: d :: e :: r =>
    [a.toNat * 4 + e.toNat % 4, b.toNat * 4 + e.toNat / 4 % 4, c.toNat * 4 + e.toNat / 16 % 4, d.toNat * 4 + e.toNat / 64 % 4] ++ unpackRaw10 n r
  | _ + 1, _ => []

/-- Pixels of a CSI-2 RAW12 payload: two in three bytes. -/
def unpackRaw12 : Nat → List Byte → List Nat
  | 0, _ => []
  | n + 1, a :: b :: c :: r => [a.toNat * 16 + c.toNat % 16, b.toNat * 16 + c.toNat / 16 % 16] ++ unpackRaw12 n r
  | _ + 1, _ => []

/-- The error code of a CSI-2 packet header of 24 bits: data identifier, then word count (R376). (PRESUMED, log entry 56.) -/
def csiEcc (d : Nat) : Nat :=
  let par := fun (l : List Nat) => (l.map (fun i => d / 2 ^ i % 2)).sum % 2
  par [0, 1, 2, 4, 5, 7, 10, 11, 13, 16, 20, 21, 22, 23] + 2 * par [0, 1, 3, 4, 6, 8, 10, 12, 14, 17, 20, 21, 22, 23] +
    4 * par [0, 2, 3, 5, 6, 9, 11, 12, 15, 18, 20, 21, 22] + 8 * par [1, 2, 3, 7, 8, 9, 13, 14, 15, 19, 20, 21, 23] +
    16 * par [4, 5, 6, 7, 8, 9, 16, 17, 18, 19, 20, 22, 23] + 32 * par [10, 11, 12, 13, 14, 15, 16, 17, 18, 19, 21, 22, 23]

/-- The payload CRC-16 of CSI-2: polynomial 0x1021 reflected, initial value 0xFFFF (R376). (PRESUMED, log entry 56.) -/
def csiCrc (l : List Byte) : Nat :=
  l.foldl (fun c b => (List.range 8).foldl (fun (c : Nat) _ => if c % 2 = 1 then (c / 2) ^^^ 0x8408 else c / 2) (c ^^^ b.toNat)) 0xFFFF

namespace State

def txPort (s : State) (t : Nat) : TxPort := Map.get (fun _ => {}) s.vio.tx t
def modTxPort (s : State) (t : Nat) (f : TxPort → TxPort) : State := { s with vio := { s.vio with tx := Map.set (fun _ => {}) s.vio.tx t (f (s.txPort t)) } }
def rxPort (s : State) (r : Nat) : RxPort := Map.get (fun _ => {}) s.vio.rx r
def modRxPort (s : State) (r : Nat) (f : RxPort → RxPort) : State := { s with vio := { s.vio with rx := Map.set (fun _ => {}) s.vio.rx r (f (s.rxPort r)) } }

/-! ## Units to send (R377–R379) -/

/-- Address of a kind 0 frame's output slot. -/
def dispSlot (s : State) (f n : Nat) : Nat := (s.ipl.outAt.find? (fun e => e.1 == f * 16 + n)).elim (
  let w := if f < 4 then (s.port f).width else s.get (IPL_FMT_width f)
  let h := if f < 4 then (s.port f).height else s.get (IPL_FMT_height f)
  s.outSlotBase f w h n) (·.2)

/-- Some stream has a frame of kind 3, or of kind 4 of recorder x, in hand: no other takes from its source until its frame end, its en cleared meanwhile or not. -/
def taken (s : State) (kind : Nat) (index : Option Nat) : Bool :=
  (List.range 16).any (fun k => match (s.txStream k).cur with
    | some f => f.kind == kind && (match index with | none => true | some i => f.index == i)
    | none => false)

/-- The lowest enabled stream of kind 3, or of kind 4 for recorder x (R378). -/
def firstOf (s : State) (kind : Nat) (index : Option Nat) : Option Nat :=
  (List.range 16).find? (fun k => s.bit (VIO_S_CFG_en k) && s.get (VIO_S_CFG_kind k) == kind && (match index with | none => true | some i => s.get (VIO_S_CFG_index k) % 4 == i))

/-- The unit that stream `k` would begin now, with the count of frames it passes over. (DEDUCED, log entry 59.) -/
def nextUnit (s : State) (k : Nat) : Option (TxFrame × Nat) :=
  let kind := s.get (VIO_S_CFG_kind k)
  let i := s.get (VIO_S_CFG_index k)
  let meta_ := s.bit (VIO_S_CFG_meta k)
  match kind with
  | 0 =>
    if 6 ≤ i then none
    else
      let n := s.doneCount i
      if n ≤ (s.txStream k).seen then none
      else
        let slot := s.get (IPL_OUT_SLOT_last i)
        let b := s.dispSlot i slot
        let lines := if s.dramNum (b + 4) 4 % 2 = 1 then 0 else s.dramNum (b + 10) 2
        let w := s.dramNum (b + 8) 2
        let data := if lines = 0 then 0 else if i < 4 then s.dramNum (b + 32 + 6) 2 else lines
        some ({ kind := 0, index := i, slot := slot, cnt := s.dramNum b 4, head := meta_, total := lines, trailer := meta_, w := w, data := data, base := b,
                pay := b + 4096, row := (if i < 4 then 3 else 2) * w, step := outStride i w }, n - (s.txStream k).seen - 1)
  | 1 =>
    let p := i % 4
    let plane := i / 4
    let n := s.doneCount (8 + p)
    if n ≤ (s.txStream k).seen ∨ plane = 3 then none
    else
      let slot := s.get (PCE_SLOT_last p)
      if plane = 0 ∧ (s.stream p).rawSlots / 2 ^ slot % 2 = 0 then none
      else
        let b := s.slotBase p slot
        let w := s.slotWidth p slot
        let rows := s.dramNum (b + 6) 2
        some ({ kind := 1, index := i, slot := slot, cnt := s.dramNum b 4, head := meta_, total := rows, trailer := meta_, w := w, data := rows, base := b,
                pay := b + s.planeOff p slot plane, row := 2 * w, step := 2 * w }, n - (s.txStream k).seen - 1)
  | 2 =>
    match (s.ring i).recs with
    | [] => none
    | r :: _ =>
      let p := max 1 (s.get (VIO_TX_PKT_packet (s.get (VIO_S_CFG_tx k))))
      some ({ kind := 2, index := i, off := r.off, len := r.len, cnt := r.frame, total := (r.len + p - 1) / p, pkt := p }, 0)
  | 3 =>
    if s.firstOf 3 none ≠ some k ∨ s.taken 3 none ∨ s.men.queue.isEmpty then none
    else some ({ kind := 3, index := 0, len := 256, cnt := ofLe (((s.men.queue.headD []).drop 20).take 4), total := min 16 s.men.queue.length }, 0)
  | 4 =>
    let x := i % 4
    if s.firstOf 4 (some x) ≠ some k ∨ s.taken 4 (some x) ∨ s.recState x ≠ 4 then none
    else
      match (s.ring (16 + x)).recs.drop (s.ring (16 + x)).sent with
      | [] => none
      | r :: _ =>
        let p := max 1 (s.get (VIO_TX_PKT_packet (s.get (VIO_S_CFG_tx k))))
        some ({ kind := 4, index := x, off := r.off, len := r.len, cnt := r.frame, total := (r.len + p - 1) / p, pkt := p }, 0)
  | _ => none

/-- Class of a stream's packets (R380). -/
def packetClass (s : State) (k : Nat) : Nat :=
  let kind := match (s.txStream k).cur with | some f => f.kind | none => s.get (VIO_S_CFG_kind k)
  let i := match (s.txStream k).cur with | some f => f.index | none => s.get (VIO_S_CFG_index k)
  match kind with
  | 3 => 1 | 2 => if s.evidential i then 2 else 4 | 4 => 3 | 1 => 5 | _ => 6

/-- A kind whose packets read DRAM, which waits while the devices are to be trained again (R472). -/
def txWaits (s : State) (k : Nat) : Bool :=
  s.dramWaits && (match (s.txStream k).cur with | some f => f.kind | none => s.get (VIO_S_CFG_kind k)) != 3

/-- Stream `k` has a packet for its port now: its frame in hand, or a unit to begin while no other frame is open on its channel. -/
def hasPacket (s : State) (t k : Nat) : Bool :=
  if s.get (VIO_S_CFG_tx k) != t || s.txWaits k then false
  else if (s.txStream k).cur.isSome then true
  else
    s.bit (VIO_S_CFG_en k) && (s.nextUnit k).isSome &&
      !(List.range 16).any (fun j => s.get (VIO_S_CFG_tx j) == t && s.get (VIO_S_CFG_vc j) == s.get (VIO_S_CFG_vc k) && (s.txStream j).cur.isSome)

/-! ## Packets -/

/-- Bytes of the header of a slot: an output frame's, with its source's, or a correction stream's. -/
def headBytes (kind : Nat) : Nat := if kind = 0 then 64 else 32

/-- Poisoned words among `k` bytes from `b` on: they are sent as zero (R338, R383). -/
def badIn (s : State) (b k : Nat) : Nat := ((s.badWords false b k).filter (fun w => s.poisoned (8 * w))).length

/-- The embedded header of R381. (DEDUCED, log entry 59.) -/
def metaHeader (s : State) (k : Nat) (f : TxFrame) : List Byte :=
  let disp := f.kind = 0
  let p := if disp then f.index else f.index % 4
  let thermal := ¬ disp ∨ f.index < 4
  let src := if disp then f.base + 32 else f.base
  let marks := if disp then s.marksOf (outMarkKey f.index f.slot) else s.marksOf (p * 16 + f.slot)
  leBytes 4 f.cnt ++ (if thermal then s.dramBytes (src + 4) 2 else [0#8, 0#8]) ++ leBytes 1 (p % 8 + 16 * k) ++ leBytes 1 f.kind ++ leBytes 4 (marks % 2 ^ 22) ++
    leBytes 2 f.w ++ leBytes 2 f.data ++
    (if thermal then s.dramBytes (src + 8) 4 ++ s.dramBytes (src + 20) 4 ++ s.dramBytes (src + 24) 8 ++ leBytes 2 (s.get (CSU_SETTLE_bound p))
      else List.replicate 18 0#8) ++ List.replicate 30 0#8

/-- The trailer of R381. -/
def metaTrailer (f : TxFrame) (lines : Nat) : List Byte :=
  leBytes 4 f.cnt ++ leBytes 2 lines ++ leBytes 1 (b2n f.truncated + 2 * b2n f.memerr) ++ List.replicate 9 0#8

/-- The bytes of the data space, as address and length, that payload packet number `f.next` of a frame carries, as the frame's beginning has laid them out. (PRESUMED, log entry 56.) -/
def payloadAt (s : State) (f : TxFrame) : List (Nat × Nat) :=
  match f.kind with
  | 0 => [(f.pay + f.step * f.next, f.row)]
  | 1 => [(f.pay + f.step * f.next, f.row)]
  | 3 => []
  | _ =>
    let u := if f.kind = 2 then f.index else 16 + f.index
    let n := s.ringSize u
    let o := (f.off + f.pkt * f.next) % n
    let k := min f.pkt (f.len - f.pkt * f.next)
    [(s.ringBase u + o, min k (n - o)), (s.ringBase u, k - (n - o))]

/-- Payload packet number `f.next` of a frame, and the poisoned words it met, which are sent as zero (R338, R383). -/
def payloadOf (s : State) (f : TxFrame) : List Byte × Nat :=
  let at_ := s.payloadAt f
  if f.kind = 3 then (s.men.queue.headD [], 0)
  else if f.truncated then (List.replicate (at_.map (·.2)).sum 0#8, 0)
  else (at_.flatMap (fun e => s.dramBytes e.1 e.2), (at_.map (fun e => s.badIn e.1 e.2)).sum)

/-- What a payload packet reads of the data space. -/
def packetRead (s : State) (f : TxFrame) : State :=
  if f.kind ≠ 3 ∧ ¬ f.head ∧ f.next < f.total ∧ ¬ f.truncated then (s.payloadAt f).foldl (fun s e => s.dramRead 1 11 e.1 e.2) s else s

/-- Stream `k` sent `n` poisoned words as zero (R383). -/
def txPoison (s : State) (k n : Nat) : State := (List.range n).foldl (fun s _ => (s.bump (VIO_S_CNT_memerr k)).setBit VIO_EVT_memerr) s

/-- The header of a slot is read as its frame begins, with what it sets: counts, lines and columns (R338, R339). -/
def headRead (s : State) (k : Nat) (f : TxFrame) : State :=
  if 2 ≤ f.kind then s
  else
    let n := s.badIn f.base (headBytes f.kind)
    ((s.txPoison k n).modTxStream k (fun x => { x with cur := x.cur.map (fun g => { g with memerr := n != 0 }) })).dramRead 1 11 f.base (headBytes f.kind)

/-- CSI-2 data type of a frame (R377). -/
def dataType (f : TxFrame) : Nat :=
  match f.kind with | 0 => if f.index < 4 then 0x24 else 0x1E | 1 => 0x2E | 2 => 0x30 | 3 => 0x31 | _ => 0x32

/-- The unit is sent: counters, ring space, and the end of an export (R319, R322). -/
def unitSent (s : State) (k : Nat) (f : TxFrame) : State :=
  let s := (s.modTxStream k (fun x => { x with cur := none })).setNum (VIO_S_SENT k) ((s.num (VIO_S_SENT k) + 1) % 2 ^ 32)
  let s := s.setNum (VIO_S_LAST k) f.cnt
  match f.kind with
  | 2 =>
    let g := s.ring f.index
    match g.recs with
    | r :: rest => if r.off = f.off then s.setRing f.index { g with recs := rest, used := g.used - r.len } else s
    | [] => s
  | 4 =>
    if s.recState f.index ≠ 4 then s
    else
      let g := s.ring (16 + f.index)
      let s := s.setRing (16 + f.index) { g with sent := g.sent + 1 }
      if g.recs.length ≤ g.sent + 1 then s.recExported f.index else s
  | _ => s

/-- Streams in round-robin order after the one served last in class `c`. -/
def roundRobin (s : State) (t c : Nat) : List Nat :=
  let l := Map.get (fun _ => 0) (s.txPort t).last c
  (List.range 16).map (fun i => (l + i) % 16)

/-- The stream whose packet is next on port `t` (R380). -/
def pickStream (s : State) (t : Nat) : Option Nat :=
  [1, 2, 3, 4, 5, 6].findSome? (fun c => (s.roundRobin t c).find? (fun k => s.hasPacket t k && s.packetClass k == c))

/-- Units of 1/135 ns that `n` byte times on each lane of port `t` take (R384). -/
def byteTimes (s : State) (t n : Nat) : Nat := n * 432 * 2 ^ s.get (VIO_TX_CFG_rate t)

/-- Byte times on each of port `t`'s lanes of a packet of `n` bytes, header and check included (R384). -/
def laneBytes (s : State) (t n : Nat) : Nat := let l := 2 ^ s.get (VIO_TX_CFG_lanes t); (n + l - 1) / l

/-- The time that port `t` is busy for a frame start, a long packet of `n` payload bytes and a frame end, as far as they are sent, and for the re-entry from the low-power mode (R384). -/
def packetTime (s : State) (t : Nat) (begins ends : Bool) (long : Option Nat) : Nat :=
  let short := fun (b : Bool) => if b then s.laneBytes t 4 else 0
  s.byteTimes t ((if s.bit (VIO_TX_STAT_high t) then 0 else 96) + short begins + short ends + (match long with | some n => s.laneBytes t (n + 6) | none => 0))

/-- VIO_PACKET_BOUNDARY: the transmitter of port `t` takes its next long packet. A frame start goes before a frame's first packet and a frame end after its last; a frame
without any long packet is its frame start and frame end alone (data type 0). -/
def vioPacket (s : State) (t : Nat) : State :=
  if !s.bit (VIO_TX_STAT_up t) then s
  else
    match s.pickStream t with
    | none => (s.put (VIO_TX_STAT_stream t) 0xFF).clrBit (VIO_TX_STAT_high t)
    | some k =>
      let c := s.packetClass k
      let vc := s.get (VIO_S_CFG_vc k)
      let begins := (s.txStream k).cur.isNone
      let s := match (s.txStream k).cur with
        | some _ => s
        | none =>
          match s.nextUnit k with
          | none => s
          | some (f, skip) =>
            let s := if skip = 0 then s else (s.put (VIO_S_CNT_skipped k) (sat 255 (s.get (VIO_S_CNT_skipped k) + skip))).setBit VIO_EVT_skip
            let s := s.modTxStream k (fun x => { x with cur := some f, seen := if f.kind ≤ 1 then s.doneCount (sourceKey f.kind f.index) else x.seen })
            let s := s.headRead k f
            let n := Map.get (fun _ => 0) (s.txPort t).number vc
            s.modTxPort t (fun x => { x with number := Map.set (fun _ => 0) x.number vc (if n = 65535 then 1 else n + 1) })
      match (s.txStream k).cur with
      | none => s
      | some f =>
        let (dt, body, bad, f') :=
          if f.head then (0x12, s.metaHeader k f, 0, { f with head := false })
          else if f.next < f.total then
            let x := s.payloadOf f
            (dataType f, x.1, x.2, { f with next := f.next + 1, memerr := f.memerr || x.2 != 0, len := if f.kind ≤ 1 ∧ ¬ f.truncated then f.len + 1 else f.len })
          else if f.trailer then (0x12, metaTrailer f (min f.len f.data), 0, { f with trailer := false })
          else (0, [], 0, f)
        let s := s.packetRead f
        let s := if f.kind = 3 ∧ ¬ f.head then (s.modMen (fun m => { m with queue := m.queue.tail })).showDepth else s
        let s := s.txPoison k bad
        let ends := !f'.head && decide (f'.total ≤ f'.next) && !f'.trailer
        let s := s.modTxStream k (fun x => { x with cur := some f' })
        let number := Map.get (fun _ => 0) (s.txPort t).number vc
        let ecc := fun (dt n : Nat) => csiEcc (vc * 64 + dt + 256 * (n % 65536))
        let pkt : TxPacket :=
          { vc := vc, dt := dt, frame := number, start := begins, ends := ends, body := body, ecc := if dt = 0 then 0 else ecc dt body.length, crc := if dt = 0 then 0 else csiCrc body,
            startEcc := if begins then ecc 0 number else 0, endEcc := if ends then ecc 1 number else 0 }
        let busy := s.packetTime t begins ends (if dt = 0 then none else some body.length)
        let s := s.modTxPort t (fun x => { x with pkt := some pkt, last := Map.set (fun _ => 0) x.last c (k + 1), busy := x.busy + busy })
        let s := (s.put (VIO_TX_STAT_stream t) k).setBit (VIO_TX_STAT_high t)
        if ends then s.unitSent k f' else s

/-- A correction stream begins to write slot `n`, for a frame or for a replay: what the consumers still need of it is lost to them (R282, R318, R383).
(DEDUCED for the replay, log entry 24.) -/
def slotBegun (s : State) (p n : Nat) : State :=
  ((s.cerAbandon p n).vioTruncate (8 + p) n).slotOverrun p (s.slotBase p n) (slotBytes (s.slotPlace p n).2)

/-- TX_LINK_UP: the initial skew calibration of port `t` ends. -/
def txLinkUp (s : State) (t : Nat) : State :=
  if s.bit (VIO_TX_CFG_en t) && !s.bit (VIO_TX_STAT_up t) && s.bit SCA_STAT_lock 2 then
    (((s.setBit (VIO_TX_STAT_up t)).setBit VIO_STAT_transmit t).setBit VIO_EVT_tx_up t).modTxPort t (fun x => { x with lines := 0 })
  else s

/-- A transmit port goes down. -/
def txDown (s : State) (t : Nat) : State :=
  let s := ((s.clrBit (VIO_TX_STAT_up t)).clrBit VIO_STAT_transmit t).clrBit (VIO_TX_STAT_high t)
  s.put (VIO_TX_STAT_stream t) 0xFF

/-- TX_DESKEW: every deskew × 256 lines of H the port runs its periodic skew calibration. -/
def txDeskew (s : State) (t : Nat) : State :=
  let d := s.get (VIO_TX_CFG_deskew t)
  if d = 0 ∨ ¬ s.bit (VIO_TX_STAT_up t) ∨ (s.txPort t).lines < d * 256 then s else s.modTxPort t (fun x => { x with lines := 0 })

/-- A line of H for the transmit and receive ports. -/
def vioLine (s : State) : State :=
  let s := [0, 1].foldl (fun s t => s.modTxPort t (fun x => { x with lines := x.lines + 1 })) s
  [0, 1].foldl (fun s r => if s.bit (VIO_RX_STAT_fenced r) then s.modRxPort r (fun x => { x with lines := x.lines + 1 }) else s) s

/-- A frame of H starts: the busy share of the last one is shown. -/
def vioFrame (s : State) : State :=
  let span := (s.wall - s.vio.frameWall) * 5
  let s := [0, 1].foldl (fun s t =>
    (s.put (VIO_TX_STAT_busy t) (if span = 0 then 0 else min 1024 ((s.txPort t).busy * 1024 / span))).modTxPort t (fun x => { x with busy := 0 })) s
  { s with vio := { s.vio with frameWall := s.wall } }

/-- A write of VIO_Sk_CFG: while a stream is enabled or sends, only en changes; reserved kinds leave the register unchanged (R377, R378). (DEDUCED, log entry 59.) -/
def vioStreamCfg (s : State) (k : Nat) (v : W32) : State :=
  let old := s.reg (VIO_S_CFG k)
  let new : W32 :=
    if 5 ≤ bitsOf v 3 1 then old
    else if bitOf old 0 || (s.txStream k).cur.isSome then withBits old 0 0 (bitsOf v 0 0)
    else BitVec.ofNat 32 (v.toNat &&& 0xB1FF)
  let s := s.setReg (VIO_S_CFG k) new
  if bitOf new 0 && !bitOf old 0 then
    let i := bitsOf new 7 4
    let bare := bitsOf new 3 1 = 1 ∧ i < 4 ∧ (s.stream i).rawSlots / 2 ^ s.get (PCE_SLOT_last i) % 2 = 0
    s.modTxStream k (fun x => { x with seen := s.doneCount (sourceKey (bitsOf new 3 1) i) - if bare then 0 else 1 })
  else s

/-! ## Receive (R385–R388) -/

/-- The open frame of port `r` closes: the facet takes it, or it is short (R281). `completed` when a frame end closed it. -/
def rxClose (s : State) (r : Nat) (completed : Bool) : State :=
  if !s.bit (VIO_RX_STAT_in r) then s
  else
    let f := 4 + r
    let x := s.rxPort r
    let w := s.get (IPL_FMT_width f)
    let h := s.get (IPL_FMT_height f)
    let short := x.short || decide (x.line < h)
    let s := (s.clrBit (VIO_RX_STAT_in r)).setNum (IPL_FCNT f) ((s.num (IPL_FCNT f) + 1) % 2 ^ 32)
    let s := if completed then (s.setNum (VIO_RX_FRAMES r) ((s.num (VIO_RX_FRAMES r) + 1) % 2 ^ 32)).setBit VIO_EVT_rx_frame r else s
    if short then (s.bump (IPL_CNT_short f)).setBit IPL_EVT0_short f
    else
      let s := if x.long then (s.bump (IPL_CNT_long f)).setBit IPL_EVT0_long f else s
      let s := s.modRxPort r (fun y => { y with missed := false })
      s.frameArrival f { slot := x.slot, base := s.inSlotBase f x.slot, cnt := s.num (IPL_FCNT f), w := w, rows := h, h := h, long := x.long, missed := x.missed, supply := x.supply, slow := x.slow }

/-- RX_FRAME_START on channel `vc`; `dsk`: the receiver has been skew-calibrated. -/
def rxFrameStart (s : State) (r vc : Nat) (dsk : Bool) : State :=
  if s.bit (VIO_RX_STAT_fenced r) || !s.bit (VIO_RX_CFG_en r) then s
  else if vc ≠ s.get (VIO_RX_CFG_vc r) then (if (s.rxPort r).joined then s.bump (VIO_RX_CNT_foreign r) else s)
  else
    let s := s.rxClose r false
    let n := s.get (IPL_IN_CFG_slots (4 + r))
    let slot := if (s.rxPort r).slot + 1 < n then (s.rxPort r).slot + 1 else 0
    let s := s.slotOverrun (4 + r) (s.inSlotBase (4 + r) slot) (up4k (2 * s.get (IPL_FMT_width (4 + r)) * s.get (IPL_FMT_height (4 + r))))
    let s := s.modRxPort r (fun y => { y with slot := slot, line := 0, short := false, long := false, errs := 0, supply := s.bit SCA_STAT_warn, slow := s.sca.slow, joined := true })
    (s.setBit (VIO_RX_STAT_in r)).wrBit (VIO_RX_STAT_deskewed r) 0 dsk

/-- A receive port is fenced: cause 1 errors, 2 SUP (R387). -/
def rxFence (s : State) (r cause : Nat) : State :=
  if s.bit (VIO_RX_STAT_fenced r) then s
  else
    let s := (s.modRxPort r (fun y => { y with short := true, lines := 0 })).rxClose r false
    (((s.setBit (VIO_RX_STAT_fenced r)).put (VIO_RX_STAT_fence r) cause).setBit VIO_STAT_receive r).setBit VIO_EVT_rx_fence r

/-- A lift: the receiver rejoins at the first frame start, and the first frame it then delivers carries status bit 21 (R388). -/
def rxLift (s : State) (r : Nat) : State :=
  if s.bit (VIO_RX_STAT_fenced r) then
    (((s.clrBit (VIO_RX_STAT_fenced r)).put (VIO_RX_STAT_fence r) 0).clrBit VIO_STAT_receive r).modRxPort r (fun y => { y with missed := true, errs := 0, joined := false })
  else s

/-- A header or CRC error: it counts towards the limit in the frame that is open (R386, R387). -/
def rxError (s : State) (r : Nat) (fld : Field) : State :=
  let s := (s.bump fld).setBit VIO_EVT_rx_err r
  if !s.bit (VIO_RX_STAT_in r) then s
  else
    let s := s.modRxPort r (fun y => { y with errs := y.errs + 1 })
    let l := s.get (VIO_RX_CFG_err_limit r)
    if l ≠ 0 ∧ l ≤ (s.rxPort r).errs then s.rxFence r 1 else s

/-- The line of a packet whose payload fails its CRC is missing: the frame is short where that line is one of its height (R281, R386). -/
def rxLineLost (s : State) (r : Nat) : State :=
  if s.bit (VIO_RX_STAT_in r) && decide ((s.rxPort r).line < s.get (IPL_FMT_height (4 + r))) then s.modRxPort r (fun y => { y with short := true }) else s

/-- The receiver takes packets: enabled, not fenced, and since then met by a frame start (R385, R388). -/
def receiving (s : State) (r : Nat) : Bool := !s.bit (VIO_RX_STAT_fenced r) && s.bit (VIO_RX_CFG_en r) && (s.rxPort r).joined

/-- RX_LONG_PACKET: one long packet, with the outcome of its header code and payload CRC. -/
def rxLongPacket (s : State) (r vc dt : Nat) (hdrOk crcOk : Bool) (body : List Byte) : State :=
  if !s.receiving r then s
  else if !hdrOk then s.rxError r (VIO_RX_CNT_hdr r)
  else if vc ≠ s.get (VIO_RX_CFG_vc r) then s.bump (VIO_RX_CNT_foreign r)
  else
    let f := 4 + r
    let raw12 := s.bit (IPL_FMT_raw12 f)
    if dt ≠ (if raw12 then 0x2C else 0x2B) then s
    else if !crcOk then (s.rxLineLost r).rxError r (VIO_RX_CNT_crc r)
    else if !s.bit (VIO_RX_STAT_in r) then s
    else
      let px := if raw12 then unpackRaw12 body.length body else unpackRaw10 body.length body
      let w := s.get (IPL_FMT_width f)
      let h := s.get (IPL_FMT_height f)
      let x := s.rxPort r
      if h ≤ x.line then s.modRxPort r (fun y => { y with long := true })
      else
        let a := s.inSlotBase f x.slot + 2 * w * x.line
        let s := s.modRxPort r (fun y => { y with line := y.line + 1, short := y.short || decide (px.length < w), long := y.long || decide (w < px.length) })
        s.dramWrite 1 10 a ((px.take w).flatMap (leBytes 2))

/-- RX_FRAME_END on channel `vc`. -/
def rxFrameEnd (s : State) (r vc : Nat) : State :=
  if !s.receiving r then s
  else if vc ≠ s.get (VIO_RX_CFG_vc r) then s.bump (VIO_RX_CNT_foreign r)
  else s.rxClose r true

/-- RX_MISSED_COUNT: every VIO_RXr_FPER lines of H while the port is fenced. -/
def rxMissed (s : State) (r : Nat) : State :=
  let n := s.get (VIO_RX_FPER_nominal r)
  if !s.bit (VIO_RX_STAT_fenced r) || n == 0 || decide ((s.rxPort r).lines < n) then s
  else (s.bump (VIO_RX_CNT_missed r)).modRxPort r (fun y => { y with lines := y.lines - n })

/-- A write of VIO_RXr_CFG: fields other than en accept writes only while en is 0; clearing en abandons the frame being received (R385, R392, R393). -/
def rxCfg (s : State) (r : Nat) (v : W32) : State :=
  let old := s.reg (VIO_RX_CFG r)
  let v := if bitsOf v 2 1 = 3 then withBits v 2 1 (bitsOf old 2 1) else v
  let new := if bitOf old 0 then withBits old 0 0 (bitsOf v 0 0) else BitVec.ofNat 32 (v.toNat &&& 0xFF37)
  let s := s.setReg (VIO_RX_CFG r) new
  let s := if bitOf old 0 = bitOf new 0 then s else s.modRxPort r (fun y => { y with joined := false })
  if bitOf old 0 && !bitOf new 0 then (s.modRxPort r (fun y => { y with short := true })).rxClose r false else s

/-- A write of VIO_TXt_CFG. -/
def txCfg (s : State) (t : Nat) (v : W32) : State :=
  let old := s.reg (VIO_TX_CFG t)
  let v := if bitsOf v 2 1 = 3 then withBits v 2 1 (bitsOf old 2 1) else v
  let new := if bitOf old 0 then withBits old 0 0 (bitsOf v 0 0) else BitVec.ofNat 32 (v.toNat &&& 0xFF000137)
  let s := s.setReg (VIO_TX_CFG t) new
  if bitOf new 0 then s else s.txDown t

end State
end Sys2Proof.Machine
end

