-- ==== Sys2Proof/Machine/Hkt.lean ====
section
/-! DEFINITION. Machine/Hkt.lean: housekeeping and thermal management (spec 16): conversion results, rounds and urgent conversions, windows, rate of rise,
open-wire checks, compensation, throttling and the thermal shutdown. A measurement is given as (v, ref): nanovolts at the input (for a diode ΔV, for a
die sensor microkelvin) and the reference in nanovolts; none where the spec leaves the reading undefined. -/

namespace Sys2Proof.Machine
open R

/-- The smaller input of a channel that has inputs: HK(2c) of a diode channel, HK(c + 4) of a general one (R431). -/
def chanInput (c : Nat) : Option Nat := if c < 4 then some (2 * c) else if c < 20 then some (c + 4) else none

/-- The channel that input `i` belongs to. -/
def inputChan (i : Nat) : Nat := if i < 8 then i / 2 else i - 4

/-- Address of entry `i` of thermistor curve `k` (R450). -/
def hkCurve (k i : Nat) : Nat := 0xE600 + 0x100 * k + 4 * i

namespace State

def modHk (s : State) (f : HkSt → HkSt) : State := { s with hk := f s.hk }

/-- Register `a` of a channel as the last round start took it (R435). -/
def hkAct (s : State) (a : Nat) : W32 := Map.get regReset s.hk.act a
def hkActGet (s : State) (f : Field) : Nat := bitsOf (s.hkAct f.addr) f.hi f.lo

/-! ## Results (R433) -/

/-- The thermistor value at ratio `r` through curve `k`. -/
def thermistor (s : State) (k r : Nat) : Int :=
  let e := fun i => (bitsOf (s.reg (hkCurve k i)) 19 0 : Int)
  let seg := r / 2048
  e seg + asr ((e (seg + 1) - e seg) * (r % 2048 : Nat) + 1024) 11

/-- The ratio as Q0.16. -/
def hkRatio (v : Int) (ref : Nat) : Nat := (clampI 0 65535 (roundDiv (v * 65536) (max 1 ref))).toNat

/-- The raw value of a channel of kind `kind`. -/
def hkRaw (s : State) (kind curve : Nat) (x : Option (Int × Nat)) : Int :=
  match x with
  | none => Config.openHk s.freeCtr
  | some (v, ref) =>
    match kind with
    | 1 => hkRatio v ref
    | 2 => s.thermistor curve (hkRatio v ref)
    | 3 => roundDiv (v * 1000) 198422
    | _ => roundDiv v 1000

/-- The result of a conversion under configuration `cfg` and calibration `cal`. -/
def hkResult (s : State) (cfg cal : W32) (x : Option (Int × Nat)) : Int :=
  let kind := bitsOf cfg 2 0
  let r := asr (s.hkRaw kind (bitsOf cfg 21 20) x * (bitsOf cal 31 16 : Nat) + 8192) 14 + sgn 16 (bitsOf cal 15 0)
  if kind = 0 then clampI (-8388608) 8388607 r else clampI 0 1048575 r

/-! ## Fences (R442) -/

def inputFenced (s : State) (i : Nat) : Bool := s.bit HKT_FENCED_inputs i

/-- Whether a fence of one of its inputs holds channel `c`. -/
def chanFenced (s : State) (c : Nat) : Bool :=
  match chanInput c with
  | some i => s.inputFenced i || (decide (c < 4) && s.inputFenced (i + 1))
  | none => false

/-- Input `i` is fenced, by SUP or as open: the channel's last good result is held. -/
def hkFence (s : State) (i : Nat) : State :=
  if s.inputFenced i then s
  else
    let c := inputChan i
    let s := (s.setBit HKT_FENCED_inputs i).setBit HKT_EVT_fence
    let s := (s.put (HKT_CH_RES_valid c) 0).put (HKT_CH_RES_held c) 1
    if s.hk.todo.headD 99 = c then s.modHk (fun h => { h with struck := true }) else s

/-- Lift of an input's fence; ignored while its last check found it open (R38, R442). -/
def hkLift (s : State) (i : Nat) : State :=
  if !s.inputFenced i || s.bit HKT_OPEN_inputs i then s
  else
    let c := inputChan i
    let s := s.clrBit HKT_FENCED_inputs i
    if s.chanFenced c then s
    else (s.put (HKT_CH_RES_held c) 0).modHk (fun h => { h with hist := Map.set (fun _ => []) h.hist c [], viol := Map.set (fun _ => 0) h.viol c 0 })

/-! ## Shutdown (R445–R448) -/

/-- The outputs of a thermal shutdown: ports unpowered, bias 0, edges low, lanes down, coils off, switches open, transmitters in the low-power state. -/
def safeOutputs (s : State) : State :=
  let s := [0, 1, 2, 3].foldl (fun s p =>
    let s := ((((s.put (FPP_STAT_pwr p) 0).put (FPP_BIAS_ACT_code p) 0).clrBit (FPP_PWR_req p)).clrBit (FPP_CTL_live p)).clrBit (FPP_STAT_delivering p)
    let s := (s.clrBit (FPP_STAT_ramping p)).put ⟨LCA_MODE_ACT p, 0, 0⟩ 0
    s.modPort p (fun x => { x with pen := false, vcm := false, settled := false, lvl := 0, runs := [], reqPending := false })) s
  (s.sdrStop.txDown 0).txDown 1

/-- The shutdown record. -/
def shutdownRecord (s : State) (cause chan trip release value rise : Nat) : List Byte :=
  let h := s.raster 4
  let b := [0xD5#8, 0x5D#8] ++ leBytes 1 cause ++ leBytes 1 chan ++ leBytes 4 h.frame ++ leBytes 2 h.epoch ++ leBytes 2 0 ++
    [20, 21, 22, 23].flatMap (fun c => leBytes 4 (s.get (HKT_CH_RES_value c))) ++ leBytes 4 value ++ leBytes 4 rise ++
    leBytes 1 (s.get HKT_THR_STAT_state) ++ leBytes 1 trip ++ leBytes 1 release ++ List.replicate 21 0#8
  b ++ leBytes 4 (crc32 b)

/-- A shutdown is decided; a later decision changes nothing. (DEDUCED, log entry 53; DEDUCED, log entry 54.) -/
def decideShutdown (s : State) (cause chan value rise : Nat) : State :=
  if s.hk.shdn.isSome || s.hold == .thermal then s
  else
    let trip := s.get HKT_SHDN_CFG_trip
    let rel := s.get HKT_SHDN_CFG_release
    let r := s.shutdownRecord cause chan trip rel value rise
    let s := (s.put HKT_SHDN_STAT_cause cause).put HKT_SHDN_STAT_channel (if cause = 1 then 0 else chan)
    (s.modHk (fun h => { h with shdn := some { cause := cause, chan := chan, trip := trip, release := rel, record := r, ready := s.nvsReady } })).safeOutputs

/-- DIE_TRIP: cause 1, in every hold but the thermal one. (DEDUCED, log entry 54.) -/
def dieTrip (s : State) : State := s.decideShutdown 1 0xFF (s.get HKT_SHDN_CFG_trip * 1000 + 273150) 0

/-! ## Windows, rate and throttling (R438–R440, R444) -/

/-- Channel `c` is above; it is rate-violating. -/
def isAbove (s : State) (c : Nat) : Bool := bitOf (s.reg HKT_WABOVE) c
def isBelow (s : State) (c : Nat) : Bool := bitOf (s.reg HKT_WBELOW) c
def violating (s : State) (c : Nat) : Nat := Map.get (fun _ => 0) s.hk.viol c

/-- Window state of channel `c`: 0 inside, 1 above, 2 below. -/
def setWindow (s : State) (c w : Nat) : State :=
  (s.wrBit ⟨HKT_WABOVE, 31, 0⟩ c (w == 1)).wrBit ⟨HKT_WBELOW, 31, 0⟩ c (w == 2)

/-- The window step of a result; answers whether the channel has become above. (DEDUCED, log entry 53.) -/
def windowStep (s : State) (c : Nat) (r : Int) : State × Bool :=
  let lo := sgn 24 (s.hkActGet (HKT_CH_LO_band c))
  let hi := sgn 24 (s.hkActGet (HKT_CH_HI_band c))
  let hy : Int := s.hkActGet (HKT_CH_HYST_hysteresis c)
  let up := fun (s : State) => ((s.setWindow c 1).setBit HKT_WEVT_all c, true)
  let down := fun (s : State) => ((s.setWindow c 2).setBit HKT_WEVT_all c, false)
  if s.isAbove c then if r < lo then down s else if r ≤ hi - hy then (s.setWindow c 0, false) else (s, false)
  else if s.isBelow c then if r > hi then up s else if r ≥ lo + hy then (s.setWindow c 0, false) else (s, false)
  else if r > hi then up s else if r < lo then down s else (s, false)

/-- The rate check of a result; answers the rise when it violates. -/
def rateStep (s : State) (c : Nat) (r : Int) : State × Option Int :=
  let hist := Map.get (fun _ => []) s.hk.hist c
  let span := s.hkActGet (HKT_CH_RR_span c)
  let limit := s.hkActGet (HKT_CH_RR_limit c)
  let v := s.violating c
  let s := s.modHk (fun h => { h with hist := Map.set (fun _ => []) h.hist c ((r :: hist).take 15), viol := Map.set (fun _ => 0) h.viol c (v - 1) })
  match (if limit = 0 ∨ span = 0 then none else hist[span - 1]?) with
  | none => (s, none)
  | some o =>
    if r - o > limit then ((s.setBit HKT_REVT_all c).modHk (fun h => { h with viol := Map.set (fun _ => 0) h.viol c span }), some (r - o)) else (s, none)

/-- The throttle condition. A channel whose last result is not valid, as one that is fenced, never acts (R440). -/
def throttleCond (s : State) : Bool :=
  s.bit HKT_THR_CFG_force ||
    (List.range 28).any (fun c => s.bit (HKT_CH_RES_valid c) &&
      ((s.isAbove c && s.hkActGet (HKT_CH_CFG_hi_act c) == 1) || (s.violating c != 0 && s.hkActGet (HKT_CH_CFG_rr_act c) == 1)))

/-- The throttle's step when the condition is judged. A band that was to begin before begins with the state of then (R301). -/
def hkThrottleJudge (s0 : State) : State :=
  let s := s0.iplBegin
  if s.hk.shdn.isSome then s
  else
    match s.get HKT_THR_STAT_state, s.throttleCond with
    | 0, true =>
      (((s.put HKT_THR_STAT_state 1).put HKT_THR_STAT_grace (s.get HKT_THR_CFG_grace)).setBit HKT_EVT_thr_req).modHk
        (fun h => { h with graceRaster := s.get HKT_THR_CFG_raster, graceDue := false })
    | 0, false => s
    | _, true => s
    | _, false => (((s.put HKT_THR_STAT_state 0).put HKT_THR_STAT_grace 0).setBit HKT_EVT_thr_end).modHk (fun h => { h with graceDue := false })

/-- A frame start of raster `r` counts for the grace period, which a shutdown ends (R444). -/
def hkFrame (s : State) (r : Nat) : State :=
  if s.get HKT_THR_STAT_state = 1 ∧ s.hk.shdn.isNone ∧ s.counted s.hk.graceRaster = r then
    let g := s.get HKT_THR_STAT_grace - 1
    (s.put HKT_THR_STAT_grace g).modHk (fun h => { h with graceDue := decide (g = 0) })
  else s

/-- THROTTLE_GRACE_EXPIRY: enforcement begins where the condition holds at that moment. -/
def graceExpiry (s0 : State) : State :=
  let s := s0.iplBegin
  if s.get HKT_THR_STAT_state = 1 ∧ s.hk.shdn.isNone ∧ s.hk.graceDue ∧ s.throttleCond then ((s.put HKT_THR_STAT_state 2).setBit HKT_EVT_thr_enf).modHk (fun h => { h with graceDue := false }) else s

/-- THROTTLE_N is low (R444, R446). -/
def throttleLow (s : State) : Bool := s.get HKT_THR_STAT_state != 0 || s.hk.shdn.isSome

/-! ## Rounds (R435, R436, R441, R443) -/

/-- HKT_STAT.channel and the busy bits follow the converter. -/
def hkShow (s : State) : State :=
  let busy := !s.hk.todo.isEmpty
  let c := if busy then s.hk.todo.headD 0 else match s.hk.urgent with | some (c, _) => c | none => 0
  (((s.put HKT_STAT_channel c).put HKT_STAT_round3 (b2n busy)).put HKT_STAT_urgent (b2n s.hk.urgent.isSome)).put HKT_STAT_busy
    (b2n (busy || s.hk.urgent.isSome))

/-- The mean of `l`, rounded as the spec leaves open where it is no whole number. -/
def meanOpen (l : List Nat) : Nat := l.sum / l.length + b2n (l.sum % l.length != 0 && Config.meanRoundsUp l.sum l.length)

/-- Compensation at the end of a round with the die channels. (DEDUCED, log entry 53.) -/
def compensate (s : State) : State :=
  if [20, 21, 22, 23].all (fun c => s.hk.inRound.contains c) then
    let t := meanOpen ([20, 21, 22, 23].map (fun c => s.get (HKT_CH_RES_value c)))
    let s := s.put HKT_COMP_STAT_temperature t
    let s := if s.bit HKT_COMP_CFG_osc_en then s.put HKT_COMP_OSC_oscillator (Config.oscTrim t).toNat else s
    if s.bit HKT_COMP_CFG_ref_en then s.put HKT_COMP_STAT_reference (Config.refTrim t).toNat else s
  else s

/-- A round passes for the violations of the channels that are no longer part of it (R439). -/
def violRound (s : State) : State :=
  s.modHk (fun h => { h with viol := (List.range 28).foldl (fun m c =>
    if h.inRound.contains c then m else Map.set (fun _ => 0) m c (Map.get (fun _ => 0) m c - 1)) h.viol })

/-- A round ends: counted, and compensation runs. -/
def roundEnd (s : State) : State :=
  (((s.violRound.put HKT_STAT_round (s.get HKT_STAT_round + 1)).setBit HKT_EVT_round).compensate).modHk (fun h => { h with todo := [], inRound := [] })

/-- A round starts. -/
def roundBegin (s : State) : State :=
  let m := s.num HKT_ROUND_MASK
  let cs := (List.range 28).filter (fun c => m / 2 ^ c % 2 = 1)
  let act := (List.range 28).foldl (fun a c =>
    [HKT_CH_CFG c, HKT_CH_LO c, HKT_CH_HI c, HKT_CH_HYST c, HKT_CH_RR c, HKT_CH_CAL c].foldl (fun a x => Map.set regReset a x (s.reg x)) a) []
  let n := s.hk.rounds + 1
  let d := s.get HKT_ROUND_CFG_ow_div
  let s := s.modHk (fun h => { h with rounds := n, todo := cs, inRound := cs, act := act, checking := false, owRound := decide (d ≠ 0 ∧ n % d = 0),
                                      struck := false, due := false })
  (if cs.isEmpty then s.roundEnd else s).hkShow

/-- A line start of raster `r` counts for the round. -/
def hkLine (s : State) (r : Nat) : State :=
  if s.counted (s.get HKT_ROUND_CFG_raster) = r then
    let due := s.bit HKT_ROUND_CFG_en && s.hk.count % max 1 (s.get HKT_ROUND_CFG_lines) == 0
    s.modHk (fun h => { h with count := h.count + 1, lineDue := due })
  else s

/-- HK_ROUND_START. -/
def hkRoundStart (s : State) : State :=
  if !s.hk.lineDue then s
  else
    let s := s.modHk (fun h => { h with lineDue := false })
    if !s.hk.todo.isEmpty then (s.bump HKT_CNT_ovr).setBit HKT_EVT_ovr
    else if s.hk.urgent.isSome then s.modHk (fun h => { h with due := true })
    else s.roundBegin

/-- The converter goes on to the round's next channel, or the round ends. -/
def hkNext (s : State) : State :=
  let rest := s.hk.todo.drop 1
  let s := s.modHk (fun h => { h with todo := rest, checking := false, struck := false })
  (if rest.isEmpty then s.roundEnd else s).hkShow

/-- A fresh result of channel `c`: RES, window, rate, throttle and shutdown (R434, R438–R440, R444, R445). -/
def hkFresh (s : State) (c : Nat) (r : Int) : State :=
  let s := ((s.put (HKT_CH_RES_value c) (unsgn 24 r)).put (HKT_CH_RES_valid c) 1).put (HKT_CH_RES_held c) 0
  let (s, above) := s.windowStep c r
  let (s, rise) := s.rateStep c r
  let s := s.hkThrottleJudge
  if above && s.hkActGet (HKT_CH_CFG_hi_act c) == 2 then s.decideShutdown 2 c (unsgn 32 r) 0
  else
    match rise with
    | some d => if s.hkActGet (HKT_CH_CFG_rr_act c) = 2 then s.decideShutdown 3 c (unsgn 32 r) (unsgn 32 d) else s
    | none => s

/-- HK_CONVERSION_END. -/
def hkConversionEnd (s : State) (x : Option (Int × Nat)) : State :=
  match s.hk.todo with
  | [] => s
  | c :: _ =>
    if s.hk.checking then s
    else
      let r := s.hkResult (s.hkAct (HKT_CH_CFG c)) (s.hkAct (HKT_CH_CAL c)) x
      let s := s.drawn
      let s := if s.chanFenced c || s.hk.struck then s.modHk (fun h => { h with viol := Map.set (fun _ => 0) h.viol c (s.violating c - 1) }) else s.hkFresh c r
      if s.hk.owRound && decide (c < 20) && s.hkActGet (HKT_CH_CFG_ow_en c) == 1 then s.modHk (fun h => { h with checking := true, struck := false })
      else s.hkNext

/-- HK_OPEN_WIRE_CHECK: the check reads `uv` microvolts; 1.15 V or more is open. -/
def hkOpenWireCheck (s : State) (uv : Int) : State :=
  match s.hk.todo with
  | [] => s
  | c :: _ =>
    if !s.hk.checking then s
    else
      let i := (chanInput c).getD 0
      let bad := decide (1150000 ≤ uv)
      let s := (s.wrBit HKT_OPEN_inputs i bad).put (HKT_CH_RES_open c) (b2n bad)
      let s := if bad then (s.setBit HKT_OEVT_bit i).hkFence i else s
      s.hkNext

/-- A write of HKT_URGENT (R437). -/
def hkUrgent (s : State) (v : W32) : State :=
  let c := bitsOf v 4 0
  if !bitOf v 8 || decide (28 ≤ c) then s
  else if !s.hk.todo.isEmpty || s.hk.urgent.isSome then (s.bump HKT_DROP_urgent).setBit HKT_EVT_drop
  else (s.modHk (fun h => { h with urgent := some (c, s.reg (HKT_CH_CFG c), s.reg (HKT_CH_CAL c)) })).hkShow

/-- HK_URGENT_DONE. -/
def hkUrgentDone (s : State) (x : Option (Int × Nat)) : State :=
  match s.hk.urgent with
  | none => s
  | some (c, cfg, cal) =>
    let r := s.hkResult cfg cal x
    let s := s.drawn.setNum HKT_URG_RES (2 ^ 31 + s.get (HKT_CH_RES_open c) * 2 ^ 29 + c * 2 ^ 24 + unsgn 24 r)
    let s := ((s.setBit HKT_EVT_urg_done).modHk (fun h => { h with urgent := none })).hkShow
    if s.hk.due then s.roundBegin else s

/-! ## Register writes with conditions -/

/-- HKT_ROUND_MASK: a channel whose bit becomes set starts inside its band, without a history (R438, R439). -/
def hkMaskWrite (s : State) (v : W32) : State :=
  let m := v.toNat % 2 ^ 28
  let fresh := (List.range 28).filter (fun c => m / 2 ^ c % 2 = 1 ∧ s.num HKT_ROUND_MASK / 2 ^ c % 2 = 0)
  fresh.foldl (fun s c => (s.setWindow c 0).modHk (fun h =>
    { h with hist := Map.set (fun _ => []) h.hist c [], viol := Map.set (fun _ => 0) h.viol c 0 })) (s.setNum HKT_ROUND_MASK m)

/-- HKT_SHDN_CFG: both fields in range, or nothing (R445). -/
def hkShdnCfg (s : State) (v : W32) : State :=
  let t := bitsOf v 7 0
  let r := bitsOf v 15 8
  if 85 ≤ t ∧ t ≤ 125 ∧ 40 ≤ r ∧ r + 10 ≤ t then s.setNum HKT_SHDN_CFG (v.toNat % 65536) else s

end State
end Sys2Proof.Machine
end

