-- ==== Sys2Proof/Machine/Sca.lean ====
section
/-! DEFINITION. Machine/Sca.lean: supplies, clocks and ageing (spec 18): warnings and dips, the voltage request, ageing passes, lane drift and the clock
fallback. The resets themselves stand in Machine/Reset.lean. -/

namespace Sys2Proof.Machine
open R

namespace State

def modSca (s : State) (f : ScaSt → ScaSt) : State := { s with sca := f s.sca }

/-! ## Warnings and dips (R468, R470, R471) -/

/-- A warning is asserted on some rail. -/
def warned (s : State) : Bool := s.bit SCA_STAT_warn

/-- An event bit of the SCA, which a system reset holds at 0 (R473). -/
def scaEvent (s : State) (f : Field) : State := if s.running then s.setBit f else s

/-- The frame of port `p`'s raster carries "supply-disturbed", also in the slot whose header is complete while the frame still lasts. -/
def disturbFrame (s : State) (p : Nat) : State :=
  if !(s.raster p).running then s
  else
    let s := s.setMarks (64 + p) (s.marksOf (64 + p) ||| 64)
    let k := p * 16 + s.get (PCE_SLOT_last p)
    if s.bit (FPP_STAT_delivering p) && (s.port p).closed then s.setMarks k (s.marksOf k ||| 64) else s

/-- Frames in hand carry "supply-disturbed": those of running port rasters, and open visible frames. -/
def markDisturbed (s : State) : State :=
  let s := [0, 1, 2, 3].foldl disturbFrame s
  [0, 1].foldl (fun s r => if s.bit (VIO_RX_STAT_in r) then s.modRxPort r (fun x => { x with supply := true }) else s) s

/-- SUPPLY_WARNING on a rail; `steps`: how many steps of a running NVS command will have been done when the one in progress ends. -/
def supplyWarning (s : State) (rail steps : Nat) : State :=
  let s := if s.bit SCA_STAT_dip then s.modSca (fun x => { x with rails := x.rails ||| 2 ^ rail })
    else
      (s.setBit SCA_STAT_dip).modSca (fun x => { x with rails := 2 ^ rail, dipFrame := (s.raster 4).frame, dipLine := (s.pos 4).line, lines := 0, lost := 0 })
  let s := ((s.setBit SCA_STAT_rail_warn rail).setBit SCA_STAT_warn).scaEvent SCA_EVT_warn
  (s.markDisturbed).nvsHold steps

/-- The voltage request takes effect (R475). -/
def avsNow (s : State) : State := (s.modSca (fun x => { x with code := s.get SCA_AVS_code, avsWait := false })).setBit SCA_EVT_avs

/-- SUPPLY_RECOVER: the warning of a rail clears; when none is left the supply has recovered. -/
def supplyRecover (s : State) (rail : Nat) : State :=
  if !s.bit SCA_STAT_rail_warn rail then s
  else
    let s := s.clrBit SCA_STAT_rail_warn rail
    if s.get SCA_STAT_rail_warn ≠ 0 then s
    else
      let s := ((s.clrBit SCA_STAT_warn).scaEvent SCA_EVT_recover).modSca (fun x => { x with quiet := s.wall })
      if s.sca.avsWait ∧ s.get SCA_AVS_mode = 2 then s.avsNow else s

/-- A line start of H during a disturbed interval. -/
def scaLine (s : State) : State := if s.warned then s.modSca (fun x => { x with lines := x.lines + 1 }) else s

/-- The dip record of R471. -/
def dipRecord (s : State) : List Byte :=
  let x := s.sca
  let b := [0xD5#8, 0x5E#8] ++ leBytes 1 x.rails ++ leBytes 1 (sat 255 x.lost) ++ leBytes 4 x.dipFrame ++ leBytes 2 x.dipLine ++
    leBytes 2 (sat 0xFFFF x.lines) ++ leBytes 4 (s.num SCA_DIP_CNT) ++ List.replicate 44 0#8
  b ++ leBytes 4 (crc32 b)

/-- DIP_END: 2 ms after the last warning has cleared. (DEDUCED, log entry 52.) -/
def dipEnd (s : State) : State :=
  if !s.bit SCA_STAT_dip || s.warned then s
  else
    let s := (s.advanceWall (s.sca.quiet + 2 * wallMilli)).clrBit SCA_STAT_dip
    let s := ((s.put SCA_DIP0_rails s.sca.rails).put SCA_DIP0_disturbed (sat 0xFFFF s.sca.lines)).setNum SCA_DIP1 s.sca.dipFrame
    let s := s.bump SCA_DIP_CNT_dips
    if s.hk.shdn.isSome then s
    else
      let page := s.get SCA_LOG_PAGE_p2
      let (s, ok) := s.logRecord page s.dipRecord
      (if ok then s else s.modNvs (fun n => { n with logFull := some page })).setBit SCA_EVT_log

/-- NVS_HOLD_RELEASE (R425). -/
def nvsHoldRelease (s : State) : State :=
  if !s.wrHold || s.warned then s else (s.advanceWall (s.sca.quiet + 2 * wallMilli)).clrBit NVS_STAT_wr_hold

/-! ## PLLs (R472) -/

/-- PLL1 or PLL2 loses lock. -/
def pllLoss (s : State) (pll2 : Bool) : State :=
  let s := s.setBit SCA_EVT_pll
  if pll2 then
    let s := ((s.clrBit SCA_STAT_lock 2).txDown 0).txDown 1
    [0, 1].foldl (fun s r => if s.bit (VIO_RX_STAT_in r) then s.modRxPort r (fun x => { x with short := true }) else s) s
  else
    let was := s.bit MEM_STAT_trained || s.mem.retraining
    { (s.clrBit SCA_STAT_lock 1).clrBit MEM_STAT_trained with mem := { s.mem with retraining := was } }

/-- The PLL has lock again. -/
def pllRelock (s : State) (pll2 : Bool) : State := s.setBit SCA_STAT_lock (if pll2 then 2 else 1)

/-! ## Voltage request and clock fallback (R475, R478) -/

/-- A write of SCA_AVS: code 11–15 and mode 3 leave their fields. -/
def avsWrite (s : State) (v : W32) : State :=
  let mode := if bitsOf v 9 8 = 3 then s.get SCA_AVS_mode else bitsOf v 9 8
  let code := if 10 < bitsOf v 3 0 then s.get SCA_AVS_code else bitsOf v 3 0
  let s := (s.put SCA_AVS_mode mode).put SCA_AVS_code code
  match mode with
  | 0 => s.modSca (fun x => { x with avsWait := false })
  | 2 => if s.warned then s.modSca (fun x => { x with avsWait := true }) else s.avsNow
  | _ => s.modSca (fun x => { x with avsWait := decide (code ≠ x.code) })

/-- AVS_APPLY: the next period start of AVS_PWM. -/
def avsApply (s : State) : State := if s.get SCA_AVS_mode = 1 ∧ s.sca.avsWait ∧ ¬ s.warned then s.avsNow else s

/-- The duty of AVS_PWM in 1/256; 0: driven low. -/
def avsDuty (s : State) : Nat := if s.get SCA_AVS_mode = 1 then 64 + 16 * s.sca.code else 0

/-- SCA_CLK_CTL.reduce. (DEDUCED, log entry 55.) -/
def clockReduce (s : State) (v : W32) : State :=
  if !bitOf v 0 || s.sca.slow || s.get SCA_AVS_code != 10 || s.warned then s
  else ((s.setBit SCA_CLK_CTL_reduce).setBit SCA_CLK_STAT_ramping).modSca (fun x => { x with slow := true, rampAt := s.wall })

/-- CLOCK_RAMP_END: 0.5 ms later. -/
def clockRampEnd (s : State) : State :=
  if !s.bit SCA_CLK_STAT_ramping then s
  else
    let s := s.advanceWall (s.sca.rampAt + wallMilli / 2)
    ((((s.clrBit SCA_CLK_STAT_ramping).setBit SCA_CLK_STAT_reduced).setBit SCA_STAT_reduced).setBit SCA_EVT_clk).put SCA_LATENCY_headline 5556

/-! ## Ageing (R476, R477) -/

/-- A frame start of H counts towards the period. -/
def scaFrame (s : State) : State :=
  let n := s.sca.ageFrames + 1
  if s.get SCA_AGE_CTL_period ≠ 0 ∧ s.get SCA_AGE_CTL_period ≤ n then s.modSca (fun x => { x with ageFrames := 0, ageWait := true })
  else s.modSca (fun x => { x with ageFrames := n })

/-- A pass starts. -/
def ageBegin (s : State) : State := if s.bit SCA_STAT_age_busy then s else (s.setBit SCA_STAT_age_busy).modSca (fun x => { x with ageAt := s.wall })

/-- AGE_PASS_START by the period: a due pass waits for the end of a dip. -/
def ageDue (s : State) : State := if !s.sca.ageWait || s.bit SCA_STAT_dip then s else (s.modSca (fun x => { x with ageWait := false })).ageBegin

/-- The monitor with the largest degradation, the lowest on a tie. -/
def worstAge (l : List Int) : Nat × Int :=
  (l.zipIdx.foldl (fun (o : Option (Nat × Int)) e => match o with
    | none => some (e.2, e.1)
    | some b => if b.2 < e.1 then some (e.2, e.1) else some b) none).getD (0, 0)

/-- AGE_PASS_END: `deg` is each monitor's measured (f_unstressed − f_stressed) / f_unstressed in ppm. -/
def agePassEnd (s : State) (deg : List Int) : State :=
  if !s.bit SCA_STAT_age_busy then s
  else
    let s := (s.advanceWall (s.sca.ageAt + 65536 * 40 * 27)).clrBit SCA_STAT_age_busy
    let d := (List.range 24).map (fun m => clampI (-32767) 32767 (deg.getD m 0 - Config.ageZero m))
    let s := (List.range 24).foldl (fun s m => s.put (SCA_AGE_deg m) (unsgn 16 (d.getD m 0))) s
    let w := worstAge d
    (((s.put SCA_AGE_STAT_worst w.1).put SCA_AGE_STAT_worst0 (unsgn 16 w.2)).put SCA_AGE_STAT_passes (s.get SCA_AGE_STAT_passes + 1)).setBit SCA_EVT_age

/-- A quotient in ppm whose rounding the spec leaves open; without a divisor it is free. -/
def openQuot (n d : Int) : Int :=
  if d = 0 then Config.divZero n.natAbs else n / d + b2n (n % d != 0 && Config.meanRoundsUp n.natAbs d.natAbs)

/-- R477: after port `p`'s self-test the drift of its lanes, of those that the test has judged. -/
def laneDrift (s : State) (p : Nat) : State :=
  let ok := (List.range (s.laneStep p)).filter (fun k => !s.bit (LCA_LANE_CTL_st_fail (32 * p + k)))
  let sum : Int := (ok.map (fun k => (s.get (LCA_LANE_CAP_hi (32 * p + k)) : Int) - s.get (LCA_LANE_CAP_lo (32 * p + k)))).sum
  let ref : Int := ok.length * Config.laneSpan p
  let q := openQuot ((sum - ref) * 1000000) ref
  let q := if q < -32768 ∨ 32767 < q then (Config.outOfField q.natAbs : Int) else q
  (s.put (SCA_LANE_DRIFT_lanes p) ok.length).put (SCA_LANE_DRIFT_deviation p) (unsgn 16 q)

/-- SCA_LOG_PAGE takes a P2 page other than the one in NVS_SHDN_PAGE (R483). -/
def logPageWrite (s : State) (v : W32) : State :=
  let p := bitsOf v 10 0
  if partition p = 2 ∧ p ≠ s.get NVS_SHDN_PAGE_shutdown then s.put SCA_LOG_PAGE_p2 p else s

/-- SCA_STAT with the bits that other state shows. -/
def scaStat (s : State) : Nat := s.num SCA_STAT + (if s.nvs.logFull.isSome then 4 else 0)

end State
end Sys2Proof.Machine
end

