-- ==== Sys2Proof/Machine/Fence.lean ====
section
/-! DEFINITION. Machine/Fence.lean: fences and lifts of every class of unit (R37, R38, R128–R131), and what a port fence does to the frame in hand (R203). -/

namespace Sys2Proof.Machine
open R

/-- Units of a class (R128); a class above 7 has none. -/
def unitCount (cls : Nat) : Nat :=
  match cls with
  | 0 => 128 | 1 => 4 | 2 => 6 | 3 => 2 | 4 => 8 | 5 => 24 | 6 => 2048 | 7 => 2 | _ => 0

/-- Whether a unit is legally relevant (R128). -/
def unitLegal (cls i : Nat) : Bool :=
  match cls with
  | 0 => true | 1 => true | 3 => true
  | 6 => partition i == 1
  | _ => false

namespace State

/-- The Pulon cycle of the clock. (DEDUCED, log entry 10.) -/
def pulonCycle (s : State) : Nat := s.now / 4

/-- A port fence ends the frame that port `p` is delivering: the header with "port fenced" and the rows closed, and its consumers take what is there (R203). -/
def fenceFrame (s : State) (p : Nat) : State :=
  if s.bit (FPP_STAT_delivering p) && !(s.port p).closed && (s.stream p).writing then
    let s := (s.writeHeader p true).modPort p (fun x => { x with closed := true })
    ((((((s.katRelease p).wedgePublish p).settleBound p).cerFrameDone p).thermalArrival p (s.get (PCE_SLOT_last p))).pceFrameDone p).menFrameDone p
  else s

/-- Port `q` is fenced with its core; a port already fenced keeps its first cause, but MET's request in the cycle in which SUP's fenced it is the
one recorded (R129, R131). -/
def portFence (s : State) (q cause : Nat) : State :=
  if s.sqState q = 3 then
    if cause = 5 ∧ s.get (PSC_SQ_CAUSE_cause q) = 4 ∧ s.lastFence = some (1, q, s.pulonCycle) ∧ s.arb.fresh then s.put (PSC_SQ_CAUSE_cause q) 5 else s
  else
    let s := s.fenceFrame q
    ((((s.pscFence q cause (s.core q).pc).portFenceFpp q).ffAbort q).katRestart q).metJudge

/-- The cause of a port's fence is still asserted: its fault input is low. -/
def portCauseHeld (s : State) (q : Nat) : Bool := s.get (PSC_SQ_CAUSE_cause q) == 6 && (s.port q).fltLow && s.bit (FPP_FLT_CFG_en q)

/-- A port's fence is lifted: its core is ARMED and its hash begins (R84, R130). (DEDUCED, log entry 39.) -/
def portUnfence (s : State) (q : Nat) : State :=
  (((s.put (PSC_SQ_STAT_state q) 1).hashStart q).clrBit (FPP_STAT_fenced q)).modFacetMen q (fun f => { f with katFence := false })

/-- A channel of the shutter drive is fenced, and calibration hears of it (R464, R227). -/
def channelFence (s : State) (c cause : Nat) : State :=
  if s.bit SDR_FENCED_channels c then s
  else
    let (s, o) := s.sdrFence c cause
    let s := s.csuChannelFenced c
    match o with | some p => s.ffDropped p | none => s

/-- Whether a unit is fenced. -/
def unitFenced (s : State) (cls i : Nat) : Bool :=
  match cls with
  | 0 => s.laneFenced (i / 32) (i % 32)
  | 1 => s.sqState i == 3
  | 2 => s.bit (IPL_F_STAT_fenced i)
  | 3 => s.bit CER_STAT_coder i
  | 4 => s.bit SDR_FENCED_channels i
  | 5 => s.inputFenced i
  | 6 => s.isRetired i
  | 7 => s.bit (VIO_RX_STAT_fenced i)
  | _ => false

/-- The fence of a unit by SUP or MET. -/
def fenceNow (s : State) (met : Bool) (cls i : Nat) : State :=
  match cls with
  | 0 => s.laneFence i (if met then 5 else 4)
  | 1 => s.portFence i (if met then 5 else 4)
  | 2 => s.facetFence i 1
  | 3 => s.coderFence i false
  | 4 => s.channelFence i 3
  | 5 => s.hkFence i
  | 6 => s.retire i 2
  | 7 => s.rxFence i 2
  | _ => s

/-- The registers that differ between two states, as the first has them. -/
def changedRegs (s t : State) : List (Nat × W32) :=
  ((s.regs ++ t.regs).map (·.1)).eraseDups.filterMap (fun a => if s.reg a = t.reg a then none else some (a, s.reg a))

/-- A fence meets a lift of the same unit in the same Pulon cycle: it wins. A unit that was fenced stays so as it was, with its first cause, one that was
not is fenced, and the lift's core sees C = 1 (R131). -/
def fenceMeetsLift (s : State) (met : Bool) (l : LiftRec) : State :=
  let t := s.fenceNow met l.cls l.i
  let t :=
    if l.was then
      let t := l.regs.foldl (fun t e => t.setReg e.1 e.2) { t with regs := s.regs }
      if l.cls = 1 then t.modFacetMen l.i (fun f => { f with katFence := l.kat }) else t
    else t
  { t.modCore l.core (fun x => { x with c := true }) with arb := { t.arb with lift := none } }

/-- FENCE by SUP or MET (R128, R129); answers whether the request was ignored. -/
def fenceRequest (s : State) (met : Bool) (cls i : Nat) : State × Bool :=
  if unitCount cls ≤ i ∨ (met ∧ ¬ unitLegal cls i) then (s, true)
  else
    let t := match s.arb.lift with
      | some l => if l.cls = cls ∧ l.i = i ∧ l.cycle = s.pulonCycle then s.fenceMeetsLift met l else s.fenceNow met cls i
      | none => s.fenceNow met cls i
    let fresh := if s.lastFence = some (cls, i, s.pulonCycle) then s.arb.fresh else !s.unitFenced cls i
    ({ t with lastFence := some (cls, i, s.pulonCycle), arb := { t.arb with fresh := fresh } }, false)

/-- The lift itself, as far as the unit's own cause allows (R38). (DEDUCED, log entry 39.) -/
def liftNow (s : State) (cls i : Nat) : State :=
  match cls with
  | 0 => s.laneLift i
  | 1 => if s.sqState i = 3 ∧ ¬ s.portCauseHeld i then s.portUnfence i else s
  | 2 => s.facetLift i
  | 3 => s.coderLift i
  | 4 => if s.bit SDR_FENCED_channels i then (s.sdrLift i).csuChannelLifted i else s
  | 5 => s.hkLift i
  | 7 => s.rxLift i
  | _ => s

/-- Whether a lift of a fenced unit is ignored because its cause is still asserted. -/
def causeHeld (s : State) (cls i : Nat) : Bool :=
  match cls with
  | 0 => s.bit (LCA_LANE_CTL_st_fail i)
  | 1 => s.portCauseHeld i
  | 5 => s.bit HKT_OPEN_inputs i
  | _ => false

/-- FLIFT by SUP or MET (R130, R131); answers whether it was ignored: also one of a class 8 to 15, of an index out of range, or by MET of a unit that is not legally relevant,
for which R130 states no C and R129 gives FENCE's as 1. (DEDUCED, log entry 39; DESIGN CHOICE for that C, log entry 39.) -/
def liftRequest (s : State) (met : Bool) (cls i : Nat) : State × Bool :=
  if unitCount cls ≤ i ∨ (met ∧ ¬ unitLegal cls i) ∨ cls = 6 then (s, true)
  else if s.lastFence = some (cls, i, s.pulonCycle) then (s, true)
  else if !s.unitFenced cls i then
    ({ s with arb := { s.arb with lift := some { cls := cls, i := i, cycle := s.pulonCycle, core := if met then 5 else 4, was := false, regs := [], kat := false } } }, false)
  else if s.sealed && unitLegal cls i && !met then (s, true)
  else if s.sealed && cls == 1 && (s.facetMen i).katFence then (s, true)
  else if s.causeHeld cls i then (s, true)
  else
    let t := s.liftNow cls i
    ({ t with arb := { t.arb with lift := some { cls := cls, i := i, cycle := s.pulonCycle, core := if met then 5 else 4, regs := s.changedRegs t,
                                                  kat := (s.facetMen i).katFence } } }, false)

/-- A run of `low` samples of FxFLT_N that ends now is judged: one sample falls at tick 0 of each slot of H, and all of them since the input was unmasked and enabled (R140). -/
def fltRun (s : State) (p low : Nat) : Bool := (s.pos 4).tick == 0 && decide (0 < low) && decide ((s.port p).fltFrom + 96 * (low - 1) ≤ s.now)

/-- FAULT_INPUT_FENCE: FxFLT_N of port `p` has read low in `low` consecutive samples, the last of them now; 0 where it reads high (R140). A port already fenced keeps its cause. -/
def faultInput (s : State) (p low : Nat) : State :=
  let s := s.modPort p (fun x => { x with fltLow := decide (0 < low) })
  if (s.port p).pen && (s.port p).settled && s.bit (FPP_FLT_CFG_en p) && decide (s.get (FPP_FLT_CFG_filter p) ≤ low) && s.fltRun p low then
    (s.setBit (FPP_EVT_fault p)).portFence p 6
  else s

/-! ## What a core's fault does (R83) -/

/-- SUP faults: it enters its fault handler, or a second fault halts it. Cause 1 illegal instruction, 2 PC overrun. A second fault is recorded in PSC_SUP_FAULT too, and leaves
EPC, EFLAGS and IE as the first left them. (DEDUCED, log entry 66; DESIGN CHOICE for the second fault, log entry 66.) -/
def supFault (s : State) (cause pc : Nat) : State :=
  let s := s.setNum PSC_SUP_FAULT (pc % 2 ^ 15 * 65536 + cause)
  if s.bit PSC_SUP_STAT_in_fault then ((s.setBit PSC_SUP_STAT_halted).setBit PSC_EVT_sup_fault).modCore 4 (fun x => { x with waiting := none })
  else
    let c := s.core 4
    (s.setBit PSC_SUP_STAT_in_fault).modCore 4 (fun x =>
      { x with epc := pc, eflags := b2n c.z * 8 + b2n c.n * 4 + b2n c.c * 2 + b2n c.v, ie := false, pc := s.get PSC_SUP_VEC_fvec, waiting := none })

/-- A core faults at `pc`: an SQ core fences its port, SUP enters its handler, MET's fault is an enclave reset (R83). `overrun`: the PC left the memory. (DEDUCED, log entry 66.) -/
def coreFault (s : State) (k : Nat) (overrun : Bool) (pc : Nat) : State :=
  if k < 4 then (s.modCore k (fun x => { x with pc := pc })).portFence k (if overrun then 3 else 2)
  else if k = 4 then s.supFault (if overrun then 2 else 1) pc
  else s.enclaveReset

/-- SQ_WATCHDOG_EXPIRY (R94): the port is fenced with cause watchdog. -/
def sqWatchdog (s : State) (q : Nat) : State := if s.sqExpired q then s.portFence q 1 else s

end State
end Sys2Proof.Machine
end

