-- ==== Sys2Proof/Machine/MenReq.lean ====
section
/-! DEFINITION. Machine/MenReq.lean: the requests that MET serves (R246–R249, R252, R254, R255, R261–R263, R268, R269, R271, R506) and the request block. -/

namespace Sys2Proof.Machine
open R

/-! ## The fit of a radiometric curve (R261) -/

/-- Samples as numbers, with zero past the end. -/
def sampleAtK (y : List Int) (k : Nat) : Int := y.getD k 0

/-- The least-squares cubic of segment `seg` at its five samples, times 70. -/
def fitAt (y : List Int) (seg j : Nat) : Int :=
  let f := fun i => sampleAtK y (4 * seg + i)
  let d := f 0 - 4 * f 1 + 6 * f 2 - 4 * f 3 + f 4
  let w : Int := match j with | 0 => 1 | 1 => -4 | 2 => 6 | 3 => -4 | _ => 1
  70 * f j - w * d

/-- Forward differences of the fit: value, first, second, third, all times 70. -/
def fitDiffs (y : List Int) (seg : Nat) : Int × Int × Int × Int :=
  let f := fitAt y seg
  (f 0, f 1 - f 0, f 2 - 2 * f 1 + f 0, f 3 - 3 * f 2 + 3 * f 1 - f 0)

/-- The fit halfway between samples `j` and `j + 1` of a segment, times 70 × 16. -/
def fitMid (y : List Int) (seg j : Nat) : Int :=
  let d := fitDiffs y seg
  let j : Int := j
  -- s = j + 1/2: s (s - 1) / 2 = (2j + 1) (2j - 1) / 8 and s (s - 1) (s - 2) / 6 = (2j + 1) (2j - 1) (2j - 3) / 48
  16 * d.1 + 8 * (2 * j + 1) * d.2.1 + 2 * (2 * j + 1) * (2 * j - 1) * d.2.2.1 + (2 * j + 1) * (2 * j - 1) * (2 * j - 3) * d.2.2.2 / 3

/-- Coefficient `k` of a segment's fit as a quotient: numerator and denominator. -/
def fitCoef (y : List Int) (seg k : Nat) : Int × Int :=
  let d := fitDiffs y seg
  match k with
  | 0 => (d.1, 70)
  | 1 => (24 * d.2.1 - 12 * d.2.2.1 + 8 * d.2.2.2, 420)
  | 2 => (8 * d.2.2.1 - 8 * d.2.2.2, 70)
  | _ => (32 * d.2.2.2, 210)

/-- Elimination of the natural spline's equations M(k-1) + 4 M(k) + M(k+1) = r(k): pairs (c, d) with M(k) = d - c M(k+1). -/
def splineForward : List Rat → Rat → Rat → List (Rat × Rat)
  | [], _, _ => []
  | r :: rest, c, d =>
    let p := 4 - c
    let c' := 1 / p
    let d' := (r - d) / p
    (c', d') :: splineForward rest c' d'

/-- Second derivatives of the natural cubic spline through the samples, at all of them. -/
def splineMoments (y : List Int) : List Rat :=
  let n := y.length
  let r := (List.range (n - 2)).map (fun i => (6 * (sampleAtK y (i + 2) - 2 * sampleAtK y (i + 1) + sampleAtK y i) : Rat))
  let f := splineForward r 0 0
  let inner := f.reverse.foldl (fun (acc : List Rat) e => (e.2 - e.1 * acc.headD 0) :: acc) []
  (0 :: inner) ++ [0]

/-- Whether a spline value lies within 233–773 K: code 3,300 to 57,300, times 256. -/
def inRange (v : Rat) : Bool := 844800 ≤ v && v ≤ 14668800

/-- Whether a fit value stays within 0.3 code, 76.8 units, of the spline wherever that lies in range. -/
def fitOk (spline fit : Rat) : Bool := !inRange spline || (decide (fit - spline ≤ 384 / 5) && decide (spline - fit ≤ 384 / 5))

/-- Whether the curve may be accepted. -/
def curveOk (y : List Int) : Bool :=
  let m := splineMoments y
  let mo := fun k => m.getD k 0
  y.length == 257 && (List.range 256).all (fun k => decide (sampleAtK y k < sampleAtK y (k + 1))) &&
    (List.range 64).all (fun seg =>
      (List.range 5).all (fun j => fitOk (sampleAtK y (4 * seg + j)) ((fitAt y seg j : Rat) / 70)) &&
        (List.range 4).all (fun j =>
          let k := 4 * seg + j
          fitOk (((sampleAtK y k + sampleAtK y (k + 1) : Int) : Rat) / 2 - (mo k + mo (k + 1)) / 16) ((fitMid y seg j : Rat) / 1120)))

/-! ## Payloads -/

/-- The field of `k` bytes at offset `o` of a payload. -/
def pf (l : List Byte) (o k : Nat) : Nat := ofLe ((l.drop o).take k)

/-- Class of a request that changes a parameter (R243). -/
def reqClass (op : Nat) : Nat :=
  match op with
  | 0x12 => 6 | 0x13 => 5 | 0x14 => 3 | 0x15 => 8 | 0x16 => 10 | 0x17 => 9 | 0x18 => 9 | 0x19 => 9
  | _ => 7

/-- Item code of a request (R506). -/
def reqItem (op : Nat) (pay : List Byte) : Nat :=
  0xFF00_0000 + op * 0x1_0000 +
    match op with
    | 0x10 => pf pay 0 1 * 256 + pf pay 1 1
    | 0x11 => pf pay 0 1 * 4096 + pf pay 1 2
    | 0x12 => pf pay 0 1
    | 0x13 => pf pay 0 1
    | 0x14 => pf pay 0 1
    | _ => 0

namespace State

/-- What a request would change: old and new value as R506 gives them. -/
def reqValues (s : State) (op : Nat) (pay : List Byte) : Nat × Nat :=
  match op with
  | 0x10 => (prefix4 (zoneItem (s.zoneHeld (pf pay 0 1) (pf pay 1 1))), prefix4 (zoneItem (pay.drop 4)))
  | 0x11 => (prefix4 (Memory.bytes s.men.masks (pf pay 0 1 * 81920 + pf pay 1 2 * 160) 160), prefix4 (pay.drop 4))
  | 0x12 => (prefix4 (s.coefHeld (pf pay 0 1)), 0)
  | 0x13 => (first4 (Map.get (fun _ => []) s.progRef (pf pay 0 1)), first4 (pay.drop 4))
  | 0x14 => (first4 (Map.get (fun _ => []) s.tblRef (pf pay 0 1)), first4 (pay.drop 4))
  | 0x15 => (s.men.evid, pf pay 0 2)
  | 0x16 => (prefix4 s.recCfg, prefix4 pay)
  | 0x17 => (prefix4 s.men.timeKey, prefix4 pay)
  | 0x18 => (s.num (MEN_KEYHASH 0), 0)
  | _ => (first4 (sha256 s.image), first4 (sha256 (s.dramBytes (pf pay 0 4) (pf pay 4 4))))

/-- An item's change is noted when it changes, and its copies agree again (R244, R273). -/
def itemChanged (s : State) (op : Nat) (pay : List Byte) (same : Bool) (new : Nat) : State :=
  let item := reqItem op pay
  let s' := s.modMen (fun m => { m with p1Bad := m.p1Bad.filter (fun i => i != item) })
  if same then s' else s'.menChange (reqClass op) item (s.reqValues op pay).1 new

/-! ## Opcodes: the state after, the status and the response bytes -/

/-- READ_AUDIT (R245): an entry that was never written is an invalid parameter. -/
def reqReadAudit (s : State) (pay : List Byte) : State × Nat × List Byte :=
  let e := Map.get (fun _ => []) s.men.trail (pf pay 0 2)
  if pay.length ≠ 2 ∨ e.isEmpty then (s, 3, []) else (s, 0, e)

/-- SET_TIME (R255). -/
def reqSetTime (s : State) (pay : List Byte) : State × Nat × List Byte :=
  if pay.length ≠ 8 then (s, 3, [])
  else (((s.setBit MEN_STAT_time_set).clrBit MEN_STAT_time_verified).modMen (fun m => { m with utc := pf pay 0 8, utcWall := s.wall }), 0, [])

/-- SET_TIME_SIGNED (R255). -/
def reqSetTimeSigned (s : State) (pay : List Byte) : State × Nat × List Byte :=
  let nonce := s.num MEN_TIME_NONCE_LO + 2 ^ 32 * s.num MEN_TIME_NONCE_HI
  if pay.length ≠ 80 then (s, 3, [])
  else if P256.verifies s.men.timeKey (sha256 (pay.take 16)) (pay.drop 16) && pf pay 8 8 == nonce && decide (s.utcNow ≤ pf pay 0 8 + 60000) then
    let t := ((s.setBit MEN_STAT_time_set).setBit MEN_STAT_time_verified).modMen (fun m => { m with utc := pf pay 0 8, utcWall := s.wall })
    (t.drawNonce.eventRecord 7, 0, [])
  else (s, 5, [])

/-- REPLAY_RECORD (R263): a record of the zones of the frame that a replay has left in a slot. (DEDUCED, log entry 48.) -/
def reqReplayRecord (s : State) (pay : List Byte) : State × Nat × List Byte :=
  let p := pf pay 0 1
  let n := pf pay 1 1
  let b := s.slotBase p n
  if pay.length ≠ 2 ∨ 4 ≤ p ∨ s.ringSlots p ≤ n ∨ pf (s.dramBytes (b + 12) 1) 0 1 / 32 % 2 = 0 then (s, 3, [])
  else
    let fr : RecFrame := { frame := s.dramNum b 4, epoch := s.dramNum (b + 4) 2, marks := s.marksOf (p * 16 + n), settling := false, bound := 0 }
    let rows := s.dramNum (b + 6) 2
    let s := ((s.definedZones p).take 8).foldl (fun s k => s.zoneRead p n (s.zoneDesc p k) rows) (s.dramRead 3 14 b 64)
    let es := ((s.definedZones p).take 8).map (fun k =>
      let z := s.zoneValues p k n rows (s.zoneSt p k)
      zoneEntry k { z with absCond := decide (zf (s.zoneDesc p k) 16 3 ≤ z.above), rateCond := false })
    match s.drawn.buildRecord 3 (some p) 0 (some fr) fr.frame fr.epoch es true with
    | (t, some k) => (t, 0, leBytes 8 k)
    | (t, none) => (t, 6, [])

/-- RETRY_KAT (R271): at most once every 3,600 frames of H a port that failed its tests rejoins. -/
def reqRetryKat (s : State) (pay : List Byte) : State × Nat × List Byte :=
  let p := pf pay 0 1
  let soon := match Map.get (fun _ => none) s.men.retryAt p with | some (f : Nat) => decide (s.men.frames < f + 3600) | none => false
  if pay.length ≠ 1 ∨ 4 ≤ p ∨ ¬ (s.facetMen p).katFence then (s, 3, [])
  else if soon then (s, 6, [])
  else ((s.modMen (fun m => { m with retryAt := Map.set (fun _ => none) m.retryAt p (some m.frames) })).portUnfence p, 0, [])

/-- LIFT_FENCE (R249). -/
def reqLiftFence (s : State) (pay : List Byte) : State × Nat × List Byte :=
  let c := pf pay 0 2
  let i := pf pay 2 2
  if pay.length ≠ 4 ∨ ¬ (c = 0 ∨ c = 1 ∨ c = 3) ∨ unitCount c ≤ i then (s, 3, [])
  else if !s.unitFenced c i then (s, 0, [])
  else if s.causeHeld c i ∨ s.lastFence = some (c, i, s.pulonCycle) ∨ (c = 1 ∧ (s.facetMen i).katFence) then (s, 6, [])
  else ((s.liftNow c i).auditNote 11 6 (0xFF08_0000 + c * 4096 + i) 1 0, 0, [])

/-- WRITE_ZONE (R256): the stream takes the window at the port's next frame (R24). -/
def reqWriteZone (s : State) (pay : List Byte) : State × Nat × List Byte :=
  let x := pf pay 0 1
  let n := pf pay 1 1
  let d := pay.drop 4
  if pay.length ≠ 36 ∨ 4 ≤ x ∨ 64 ≤ n ∨ ¬ zoneValid d then (s, 3, [])
  else
    let t := s.itemChanged 0x10 pay (s.zoneHeld x n == d) (prefix4 (zoneItem d))
    ((t.modMen (fun m => { m with zones := Map.set (fun _ => []) m.zones (x * 64 + n) d })).armWindows x, 0, [])

/-- WRITE_MASK (R257), likewise. -/
def reqWriteMask (s : State) (pay : List Byte) : State × Nat × List Byte :=
  let x := pf pay 0 1
  let row := pf pay 1 2
  let a := x * 81920 + row * 160
  if pay.length ≠ 164 ∨ 4 ≤ x ∨ 512 ≤ row then (s, 3, [])
  else
    let t := s.itemChanged 0x11 pay (Memory.bytes s.men.masks a 160 == pay.drop 4) (prefix4 (pay.drop 4))
    ((t.modMen (fun m => { m with masks := Memory.setBytes m.masks a (pay.drop 4) })).armWindows x, 0, [])

/-- A coefficient as the fit gives it: the spec names no rounding, and a value that its 32 bits do not hold is free. -/
def coefValue (q : Int × Int) : Int :=
  let v := openQuot q.1 q.2
  if v < -2147483648 ∨ 2147483647 < v then (Config.outOfField v.natAbs : Int) else v

/-- The coefficients of an accepted curve become the port's shadow set, armed (R197). -/
def acceptCurve (s : State) (p : Nat) (y : List Int) : State :=
  let cs := (List.range 256).map (fun i => coefValue (fitCoef y (i / 4) (i % 4)))
  let m := (List.range 256).foldl (fun m i => Map.set (fun _ => (0 : Int)) m (p * 256 + i) (cs.getD i 0)) s.coefShadow
  let old := s.coefHeld p
  let t := { s with coefShadow := m, coefArm := if s.coefArm / 2 ^ p % 2 = 1 then s.coefArm else s.coefArm + 2 ^ p }
  let item := 0xFF12_0000 + p
  (t.auditNote 6 3 item (prefix4 old) (prefix4 (coefBytes m p))).setBit MEN_STAT_ident_stale

/-- WRITE_CURVE (R261, R262). -/
def reqWriteCurve (s : State) (pay : List Byte) : State × Nat × List Byte :=
  let p := pf pay 0 1
  let first := pf pay 2 2
  let k := (pay.length - 4) / 4
  let new : List W32 := (List.range k).map (fun i => BitVec.ofNat 32 (pf pay (4 + 4 * i) 4))
  let held := Map.get (fun _ => []) s.men.staging p
  if pay.length < 8 ∨ pay.length % 4 ≠ 0 ∨ 56 < k ∨ 4 ≤ p ∨ 257 < first + k ∨ (first ≠ 0 ∧ first ≠ held.length) then (s, 3, [])
  else
    let all := if first = 0 then new else held ++ new
    let stage := fun (l : List W32) (m : MenSt) => { m with staging := Map.set (fun _ => []) m.staging p l }
    if all.length < 257 then (s.modMen (stage all), 0, [])
    else
      let y := all.map (fun w => sgn 32 w.toNat)
      let t := s.modMen (stage [])
      if curveOk y then ((t.modMen (fun m => { m with p1Bad := m.p1Bad.filter (fun i => i != 0xFF12_0000 + p) })).acceptCurve p y, 0, []) else (t, 3, [])

/-- INSTALL_PROG_REF and INSTALL_TABLE_REF: the reference of a core or a table (R87, R204). -/
def reqInstall (s : State) (op : Nat) (pay : List Byte) : State × Nat × List Byte :=
  let q := pf pay 0 1
  let d := pay.drop 4
  if pay.length ≠ 36 ∨ 4 ≤ q then (s, 3, [])
  else
    let old := Map.get (fun _ => []) (if op = 0x13 then s.progRef else s.tblRef) q
    let t := s.itemChanged op pay (old == d) (first4 d)
    (if op = 0x13 then { t with progRef := Map.set (fun _ => []) t.progRef q d } else { t with tblRef := Map.set (fun _ => []) t.tblRef q d }, 0, [])

/-- SET_EVIDENTIAL (R269): refused when the mask names a stream whose active δ is not 0. -/
def reqSetEvidential (s : State) (pay : List Byte) : State × Nat × List Byte :=
  let m := pf pay 0 2
  if pay.length ≠ 2 ∨ (List.range 16).any (fun n => m / 2 ^ n % 2 == 1 && s.get (CER_S_DELTA_delta_act n) != 0) then (s, 3, [])
  else ((s.itemChanged 0x15 pay (s.men.evid == m) m).modMen (fun x => { x with evid := m }), 0, [])

/-- SET_RECORDS (R268). -/
def reqSetRecords (s : State) (pay : List Byte) : State × Nat × List Byte :=
  if pay.length ≠ 32 ∨ pf pay 10 1 / 16 ≠ 0 ∨ pf pay 11 1 < 4 ∨ (pay.drop 16).any (fun b => b != 0#8) then (s, 3, [])
  else ((s.itemChanged 0x16 pay (s.recCfg == pay) (prefix4 pay)).modMen (fun x => { x with recCfg := pay }), 0, [])

/-- SET_TIME_KEY (R255). -/
def reqSetTimeKey (s : State) (pay : List Byte) : State × Nat × List Byte :=
  if pay.length ≠ 64 then (s, 3, [])
  else ((s.itemChanged 0x17 pay (s.men.timeKey == pay) (prefix4 pay)).modMen (fun x => { x with timeKey := pay }), 0, [])

/-- GENERATE_KEY (R252): a private key from 1 to the order less 1 is drawn and stored in place of the previous one, and its public key is derived and published. -/
def reqGenerateKey (s : State) (pay : List Byte) : State × Nat × List Byte :=
  if pay.length ≠ 0 then (s, 3, [])
  else
    let d := 1 + (Config.privateKey s.freeCtr).toNat % (P256.order - 1)
    let k := P256.publicKey d
    let t := (s.drawn.itemChanged 0x18 pay false (first4 (sha256 k))).modMen (fun m => { m with privKey := d, pubKey := k })
    (t.publishKey.eventRecord 6, 0, sha256 k)

/-- FIRMWARE_UPDATE (R254): the state with the image written, before the enclave reset. (DEDUCED, log entry 44.) -/
def reqFirmware (s : State) (pay : List Byte) : State × Nat × List Byte :=
  let a := pf pay 0 4
  let n := pf pay 4 4
  if pay.length ≠ 8 ∨ s.dataBytes < a + n ∨ ¬ s.dramOk then (s, 3, [])
  else
    let s := s.dramRead 3 14 a n
    let im := s.dramBytes a n
    if Config.imageValid im && (List.range n).all (fun i => !s.poisoned (a + i)) then
      (((s.itemChanged 0x19 pay false (first4 (sha256 im))).modMen (fun m => { m with image := some im })).commitWhere (fun _ => true), 0, [])
    else (s, 5, [])

/-! ## Judging and answering -/

/-- What MET answers to a request that starts with the seal `open_` (R242, R247, R248). -/
def judgeRequest (s : State) (op : Nat) (pay : List Byte) (open_ : Bool) : State × Nat × List Byte :=
  if 0x10 ≤ op ∧ op ≤ 0x19 ∧ ¬ open_ then
    let v := s.reqValues op pay
    (s.auditReject (reqClass op) 5 (reqItem op pay) v.1 v.2, 2, [])
  else
    match op with
    | 0x01 => if pay.isEmpty then (s, 0, s.men.digest) else (s, 3, [])
    | 0x02 => if pay.isEmpty then (s, 0, if s.men.pubKey.isEmpty then List.replicate 64 0#8 else s.men.pubKey) else (s, 3, [])
    | 0x03 => s.reqReadAudit pay
    | 0x04 => s.reqSetTime pay
    | 0x05 => s.reqSetTimeSigned pay
    | 0x06 => s.reqReplayRecord pay
    | 0x07 => s.reqRetryKat pay
    | 0x08 => s.reqLiftFence pay
    | 0x10 => s.reqWriteZone pay
    | 0x11 => s.reqWriteMask pay
    | 0x12 => s.reqWriteCurve pay
    | 0x13 => s.reqInstall 0x13 pay
    | 0x14 => s.reqInstall 0x14 pay
    | 0x15 => s.reqSetEvidential pay
    | 0x16 => s.reqSetRecords pay
    | 0x17 => s.reqSetTimeKey pay
    | 0x18 => s.reqGenerateKey pay
    | 0x19 => s.reqFirmware pay
    | _ => (s, 4, [])

/-- The response data: as many words of MEN_RSP_DATA as the response has. -/
def putResponse (s : State) (data : List Byte) : State :=
  (List.range ((data.length + 3) / 4)).foldl (fun s k => s.setNum (MEN_RSP_DATA k) (pf data (4 * k) 4)) s

/-- MET answers a request: data, status, sequence number and the event (R247). (DEDUCED, log entry 49.) -/
def respond (s : State) (seq : W32) (op status : Nat) (data : List Byte) : State :=
  let s := s.putResponse data
  let s := ((s.setNum MEN_RSP_STATUS (op * 65536 + status)).setReg MEN_RSP_SEQ seq).menEvt 3
  if status = 2 ∨ status = 5 then s.menEvt 7 else s

/-- MET carries a request out; an accepted firmware image runs from the enclave reset that follows (R254). -/
def serveRequest (s : State) (seq : W32) (op : Nat) (pay : List Byte) (open_ : Bool) : State :=
  let r := s.judgeRequest op pay open_
  let t := (r.1.respond seq op r.2.1 r.2.2).metJudge
  if op = 0x19 ∧ r.2.1 = 0 then t.enclaveReset else t

/-- MET takes a request whose sequence number is new, when it has none in progress (R246). (DEDUCED, log entry 49.) -/
def takesRequest (s : State) (seq : W32) : Bool := s.metUp && s.men.busy.isNone && s.reg MEN_RSP_SEQ != seq

/-- The request reads DRAM, REPLAY_RECORD its slot and FIRMWARE_UPDATE its image, and DRAM requests wait (R472). -/
def reqWaits (s : State) (op : Nat) : Bool := s.dramWaits && (op == 6 || op == 0x19)

/-- A request that MET completes at once. -/
def menRequest (s : State) (seq : W32) (op : Nat) (pay : List Byte) : State :=
  if s.takesRequest seq && !s.reqWaits op then s.serveRequest seq op pay (s.sealState == 0) else s

/-- Words of the request block read by MET, from offset `o` of it, each word of eight bytes once; whether one could not be corrected, which is received as zero (R338, R339).
(DEDUCED, log entry 60.) -/
def blockRead (s : State) (o : Nat) : Nat → State × List Byte × Bool
  | 0 => (s, [], false)
  | k + 1 =>
    let a := 0xBF_FF00 + o
    let (s, bad) := if a % 8 = 0 then s.eccRead true a (memReq 2) else (s, (s.wordErr (wordNo true a)).any (·.ue))
    let r := s.blockRead (o + 4) k
    (r.1, (if bad then List.replicate 4 0#8 else leBytes 4 (Memory.num s.band a 4)) ++ r.2.1, bad || r.2.2)

/-- REQUEST_BLOCK_POLL: MET reads the block; `slow` says that this request reports in progress first (R246, R247). A block with a word that cannot be corrected is answered with
status 3 (R348), under the sequence number as MET receives it: a header that cannot be corrected is received as zero. (DEDUCED, log entry 49.) -/
def requestPoll (s : State) (slow : Bool) : State :=
  if !s.metUp || s.men.busy.isSome then s
  else
    let (s, h, bad) := s.blockRead 0 2
    let seq : W32 := BitVec.ofNat 32 (pf h 0 4)
    let op := pf h 4 2
    let len := pf h 6 2
    if !s.takesRequest seq then s
    else
      let (s, pay, badPay) := s.blockRead 8 ((min len 248 + 3) / 4)
      if bad || badPay || decide (248 < len) then (s.respond seq op 3 []).metJudge
      else if slow then
        (s.respond seq op 1 []).modMen (fun m => { m with busy := some (seq.toNat, op, pay.take len, s.sealState == 0) })
      else if s.reqWaits op then s
      else s.serveRequest seq op (pay.take len) (s.sealState == 0)

/-- REQUEST_FINAL_STATUS: the request in progress completes; one that outlived an open seal leaves no staged sample behind (R242, R247, R262). -/
def requestFinal (s : State) : State :=
  match s.men.busy with
  | none => s
  | some (seq, op, pay, o) =>
    if s.metUp && !s.reqWaits op then
      let t := (s.modMen (fun m => { m with busy := none, leftOpen := false })).serveRequest (BitVec.ofNat 32 seq) op pay o
      if o && s.men.leftOpen then t.modMen (fun m => { m with staging := [] }) else t
    else s

end State
end Sys2Proof.Machine
end

