-- ==== Sys2Proof/Machine/Boot.lean ====
section
/-! DEFINITION. Machine/Boot.lean: the boot ROM's load of SUP (R91, R367 to R369): where the image comes from, its check, and the hand-over to instruction memory. -/

namespace Sys2Proof.Machine
open R

/-- A boot image's header: lengths of the instruction and the data image, entry index, and the CRC-32 that it states (R368). -/
structure BootHeader where
  instr : Nat
  data : Nat
  entry : Nat
  crc : Nat
deriving DecidableEq, Repr

/-- The header in the first 32 bytes of `l`, where it has the contents of R368; a byte that R368 gives as zero must be zero. (DESIGN CHOICE, log entry 35.) -/
def bootHeader (l : List Byte) : Option BootHeader :=
  let h : BootHeader := { instr := ofLe ((l.drop 4).take 4), data := ofLe ((l.drop 8).take 4), entry := ofLe ((l.drop 12).take 2), crc := ofLe ((l.drop 16).take 4) }
  if l.take 4 = [0x53#8, 0x4B#8, 0x34#8, 0x31#8] ∧ h.instr % 4 = 0 ∧ h.instr ≤ 131072 ∧ h.data ≤ 262144 ∧
      (l.drop 14).take 2 = [0#8, 0#8] ∧ (l.drop 20).take 12 = List.replicate 12 0#8 then some h
  else none

/-- Bytes of the whole image. -/
def BootHeader.size (h : BootHeader) : Nat := 32 + h.instr + h.data

/-- The CRC-32 over bytes 0 to 15 and both images is the one that the header states. -/
def BootHeader.sound (h : BootHeader) (l : List Byte) : Bool := crc32 (l.take 16 ++ (l.drop 32).take (h.instr + h.data)) == h.crc

namespace State

def modBoot (s : State) (f : BootSt → BootSt) : State := s.modSio (fun x => { x with boot := f x.boot })

/-- The boot ROM loads from source `b`; a fallback load hands group 28 to the host (R367, R369). -/
def bootFrom (s : State) (b : Nat) : State :=
  let s := (s.put SIO_BOOT_source b).modBoot (fun _ => { src := b, loading := true })
  if b = 2 then s.setNum (PSC_OWN 28) 0 else s

/-- SUP begins in its boot ROM: the source is the one that the sampled BOOT pins select, and the reserved codes act as 0b010 (R91, R367). The core is ready now. -/
def bootBegin (s : State) : State :=
  let b := s.get SIO_BOOT_boot
  ((s.clrBit SIO_BOOT_flash_fail).bootFrom (if 4 ≤ b then 2 else b)).modCore 4 (fun x => { x with readyAt := s.now })

/-- An image that has passed its check is loaded from index and address 0 on: the ROM writes the entry index, kicks the watchdog and clears rom_map (R91, R95).
(DESIGN CHOICE, log entry 35.) -/
def bootLoad (s : State) (h : BootHeader) (l : List Byte) : State :=
  let s := { s with imem := Memory.setBytes s.imem (coreBase 4) ((l.drop 32).take h.instr), dmem := Memory.setBytes s.dmem (coreBase 4) ((l.drop (32 + h.instr)).take h.data) }
  let s := (s.put PSC_SUP_ENTRY_entry h.entry).modBoot (fun b => { b with loading := false, data := [] })
  (s.supWdKick 0x5A#32).romMapClear

/-- A source is loading. -/
def bootsFrom (s : State) (b : Nat) : Bool := s.sio.boot.loading && s.sio.boot.src == b && s.bit PSC_SUP_CTL_rom_map

/-- Fallback load: the host's doorbell says that the image stands in the band store. The ROM takes group 28 back and checks it; a bad image gives the group to the host
again, and the ROM waits for another doorbell. (DESIGN CHOICE for the bad image, log entry 35.) -/
def bootDoorbell (s : State) : State :=
  if !s.bootsFrom 2 then s
  else
    let s := s.setNum (PSC_OWN 28) 1
    match bootHeader (Memory.bytes s.band 0 32) with
    | some h =>
      let l := Memory.bytes s.band 0 h.size
      if h.sound l then s.bootLoad h l else s.bootFrom 2
    | none => s.bootFrom 2

/-- Host push: the ROM takes every unit from the receive FIFO, answers 1 to a bad header, 2 to a CRC mismatch and 0 to an accepted image, and after 1 or 2 waits for another
image. (DESIGN CHOICE for what follows 1 and 2, log entry 35.) -/
def bootPush (s : State) : State :=
  if !s.bootsFrom 3 then s
  else
    let l := s.sio.boot.data ++ s.sio.rxq.flatMap (fun w => leBytes 4 w.toNat)
    let s := (s.rxFlush).modBoot (fun b => { b with data := l })
    if l.length < 32 then s
    else match bootHeader l with
      | none => (s.txdWrite 1#32).modBoot (fun b => { b with data := [] })
      | some h =>
        if l.length < h.size then s
        else if h.sound l then (s.txdWrite 0#32).bootLoad h l
        else (s.txdWrite 2#32).modBoot (fun b => { b with data := [] })

/-- A flash load fails: the ROM continues as for 0b010 (R369). -/
def bootFlashFail (s : State) : State := (s.setBit SIO_BOOT_flash_fail).bootFrom 2

/-- The flash of source 0 or 1 takes part in a unit: GPIO0 is its select pin and stands away from idle, and PPORT shifts at 25 MHz, or at 100 MHz for source 1 (R367). -/
def flashSelected (s : State) : Bool :=
  s.get (GPIO_FUN_func 0) == 2 && bitOf s.sio.sel 0 != s.bit (GPIO_FUN_idle 0) && s.get PPORT_CFG_div == (if s.sio.boot.src = 1 then 30 else 120)

/-- The read command of a source, with its address: 0x03, or 0x6B, from 0 on (R367). -/
def flashRead (src : Nat) : Nat := (if src = 1 then 0x6B else 0x03) * 2 ^ 24

/-- What a unit of SUP is to the flash: bits of the read command, shifted out in single mode; dummy clocks, 8 of them for source 1; or data. Answers the data bytes (R367). A command
or a dummy phase that does not fit begins again. (DESIGN CHOICE, log entry 35.) -/
def flashUnit (s : State) (u : PpUnit) : State × List Byte :=
  let b := s.sio.boot
  let quad := b.src == 1
  if !s.flashSelected then (s, [])
  else if b.cmdBits < 32 then
    if u.rx || u.quad then (s, [])
    else
      let n := b.cmdBits + u.bits
      let v := b.cmd * 2 ^ u.bits + unitValue u u.tx.toNat
      let bad := decide (32 < n) || (decide (n = 32) && v != flashRead b.src)
      (s.modBoot (fun b => if bad then { b with cmdBits := 0, cmd := 0 } else { b with cmdBits := n, cmd := v }), [])
  else if quad && decide (b.dummy < 8) then
    let n := b.dummy + u.clocks
    (s.modBoot (fun b => if 8 < n then { b with cmdBits := 0, cmd := 0, dummy := 0 } else { b with dummy := n }), [])
  else if u.rx && u.quad == quad then (s, (leBytes (u.bits / 8) (s.core 4).ppRx.toNat).reverse)
  else (s, [])

/-- Flash: the bytes of each receiving unit that SUP issues from the ROM behind the read command are the image's next, the first received first. (DESIGN CHOICE, log entry 35.) -/
def bootFlash (s : State) (u : PpUnit) : State :=
  if !(s.bootsFrom 0 || s.bootsFrom 1) || u.core != 4 then s
  else
    let (s, data) := s.flashUnit u
    let l := s.sio.boot.data ++ data
    let s := s.modBoot (fun b => { b with data := l })
    if l.length < 32 then s
    else match bootHeader l with
      | none => s.bootFlashFail
      | some h =>
        if l.length < h.size then s
        else if h.sound l then s.bootLoad h l
        else s.bootFlashFail

end State
end Sys2Proof.Machine
end

