-- ==== Sys2Proof/Machine/Time.lean ====
section
/-! DEFINITION. Machine/Time.lean: what a line start, a frame start, a row close and a decided pixel do in every block that they concern. -/

namespace Sys2Proof.Machine
open R

namespace State

/-! ## Line starts -/

/-- Line starts of H count for blocks that name no raster. -/
def hLine (s : State) : State := ((((((s.nvsLine).memLine).pwrTick).vioLine).scaLine))

/-- A line start of raster `r` beside the watchdogs; the line before it had `oldLen` slots at its active length. -/
def lineRest (s : State) (r oldLen : Nat) : State :=
  let s := (((s.holdLine r).hkLine r).iplLine r).sdrLine r
  let s := if r = 4 then s.hLine else s
  let s := if r < 4 then s.portOwnLine r oldLen else s
  let s := [0, 1, 2, 3].foldl (fun s p => if s.pacing p = r then s.portTimedLine p else s) s
  s.dropRemoved r

/-- A line start of raster `r` that follows a line: the watchdogs count it. -/
def lineEffects (s : State) (r oldLen : Nat) : State := (s.pscLine r).lineRest r oldLen

/-! ## Frame starts -/

/-- Marks of the frame that starts on port `p` (R28, R59, R88, R221, R228, R470). -/
def startMarks (s : State) (p : Nat) : Nat :=
  let x := s.raster p
  let lock := x.src != 7
  4 * b2n (lock && x.started != .aligned && x.started != .restarted) + 8 * b2n (lock && x.started == .slipped) + 16 * b2n (lock && x.started == .restarted) +
    32 * b2n s.sca.slow + 64 * b2n s.warned + 128 * b2n (s.csuOf p).shutter + 256 * b2n (s.bit (CSU_STAT_overdue p)) +
    1024 * b2n (s.bit (PSC_SQ_STAT_unverified p))

/-- An ARMED core starts at the frame start of its raster, and MET notes the program (R84, R88, R244). -/
def sqFrame (s : State) (p : Nat) : State :=
  let was := s.sqState p
  let s := s.sqStart p
  if was = 1 ∧ s.sqState p = 2 then (if s.metUp then s.auditStart p else s).katRestart p else s

/-- A delivering frame's slot is begun, and the streams and the recorder that code the port take the frame (R307, R321). -/
def slotTakenOver (s : State) (p : Nat) : State :=
  if s.bit (FPP_STAT_delivering p) then (s.slotBegun p (s.curSlot p)).cerFrame p else s

/-- A frame start of port `p`'s raster, block by block. -/
def portFrameStart (s : State) (p : Nat) : State :=
  let s := (((s.sqFrame p).portFrame p).streamFrame p).slotTakenOver p
  let s := (s.csuFrame p).menFrame p
  (s.setMarks (64 + p) (s.startMarks p)).metJudge

/-- A frame start of H. -/
def hFrame (s : State) : State :=
  let s := ((((s.memFrame).iplFrame).cerHFrame).vioFrame).dueOnH
  (s.scaFrame).modMen (fun m => { m with frames := m.frames + 1 })

/-- A frame start of raster `r` that began at tick `t`. -/
def frameEffects (s : State) (r t : Nat) : State :=
  let s := (s.sourceEvent r t).hkFrame r
  if r = 4 then s.hFrame else s.portFrameStart r

/-- Raster `r` has gone on to a new frame at tick `t`, unless it stopped there. The watchdogs count the line start before a core starts in it (R94). FPP_x_STAT.delivering keeps
the bit of the last frame where the raster stops at its end; entries in slots that its last line lost are dropped there (R55). (DESIGN CHOICE, log entry 29.) -/
def frameBegun (s : State) (r t oldLen : Nat) : State :=
  if (s.raster r).running then ((s.pscLine r).frameEffects r t).lineRest r oldLen else s.dropRemoved r

/-! ## Rasters -/

/-- The raster starts from its held locus at tick `t`; no line of it has passed yet, so its watchdogs count none (R95). -/
def rasterStart (s : State) (r t : Nat) (kind : FrameStart) : State := ((s.startRaster r t kind).frameEffects r t).lineRest r (s.raster r).lineLen

/-- RTB_x_CTL: run (R43) and the arm bit of the lengths (R42). Raster H's run reads 1 and ignores writes. -/
def rasterCtl (s : State) (r : Nat) (v : W32) : State :=
  let s := if bitOf v (RTB_CTL_arm r).lo then s.setBit (RTB_CTL_arm r) else s
  if r = 4 then s
  else
    let x := s.raster r
    if bitOf v (RTB_CTL_run r).lo then
      let s := s.setBit (RTB_CTL_run r)
      if x.running ∨ x.holding then s
      else if x.src = 7 then s.rasterStart r (s.now + 1) .natural
      else s.modRaster r (fun y => { y with holding := true, aligns := [] })
    else (s.clrBit (RTB_CTL_run r)).modRaster r (fun y => { y with holding := false, aligns := if y.holding then [] else y.aligns })

/-- The frame that a restart truncates is given up with everything in flight (R57); it stops delivering, which aborts a flat-field of the port (R226). (DEDUCED, log entry 41.) -/
def truncate (s : State) (r : Nat) : State :=
  let s := s.bump (RTB_TRUNC_CNT_frames r)
  if 4 ≤ r then s
  else
    let s := if s.bit (FPP_STAT_delivering r) && !(s.port r).closed then (s.cerAbandon r (s.curSlot r)).ffAbort r else s
    s.modPort r (fun x => { x with results := [], intake := [], interp := [], taken := [], emitted := [], rowCnt := [], suspended := true })

/-- ACQUIRE_RESTART: the first alignment moment after ACQUIRE was entered starts a frame, truncating the one in hand (R57); a raster that holds its locus starts
there, LOCKED (R43). (DEDUCED, log entry 21.) -/
def acquireRestart (s : State) (r : Nat) : State :=
  let x := s.raster r
  if x.holding then
    match x.aligns with
    | [] => s
    | t :: rest =>
      let s := s.advanceTo t
      let s := (s.modRaster r (fun y => { y with aligns := rest, sinceAlign := 0 })).enterLock r 2
      (s.setBit RTB_EVT_acq r).rasterStart r t .aligned
  else if !(x.running && x.lockState == 1 && x.acq == 0) then s
  else
    match x.comingMoments s.now with
    | [] => s.modRaster r (fun y => { y with aligns := [] })
    | t :: rest =>
      let whole := x.lastLine && x.lineEnd == t
      let s := s.advanceTo t
      let s := ((s.pulseGains r t).sdrGains r t).modRaster r (fun y => { y with aligns := rest })
      let s := if whole then s else s.truncate r
      let s := (s.enterLock r 2).setBit RTB_EVT_acq r
      (s.beginFrame r t (if whole then .aligned else .restarted)).frameBegun r t x.lineLen

/-- The current line of raster `r` ends, and a new line, or a new frame, starts (R41, R54). A first alignment moment in the tick of a frame's natural end
starts the next frame (R57). -/
def rasterAdvance (s : State) (r : Nat) : State :=
  if !(s.raster r).running then s
  else if (s.raster r).lastLine && (s.raster r).restartAt s.now == some (s.raster r).lineEnd then s.acquireRestart r
  else
    let s := s.lockLineEnd r
    let x := s.raster r
    let t := x.lineEnd
    let s := (s.pulseGains r t).sdrGains r t
    if x.lastLine then (s.beginFrame r t (if x.cutAt.isSome then x.cutKind else .natural)).frameBegun r t x.lineLen
    else ((s.advanceTo t).setRaster r { x with prev := some (x.lineAt, x.frame, x.line), line := x.line + 1, lineAt := t, cutAt := none }).lineEffects r x.lineLen

/-! ## Rows and pixels -/

/-- The frame in hand of port `p` is complete once its last row has closed and its pixels are written: header, and every consumer (R202). A frame none of whose rows lies
before the last line ends in that line (R145). -/
def frameFinish (s : State) (p : Nat) : State :=
  let x := s.port p
  let short := (s.raster p).lastLine && decide ((s.raster p).lineAt + 96 * 15 ≤ s.now)
  if s.bit (FPP_STAT_delivering p) && !x.closed && decide (s.rowsDue p ≤ x.rows) && (x.rows != 0 || short) && x.results.isEmpty && x.intake.isEmpty && x.interp.isEmpty then
    let s := (s.writeHeader p false).modPort p (fun x => { x with closed := true, pix := [] })
    let s := s.katRelease p
    let s := ((s.csuFrameDone p).wedgeEnd p).cerFrameDone p
    (((s.thermalArrival p (s.get (PCE_SLOT_last p))).menFrameDone p).pceFrameDone p).metJudge
  else s

/-- ROW_CLOSE at (ℓ + 1, 15, 0): the clock moves there; the row closes, and a self-test whose capture line ended is judged (R163, R174). -/
def rowClose (s : State) (p : Nat) (cap : List LaneCapture) : State :=
  let judging := match (s.port p).selfTest with | some x => x.judge | none => false
  let s := if judging then s.advanceTo ((s.raster (s.pacing p)).lineAt + 96 * 15) else s
  let s := s.selfTestJudge p cap
  let s := if judging && (s.port p).selfTest.isNone then s.laneDrift p else s
  match s.closingRow p with
  | none =>
    if s.bit (FPP_STAT_delivering p) && !(s.port p).closed && s.rowsDue p == 0 && (s.raster p).lastLine then
      (s.advanceTo ((s.raster p).lineAt + 96 * 15)).frameFinish p
    else s
  | some row =>
    let s := s.advanceTo ((s.raster p).lineAt + 96 * 15)
    ((s.closeRow p row).cerRows p).frameFinish p

/-- PIXEL_CORRECT with its consumers: alarm pins, coders and the frame's end. -/
def pixelDecide (s : State) (p : Nat) (f : Fetch) : State :=
  match s.pixelCorrect p f with
  | (s, none) => s
  | (s, some (row, col, o)) => ((s.alarmHit p row col o).cerRows p).frameFinish p

/-- PIXEL_INTERPOLATE likewise. -/
def pixelFill (s : State) (p : Nat) (f : Fetch) : State := ((s.pixelInterpolate p f).cerRows p).frameFinish p

/-! ## Shutter drive with its reports (spec 17, R221, R227) -/

/-- Calibration hears of a channel's fence that `s'` has and `s` had not, and of a trigger that the fence dropped. -/
def sdrReport (s s' : State) (c : Nat) (drop : Option Nat) : State :=
  let s' := if !s.bit SDR_FENCED_channels c && s'.bit SDR_FENCED_channels c then s'.csuChannelFenced c else s'
  match drop with | some p => s'.ffDropped p | none => s'

/-- What a current sample reports: a movement to calibration, a fence to its heads. -/
def sdrSample (s : State) (c : Nat) (uv : Int) : State :=
  let r := s.currentSample c uv
  let s' := match r.2.1 with | some m => r.1.ffMoveReport m.1 m.2 | none => r.1
  s.sdrReport s' c r.2.2

/-- WAITING_PROFILE_START with its report. -/
def sdrWaiting (s : State) (n : Nat) : State :=
  match (s.waitingProfileStart n).2 with
  | some p => (s.waitingProfileStart n).1.ffDropped p
  | none => (s.waitingProfileStart n).1

/-- ON_TIME_LIMIT with its reports. -/
def sdrLimit (s : State) (c : Nat) : State := s.sdrReport (s.onTimeLimit c).1 c (s.onTimeLimit c).2

/-- TRIGGER_DEADLINE with its report. -/
def sdrDeadline (s : State) (n : Nat) : State :=
  match (s.triggerDeadline n).2 with
  | some p => (s.triggerDeadline n).1.ffDropped p
  | none => (s.triggerDeadline n).1

end State
end Sys2Proof.Machine
end

