-- ==== Sys2Proof/Machine/Reset.lean ====
section
/-! DEFINITION. Machine/Reset.lean: the resets of R473 and R474, what each keeps, and the starts that follow (spec 18). -/

namespace Sys2Proof.Machine
open R

/-- Registers of the public page that persist in P1. -/
def persistentRegs : List Nat := [MEN_RSTCNT, MEN_AUD_HEAD] ++ (List.range 12).map MEN_AUDCNT

/-- An address of the enclave's domain: the public page, the NVS registers and MET-private space (R473). -/
def encReg (a : Nat) : Bool := a / 0x1000 == 0x12 || a / 0x1000 == 0xD || a / 0x8_0000 == 1

/-- A register that a system reset keeps: those of AON and ENC, the clock fallback, the boot pins. -/
def systemKeeps (a : Nat) : Bool :=
  encReg a || a == SCA_RST_CAUSE || a == HKT_SHDN_STAT || a == SCA_CLK_CTL || a == SCA_CLK_STAT || a == SCA_LATENCY || a == SIO_BOOT

namespace State

/-- Levels that the edge detection of GPIO last saw follow the pins. -/
def seePins (s : State) : State :=
  s.modSio (fun x => { x with seen := BitVec.ofNat 32 ((List.range 32).foldl (fun v n => v + b2n (s.pinLevel n) * 2 ^ n) 0) })

/-! ## Power-on and thermal reset -/

/-- What P1 keeps of the enclave. (DEDUCED, log entry 51.) -/
def menPersistent (s : State) : MenSt :=
  let m := s.men
  { zones := m.zones, masks := m.masks, evid := m.evid, recCfg := m.recCfg, timeKey := m.timeKey, pubKey := m.pubKey, privKey := m.privKey, image := m.image,
    trail := m.trail, entries := m.entries, lastProg := m.lastProg, blocks := m.blocks }

/-- The resets of this tick so far: a reset coincides with one of the same tick (R474). (DESIGN CHOICE, log entry 12.) -/
def tickCauses (s : State) : List Nat := match s.sca.resetAt with | some (t, l) => if t = s.now then l else [] | none => []

/-- The cause bits of the resets of this tick are latched, `cause` among them (R474). -/
def latchCause (s : State) (cause : Nat) : State :=
  let l := cause :: s.tickCauses
  (l.foldl (fun s c => s.setBit ⟨SCA_RST_CAUSE, 31, 0⟩ c) s).modSca (fun x => { x with resetAt := some (s.now, l) })

/-- A request that a held reset covers: ignored, but for its cause bit where it coincides with that reset (R474). -/
def covered (s : State) (cause : Nat) : State := if s.tickCauses.isEmpty then s else s.latchCause cause

/-- Every domain in reset: only non-volatile contents, time and what the board drives stay. (DEDUCED, log entry 15.) -/
def cold (s : State) (h : Hold) : State :=
  let t : State :=
    { now := s.now, wall := s.wall, variantM := s.variantM, freeCtr := s.freeCtr, pending := s.pending, hold := h,
      nvs := s.nvsPowerCut.nvs, men := s.menPersistent, coefShadow := if s.variantM then s.coefShadow else [], tblRef := s.tblRef, progRef := s.progRef,
      fsync := { high := s.fsync.high }, sio := { ext := s.sio.ext },
      sca := { pinLow := s.sca.pinLow, railLow := s.sca.railLow, pllLow := s.sca.pllLow, resetAt := s.sca.resetAt } }
  let t := persistentRegs.foldl (fun t a => t.setReg a (s.reg a)) t
  let t := [0, 1, 2, 3].foldl (fun t p => t.modPort p (fun x => { x with fltLow := (s.port p).fltLow })) t
  t.seePins

/-- What asks for a power-on reset stands from here on: PORST_N low, a rail below its reset level, PLL0 out of lock (R469). -/
def askReset (s : State) (h : Hold) : State :=
  s.modSca (fun x => { x with pinLow := x.pinLow || h == .porst, railLow := x.railLow || h == .supply, pllLow := x.pllLow || h == .clock })

/-- A power-on reset holds the part. -/
def powerHeld (s : State) : Bool := s.hold == .porst || s.hold == .supply || s.hold == .clock

/-- A power-on reset (R468, R472, R473): it clears SCA_RST_CAUSE and sets its own bit, with those of the resets of the same tick. A request while such a reset holds the part is
ignored, but what asks for it holds the part on (R469, R474). -/
def powerReset (s0 : State) (h : Hold) (cause : Nat) : State :=
  let s := s0.askReset h
  if s.powerHeld then s.covered cause else (s.cold h).latchCause cause

/-- The shutdown record is written if it can be (R427, R447). (DEDUCED, log entry 52.) -/
def shutdownWrite (s : State) (d : Shutdown) (limit : Bool) : State :=
  let page := s.get NVS_SHDN_PAGE_shutdown
  if limit || !d.ready then s.setBit HKT_SHDN_STAT_rec_lost
  else
    let (s, ok) := s.logRecord page d.record
    if ok then s else (s.modNvs (fun n => { n with shdnFull := some page })).setBit HKT_SHDN_STAT_rec_lost

/-- THERMAL_RESET_ENTRY: a decided shutdown reaches its third step, because the record write has ended or 6 ms have passed (`limit`). A write that is running ends
first. (DEDUCED, log entry 54.) -/
def thermalEntry (s : State) (limit : Bool) : State :=
  match s.hk.shdn with
  | none => s
  | some d =>
    if s.powerHeld || s.hold == .thermal || (!limit && s.nvs.run.isSome) then s
    else
      let s := s.shutdownWrite d limit
      let t := s.cold .thermal
      let t := (t.setReg SCA_RST_CAUSE (s.reg SCA_RST_CAUSE)).setReg HKT_SHDN_STAT (s.reg HKT_SHDN_STAT)
      (t.latchCause 3).modHk (fun h => { h with shdn := some d })

/-- The part leaves a power-on or thermal reset and restarts cold: boot pins sampled, PLLs locked, raster H at (0, 0, 0, 0), NVS recall under way (R43, R367, R416, R472). (DEDUCED, log entry 14.) -/
def coldStart (s : State) (boot : BitVec 3) : State :=
  let s := { s with hold := .none }
  let s := (s.put SIO_BOOT_boot boot.toNat).bootBegin
  let s := ((s.put SCA_STAT_lock 7).modSca (fun x => { x with boot := boot.toNat, resetAt := none })).modCore 5 (fun x => { x with readyAt := s.now })
  s.rasterStart 4 s.now .natural

/-- The part leaves a power-on reset when nothing asks for one any longer, whichever came first (R469). -/
def powerRelease (s : State) (boot : BitVec 3) : State :=
  if !s.powerHeld then s
  else if s.sca.pinLow then { s with hold := .porst }
  else if s.sca.railLow then { s with hold := .supply }
  else if s.sca.pllLow then { s with hold := .clock }
  else s.coldStart boot

/-- PORST_RELEASE: PORST_N is high. (DEDUCED, log entry 12.) -/
def porstRelease (s : State) (boot : BitVec 3) : State := (s.modSca (fun x => { x with pinLow := false })).powerRelease boot

/-- SUPPLY_RESET_RELEASE: every rail is above its reset level and PLL0 has lock. (DEDUCED, log entry 12.) -/
def supplyRelease (s : State) (boot : BitVec 3) : State := (s.modSca (fun x => { x with railLow := false, pllLow := false })).powerRelease boot

/-- THERMAL_RESET_RELEASE: the shutdown is over. A shutdown that was decided in a held power-on reset goes on after it. (DEDUCED, log entry 12; DEDUCED, log entry 54.) -/
def thermalRelease (s : State) (boot : BitVec 3) : State := if s.hold == .thermal then ({ s with hk := { s.hk with shdn := none } }).coldStart boot else s

/-! ## System reset -/

/-- CORE and SUP return to their reset state; ENC, AON, the core memories, the DRAM behind a completed fill and the clock fallback stay (R17, R335, R473). (DEDUCED, log entry 15.) -/
def coreReset (s : State) : State :=
  let full := s.bit MEM_STAT_init_done
  let trained := s.bit MEM_STAT_trained || s.mem.retraining
  let t : State :=
    { regs := s.regs.filter (fun e => systemKeeps e.1), now := s.now, wall := s.wall, variantM := s.variantM, freeCtr := s.freeCtr, hold := .system,
      rlatch := s.rlatch.filter (fun e => encReg (e.1 % 2 ^ 24)), wlatch := s.wlatch.filter (fun e => encReg (e.1 % 2 ^ 24)), fsync := { high := s.fsync.high },
      cores := s.cores.filter (fun e => e.1 == 5), imem := s.imem, dmem := s.dmem, dram := s.dram, band := s.band,
      coefShadow := if s.variantM then s.coefShadow else [], coefArm := if s.metUp then 15 else 0, tblRef := s.tblRef, progRef := s.progRef,
      mem := { errs := s.mem.errs, retraining := trained }, sio := { ext := s.sio.ext }, men := s.men, nvs := { s.nvs with pendS := none },
      hk := { shdn := s.hk.shdn },
      sca := { rails := s.sca.rails, dipFrame := s.sca.dipFrame, dipLine := s.sca.dipLine, lines := s.sca.lines, lost := s.sca.lost, quiet := s.sca.quiet,
               boot := s.sca.boot, slow := s.sca.slow, rampAt := s.sca.rampAt, pinLow := s.sca.pinLow, railLow := s.sca.railLow, pllLow := s.sca.pllLow,
               resetAt := s.sca.resetAt },
      rdata := s.rdata, pending := s.pending }
  let t := (((((t.put SCA_STAT_rail_warn (s.get SCA_STAT_rail_warn)).put SCA_STAT_lock (s.get SCA_STAT_lock)).put SCA_STAT_reduced (s.get SCA_STAT_reduced)).put
    SCA_STAT_dip (s.get SCA_STAT_dip)).put SCA_STAT_warn (s.get SCA_STAT_warn))
  let t := if full then ((t.setBit MEM_STAT_init_done).setBit MEM_STAT_retained).put MEM_STAT_data_size (s.get MEM_STAT_data_size) else t
  let t := [0, 1, 2, 3].foldl (fun t p =>
    t.modPort p (fun x => { x with fltLow := (s.port p).fltLow })) t
  (t.seePins.dropKatFences).metJudge

/-- A system reset with its cause bit; ignored while a reset that covers it is held, but for the cause bit of one that coincides (R474). -/
def systemReset (s : State) (cause : Nat) : State := if s.running then s.coreReset.latchCause cause else s.covered cause

/-- SYSTEM_RESET_END: raster H starts again in the first tick after it (R43). (DEDUCED, log entry 12; DEDUCED, log entry 14.) -/
def systemResetEnd (s : State) : State :=
  if s.hold == .system then
    let s := { s with hold := .none }.bootBegin
    s.rasterStart 4 (s.now + 1) .natural
  else s

/-! ## SUP reset -/

/-- The PSC_SUP registers. -/
def pscSupRegs : List Nat := [PSC_SUP_CTL, PSC_SUP_VEC, PSC_SUP_STAT, PSC_SUP_WD_CFG, PSC_SUP_WD_KICK, PSC_SUP_WIN, PSC_SUP_FAULT, PSC_SUP_CNT, PSC_SUP_ENTRY]

/-- Semaphores held by core `k` are cleared. (DEDUCED, log entry 67.) -/
def freeSems (s : State) (k : Nat) : State := (List.range 32).foldl (fun s n => s.semRelease k n) s

/-- Every pin in the timed-output function takes its idle level. -/
def idleTimed (s : State) : State :=
  let pins := (List.range 32).filter (fun n => s.get (GPIO_FUN_func n) == 3)
  pins.foldl (fun s n => s.modSio (fun x => { x with timed := BitVec.ofNat 32 (setLevels x.timed.toNat (2 ^ n) (s.bit (GPIO_FUN_idle n))) })) s

/-- SUP is reset alone (R474): its unit aborted, its selects and timed pins idle, its semaphores free, its queue flushed, target S cleared. (DEDUCED, log entry 67.) -/
def supReset (s : State) (cause : Nat) : State :=
  if !s.running then s.covered cause
  else
    let s := (s.ppAbort 4).1
    let s := (((s.idleSelects 4).freeSems 4).idleTimed).intcSupReset
    let s := pscSupRegs.foldl (fun s a => s.setReg a (regReset a)) s
    ((s.setCore 4 {}).bootBegin).latchCause cause

/-- SUP_WATCHDOG_RESET: the second stage (R95). -/
def supWdReset (s : State) : State := if s.supExpired && (s.core 4).wdFirst then s.supReset 6 else s

/-- A write of SCA_RST_CTL: with the key, sys performs a system reset, else sup a SUP reset (R483). -/
def resetCtl (s : State) (v : W32) : State :=
  if bitsOf v 31 16 ≠ 0xA5C3 then s
  else if bitOf v 1 then s.systemReset 5
  else if bitOf v 0 then s.supReset 7
  else s

end State
end Sys2Proof.Machine
end

