-- ==== Sys2Proof/Machine/Settle.lean ====
section
/-! DEFINITION. Machine/Settle.lean: what follows every command at once: interrupt and alarm lines, the substitution of stopped rasters, and the outputs that a
decided thermal shutdown holds safe. Every meaning ends here. -/

namespace Sys2Proof.Machine
open R

namespace State

/-- Counter `n` counts raster `r`, which is stopped: it counts H in its place (R49). -/
def substKey (s : State) (on : Bool) (n r : Nat) : List Nat := if on && !(s.raster r).running then [n * 8 + r] else []

/-- The raster of the profile that pair `n` runs or keeps waiting; `on` says whether the profile counts. -/
def substProfile (s : State) (on : ProfRun → Bool) (n : Nat) (q : Option ProfRun) : List Nat :=
  match q with
  | some q => s.substKey (on q) n (s.profRaster q)
  | none => []

/-- The holdoffs that run on a stopped raster. -/
def substHolds (s : State) : List Nat :=
  s.intc.hold.flatMap (fun e => match e.2 with | some (_, r) => s.substKey true (200 + e.1) r | none => [])

/-- Every counting duration counter whose raster is stopped (R49): the watchdogs, the housekeeping round, the throttle's grace, the shutter profiles, the facets'
deadlines, the lane self-tests, the shutter intervals, and the holdoffs. A shutter interval counts in this sense while flat-fields are scheduled (CSU_x_CTL.en), as RTB_STAT.subst
is 0 at reset. (DEDUCED, log entry 22.) -/
def substKeys (s : State) : List Nat :=
  [0, 1, 2, 3].flatMap (fun q => s.substKey (s.sqState q == 2 && s.get (PSC_SQ_WDOG_limit q) != 0) q q) ++
  s.substKey (s.get PSC_SUP_WD_CFG_limit != 0) 4 (s.get PSC_SUP_WD_CFG_raster) ++
  s.substKey (s.bit HKT_ROUND_CFG_en) 5 (s.get HKT_ROUND_CFG_raster) ++
  s.substKey (s.get HKT_THR_STAT_state == 1) 6 s.hk.graceRaster ++
  [0, 1, 2, 3].flatMap (fun n => s.substProfile (fun _ => true) (10 + n) (s.pair n).run ++ s.substProfile (fun q => s.profDeadline q != 0) (20 + n) (s.pair n).wait) ++
  [0, 1, 2, 3, 4, 5].flatMap (fun f =>
    s.substKey (s.get (IPL_SCHED_deadline f) != 0 && (!(s.facet f).waiting.isEmpty || (s.facet f).run.isSome)) (30 + f) (s.get (IPL_SCHED_raster f))) ++
  [0, 1, 2, 3].flatMap (fun p => s.substKey (s.port p).selfTest.isSome (40 + p) p ++ s.substKey (s.bit (CSU_CTL_en p) && s.get (CSU_DUE_frames p) != 0) (50 + p) p) ++
  s.substHolds

/-- RTB_STAT.subst: the rasters that some counter names while they are stopped. -/
def substRasters (s : State) : Nat := (List.range 5).foldl (fun m r => m + b2n (s.substKeys.any (fun k => k % 8 == r)) * 2 ^ r) 0

/-- Levels of MALARM3–MALARM0: active level by polarity (R260). -/
def malarmLevels (s : State) : Nat := (List.range 4).foldl (fun m k => m + b2n (s.pinActive k != s.pinPolarity k) * 2 ^ k) 0

/-- From the decision of a thermal shutdown on the outputs are safe and stay so (R446). -/
def guardOutputs (s : State) : State := if s.hk.shdn.isSome then s.safeOutputs else s

/-- The substitution latch of the lines, while no reset holds the rasters. (DEDUCED, log entry 22.) -/
def latchSubst (s : State) : State :=
  if s.running then
    { s with lines := { s.lines with subst := s.substKeys, substEvt := s.lines.substEvt || s.substKeys.any (fun k => !s.lines.subst.contains k) } }
  else s

/-- The sources in service are watched (R403). -/
def watch (s : State) : State := { s with intc := s.watchServed s.intc }

/-- The pins and the request of INTC, the alarm pins and the switch enables of the shutter drive. -/
def driveLines (s : State) : State :=
  { s with lines := { s.lines with hirq0 := s.requesting 1, hirq1 := s.requesting 2, sup := s.requesting 3, malarm := s.malarmLevels, hs := s.hsLevels } }

/-- All of it, in order. -/
def settle (s : State) : State := s.latchSubst.watch.driveLines

/-- What hash `k` reads, whole and as it stands: the bytes, and how many of them it has read by tick `t`: a program at a byte a Pulon cycle, a table at 64 bytes
per 66 pipeline cycles (R86, R204). (DESIGN CHOICE, log entry 19.) -/
def hashSource (s : State) (k t : Nat) (r : HashRun) : List Byte × Nat :=
  if k < 4 then (s.programBytes k, (t - r.start) / 4) else (s.tableBytes (k - 4), 64 * ((t - r.start) / 132))

/-- A command that moves the clock from `s` to `t` into another Pulon cycle begins that cycle with the claimable sources of `s` (R400). -/
def beginCycle (s t : State) : State :=
  let same := t.now / 4 == s.now / 4
  { t with lines := { t.lines with startCycle := if same then t.lines.startCycle else t.now / 4 + 1, startable := if same then t.lines.startable else s.claimables } }

/-- While a command moves the clock from `s` to `t`, the hashes in progress read on, from the memories as they stood before the command's effect. -/
def readHashes (s t : State) : State :=
  { t with lines := { t.lines with hashes := t.lines.hashes.map (fun e =>
      match e.2 with
      | none => e
      | some r =>
        if Map.get (fun _ => none) s.lines.hashes e.1 = some r then
          let (l, n) := s.hashSource e.1 t.now r
          (e.1, some { r with got := r.got ++ (l.drop r.got.length).take (n - r.got.length) })
        else e) } }

/-- What passes with the time of a command. -/
def readOn (s t : State) : State := s.readHashes (s.beginCycle t)

end State

/-- A command whose effect on the state is `t`. (DESIGN CHOICE, log entry 6.) -/
def commit (t : State) : Host.Outcome State Fault Refusal := .next (t.guardOutputs.settle)

/-- An effect on a part that no reset holds; otherwise the command does nothing. (DESIGN CHOICE, log entry 6.) -/
def act (s : State) (f : State → State) : Host.Outcome State Fault Refusal := commit (s.readOn (if s.running then f s else s))

/-- An effect that reads DRAM, which waits while the devices are to be trained again: until then the command does nothing (R472). (DESIGN CHOICE, log entry 6; DEDUCED, log entry 61.) -/
def actMem (s : State) (f : State → State) : Host.Outcome State Fault Refusal := act s (fun s => if s.dramWaits then s else f s)

/-- An effect of the enclave's domain or the always-on domain, which a system reset leaves running (R17, R473). (DESIGN CHOICE, log entry 6.) -/
def actAlways (s : State) (f : State → State) : Host.Outcome State Fault Refusal :=
  commit (s.readOn (if s.hold = .none ∨ s.hold = .system then f s else s))

/-- An effect that a party asks for. MET runs on through a system reset; every other party stands still with what it would reach (R473). (DESIGN CHOICE, log entry 6.) -/
def actAs (who : Party) (s : State) (f : State → State) : Host.Outcome State Fault Refusal :=
  commit (s.readOn (if s.hold = .none ∨ (who = .met ∧ s.hold = .system) then f s else s))

end Sys2Proof.Machine
end

