-- ==== Sys2Proof/Machine/Write.lean ====
section
/-! DEFINITION. Machine/Write.lean: what a write by a register's owner does, block by block: the access codes of R9, and what each block accepts. -/

namespace Sys2Proof.Machine
open R

/-- The value that a field of a written word has. -/
def fv (v : W32) (f : Field) : Nat := bitsOf v f.hi f.lo

/-- A mask of bits as a word. -/
def maskW (m : Nat) : W32 := BitVec.ofNat 32 m

/-- Counter fields that a write of all ones clears (R36). -/
def clearCounters (l : List (Nat × Nat)) (v w : W32) : W32 :=
  l.foldl (fun w c => if bitsOf v c.1 c.2 = 2 ^ (c.1 - c.2 + 1) - 1 then withBits w c.1 c.2 0 else w) w

/-- A register's word after a write by its owner (R9): RW bits, RWS bits unless frozen, W1C, W1S and counters; every other bit stays. -/
def RegRow.written (r : RegRow) (frozen : Bool) (old v : W32) : W32 :=
  let m := maskW (if frozen then r.rw else r.rw ||| r.rws)
  clearCounters r.ctrs v ((((old &&& ~~~m) ||| (v &&& m)) &&& ~~~(v &&& maskW r.w1c)) ||| (v &&& maskW r.w1s))

namespace State

/-- The write of R9 without any block's own rule. -/
def plainWrite (s : State) (a : Nat) (v : W32) : State :=
  match findRow a with
  | some r => s.setReg a (r.written s.frozen (s.reg a) v)
  | none => s

/-- A field keeps what it held in `old` when the written value is not one it takes. (DEDUCED, log entry 16.) -/
def keepUnless (s old : State) (ok : Bool) (f : Field) : State := if ok then s else s.put f (old.get f)

/-- A plain write whose one restricted field keeps its value unless `ok`. -/
def writeField (s : State) (a : Nat) (v : W32) (f : Field) (ok : Nat → Bool) : State := (s.plainWrite a v).keepUnless s (ok (fv v f)) f

/-! ## SCA (R475–R483), INTC (R395–R404) -/

def writeSca (s : State) (a : Nat) (v : W32) : State :=
  if a = SCA_RST_CTL then s.resetCtl v
  else if a = SCA_SUPV_CFG then s.writeField a v SCA_SUPV_CFG_warn (fun x => 400 ≤ x && x ≤ 1000)
  else if a = SCA_LOG_PAGE then s.logPageWrite v
  else if a = SCA_CLK_CTL then s.clockReduce v
  else if a = SCA_AVS then s.avsWrite v
  else if a = SCA_AGE_CTL then
    let s := s.plainWrite a v
    if bitOf v 0 then s.ageBegin else s
  else s.plainWrite a v

/-- A write to a register of target index `t` (0 H0, 1 H1, 2 S). -/
def writeIntc (s : State) (a t : Nat) (v : W32) : State :=
  let o := a - intcBase t
  if a = INTC_COMPLETE t then s.intcComplete (t + 1) (v.toNat % 128)
  else if 0x30 ≤ o ∧ o < 0x40 then s.intcSetClr (t + 1) (o / 4 % 4) v true
  else if 0x40 ≤ o ∧ o < 0x50 then s.intcSetClr (t + 1) (o / 4 % 4) v false
  else if 0x80 ≤ o ∧ o < 0xC0 then s.writeField a v (INTC_HOLD_raster t ((o - 0x80) / 4)) (fun x => x ≤ 4)
  else s.plainWrite a v

/-! ## RTB (R41–R70) -/

/-- A write of RTB_x_LOCK (R50, R66): ignored in full when its source closes a loop; lose 0 and source 6 leave their fields; it takes effect at once while stopped, else
at the next frame start. A raster held for its first alignment moment stays held when the write selects no source: it starts after another write that selects one, or
after run is written 0 and 1 again. (DESIGN CHOICE, log entry 21.) -/
def lockWrite (s : State) (r : Nat) (v : W32) : State :=
  let t := ((s.plainWrite (RTB_LOCK r) v).keepUnless s (fv v (RTB_LOCK_lose r) != 0) (RTB_LOCK_lose r)).keepUnless s (fv v (RTB_LOCK_src r) != 6) (RTB_LOCK_src r)
  if t.lockLoops r 5 (t.get (RTB_LOCK_src r)) then s
  else if (t.raster r).running then t.modRaster r (fun x => { x with lockPending := true })
  else t.takeLock r

/-- A write of RTB_FSYNC_CFG (R60, R68): a change of pol or dir judges no edge; an output stands inactive outside its pulse. -/
def fsyncCfgWrite (s : State) (v : W32) : State :=
  let t := ((s.plainWrite RTB_FSYNC_CFG v).keepUnless s (fv v RTB_FSYNC_CFG_width != 0) RTB_FSYNC_CFG_width).keepUnless s
    (fv v RTB_FSYNC_CFG_out_raster ≤ 4) RTB_FSYNC_CFG_out_raster
  if t.get RTB_FSYNC_CFG_pol = s.get RTB_FSYNC_CFG_pol ∧ t.get RTB_FSYNC_CFG_dir = s.get RTB_FSYNC_CFG_dir then t
  else
    let pulse := t.fsync.outAt.isSome && t.bit RTB_FSYNC_CFG_dir
    { t with fsync := { t.fsync with edgeAt := none, fellAt := none, outAt := if pulse then t.fsync.outAt else none,
                                     high := if t.bit RTB_FSYNC_CFG_dir then t.bit RTB_FSYNC_CFG_pol != pulse else t.fsync.high } }

/-- Key of a party's latch for the word at `a`. -/
def latchKey (pc a : Nat) : Nat := pc * 2 ^ 24 + a

/-- The word that party `pc` has written since its last commit, if any (R35). -/
def writtenWord (s : State) (pc a : Nat) : Option W32 := (s.wlatch.find? (fun e => e.1 == latchKey pc a)).map (·.2)

/-- A write of an upper word is collected in the writer's latch (R35). -/
def latchWord (s : State) (pc a : Nat) (v : W32) : State :=
  { s with wlatch := Map.ins (Map.del s.wlatch (latchKey pc a)) (latchKey pc a) v }

/-- RTB_CMPn_LO: the commit (R35, R62). -/
def cmpCommit (s : State) (pc n : Nat) (v : W32) : State :=
  let s := s.setReg (RTB_CMP_LO n) v
  let s := match s.writtenWord pc (RTB_CMP_HI n) with
    | some h => { (s.setReg (RTB_CMP_HI n) h) with wlatch := Map.del s.wlatch (latchKey pc (RTB_CMP_HI n)) }
    | none => s
  (s.setCmp n { s.cmp n with target := s.cmpTarget n, lastOcc := none }).cmpJudge n

/-- RTB_CMPn_CTL: mode 3 leaves the field; a set of en is judged, a change of mode is not and applies from the next tick (R62, R70). -/
def cmpCtlWrite (s : State) (n : Nat) (v : W32) : State :=
  let t := s.writeField (RTB_CMP_CTL n) v (RTB_CMP_CTL_mode n) (fun x => x != 3)
  if !t.bit (RTB_CMP_CTL_en n) then t
  else if !s.bit (RTB_CMP_CTL_en n) then t.cmpJudge n
  else if s.get (RTB_CMP_CTL_mode n) = t.get (RTB_CMP_CTL_mode n) then t
  else t.setCmp n { t.cmp n with modeFrom := s.now + 1, modeOld := s.get (RTB_CMP_CTL_mode n) }

/-- RTB_x_FRAME of a stopped raster: a plain 32-bit write (R43). -/
def frameWrite (s : State) (r : Nat) (v : W32) : State :=
  if (s.raster r).running then s else s.modRaster r (fun x => { x with frame := v.toNat })

def writeRtb (s : State) (pc a : Nat) (v : W32) : State :=
  if a < 0x2140 then
    let r := (a - 0x2000) / 0x40
    if a = RTB_CTL r then s.rasterCtl r v
    else if a = RTB_LINE_LEN r then s.writeField a v (RTB_LINE_LEN_shadow r) (fun x => 16 ≤ x)
    else if a = RTB_FRAME_LINES r then s.writeField a v (RTB_FRAME_LINES_shadow r) (fun x => 2 ≤ x)
    else if a = RTB_FRAME r then s.frameWrite r v
    else if a = RTB_LOCK r then s.lockWrite r v
    else s.plainWrite a v
  else if a = RTB_FSYNC_CFG then s.fsyncCfgWrite v
  else if a = RTB_EVT then
    let s := s.plainWrite a v
    if bitOf v 26 then { s with lines := { s.lines with substEvt := false } } else s
  else if 0x2180 ≤ a then
    let n := (a - 0x2180) / 0x10
    if 8 ≤ n then s
    else if a = RTB_CMP_LO n then s.cmpCommit pc n v
    else if a = RTB_CMP_HI n then s.latchWord pc a v
    else if a = RTB_CMP_CTL n then s.cmpCtlWrite n v
    else s.plainWrite a v
  else s.plainWrite a v

/-! ## PSC (R84–R105), with the ownership registers (R19–R21) -/

/-- Whether a party code may own group `n` (R21). -/
def ownerPermitted (n c : Nat) : Bool :=
  match n with
  | 0 => c ≤ 1 | 3 => c ≤ 1 | 15 => c ≤ 1 | 16 => c ≤ 1 | 17 => c ≤ 1 | 21 => c ≤ 1 | 24 => c ≤ 1 | 28 => c ≤ 1
  | 1 => c == 0 | 22 => c == 0
  | 5 => c == 1 || c == 4 | 6 => c == 1 || c == 5 | 7 => c == 1 || c == 6 | 8 => c == 1 || c == 7
  | 10 => c == 1 || c == 4 | 11 => c == 1 || c == 5 | 12 => c == 1 || c == 6 | 13 => c == 1 || c == 7
  | 25 => c == 2
  | 29 => false | 30 => false | 31 => false
  | _ => c == 1

/-- A permitted owner takes the group; any other code leaves the field (R20). -/
def ownWrite (s : State) (n : Nat) (v : W32) : State :=
  if ownerPermitted n (bitsOf v 2 0) then s.setNum (PSC_OWN n) (bitsOf v 2 0) else s

/-- One resource is counted as released. -/
def countForced (s : State) (b : Bool) : State := if b then s.bump ⟨PSC_FORCE_CNT, 15, 0⟩ else s

/-- Forced release of what a FENCED SQ core holds, in the order of R39, each resource counted once (R39, R97). (DEDUCED, log entry 17.) -/
def forcedRelease (s : State) (v : W32) : State :=
  let c := bitsOf v 2 0
  if c < 4 then s
  else
    let k := c - 4
    if s.sqState k != 3 then s
    else
      let (s, aborted) := s.ppAbort k
      let selects := !(s.activeSelects k).isEmpty
      let held := (List.range 32).filter (fun n => s.bit (PSC_SEM_busy n) && s.get (PSC_SEM_holder n) == c)
      let s := held.foldl (fun s n => s.semRelease k n) (s.idleSelects k)
      let s := held.foldl (fun s _ => s.countForced true) (s.countForced (aborted || selects))
      s

/-- A write of PSC_SQx_CONST: a multiple of 64 up to 7,936, while the core is HALTED or FENCED (R90). -/
def constWrite (s : State) (q : Nat) (v : W32) : State :=
  if (s.sqState q = 0 ∨ s.sqState q = 3) ∧ bitsOf v 5 0 = 0 ∧ bitsOf v 12 0 ≤ 7936 then s.put (PSC_SQ_CONST_len64 q) (bitsOf v 12 6) else s

def writePsc (s : State) (a : Nat) (v : W32) : State :=
  if a = PSC_FORCE then s.forcedRelease v
  else if PSC_OWN 0 ≤ a ∧ a ≤ PSC_OWN 31 then s.ownWrite ((a - PSC_OWN 0) / 4) v
  else if 0x3200 ≤ a ∧ a < 0x3300 then
    let q := (a - 0x3200) / 0x40
    if a = PSC_SQ_CTL q then (s.sqCommand q v).metJudge
    else if a = PSC_SQ_CONST q then s.constWrite q v
    else s.plainWrite a v
  else if a = PSC_SUP_CTL then if bitOf v 0 then s else s.romMapClear
  else if a = PSC_SUP_WD_CFG then s.supWdCfg v
  else if a = PSC_SUP_WD_KICK then s.supWdKick v
  else if a = PSC_SUP_WIN then s.writeField a v PSC_SUP_WIN_page (fun x => x ≤ 11)
  else s.plainWrite a v

/-! ## FPP (R137–R155) and LCA (R158–R185) -/

/-- FPP_x_PWR.req: a 1 in OFF or a 0 in ON is a request; every other write changes nothing (R138, R139), and so does one to a port whose core is FENCED, since req reads 0 and the
port is OFF, or on its way there, when the fence is lifted (R141, R150). (DEDUCED, log entry 39.) -/
def powerRequest (s : State) (p : Nat) (v : W32) : State :=
  let st := s.get (FPP_STAT_pwr p)
  if s.sqState p = 3 ∨ st = 1 ∨ st = 3 ∨ (st = 0 ∧ !bitOf v 0) ∨ (st = 2 ∧ bitOf v 0) then s
  else
    let t := s.plainWrite (FPP_PWR p) v
    if t.get (FPP_PWR_req p) = s.get (FPP_PWR_req p) then t else t.modPort p (fun x => { x with reqPending := true, pwrLines := 0 })

/-- FPP_x_CTL: live only while ON; the pins follow the internal levels from the tick after a change of out_en to 1 on (R134, R142). -/
def fppCtl (s : State) (p : Nat) (v : W32) : State :=
  let t := s.writeField (FPP_CTL p) v (FPP_CTL_live p) (fun x => x == 0 || s.get (FPP_STAT_pwr p) == 2)
  if !s.bit (FPP_CTL_out_en p) && t.bit (FPP_CTL_out_en p) then t.modPort p (fun x => { x with outEnAt := s.now + 1 }) else t

/-- FPP_x_FLT_CFG: a filter of 0 is not taken; samples count from the tick after a change of en to 1 on (R140). -/
def fltCfg (s : State) (p : Nat) (v : W32) : State :=
  let t := s.writeField (FPP_FLT_CFG p) v (FPP_FLT_CFG_filter p) (fun x => x != 0)
  if !s.bit (FPP_FLT_CFG_en p) && t.bit (FPP_FLT_CFG_en p) then t.modPort p (fun x => { x with fltFrom := s.now + 1 }) else t

def writeFpp (s : State) (p a : Nat) (v : W32) : State :=
  if a = FPP_CTL p then (s.fppCtl p v).metJudge
  else if a = FPP_FMT p then
    ((s.plainWrite a v).keepUnless s (32 ≤ fv v (FPP_FMT_width p) && fv v (FPP_FMT_width p) ≤ 2560) (FPP_FMT_width p)).keepUnless s
      (2 ≤ fv v (FPP_FMT_height p) && fv v (FPP_FMT_height p) ≤ 2048) (FPP_FMT_height p)
  else if a = FPP_PWR p then s.powerRequest p v
  else if a = FPP_PWR_CFG p then s.writeField a v (FPP_PWR_CFG_vcm_lines p) (fun x => x != 0)
  else if a = FPP_FLT_CFG p then s.fltCfg p v
  else if a = FPP_TEST p then s.writeField a v (FPP_TEST_mode p) (fun x => x != 3)
  else s.plainWrite a v

/-- LCA_INJ: one lane's next result carries a parity or a tag error; an earlier write that has not acted is replaced (R170). -/
def injectLane (s : State) (v : W32) : State :=
  let lane := fv v LCA_INJ_lane
  ([0, 1, 2, 3].foldl (fun s p => s.modPort p (fun x => { x with inj := none })) s).modPort (lane / 32) (fun x => { x with inj := some (lane % 32, bitOf v 8, bitOf v 9) })

/-- LCA_ST_CTL: fence_fail, and a self-test request for each start bit (R173). -/
def selfTestWrite (s : State) (v : W32) : State :=
  [0, 1, 2, 3].foldl (fun s p => if bitOf v p then s.selfTestRequest p else s) (s.plainWrite LCA_ST_CTL v)

def writeLca (s : State) (a : Nat) (v : W32) : State :=
  if a < 0x5080 then
    let p := (a - 0x5000) / 0x20
    if a = LCA_MODE p then
      if fv v (LCA_MODE_mode p) = 3 ∨ (bitOf v 3 ∧ (2 ≤ p ∨ fv v (LCA_MODE_mode p) = 2)) then s else s.plainWrite a v
    else if a = LCA_CTL p then if bitOf v 0 then s.setBit (LCA_CTL_arm p) else s
    else s.plainWrite a v
  else if a = LCA_ST_CTL then s.selfTestWrite v
  else if a = LCA_ST_CFG then s.writeField a v LCA_ST_CFG_settle (fun x => x != 0)
  else if a = LCA_INJ then s.injectLane v
  else s.plainWrite a v

/-- Lane registers: the arm bit takes a 1 while it is not frozen; parity errors are a counter (R165, R166, R11). -/
def writeLane (s : State) (a : Nat) (v : W32) : State :=
  let n := (a - 0x6000) / 0x10
  if a = LCA_LANE_CTL n then
    let s' := s.setReg a (clearCounters [(31, 24)] v (s.reg a))
    if bitOf v 0 && !s.frozen then s'.setBit (LCA_LANE_CTL_arm n) else s'
  else s.plainWrite a v

/-! ## PCE (R187–R216) and CSU (R215–R238) -/

/-- PCE_RPL_CTL: the fields are kept, and start requests a replay (R210); its destination is begun like a frame's slot, but for a held one, which is never abandoned (R318).
(DEDUCED, log entry 24.) -/
def replayWrite (s : State) (v : W32) : State :=
  let s := s.plainWrite PCE_RPL_CTL v
  if bitOf v 31 then
    let t := s.replayRequest v
    let q := t.replay
    if !s.replay.running && q.running && !t.bit ⟨PCE_HOLD q.port, 15, 0⟩ q.dst then t.slotBegun q.port q.dst else t
  else s

/-- PCE_RAD_DATA: the next coefficient word of the shadow, on the part without an enclave (R198). -/
def radData (s : State) (v : W32) : State :=
  if s.variantM then s
  else
    let p := s.get PCE_RAD_SEL_port
    let i := s.get PCE_RAD_SEL_seg * 4 + s.get PCE_RAD_SEL_coef
    let s := { s with coefShadow := Map.set (fun _ => 0) s.coefShadow (p * 256 + i) (sgn 32 v.toNat) }
    (s.put PCE_RAD_SEL_coef ((i + 1) % 4)).put PCE_RAD_SEL_seg ((i + 1) / 4 % 64)

def writeTable (s : State) (p a : Nat) (v : W32) : State :=
  if a = PCE_TBL_BASE p ∨ a = PCE_TBL_LEN p then ((s.plainWrite a v).tableCheckDrop p).metJudge
  else if a = PCE_TBL_CTL p then
    let s := s.plainWrite a v
    if bitOf v 1 then (s.tableCheckStart p).metJudge else s
  else if a = PCE_CORR_CFG p then
    ((((s.plainWrite a v).keepUnless s (16 ≤ fv v (PCE_CORR_CFG_nsh p) && fv v (PCE_CORR_CFG_nsh p) ≤ 40) (PCE_CORR_CFG_nsh p)).keepUnless s
      (8 ≤ fv v (PCE_CORR_CFG_dsh p) && fv v (PCE_CORR_CFG_dsh p) ≤ 23) (PCE_CORR_CFG_dsh p)).keepUnless s
      (fv v (PCE_CORR_CFG_fmt p) == 0 || p < 2) (PCE_CORR_CFG_fmt p))
  else if a = PCE_OUT_CFG p then s.writeField a v (PCE_OUT_CFG_slots p) (fun x => 2 ≤ x && x ≤ 16)
  else if a = PCE_HOLD p then
    if 2 ≤ ((List.range (s.ringSlots p)).filter (fun n => !bitOf v n)).length then s.plainWrite a v else s
  else s.plainWrite a v

def writePce (s : State) (a : Nat) (v : W32) : State :=
  if a = PCE_WEDGE_CFG then
    ((s.plainWrite a v).keepUnless s (fv v PCE_WEDGE_CFG_gslew != 0) PCE_WEDGE_CFG_gslew).keepUnless s (fv v PCE_WEDGE_CFG_oslew != 0) PCE_WEDGE_CFG_oslew
  else if a = PCE_RPL_CTL then s.replayWrite v
  else if a = PCE_RPL_CFG then s.writeField a v PCE_RPL_CFG_div (fun x => 8 ≤ x)
  else if a = PCE_RAD_SEL ∨ a = PCE_RAD_CTL then if s.variantM then s else s.plainWrite a v
  else if a = PCE_RAD_DATA then s.radData v
  else if 0x7100 ≤ a ∧ a < 0x7300 then s.writeTable ((a - 0x7100) / 0x80) a v
  else s.plainWrite a v

/-- CSU_x_CTL: en, and the commands of its other bits. -/
def csuCtl (s : State) (p : Nat) (v : W32) : State :=
  let s := s.put (CSU_CTL_en p) (b2n (bitOf v 0))
  let s := if bitOf v 4 then s.shutAvail p else s
  let s := if bitOf v 5 then s.statsClr p else s
  let s := if bitOf v 1 then s.ffNow p else s
  let s := if bitOf v 2 then s.composeRequest p else s
  if bitOf v 3 then s.wedgeArm p else s

def writeCsu (s : State) (a : Nat) (v : W32) : State :=
  if a = CSU_SCHED then s.writeField a v CSU_SCHED_max_conc (fun x => 1 ≤ x && x ≤ 4)
  else if 0x8100 ≤ a ∧ a < 0x8300 then
    let p := (a - 0x8100) / 0x80
    if a = CSU_CTL p then s.csuCtl p v
    else if a = CSU_SHT_CFG p then s.writeField a v (CSU_SHT_CFG_move_to p) (fun x => x != 0)
    else if a = CSU_FF_CFG p then
      (((s.plainWrite a v).keepUnless s (8 ≤ fv v (CSU_FF_CFG_flag_hk p) && fv v (CSU_FF_CFG_flag_hk p) ≤ 23) (CSU_FF_CFG_flag_hk p)).keepUnless s
        (fv v (CSU_FF_CFG_anchor p) != 3) (CSU_FF_CFG_anchor p)).keepUnless s (1 ≤ fv v (CSU_FF_CFG_nav p) && fv v (CSU_FF_CFG_nav p) ≤ 16) (CSU_FF_CFG_nav p)
    else if a = CSU_GATE p then
      (((s.plainWrite a v).keepUnless s (fv v (CSU_GATE_k_var p) != 0) (CSU_GATE_k_var p)).keepUnless s (fv v (CSU_GATE_k_mean p) != 0) (CSU_GATE_k_mean p)).keepUnless s
        (fv v (CSU_GATE_div p) != 0) (CSU_GATE_div p)
    else if a = CSU_PIX p then s.writeField a v (CSU_PIX_unflag p) (fun x => x != 0)
    else s.plainWrite a v
  else s.plainWrite a v

/-! ## IPL (R283–R305) and CER (R308–R329) -/

/-- IPL_f_CTL: en, arm, and the commands of its other bits. -/
def iplCtl (s : State) (f : Nat) (v : W32) : State :=
  let s := if bitOf v 1 then s.setBit (IPL_CTL_arm f) else s
  let s := s.facetEnable f (bitOf v 0)
  let s := if bitOf v 2 then s.tableSync f else s
  if bitOf v 3 then s.histInvalid f else s

/-- Whether a visible format satisfies R280. -/
def formatOk (v : W32) : Bool :=
  let w := bitsOf v 11 0
  let h := bitsOf v 23 12
  64 ≤ w && w ≤ 4000 && w % 2 == 0 && 64 ≤ h && h ≤ 3000 && h % 2 == 0 && w * h ≤ 8000000

def writeFacet (s : State) (f a : Nat) (v : W32) : State :=
  if a = IPL_CTL f then s.iplCtl f v
  else if a = IPL_SCHED f then
    ((s.plainWrite a v).keepUnless s (fv v (IPL_SCHED_raster f) ≤ 4) (IPL_SCHED_raster f)).keepUnless s (fv v (IPL_SCHED_weight f) != 0) (IPL_SCHED_weight f)
  else if a = IPL_FMT f then if s.facetIdle f && formatOk v then s.plainWrite a v else s
  else if a = IPL_IN_BASE f ∨ a = IPL_OUT_BASE f ∨ a = IPL_HIST_BASE f then if s.facetIdle f then s.plainWrite a v else s
  else if a = IPL_IN_CFG f then
    if s.facetIdle f then s.writeField a v (IPL_IN_CFG_slots f) (fun x => 2 ≤ x && x ≤ 8) else s
  else if a = IPL_OUT_CFG f then
    if s.facetIdle f then (s.writeField a v (IPL_OUT_CFG_slots f) (fun x => 2 ≤ x && x ≤ 8)).outRewind f else s
  else s.plainWrite a v

def writeIpl (s : State) (a : Nat) (v : W32) : State :=
  if a = IPL_CTX_BASE then if [0, 1, 2, 3, 4, 5].all s.facetIdle then s.plainWrite a v else s
  else if 0x9100 ≤ a ∧ a < 0x9700 then s.writeFacet ((a - 0x9100) / 0x100) a v
  else s.plainWrite a v

/-- Stream `n` has no frame in progress. -/
def unitFree (s : State) (u : Nat) : Bool := !s.cer.jobs.any (fun j => j.unit == u)

/-- CER_RECx_CFG: a depth of 0 leaves the field; a change of en acts (R321, R322). -/
def recCfgWrite (s : State) (x : Nat) (v : W32) : State :=
  let t := s.writeField (CER_REC_CFG x) v (CER_REC_CFG_depth x) (fun d => d != 0)
  if t.get (CER_REC_CFG_en x) = s.get (CER_REC_CFG_en x) then t else t.recEnable x (t.bit (CER_REC_CFG_en x))

/-- CER_RECx_CTL: the commands of its bits (R322). -/
def recCtl (s : State) (x : Nat) (v : W32) : State :=
  let s := if bitOf v 0 then s.recFreeze x else s
  let s := if bitOf v 1 then s.recExport x else s
  if bitOf v 2 then s.recRelease x else s

def writeCer (s : State) (a : Nat) (v : W32) : State :=
  if a = CER_LOAD_CTL then if bitOf v 0 then s.tableLoadStart else s
  else if 0xB100 ≤ a ∧ a < 0xB300 then
    let n := (a - 0xB100) / 0x20
    if a = CER_S_CFG n then s.writeField a v (CER_S_CFG_plane n) (fun x => x != 3)
    else if a = CER_S_OUT_BASE n ∨ a = CER_S_OUT_SIZE n then if !s.bit (CER_S_CFG_en n) && s.unitFree n then s.plainWrite a v else s
    else s.plainWrite a v
  else if 0xB400 ≤ a ∧ a < 0xB480 then
    let x := (a - 0xB400) / 0x20
    if a = CER_REC_CFG x then s.recCfgWrite x v
    else if a = CER_REC_BASE x ∨ a = CER_REC_SIZE x then if s.recState x = 0 then s.plainWrite a v else s
    else if a = CER_REC_CTL x then s.recCtl x v
    else s.plainWrite a v
  else s.plainWrite a v

/-! ## MEM (R331–R354), NVS (R411–R429), HKT (R431–R451), SDR (R455–R466) -/

def writeMem (s : State) (a : Nat) (v : W32) : State :=
  if a = MEM_DRAM_CFG then
    if s.bit MEM_STAT_trained then s else s.writeField a v MEM_DRAM_CFG_density (fun x => x != 3)
  else if a = MEM_INIT then if bitOf v 0 then s.memInitStart else s
  else if a = MEM_QOS then
    if bitsOf v 5 0 + bitsOf v 13 8 + bitsOf v 21 16 + bitsOf v 29 24 ≤ 64 then s.plainWrite a v else s
  else if a = MEM_INJ then s.memInject v
  else if 0xC080 ≤ a ∧ a < 0xC0A0 then
    let d := (a - 0xC080) / 0x10
    if a = MEM_DMA_CTL d then
      let s := if bitOf v 0 then s.dmaStart d else s
      if bitOf v 1 then s.dmaStopCmd d else s
    else s.plainWrite a v
  else s.plainWrite a v

def writeNvs (s : State) (a : Nat) (v : W32) : State :=
  if 0xD800 ≤ a then s.nvsWindowWrite false (a - 0xD800) v
  else if a = NVS_CFG then s.writeField a v NVS_CFG_retry_lines (fun x => x != 0)
  else if a = NVS_CMD then s.nvsCmdWrite false v
  else if a = NVS_SHDN_PAGE then s.writeField a v NVS_SHDN_PAGE_shutdown (fun p => partition p == 2)
  else s.plainWrite a v

/-- HKT_CHc_CFG: what each field takes (R431, R434, R440). -/
def hkChanCfg (s : State) (c : Nat) (v : W32) : State :=
  let t := (s.plainWrite (HKT_CH_CFG c) v).keepUnless s (4 ≤ c && c ≤ 19 && fv v (HKT_CH_CFG_kind c) ≤ 2) (HKT_CH_CFG_kind c)
  let t := t.keepUnless s (fv v (HKT_CH_CFG_conv c) != 3) (HKT_CH_CFG_conv c)
  (t.keepUnless s (fv v (HKT_CH_CFG_hi_act c) != 3) (HKT_CH_CFG_hi_act c)).keepUnless s (fv v (HKT_CH_CFG_rr_act c) != 3) (HKT_CH_CFG_rr_act c)

def writeHkt (s : State) (a : Nat) (v : W32) : State :=
  if a = HKT_ROUND_CFG then
    ((s.plainWrite a v).keepUnless s (fv v HKT_ROUND_CFG_lines != 0) HKT_ROUND_CFG_lines).keepUnless s (fv v HKT_ROUND_CFG_raster ≤ 4) HKT_ROUND_CFG_raster
  else if a = HKT_ROUND_MASK then s.hkMaskWrite v
  else if a = HKT_URGENT then s.hkUrgent v
  else if a = HKT_THR_CFG then (s.writeField a v HKT_THR_CFG_raster (fun x => x ≤ 4)).hkThrottleJudge
  else if a = HKT_SHDN_CFG then s.hkShdnCfg v
  else if 0xE600 ≤ a ∧ a < 0xEA00 then
    if (a - 0xE600) % 0x100 / 4 ≤ 32 then s.setNum a (bitsOf v 19 0) else s
  else if 0xE100 ≤ a ∧ a < HKT_CH_CFG 28 then
    let c := (a - 0xE100) / 0x20
    if a = HKT_CH_CFG c then s.hkChanCfg c v
    else if a = HKT_CH_RR c then s.writeField a v (HKT_CH_RR_span c) (fun x => x != 0)
    else s.plainWrite a v
  else s.plainWrite a v

/-- A profile is in use: a pair runs it or keeps it waiting. -/
def profileBusy (s : State) (k : Nat) : Bool :=
  [0, 1, 2, 3].any (fun n => (s.pair n).run.any (fun q => q.prof == k) || (s.pair n).wait.any (fun q => q.prof == k))

/-- A channel's pair runs or waits. -/
def pairBusy (s : State) (n : Nat) : Bool := (s.pair n).run.isSome || (s.pair n).wait.isSome

/-- SDR_TRIG (R456, R460): the raster field takes R45 codes; start = 1 triggers the profile on the pair. -/
def sdrTrigWrite (s : State) (pc : Nat) (v : W32) : State :=
  let s := if fv v SDR_TRIG_raster ≤ 4 then s.put SDR_TRIG_raster (fv v SDR_TRIG_raster) else s
  if bitOf v 31 then
    (s.sdrTrigger (fv v SDR_TRIG_pair) { prof := fv v SDR_TRIG_profile, trig := s.get SDR_TRIG_raster, holder := if pc = 0 then 2 else 1, csu := none }).1
  else s

def writeSdr (s : State) (pc a : Nat) (v : W32) : State :=
  if a = SDR_TRIG then s.sdrTrigWrite pc v
  else if 0xF100 ≤ a ∧ a < 0xF200 then
    let c := (a - 0xF100) / 0x20
    if a = SDR_CH_CFG c then if s.pairBusy (c / 2) then s else s.writeField a v (SDR_CH_CFG_max_on c) (fun x => x != 0)
    else s.plainWrite a v
  else if 0xF400 ≤ a ∧ a < 0xF800 then
    let k := (a - 0xF400) / 0x40
    if s.profileBusy k then s
    else if a = SDR_PRF_CFG k then
      ((s.plainWrite a v).keepUnless s (fv v (SDR_PRF_CFG_nphase k) != 7) (SDR_PRF_CFG_nphase k)).keepUnless s (fv v (SDR_PRF_CFG_raster k) ≤ 4) (SDR_PRF_CFG_raster k)
    else if a = SDR_PRF_DRV k then s.writeField a v (SDR_PRF_DRV_pwm_per k) (fun x => x != 0)
    else
      let j := (a - SDR_PRF_PH k 0) / 4
      if a = SDR_PRF_PH k j ∧ j < 6 then s.writeField a v (SDR_PRF_PH_off_mode k j) (fun x => x != 3) else s.plainWrite a v
  else s.plainWrite a v

/-! ## SIO (R356–R391) and VIO (R376–R393) -/

def writeHport (s : State) (a : Nat) (v : W32) : State :=
  if a = HPORT_CFG then s.writeField a v HPORT_CFG_unit (fun x => 3 ≤ x)
  else if a = HPORT_DOORBELL then (s.doorbell v).bootDoorbell
  else s.plainWrite a v

/-- HPORT_FIFO: thresholds and flushes (R364). -/
def fifoWrite (s : State) (v : W32) : State :=
  let s := s.plainWrite HPORT_FIFO v
  let s := if bitOf v 9 then s.txFlush else s
  if bitOf v 8 then s.rxFlush else s

def writeSio (s : State) (a : Nat) (v : W32) : State :=
  if a = HPORT_TXD then s.txdWrite v
  else if a = HPORT_FIFO then s.fifoWrite v
  else if a = PPORT_CFG then s.pportCfg v
  else if a = PPORT_BULK_CTL then
    let s := if bitOf v 0 then s.bulkStart (bitOf v 2) else s
    if bitOf v 1 then s.bulkStop [] else s
  else if GPIO_FUN 0 ≤ a ∧ a ≤ GPIO_FUN 31 then s.gpioFun ((a - GPIO_FUN 0) / 4) v
  else s.plainWrite a v

def writeVio (s : State) (a : Nat) (v : W32) : State :=
  if 0x11100 ≤ a ∧ a < 0x11180 then
    let t := (a - 0x11100) / 0x40
    if a = VIO_TX_CFG t then s.txCfg t v
    else if a = VIO_TX_PKT t then s.writeField a v (VIO_TX_PKT_packet t) (fun x => x % 4 == 0 && 256 ≤ x && x ≤ 16384)
    else s.plainWrite a v
  else if 0x11200 ≤ a ∧ a < 0x11280 then
    let r := (a - 0x11200) / 0x40
    if a = VIO_RX_CFG r then s.rxCfg r v else s.plainWrite a v
  else if 0x11400 ≤ a ∧ a < 0x11600 then
    let k := (a - 0x11400) / 0x10
    if a = VIO_S_CFG k then s.vioStreamCfg k v else s.plainWrite a v
  else s.plainWrite a v

end State
end Sys2Proof.Machine
end

