-- ==== Sys2Proof/Machine/Bus.lean ====
section
/-! DEFINITION. Machine/Bus.lean: an access to the 24-bit host space: ownership and read entitlement (R18–R22, R31), the seal (R11), wide values (R34), the windows
(R75, R89, R346–R348), and what registers that follow other state read as. -/

namespace Sys2Proof.Machine
open R

/-- The ownership group of a host address (R21); none: nothing there, or MET-private space. -/
def groupOf (a : Nat) : Option Nat :=
  if a < 0x1000 then some 0
  else if a < 0x1800 then some 1
  else if a < 0x2000 then some 2
  else if a < 0x3000 then some 3
  else if a < 0x4000 then some 4
  else if a < 0x5000 then some (5 + (a - 0x4000) / 0x400)
  else if a < 0x6000 then some 9
  else if a < 0x6800 then some (10 + (a - 0x6000) / 0x200)
  else if a < 0x7000 then none
  else if a < 0x8000 then some 14
  else if a < 0x9000 then some 15
  else if a < 0xB000 then some 16
  else if a < 0xC000 then some 17
  else if a < 0xD000 then some 18
  else if a < 0xE000 then some 19
  else if a < 0xF000 then some 20
  else if a < 0x1_0000 then some 21
  else if a < 0x1_0400 then some 22
  else if a < 0x1_1000 then some 23
  else if a < 0x1_2000 then some 24
  else if a < 0x1_3000 then some 25
  else if a < 0x2_0000 then none
  else if a < 0x3_8000 then some 26
  else if a < 0x4_0000 then some 27
  else if a < 0x8_0000 then some 16
  else if a < 0x20_0000 then none
  else some 28

/-- MET-private space. -/
def metSpace (a : Nat) : Bool := 0x8_0000 ≤ a && a < 0x10_0000

/-- The address in the NVS block that MET's private copy of it shows at `a` (R409, R429). (UNVERIFIED, log entry 11.) -/
def metNvs (a : Nat) : Option Nat := if metSpace a ∧ a / 0x1000 = 0x80 + Config.metNvsPage.toNat then some (0xD000 + a % 0x1000) else none

/-- The word that an access reaches: 24 bits, bits [1:0] ignored (R7). -/
def wordAddr (a : Nat) : Nat := a % 2 ^ 24 / 4 * 4

/-- Whether a party of this code may read address `a` (R22). -/
def mayRead (pc a : Nat) : Bool :=
  if metSpace a then pc == 2
  else if pc < 4 then true
  else
    let q := pc - 4
    groupOf a == some (5 + q) || groupOf a == some (10 + q) || groupOf a == some 3 || a == PSC_SEM_BUSY || (PSC_SEM 0 ≤ a && a ≤ PSC_SEM 31) ||
      (0x2_0000 + 0x4000 * q ≤ a && a < 0x2_4000 + 0x4000 * q) || (0x3_0000 + 0x2000 * q ≤ a && a < 0x3_2000 + 0x2000 * q)

namespace State

/-- Whether a party owns address `a`'s group (R18). -/
def owns (s : State) (pc a : Nat) : Bool :=
  match groupOf a with
  | some g => s.num (PSC_OWN g) == pc
  | none => false

/-- A register whose every owner write is rejected while the seal is not OPEN: its whole access code is RWS, it is a legally relevant group's PSC_OWN, or it is
the configuration of an evidential stream (R11, R20, R308). -/
def sealedReg (s : State) (a : Nat) : Bool :=
  if PSC_OWN 0 ≤ a ∧ a ≤ PSC_OWN 31 then ownLegal ((a - PSC_OWN 0) / 4)
  else if CER_S_CFG 0 ≤ a ∧ a < 0xB300 ∧ (a - CER_S_CFG 0) % 0x20 = 0 then s.evidential ((a - CER_S_CFG 0) / 0x20)
  else match findRow a with
    | some r => r.rws != 0 && r.ctrs.isEmpty
    | none => false

/-- The lane register whose one RWS field is its arm bit (R11). -/
def laneCtl (a : Nat) : Bool := 0x6000 ≤ a && a < 0x6800 && a % 0x10 == 8

/-! ## The memories behind the host space -/

/-- A write by SUP into an SQ core's memories (R89). -/
def sqMemWrite (s : State) (a : Nat) (v : W32) : State :=
  let inst := decide (a < 0x3_0000)
  let q := if inst then (a - 0x2_0000) / 0x4000 else (a - 0x3_0000) / 0x2000
  let o := if inst then (a - 0x2_0000) % 0x4000 else (a - 0x3_0000) % 0x2000
  let st := s.sqState q
  let idle := st == 0 || st == 3
  let ok := if inst || decide (o < s.constLen q) then (if s.sealed then st == 3 else idle) else decide (0x1F00 ≤ o) || idle
  if !ok then s
  else if inst then { s with imem := Memory.setNum s.imem (coreBase q + o) 4 v.toNat }
  else { s with dmem := Memory.setNum s.dmem (coreBase q + o) 4 v.toNat }

/-- Byte of SUP's memories that the window shows at `a` (R76): instruction memory, or data memory. -/
def supPage (s : State) (a : Nat) : Bool × Nat :=
  let g := s.get PSC_SUP_WIN_page
  if g < 4 then (true, coreBase 4 + g * 0x8000 + (a - 0x3_8000)) else (false, coreBase 4 + (g - 4) * 0x8000 + (a - 0x3_8000))

def supMemWrite (s : State) (a : Nat) (v : W32) : State :=
  let (i, k) := s.supPage a
  if i then { s with imem := Memory.setNum s.imem k 4 v.toNat } else { s with dmem := Memory.setNum s.dmem k 4 v.toNat }

/-- A facet's inactive table bank (R286): the tables of facet f stand at 0x4_0000 + 0x8000 × f. -/
def iplTableWrite (s : State) (a : Nat) (v : W32) : State :=
  if a < 0x7_0000 then s.tableWrite ((a - 0x4_0000) / 0x8000) ((a - 0x4_0000) % 0x8000) v else s

/-- The owner's write, block by block. -/
def blockWrite (s : State) (pc a : Nat) (v : W32) : State :=
  match groupOf a with
  | none => s
  | some g =>
    match g with
    | 0 => s.writeSca a v
    | 1 => if a < 0x1100 then s else s.writeIntc a (if a < 0x1200 then 0 else 1) v
    | 2 => s.writeIntc a 2 v
    | 3 => s.writeRtb pc a v
    | 4 => s.writePsc a v
    | 5 => s.writeFpp 0 a v
    | 6 => s.writeFpp 1 a v
    | 7 => s.writeFpp 2 a v
    | 8 => s.writeFpp 3 a v
    | 9 => s.writeLca a v
    | 14 => s.writePce a v
    | 15 => s.writeCsu a v
    | 16 => let s := s.iplBegin; if a < 0xB000 then s.writeIpl a v else s.iplTableWrite a v
    | 17 => s.writeCer a v
    | 18 => s.writeMem a v
    | 19 => s.writeNvs a v
    | 20 => s.writeHkt a v
    | 21 => s.writeSdr pc a v
    | 22 => s.writeHport a v
    | 23 => s.writeSio a v
    | 24 => s.writeVio a v
    | 25 => s
    | 26 => s.sqMemWrite a v
    | 27 => s.supMemWrite a v
    | 28 => if a < 0x40_0000 then s.windowWrite pc (s.windowAddr a) v else s.bandWrite pc (a - 0x40_0000) v
    | _ => s.writeLane a v

/-- A change of an RWS register with the seal open is noted, and the identity is stale when the image changes (R244, R251). (DEDUCED, log entry 18.) -/
def noteChange (s : State) (a : Nat) (old : W32) : State :=
  if !s.variantM || s.reg a == old then s
  else if a = LCA_CTL 0 ∨ a = LCA_CTL 1 ∨ a = LCA_CTL 2 ∨ a = LCA_CTL 3 then s.auditNote (auditClass a) 3 a old.toNat (s.num a)
  else s.menChange (auditClass a) a old.toNat (s.num a)

/-- A write by the owner: the seal first, then the block (R9, R11). (DEDUCED, log entry 18.) -/
def ownerWrite (s : State) (pc a : Nat) (v : W32) : State :=
  if s.frozen && s.sealedReg a then s.auditReject (auditClass a) 4 a (s.num a) v.toNat
  else
    let t := s.blockWrite pc a v
    if s.frozen then (if laneCtl a && bitOf v 0 then t.auditReject (auditClass a) 4 a (s.num a) v.toNat else t)
    else if s.sealedReg a && !(CER_S_CFG 0 ≤ a && a < 0xB300) then t.noteChange a (s.reg a) else t

/-- What every access does before it: another access flushes the half word that the party holds (R346), and it counts for INTC (R403). (DEDUCED, log entry 33.) -/
def beginAccess (s : State) (pc a : Nat) (write : Bool) : State :=
  let s := if write && (0x20_0000 ≤ a && a < 0x40_0000) && s.owns pc a then s else s.flushHeld pc
  if pc < 2 then s.blockAccess (pc == 1) a else s

/-- MET writes its own copy of the NVS block: the register or the write buffer that SUP's side has at `b` (R411, R429). Until MET runs it issues no access (R417). -/
def metNvsWrite (s : State) (b : Nat) (v : W32) : State :=
  if !s.metUp then s
  else if 0xD800 ≤ b then s.nvsWindowWrite true (b - 0xD800) v
  else if b = NVS_CMD then s.nvsCmdWrite true v
  else
    match findRow b with
    | none => s
    | some r =>
      let old := s.nreg true b
      let ok := if b = NVS_CFG then fv v NVS_CFG_retry_lines != 0 else if b = NVS_SHDN_PAGE then partition (fv v NVS_SHDN_PAGE_shutdown) == 2 else true
      let f := if b = NVS_CFG then NVS_CFG_retry_lines else NVS_SHDN_PAGE_shutdown
      let w := r.written false old v
      s.setNreg true b (if ok then w else withBits w f.hi f.lo (bitsOf old f.hi f.lo))

/-- A 32-bit write by a party to a host address: ignored without a trace unless the party owns the group (R18, R31), or is MET in its private space. -/
def busWrite (s : State) (who : Party) (addr : Nat) (v : W32) : State :=
  let a := wordAddr addr
  let s := s.beginAccess who.code a true
  if s.owns who.code a then s.ownerWrite who.code a v
  else if who = .met then
    match metNvs a with
    | some b => s.metNvsWrite b v
    | none => s
  else s

/-! ## Reads -/

/-- RTB registers that follow the rasters and the substitutions. RTB_x_NOW_HI of a raster at its reset locus reads its raster code in the packed locus of R45, also where the map's
reset column says 0. (DEDUCED, log entry 21.) -/
def readRtb (s : State) (a : Nat) : W32 :=
  if a < 0x2140 then
    let r := (a - 0x2000) / 0x40
    let x := s.raster r
    if a = RTB_ACTIVE r then BitVec.ofNat 32 (x.frameLines * 65536 + x.lineLen)
    else if a = RTB_NOW_LO r then BitVec.ofNat 32 (s.locusAt r s.now).toNat
    else if a = RTB_NOW_HI r then BitVec.ofNat 32 ((s.locusAt r s.now).toNat / 2 ^ 32)
    else if a = RTB_FRAME r then BitVec.ofNat 32 x.frame
    else if a = RTB_EPOCH r then BitVec.ofNat 32 x.epoch
    else if a = RTB_LOCK_STAT r then
      BitVec.ofNat 32 (unsgn 24 x.lastCorr * 256 + b2n (decide (x.src < 6) && decide (s.num (RTB_LOCK_DLY r) < s.dMin r)) * 4 + x.lockState)
    else s.reg a
  else if a = RTB_FSYNC_STAT then BitVec.ofNat 32 (s.num a + b2n s.fsyncActive * 65536)
  else if a = RTB_STAT then
    BitVec.ofNat 32 (s.substRasters * 256 + (List.range 5).foldl (fun m r => m + b2n (s.raster r).running * 2 ^ r) 0)
  else if a = RTB_EVT then BitVec.ofNat 32 (s.num a % 2 ^ 26 + b2n s.lines.substEvt * 2 ^ 26)
  else s.reg a

/-- PSC registers that follow the cores. -/
def readPsc (s : State) (a : Nat) : W32 :=
  if 0x3200 ≤ a ∧ a < 0x3300 then
    let q := (a - 0x3200) / 0x40
    if a = PSC_SQ_STAT q then
      BitVec.ofNat 32 (s.num a % 8 + b2n (!(Map.get (fun _ => []) s.progRef q).isEmpty) * 8 + s.num a / 16 % 4 * 16 + (s.core q).queue.length * 256)
    else if a = PSC_SQ_PC q then BitVec.ofNat 32 ((s.core q).pc % 4096)
    else s.reg a
  else if a = PSC_SUP_STAT then BitVec.ofNat 32 (s.num a % 65536 + (s.core 4).pc % 2 ^ 15 * 65536)
  else s.reg a

/-- INTC registers; reads that do not claim. -/
def readIntc (s : State) (a : Nat) : W32 :=
  if a < 0x1010 then BitVec.ofNat 32 (s.rawWord (a / 4 % 4))
  else if a < 0x1020 then BitVec.ofNat 32 (s.insvWord (a / 4 % 4))
  else if 0x1020 ≤ a ∧ a < 0x1060 then BitVec.ofNat 32 (s.whoWord (a / 4 - 0x408))
  else if a < 0x1100 then 0#32
  else
    let t := if a < 0x1200 then 0 else if a < 0x1800 then 1 else 2
    let o := a - intcBase t
    if a = INTC_CLAIM t then s.intcPeek (t + 1)
    else if a = INTC_STAT t then BitVec.ofNat 32 (s.intcStat (t + 1))
    else if 0x30 ≤ o ∧ o < 0x50 then s.intcSetRead (t + 1) (o / 4 % 4)
    else s.reg a

/-- NVS registers of SUP's side, or of MET's copy. -/
def readNvs (s : State) (m : Bool) (a : Nat) : W32 :=
  if a = NVS_STAT then BitVec.ofNat 32 (s.nvsStat m)
  else if a = NVS_INFO0 then BitVec.ofNat 32 (s.nvsInfo m 0)
  else if a = NVS_INFO1 then BitVec.ofNat 32 (s.nvsInfo m 1)
  else if a = NVS_INFO2 then BitVec.ofNat 32 (s.nvsInfo m 2)
  else if a = NVS_FREE0 then BitVec.ofNat 32 (s.nvsFree 0)
  else if a = NVS_FREE1 then BitVec.ofNat 32 (s.nvsFree 1)
  else s.nreg m a

/-- MET reads address `a` of its private space, where its copy of the NVS block shows `b`: window, wide counter value or register (R34, R411, R429). -/
def metNvsRead (s : State) (a b : Nat) : State × W32 :=
  if !s.metUp then (s, 0#32)
  else if 0xD800 ≤ b then s.nvsWindowRead true (b - 0xD800) none
  else if b = NVS_CNT_VAL_HI then (s, Map.get (fun _ => 0#32) s.rlatch (latchKey 2 a))
  else if b = NVS_CNT_VAL_LO then
    ({ s with rlatch := Map.set (fun _ => 0#32) s.rlatch (latchKey 2 (a + 4)) (s.nreg true NVS_CNT_VAL_HI) }, s.nreg true b)
  else (s, s.readNvs true b)

/-- Levels of the GPIO pins. -/
def gpioIn (s : State) : Nat := (List.range 32).foldl (fun m n => m + b2n (s.pinLevel n) * 2 ^ n) 0

/-- What the register at `a` reads as, with no effect on it. A write-only register reads zero (R9). (DESIGN CHOICE, log entry 1.) -/
def regValue (s : State) (a : Nat) : W32 :=
  match findRow a with
  | none => if 0xE600 ≤ a ∧ a < 0xEA00 then s.reg a else 0#32
  | some _ =>
    if a < 0x1000 then
      if a = SCA_ID then BitVec.ofNat 32 (s.num a / 2 * 2 + b2n s.variantM) else if a = SCA_STAT then BitVec.ofNat 32 s.scaStat else s.reg a
    else if a < 0x2000 then s.readIntc a
    else if a < 0x3000 then s.readRtb a
    else if a < 0x4000 then s.readPsc a
    else if a < 0x5000 then
      let p := (a - 0x4000) / 0x400
      if a = FPP_STAT p then BitVec.ofNat 32 (s.num a % 128 / 64 * 64 + b2n (s.testOn p) * 32 + s.num a / 8 % 4 * 8 + b2n (s.port p).fltLow * 4 + s.num a % 4) else s.reg a
    else if 0x7100 ≤ a ∧ a < 0x7300 then
      let p := (a - 0x7100) / 0x80
      if a = PCE_TBL_STAT p then BitVec.ofNat 32 (s.num a / 64 * 64 + b2n (!(Map.get (fun _ => []) s.tblRef p).isEmpty) * 32 + s.num a % 32) else s.reg a
    else if a = CER_EVID then BitVec.ofNat 32 s.men.evid
    else if CER_S_CFG 0 ≤ a ∧ a < 0xB300 ∧ (a - CER_S_CFG 0) % 0x20 = 0 then
      BitVec.ofNat 32 (s.num a % 4096 + b2n (s.evidential ((a - CER_S_CFG 0) / 0x20)) * 4096)
    else if 0xD000 ≤ a ∧ a < 0xE000 then s.readNvs false a
    else if a = SDR_TRIG then 0#32
    else if 0xF040 ≤ a ∧ a < 0xF080 ∧ a % 16 = 4 ∧ s.notBegun ((a - 0xF040) / 16) then BitVec.ofNat 32 (s.num a / 2 * 2)
    else if 0xF100 ≤ a ∧ a < 0xF200 ∧ a % 32 = 20 ∧ s.notBegun ((a - 0xF100) / 64) then BitVec.ofNat 32 (s.num a / 32 * 32 + s.num a % 16)
    else if a = HPORT_STAT then
      BitVec.ofNat 32 (s.sio.txq.length * 65536 + s.sio.rxq.length * 256 + b2n s.sio.reply.isSome * 4 + s.num a % 4)
    else if a = GPIO_IN then BitVec.ofNat 32 s.gpioIn
    else if a / 0x1000 = 0x12 ∧ !s.variantM then 0#32
    else s.reg a

/-- The upper words of the wide value whose lowest word is at `a` (R34). -/
def upperWords (a : Nat) : List Nat :=
  if a / 0x1000 = 2 ∧ a < 0x2140 ∧ a % 0x40 = 0x10 then [a + 4, a + 8, a + 12]
  else if 0x2180 ≤ a ∧ a < 0x2200 ∧ a % 0x10 = 0 then [a + 4]
  else if a = PSC_SQ_DIGEST 0 0 ∨ a = PSC_SQ_DIGEST 1 0 ∨ a = PSC_SQ_DIGEST 2 0 ∨ a = PSC_SQ_DIGEST 3 0 then (List.range 7).map (fun k => a + 4 * (k + 1))
  else if a = PCE_TBL_DIGEST 0 0 ∨ a = PCE_TBL_DIGEST 1 0 ∨ a = PCE_TBL_DIGEST 2 0 ∨ a = PCE_TBL_DIGEST 3 0 then (List.range 7).map (fun k => a + 4 * (k + 1))
  else if a = MEM_ECC_ADDR_LO ∨ a = NVS_CNT_VAL_LO ∨ a = MEN_REC_SEQ_LO ∨ a = MEN_TIME_NONCE_LO ∨ a = MEN_ZALM_LO 0 ∨ a = MEN_ZALM_LO 1 ∨ a = MEN_ZALM_LO 2 ∨
    a = MEN_ZALM_LO 3 then [a + 4]
  else if a = MEN_KEYHASH 0 then (List.range 7).map (fun k => a + 4 * (k + 1))
  else []

/-- Whether `a` is an upper word of a wide value. -/
def isUpper (a : Nat) : Bool := [4, 8, 12, 16, 20, 24, 28].any (fun d => d ≤ a && (upperWords (a - d)).contains a)

/-- A register read: an upper word comes from the party's latch, a lowest word fills it, MEN_EVT is cleared by the read, RXD is popped by SUP and CLAIM claims for
the target's owner (R34, R275, R365, R398). -/
def regRead (s : State) (pc a : Nat) : State × W32 :=
  if isUpper a then (s, Map.get (fun _ => 0#32) s.rlatch (latchKey pc a))
  else
    let s := if 0x9000 ≤ a ∧ a < 0xB000 then s.iplBegin else s
    let v := s.regValue a
    let s := (upperWords a).foldl (fun s u => { s with rlatch := Map.set (fun _ => 0#32) s.rlatch (latchKey pc u) (s.regValue u) }) s
    if a = MEN_EVT then (if s.variantM && pc < 2 then s.setNum MEN_EVT 0 else s, v)
    else if a = HPORT_RXD then s.rxdRead (pc == 1)
    else if (a = INTC_CLAIM 0 ∨ a = INTC_CLAIM 1 ∨ a = INTC_CLAIM 2) ∧ s.owns pc a then s.intcClaim (if a = INTC_CLAIM 0 then 1 else if a = INTC_CLAIM 1 then 2 else 3)
    else (s, v)

/-- A read of a word of the memories behind the host space. (UNVERIFIED, log entry 11.) -/
def memoryRead (s : State) (pc a : Nat) : State × W32 :=
  if a < 0x3_0000 then
    (s, BitVec.ofNat 32 (Memory.num s.imem (coreBase ((a - 0x2_0000) / 0x4000) + (a - 0x2_0000) % 0x4000) 4))
  else if a < 0x3_8000 then
    (s, BitVec.ofNat 32 (Memory.num s.dmem (coreBase ((a - 0x3_0000) / 0x2000) + (a - 0x3_0000) % 0x2000) 4))
  else if a < 0x4_0000 then
    let (i, k) := s.supPage a
    (s, BitVec.ofNat 32 (Memory.num (if i then s.imem else s.dmem) k 4))
  else if a < 0x7_0000 then (s.iplBegin, s.iplBegin.tableRead ((a - 0x4_0000) / 0x8000) ((a - 0x4_0000) % 0x8000))
  else if metSpace a then
    match metNvs a with
    | some b => s.metNvsRead a b
    | none => (s.drawn, Config.metPrivate s.freeCtr)
  else if a < 0x20_0000 then (s, 0#32)
  else if a < 0x40_0000 then s.windowRead pc (s.windowAddr a)
  else s.memWordRead true (a - 0x40_0000) pc

/-- A 32-bit read by a party (R22, R31). -/
def busRead (s : State) (who : Party) (addr : Nat) : State × W32 :=
  let a := wordAddr addr
  let s := s.beginAccess who.code a false
  if !mayRead who.code a then (s, 0#32)
  else if a < 0x2_0000 then
    if 0xD800 ≤ a ∧ a < 0xE000 then s.nvsWindowRead false (a - 0xD800) none else s.regRead who.code a
  else s.memoryRead who.code a

/-- An access through the paged window that its party may make waits while the devices are to be trained again (R472). -/
def stalls (s : State) (who : Party) (addr : Nat) (write : Bool) : Bool :=
  let a := wordAddr addr
  s.dramWaits && decide (0x20_0000 ≤ a ∧ a < 0x40_0000) && decide (s.windowAddr a < s.dataBytes) && (if write then s.owns who.code a else mayRead who.code a)

/-- A read whose data the party keeps. -/
def readData (s : State) (who : Party) (addr : Nat) : State :=
  let (s, v) := s.busRead who addr
  { s with rdata := Map.set (fun _ => 0#32) s.rdata who.code v }

end State
end Sys2Proof.Machine
end

