-- ==== Sys2Proof/Machine/CmdBus.lean ====
section
/-! DEFINITION. Machine/CmdBus.lean: the meanings of register and ownership writes and of the commit of audit entries (R18, R20, R244). -/

namespace Sys2Proof.Machine
open R

open State

/-- REGISTER_WRITE: the write reaches the register of its address under ownership, access code and seal. One through the paged window does nothing while DRAM requests wait
(R472). MET reaches its private space in a system reset too (R473). (DEDUCED, log entry 61.) -/
def execRegisterWrite (who : Party) (addr : Addr) (v : W32) (s : State) : Host.Outcome State Fault Refusal :=
  actAs (if metSpace (wordAddr addr.toNat) then who else .host) s (fun s => if s.stalls who addr.toNat true then s else s.busWrite who addr.toNat v)

/-- OWNERSHIP_WRITE: a write of PSC_OWNn. -/
def execOwnershipWrite (who : Party) (n : Fin 32) (v : W32) (s : State) : Host.Outcome State Fault Refusal :=
  act s (fun s => s.busWrite who (PSC_OWN n) v)

/-- AUDIT_COMMIT: at the end of a frame of H, the entries gathered over it. -/
def execAuditCommit (s : State) : Host.Outcome State Fault Refusal :=
  actAlways s (fun s => s.auditCommit)

end Sys2Proof.Machine
end

