-- ==== Sys2Proof/Machine/CmdCer.lean ====
section
/-! DEFINITION. Machine/CmdCer.lean: the meanings of the commands and events of the compression coders, recorders and table loader (R310–R327). -/

namespace Sys2Proof.Machine
open R

open State

/-- TILE_CODE: the coder codes its next tile. -/
def execTileCode (k : Fin 2) (s : State) : Host.Outcome State Fault Refusal :=
  actMem s (fun s => s.tileCode k)

/-- TILE_VERIFY: the decoder lane verifies its next tile; `upset`: the check fails on a first decode. -/
def execTileVerify (k : Fin 2) (upset : Bool) (s : State) : Host.Outcome State Fault Refusal :=
  actMem s (fun s => s.tileVerify k upset)

/-- REC_FREEZE: a write of CER_RECx_CTL.freeze. -/
def execRecFreeze (who : Party) (x : Fin 4) (s : State) : Host.Outcome State Fault Refusal :=
  act s (fun s => s.busWrite who (CER_REC_CTL x) 1#32)

/-- REC_EXPORT: a write of CER_RECx_CTL.export. -/
def execRecExport (who : Party) (x : Fin 4) (s : State) : Host.Outcome State Fault Refusal :=
  act s (fun s => s.busWrite who (CER_REC_CTL x) 2#32)

/-- REC_RELEASE: a write of CER_RECx_CTL.release. -/
def execRecRelease (who : Party) (x : Fin 4) (s : State) : Host.Outcome State Fault Refusal :=
  act s (fun s => s.busWrite who (CER_REC_CTL x) 4#32)

/-- TABLE_LOAD_START: a write of CER_LOAD_CTL.start. -/
def execTableLoadStart (who : Party) (s : State) : Host.Outcome State Fault Refusal :=
  act s (fun s => s.busWrite who CER_LOAD_CTL 1#32)

/-- TABLE_LOAD_END: the table load ends. -/
def execTableLoadEnd (s : State) : Host.Outcome State Fault Refusal :=
  actMem s (fun s => s.tableLoadEnd)

end Sys2Proof.Machine
end

