-- ==== Sys2Proof/Machine/Operands.lean ====
section
/-! DEFINITION. Machine/Operands.lean: operands of Pulon instructions: general and locus registers, effective addresses, loads and stores (R73, R74, R109, R112). -/

namespace Sys2Proof.Machine
open R

namespace State

/-- General register `r` of core `k`; W0 reads zero (R73). -/
def rd (s : State) (k : Nat) (r : RegNo) : W32 := if r = 0#4 then 0#32 else Map.get (fun _ => 0#32) (s.core k).w r.toNat

/-- A write to W0 is discarded (R73). -/
def wr (s : State) (k : Nat) (r : RegNo) (v : W32) : State :=
  if r = 0#4 then s else s.modCore k (fun x => { x with w := Map.set (fun _ => 0#32) x.w r.toNat v })

/-- Locus register `x` of core `k`. -/
def loc (s : State) (k : Nat) (x : LocNo) : W64 := Map.get (fun _ => 0#64) (s.core k).l x.toNat
def setLoc (s : State) (k : Nat) (x : LocNo) (v : W64) : State := s.modCore k (fun y => { y with l := Map.set (fun _ => 0#64) y.l x.toNat v })

/-- The effective address of a load or store (R112). -/
def effAddr (s : State) (k : Nat) (a : RegNo) (imm : BitVec 16) : Nat := (s.rd k a + imm.signExtend 32).toNat

end State

/-- An address in core `k`'s own data memory, and one in host space (R74). -/
def inOwn (k ea : Nat) : Bool := ea < dmemBytes k
def inHost (ea : Nat) : Bool := 0x1000_0000 ≤ ea && ea < 0x1100_0000

/-- Cycles of a load or store (R77). -/
def accessCycles (ea : Nat) : Nat := if inHost ea then 8 else 2

namespace State

/-- A load or store of core `k` that waits for DRAM (R472). -/
def awaits (s : State) (k : Core) (ea : Nat) (write : Bool) : Bool := inHost ea && s.stalls k.party (ea - 0x1000_0000) write

/-- The word at an effective address; a host-space load is the core's own request, and any other address reads zero (R74, R112). -/
def loadWord (s : State) (k : Core) (ea : Nat) : State × W32 :=
  if inOwn k.idx ea then (s, BitVec.ofNat 32 (Memory.num s.dmem (coreBase k.idx + ea / 4 * 4) 4))
  else if inHost ea then s.busRead k.party (ea - 0x1000_0000)
  else (s, 0#32)

/-- A halfword (`size` 2) or byte (`size` 1), zero-extended: the one that the address selects in its word. -/
def loadPart (s : State) (k : Core) (ea size : Nat) : State × W32 :=
  let (s, v) := s.loadWord k ea
  (s, BitVec.ofNat 32 (v.toNat / 2 ^ (8 * (ea % 4 / size * size)) % 2 ^ (8 * size)))

/-- A load of `size` bytes from `ea` into Wd by core `k` notes the register where it was a claim at SUP's target (R401). -/
def noteClaim (s : State) (k : Core) (ea size : Nat) (d : RegNo) : State :=
  if k == .sup && inHost ea && wordAddr (ea - 0x1000_0000) == INTC_CLAIM 2 then s.claimDest d (ea % 4 / size * size) size else s

/-- A byte of its own data memory that core `k` may write: an SQ core never writes its constant region (R89). -/
def ownWritable (s : State) (k ea : Nat) : Bool := inOwn k ea && !(decide (k < 4) && decide (ea < s.constLen k))

/-- `size` bytes stored at an address of the core's own data memory, aligned down. -/
def storeOwn (s : State) (k ea size v : Nat) : State :=
  if s.ownWritable k (ea / size * size) then { s with dmem := Memory.setNum s.dmem (coreBase k + ea / size * size) size v } else s

/-- A word stored at an effective address. -/
def storeWord (s : State) (k : Core) (ea : Nat) (v : W32) : State :=
  if inOwn k.idx ea then s.storeOwn k.idx ea 4 v.toNat
  else if inHost ea then s.busWrite k.party (ea - 0x1000_0000) v
  else s

/-- A halfword or byte stored: own data memory only. A store into host space is ignored, but it is the core's next access (R112, R346). -/
def storePart (s : State) (k : Core) (ea size : Nat) (v : W32) : State :=
  if inOwn k.idx ea then s.storeOwn k.idx ea size v.toNat
  else if inHost ea then s.beginAccess k.party.code (wordAddr (ea - 0x1000_0000)) false
  else s

/-- 64 bits of own data memory; zero elsewhere (R112). -/
def loadLocus (s : State) (k ea : Nat) : W64 := if inOwn k ea then BitVec.ofNat 64 (Memory.num s.dmem (coreBase k + ea / 8 * 8) 8) else 0#64

def storeLocus (s : State) (k ea : Nat) (v : W64) : State := if inOwn k ea then s.storeOwn k ea 8 v.toNat else s

end State
end Sys2Proof.Machine
end

