-- ==== Sys2Proof/Machine/Flags.lean ====
section
/-! DEFINITION. Machine/Flags.lean: the flag computations of Pulon instructions (R109–R111), the condition codes (R113), and FLAGS as a word (R115). -/

namespace Sys2Proof.Machine

/-- A result with the flags it sets: `none` leaves a flag as it is. -/
structure AluOut where
  res : W32
  c : Option Bool := none
  v : Option Bool := none
deriving DecidableEq, Repr

def aluAdd (x y : W32) : AluOut :=
  let r := x + y
  ⟨r, some (decide (2 ^ 32 ≤ x.toNat + y.toNat)), some (((x ^^^ r) &&& (y ^^^ r)).msb)⟩

def aluSub (x y : W32) : AluOut :=
  let r := x - y
  ⟨r, some (decide (y.toNat ≤ x.toNat)), some (((x ^^^ y) &&& (x ^^^ r)).msb)⟩

/-- Results that leave C and V: logic, MUL, MOVH. -/
def aluPlain (r : W32) : AluOut := ⟨r, none, none⟩

/-- Shifts: C is the last bit shifted out, 0 for a count of 0. -/
def aluShl (x y : W32) : AluOut :=
  let n := y.toNat % 32
  ⟨x <<< n, some (n != 0 && x.getLsbD (32 - n)), none⟩

def aluShr (x y : W32) : AluOut :=
  let n := y.toNat % 32
  ⟨x >>> n, some (n != 0 && x.getLsbD (n - 1)), none⟩

def aluSar (x y : W32) : AluOut :=
  let n := y.toNat % 32
  ⟨x.sshiftRight n, some (n != 0 && x.getLsbD (n - 1)), none⟩

/-- MOVH: (imm16 << 16) | a[15:0]. -/
def aluMovh (x y : W32) : AluOut := aluPlain ((y <<< 16) ||| (x &&& 0xFFFF#32))

/-- FLAGS: [3] Z, [2] N, [1] C, [0] V. -/
def flagsWord (x : CoreSt) : Nat := b2n x.z * 8 + b2n x.n * 4 + b2n x.c * 2 + b2n x.v

def CoreSt.withFlags (x : CoreSt) (f : Nat) : CoreSt := { x with z := f / 8 % 2 = 1, n := f / 4 % 2 = 1, c := f / 2 % 2 = 1, v := f % 2 = 1 }

/-- Whether condition `c` holds (R113). -/
def condHolds (x : CoreSt) (c : BitVec 4) : Bool :=
  match c.toNat with
  | 0 => true | 1 => x.z | 2 => !x.z | 3 => x.c | 4 => !x.c | 5 => x.n | 6 => !x.n | 7 => x.v | 8 => !x.v
  | 9 => x.c && !x.z | 10 => !x.c || x.z | 11 => x.n == x.v | 12 => x.n != x.v | 13 => !x.z && x.n == x.v | 14 => x.z || x.n != x.v
  | _ => false

namespace State

/-- The flags that an instruction names, from its result, when `f` is 1. -/
def setAluFlags (s : State) (k : Nat) (o : AluOut) (f : Bool) : State :=
  if f then s.modCore k (fun x => { x with z := o.res == 0#32, n := o.res.msb, c := o.c.getD x.c, v := o.v.getD x.v }) else s

/-- C alone. -/
def setC (s : State) (k : Nat) (b : Bool) : State := s.modCore k (fun x => { x with c := b })

/-- C and V. -/
def setCV (s : State) (k : Nat) (c v : Bool) : State := s.modCore k (fun x => { x with c := c, v := v })

end State
end Sys2Proof.Machine
end

