-- ==== Sys2Proof/Machine/Pulon.lean ====
section
/-! DEFINITION. Machine/Pulon.lean: what every Pulon instruction shares: it is the one the core fetches, it takes its cycles, and the program counter goes on
(R71–R83, R106–R131). -/

namespace Sys2Proof.Machine
open R

/-- The word that the pseudocode of R118 returns: its terms joined by OR, so that a line above 4,095, which only an advance by frames can leave, runs into the frame field. -/
def ladvWord (r frame line slot tick : Nat) : W64 :=
  BitVec.ofNat 64 (r * 2 ^ 61) ||| BitVec.ofNat 64 (frame * 2 ^ 35) ||| BitVec.ofNat 64 (line * 2 ^ 23) ||| BitVec.ofNat 64 (slot * 2 ^ 7) ||| BitVec.ofNat 64 tick

/-- The locus that lies `n` units of field `u` after `p`, with the flags Z and C of R118; `none` for an unreachable `p`. -/
def ladvOf (p : W64) (ll fl : Nat) (u : Nat) (n : Int) : Option (W64 × Bool × Bool) :=
  if unreachable p then none
  else
    let f0 := locFrame p
    let flen : Int := 96 * ll * fl
    let pos0 : Int := ((locLine p * ll + locSlot p) * 96 + locTick p : Nat)
    let (f, pos) : Int × Int :=
      if u = 3 then ((f0 : Int) + n, pos0)
      else
        let pos := pos0 + n * (if u = 0 then 1 else if u = 1 then 96 else 96 * ll)
        ((f0 : Int) + pos / flen, pos % flen)
    let f := unsgn 26 f
    let pos := pos.toNat
    some (ladvWord (locRaster p) f (pos / (96 * ll)) (pos / 96 % ll) (pos % 96), pos == 0, f != f0)

/-- A locus with field `u` replaced by the low bits of `b` (R117). -/
def linsOf (p : W64) (u : Nat) (b : W32) : W64 :=
  let put := fun (lo w : Nat) => p.toNat / 2 ^ (lo + w) * 2 ^ (lo + w) + b.toNat % 2 ^ w * 2 ^ lo + p.toNat % 2 ^ lo
  BitVec.ofNat 64 (match u with | 0 => put 0 7 | 1 => put 7 16 | 2 => put 23 12 | _ => put 35 26)

namespace State

/-- The contents of what the core fetches from are not given: MET's firmware and ROM, and SUP's boot ROM (R74, R91). (DEDUCED, log entry 9.) -/
def hiddenCode (s : State) (k : Core) : Bool := k == .met || (k == .sup && s.bit PSC_SUP_STAT_rom)

/-- The core executes instructions now: it runs, no wait holds it, and no reset holds its domain. (DEDUCED, log entry 9.) -/
def executing (s : State) (k : Core) : Bool :=
  (s.running || (k == .met && s.hold == .system)) && s.coreRuns k.idx && (s.core k.idx).waiting.isNone

/-- The instruction is the one at the core's PC; where the contents are not given, any instruction that has a word. (DEDUCED, log entry 9.) -/
def fetches (s : State) (k : Core) (i : Instr) : Bool :=
  if s.hiddenCode k then
    match encodePulon i with
    | some e => e.1 == k && decodePulon k e.2 == some i
    | none => false
  else decodePulon k (s.fetchWord k.idx (s.core k.idx).pc) == some i

/-- The fault of an increment past the last instruction (R83). (DEDUCED, log entry 66.) -/
def overrunCheck (s : State) (k : Nat) : State :=
  if (s.core k).pc = imemWords k then s.coreFault k true (imemWords k - 1) else s

/-- An instruction of `n` cycles (R77): it begins in the first Pulon cycle in which the core is ready, its effect `eff` (given that first tick) stands at the last
tick of its last cycle, with the PC already at the next instruction, and the core is ready after it, or HALTED where a halt came while it ran (R84). (DEDUCED, log entry 66.) -/
def issue (s : State) (k n : Nat) (eff : Nat → State → State) : State :=
  let t := s.issueTick k n
  let s := (s.advanceTo (t + 4 * n - 1)).modCore k (fun x => { x with pc := x.pc + 1, readyAt := t + 4 * n })
  ((eff t s).overrunCheck k).haltAfter k

/-- The whole of an instruction of core `k`: nothing happens unless the core is executing and the instruction is the one it fetches. (DEDUCED, log entry 9.) -/
def pulon (s : State) (k : Core) (i : Instr) (n : Nat) (eff : Nat → State → State) : State :=
  if s.executing k && s.fetches k i then s.readOn (s.issue k.idx n eff) else s

/-- Arithmetic and logic: the result to Wd, and the flags when f is 1. -/
def aluEffect (k : Core) (d : RegNo) (f : Bool) (g : State → AluOut) (_ : Nat) (s : State) : State :=
  let o := g s
  (s.setAluFlags k.idx o f).wr k.idx d o.res

/-- A transfer to index `t` by the instruction before the present PC; a target outside the memory faults (R114). -/
def jumpTo (s : State) (k : Nat) (t : Int) : State :=
  let here := (s.core k).pc - 1
  if t < 0 ∨ (imemWords k : Int) ≤ t then s.coreFault k true here else s.modCore k (fun x => { x with pc := t.toNat })

/-- Active lengths of the raster a locus names. -/
def lineLenOf (s : State) (p : W64) : Nat := (s.raster (locRaster p)).lineLen
def frameLinesOf (s : State) (p : W64) : Nat := (s.raster (locRaster p)).frameLines

/-- The target of an edge or strobe instruction: soff slots after Ly; an unreachable locus stays (R120). -/
def entryTarget (s : State) (p : W64) (soff : BitVec 11) : W64 :=
  match ladvOf p (s.lineLenOf p) (s.frameLinesOf p) 1 soff.toNat with
  | some x => x.1
  | none => p

/-- An entry is committed, and C and V say what became of it (R120). -/
def commitFlags (s : State) (k : Nat) (e : QEntry) : State :=
  let (s, o) := s.commitEntry k e s.now
  s.setCV k (o != .pending) (o == .full)

/-- The locus wait of R79: a target that is passed in the tick in which it is judged, or unreachable, sets C; otherwise the core waits at the instruction. Which of the 8 ticks that is
the spec does not say. (UNVERIFIED, log entry 30; DEDUCED, log entry 32.) -/
def waitEffect (k : Nat) (y : LocNo) (t : Nat) (s : State) : State :=
  let p := s.loc k y
  let r := locRaster p
  if unreachable p ∨ (k < 4 ∧ r ≠ k) ∨ ordLocus p ((s.raster r).posAt (t + Config.waitTick.toNat)) ≠ .gt then s.setC k true
  else s.modCore k (fun x => { x with waiting := some p, pc := x.pc - 1 })

/-- WAIT_RESUME: the target tick is reached (or, where a lock removed it, passed at the line's end): the next instruction issues in the first Pulon cycle whose first tick is at or
after it (R79). A wait at the last index overruns at the last tick of its final cycle (R83). (DEDUCED, log entry 32.) -/
def waitResume (s : State) (k : Nat) : State :=
  match (s.core k).waiting with
  | none => s
  | some p =>
    let x := s.raster (locRaster p)
    let go := fun (d : Nat) =>
      let t := (max d (s.core k).readyAt + 3) / 4 * 4
      let s := s.advanceTo (if (s.core k).pc + 1 = imemWords k then t - 1 else t)
      (s.modCore k (fun y => { y with waiting := none, c := false, pc := y.pc + 1, readyAt := t })).overrunCheck k
    match s.dueTick p with
    | some d => go d
    | none => if x.running && ordLocus p (s.pos (locRaster p)) != .gt then go x.lineAt else s

/-- MET's private controller requests: a signal of MET waits, or one of the sources that the spec does not name asks. (UNVERIFIED, log entry 11.) -/
def metRequesting (s : State) : Bool := s.men.sig != 0 || Config.metRequest s.freeCtr

/-- SUP_INTERRUPT_ENTRY: at an instruction boundary, with IE and a request; a wait in progress is abandoned and runs again on return. MET follows the same rules with its
private controller, whose signals the entry takes (R82, R99). (UNVERIFIED, log entry 11; DEDUCED, log entry 32; DESIGN CHOICE for the taking, log entry 11.) -/
def interruptEntry (s : State) (k : Core) : State :=
  let x := s.core k.idx
  let t := s.boundaryTick k.idx
  let enter := fun (s : State) (pc : Nat) =>
    (s.advanceTo t).modCore k.idx (fun x => { x with epc := x.pc, eflags := flagsWord x, ie := false, pc := pc, waiting := none, readyAt := t })
  match k with
  | .sup =>
    if s.running && s.coreRuns 4 && x.ie && s.requesting 3 then s.readOn ((enter s (s.get PSC_SUP_VEC_ivec)).setBit PSC_SUP_STAT_in_irq) else s
  | .met =>
    if (s.running || s.hold == .system) && s.coreRuns 5 && x.ie then
      (if s.metRequesting then s.readOn ((enter s Config.metVector.toNat).modMen (fun m => { m with sig := 0 })) else s).drawn
    else s
  | _ => s

/-- IRET (R116). -/
def iretEffect (k : Nat) (s : State) : State :=
  let s := s.modCore k (fun x => { (x.withFlags x.eflags) with pc := x.epc, ie := true })
  if k = 4 then (if s.bit PSC_SUP_STAT_in_fault then s.clrBit PSC_SUP_STAT_in_fault else s.clrBit PSC_SUP_STAT_in_irq) else s

/-- A special register's value (R115). -/
def special (s : State) (k : Core) (sr : Nat) : W32 :=
  let x := s.core k.idx
  match sr with
  | 0 => BitVec.ofNat 32 (flagsWord x)
  | 1 => BitVec.ofNat 32 k.party.code
  | 2 => if k.isSq then 0#32 else BitVec.ofNat 32 x.epc
  | 3 => if k.isSq then 0#32 else BitVec.ofNat 32 x.eflags
  | 4 => if k.isSq then 0#32 else BitVec.ofNat 32 (b2n x.ie)
  | 5 => if k.isSq then BitVec.ofNat 32 k.idx else 4#32
  | _ => 0#32

/-- A write of a special register (R115): FLAGS on every core, EPC (of the PC's width), EFLAGS and IE on SUP and MET. -/
def setSpecial (s : State) (k : Core) (sr : Nat) (v : W32) : State :=
  match sr with
  | 0 => s.modCore k.idx (fun x => x.withFlags v.toNat)
  | 2 => if k.isSq then s else s.modCore k.idx (fun x => { x with epc := v.toNat % imemWords k.idx })
  | 3 => if k.isSq then s else s.modCore k.idx (fun x => { x with eflags := v.toNat % 16 })
  | 4 => if k.isSq then s else s.modCore k.idx (fun x => { x with ie := v.getLsbD 0 })
  | _ => s

/-- SIG (R99): MET's signal goes to its private controller, which holds it in `MenSt.sig`. -/
def signal (s : State) (k c : Nat) : State :=
  if k < 4 then s.setBit ⟨PSC_SIG, 31, 0⟩ (8 * k + c) else if k = 4 then s.setBit PSC_SIG_SUP_sup c else s.modMen (fun m => { m with sig := m.sig ||| 2 ^ c })

/-- ILLEGAL_INSTRUCTION: the word at the core's PC is none that the core may execute; it takes one cycle and changes nothing but the fault's own effects (R83, R108). -/
def illegal (s : State) (k : Core) : State :=
  let pc := (s.core k.idx).pc
  if s.executing k && (s.hiddenCode k || (decodePulon k (s.fetchWord k.idx pc)).isNone) then
    let t := s.issueTick k.idx 1
    s.readOn (((s.advanceTo (t + 3)).modCore k.idx (fun x => { x with readyAt := t + 4 })).coreFault k.idx false pc)
  else s

end State
end Sys2Proof.Machine
end

