-- ==== Sys2Proof/Machine/CmdCore.lean ====
section
/-! DEFINITION. Machine/CmdCore.lean: the meanings of the commands and events of the Pulon cores beside their instructions (R80–R99). -/

namespace Sys2Proof.Machine
open R

open State

/-- SUP_INTERRUPT_ENTRY: a core takes a pending request at an instruction boundary. -/
def execSupInterruptEntry (k : Core) (s : State) : Host.Outcome State Fault Refusal :=
  commit (s.interruptEntry k)

/-- EDGE_ENTRY_FIRE: the earliest pending entry of the core's queue fires at its target tick. -/
def execEdgeEntryFire (k : Core) (s : State) : Host.Outcome State Fault Refusal :=
  act s (fun s => s.edgeEntryFire k.idx)

/-- ILLEGAL_INSTRUCTION: the word at the core's PC is one that it may not execute. -/
def execIllegalInstruction (k : Core) (s : State) : Host.Outcome State Fault Refusal :=
  commit (s.illegal k)

/-- SQ_START_COMMAND: a write of PSC_SQx_CTL.start. -/
def execSqStartCommand (who : Party) (q : Port) (s : State) : Host.Outcome State Fault Refusal :=
  act s (fun s => s.busWrite who (PSC_SQ_CTL q) 1#32)

/-- SQ_CHECK_COMMAND: a write of PSC_SQx_CTL.check. -/
def execSqCheckCommand (who : Party) (q : Port) (s : State) : Host.Outcome State Fault Refusal :=
  act s (fun s => s.busWrite who (PSC_SQ_CTL q) 8#32)

/-- SQ_HALT_COMMAND: a write of PSC_SQx_CTL.halt. -/
def execSqHaltCommand (who : Party) (q : Port) (s : State) : Host.Outcome State Fault Refusal :=
  act s (fun s => s.busWrite who (PSC_SQ_CTL q) 2#32)

/-- SQ_FLUSH_COMMAND: a write of PSC_SQx_CTL.flush. -/
def execSqFlushCommand (who : Party) (q : Port) (s : State) : Host.Outcome State Fault Refusal :=
  act s (fun s => s.busWrite who (PSC_SQ_CTL q) 4#32)

/-- HASH_COMPLETE: the program digest is ready. -/
def execHashComplete (q : Port) (s : State) : Host.Outcome State Fault Refusal :=
  act s (fun s => (s.hashComplete q).metJudge)

/-- SQ_WATCHDOG_EXPIRY: the line count of the watchdog reaches its limit. -/
def execSqWatchdogExpiry (q : Port) (s : State) : Host.Outcome State Fault Refusal :=
  act s (fun s => s.sqWatchdog q)

/-- SUP_WD_KICK: a write of PSC_SUP_WD_KICK. -/
def execSupWdKick (who : Party) (v : W32) (s : State) : Host.Outcome State Fault Refusal :=
  act s (fun s => s.busWrite who PSC_SUP_WD_KICK v)

/-- SUP_WD_CFG_WRITE: a write of PSC_SUP_WD_CFG. -/
def execSupWdCfgWrite (who : Party) (v : W32) (s : State) : Host.Outcome State Fault Refusal :=
  act s (fun s => s.busWrite who PSC_SUP_WD_CFG v)

/-- SUP_WATCHDOG_FIRST_STAGE: the count reaches the limit for the first time. -/
def execSupWatchdogFirstStage (s : State) : Host.Outcome State Fault Refusal :=
  act s (fun s => s.supWdFirst)

/-- SUP_WATCHDOG_RESET: the count reaches the limit again. -/
def execSupWatchdogReset (s : State) : Host.Outcome State Fault Refusal :=
  act s (fun s => s.supWdReset)

/-- FORCED_RELEASE: a write of PSC_FORCE. -/
def execForcedRelease (who : Party) (v : W32) (s : State) : Host.Outcome State Fault Refusal :=
  act s (fun s => s.busWrite who PSC_FORCE v)

/-- ROM_MAP_CLEAR: a write of 0 to PSC_SUP_CTL.rom_map. -/
def execRomMapClear (who : Party) (s : State) : Host.Outcome State Fault Refusal :=
  act s (fun s => s.busWrite who PSC_SUP_CTL 0#32)

end Sys2Proof.Machine
end

