-- ==== Sys2Proof/Machine/CmdCsu.lean ====
section
/-! DEFINITION. Machine/CmdCsu.lean: the meanings of the commands and events of the calibration and shutter unit (R221–R232). -/

namespace Sys2Proof.Machine
open R

open State

/-- FF_NOW: a write of CSU_x_CTL.ff_now. -/
def execFfNow (who : Party) (p : Port) (s : State) : Host.Outcome State Fault Refusal :=
  act s (fun s => s.busWrite who (CSU_CTL p) (BitVec.ofNat 32 (s.get (CSU_CTL_en p) + 2)))

/-- FF_MOVE_TIMEOUT: no movement report by move_to frames. -/
def execFfMoveTimeout (p : Port) (s : State) : Host.Outcome State Fault Refusal :=
  act s (fun s => s.ffMoveTimeout p)

/-- FF_AVERAGE_FRAME: a frame's raw plane joins the accumulation. -/
def execFfAverageFrame (p : Port) (s : State) : Host.Outcome State Fault Refusal :=
  actMem s (fun s => s.ffAverage p)

/-- FF_COMPOSE_END: the flat-field composition ends. -/
def execFfComposeEnd (p : Port) (s : State) : Host.Outcome State Fault Refusal :=
  actMem s (fun s => (s.ffComposeEnd p).metJudge)

/-- SHUT_OK: a write of CSU_x_CTL.shut_ok. -/
def execShutOk (who : Party) (p : Port) (s : State) : Host.Outcome State Fault Refusal :=
  act s (fun s => s.busWrite who (CSU_CTL p) (BitVec.ofNat 32 (s.get (CSU_CTL_en p) + 16)))

/-- STATS_SAMPLE: the div-th frame's statistics. -/
def execStatsSample (p : Port) (s : State) : Host.Outcome State Fault Refusal :=
  actMem s (fun s => s.statsSample p)

/-- STATS_CLR: a write of CSU_x_CTL.stats_clr. -/
def execStatsClr (who : Party) (p : Port) (s : State) : Host.Outcome State Fault Refusal :=
  act s (fun s => s.busWrite who (CSU_CTL p) (BitVec.ofNat 32 (s.get (CSU_CTL_en p) + 32)))

/-- COMPOSE: a write of CSU_x_CTL.compose. -/
def execCompose (who : Party) (p : Port) (s : State) : Host.Outcome State Fault Refusal :=
  act s (fun s => s.busWrite who (CSU_CTL p) (BitVec.ofNat 32 (s.get (CSU_CTL_en p) + 4)))

/-- STATS_COMPOSE_END: a statistics composition ends. -/
def execStatsComposeEnd (p : Port) (s : State) : Host.Outcome State Fault Refusal :=
  actMem s (fun s => s.statsComposeEnd p)

/-- WEDGE_ARM: a write of CSU_x_CTL.arm. -/
def execWedgeArm (who : Party) (p : Port) (s : State) : Host.Outcome State Fault Refusal :=
  act s (fun s => s.busWrite who (CSU_CTL p) (BitVec.ofNat 32 (s.get (CSU_CTL_en p) + 8)))

end Sys2Proof.Machine
end

