-- ==== Sys2Proof/Machine/CmdHkt.lean ====
section
/-! DEFINITION. Machine/CmdHkt.lean: the meanings of the commands and events of housekeeping and thermal protection (R434–R446). -/

namespace Sys2Proof.Machine
open R

open State

/-- HK_ROUND_START: the line count of a round start. -/
def execHkRoundStart (s : State) : Host.Outcome State Fault Refusal :=
  act s (fun s => s.hkRoundStart)

/-- HK_CONVERSION_END: a round conversion ends with what lies on its input. -/
def execHkConversionEnd (x : Option (Int × Nat)) (s : State) : Host.Outcome State Fault Refusal :=
  act s (fun s => s.hkConversionEnd x)

/-- HK_OPEN_WIRE_CHECK: an open-wire check ends with the level of its input. -/
def execHkOpenWireCheck (uv : Int) (s : State) : Host.Outcome State Fault Refusal :=
  act s (fun s => s.hkOpenWireCheck uv)

/-- HK_URGENT: a write of HKT_URGENT. -/
def execHkUrgent (who : Party) (v : W32) (s : State) : Host.Outcome State Fault Refusal :=
  act s (fun s => s.busWrite who HKT_URGENT v)

/-- HK_URGENT_DONE: an urgent conversion ends. -/
def execHkUrgentDone (x : Option (Int × Nat)) (s : State) : Host.Outcome State Fault Refusal :=
  act s (fun s => s.hkUrgentDone x)

/-- THROTTLE_FORCE_WRITE: a write of HKT_THR_CFG. -/
def execThrottleForceWrite (who : Party) (v : W32) (s : State) : Host.Outcome State Fault Refusal :=
  act s (fun s => s.busWrite who HKT_THR_CFG v)

/-- THROTTLE_GRACE_EXPIRY: the grace frames have passed. -/
def execThrottleGraceExpiry (s : State) : Host.Outcome State Fault Refusal :=
  act s (fun s => s.graceExpiry)

/-- DIE_TRIP: a die sensor has read above trip for 4 periods. The comparators run in every hold but that of a thermal reset (R445). -/
def execDieTrip (s : State) : Host.Outcome State Fault Refusal :=
  commit (s.readOn s.dieTrip)

/-- THERMAL_RESET_ENTRY: the shutdown's record is written, or its time limit is reached. -/
def execThermalResetEntry (limit : Bool) (s : State) : Host.Outcome State Fault Refusal :=
  commit (s.thermalEntry limit)

/-- THERMAL_RESET_RELEASE: every die sensor has read below release for 512 periods. -/
def execThermalResetRelease (boot : BitVec 3) (s : State) : Host.Outcome State Fault Refusal :=
  commit (s.thermalRelease boot)

end Sys2Proof.Machine
end

