-- ==== Sys2Proof/Machine/CmdIntc.lean ====
section
/-! DEFINITION. Machine/CmdIntc.lean: the meanings of the commands and events of the interrupt controller (R396–R404). -/

namespace Sys2Proof.Machine
open R

open State

/-- INTC_CLAIM: a read of INTC_t_CLAIM by the target's owner. -/
def execIntcClaim (who : Party) (t : Fin 3) (s : State) : Host.Outcome State Fault Refusal :=
  act s (fun s => if s.owns who.code (INTC_CLAIM t) then s.readData who (INTC_CLAIM t) else s)

/-- INTC_CLAIM_PEEK: a read of INTC_t_CLAIM by another party. -/
def execIntcClaimPeek (who : Party) (t : Fin 3) (s : State) : Host.Outcome State Fault Refusal :=
  act s (fun s => if s.owns who.code (INTC_CLAIM t) then s else s.readData who (INTC_CLAIM t))

/-- INTC_COMPLETE: a write of INTC_t_COMPLETE. -/
def execIntcComplete (who : Party) (t : Fin 3) (v : W32) (s : State) : Host.Outcome State Fault Refusal :=
  act s (fun s => s.busWrite who (INTC_COMPLETE t) v)

/-- INTC_SET: a write of INTC_t_SETn. -/
def execIntcSet (who : Party) (t : Fin 3) (n : Fin 4) (v : W32) (s : State) : Host.Outcome State Fault Refusal :=
  act s (fun s => s.busWrite who (INTC_SET t n) v)

/-- INTC_CLR: a write of INTC_t_CLRn. -/
def execIntcClr (who : Party) (t : Fin 3) (n : Fin 4) (v : W32) (s : State) : Host.Outcome State Fault Refusal :=
  act s (fun s => s.busWrite who (INTC_CLR t n) v)

/-- HOLDOFF_EXPIRY: the last line start of a holdoff has passed. -/
def execHoldoffExpiry (t : Fin 3) (g : Fin 16) (s : State) : Host.Outcome State Fault Refusal :=
  act s (fun s => s.holdoffExpiry (t + 1) g)

end Sys2Proof.Machine
end

