-- ==== Sys2Proof/Machine/CmdIpl.lean ====
section
/-! DEFINITION. Machine/CmdIpl.lean: the meanings of the commands and events of the image pipeline (R283–R293). -/

namespace Sys2Proof.Machine
open R

open State

/-- FACET_ENABLE_WRITE: a write of IPL_f_CTL. -/
def execFacetEnableWrite (who : Party) (f : Fin 6) (v : W32) (s : State) : Host.Outcome State Fault Refusal :=
  act s (fun s => s.busWrite who (IPL_CTL f) v)

/-- BAND_END: the band in hand ends and the scheduler picks another. -/
def execBandEnd (s : State) : Host.Outcome State Fault Refusal :=
  actMem s (fun s => s.bandEnd)

/-- FRAME_URGENT: half the deadline of the facet's frame has passed. -/
def execFrameUrgent (f : Fin 6) (s : State) : Host.Outcome State Fault Refusal :=
  act s (fun s => s.frameUrgent f)

/-- TABLE_SYNC: a write of IPL_f_CTL.sync. -/
def execTableSync (who : Party) (f : Fin 6) (s : State) : Host.Outcome State Fault Refusal :=
  act s (fun s => s.busWrite who (IPL_CTL f) (BitVec.ofNat 32 (s.get (IPL_CTL_en f) + 4)))

/-- TABLE_SYNC_COMPLETE: the bank copy ends. -/
def execTableSyncComplete (f : Fin 6) (s : State) : Host.Outcome State Fault Refusal :=
  act s (fun s => s.tableSyncComplete f)

/-- HIST_CLR: a write of IPL_f_CTL.hist_clr. -/
def execHistClr (who : Party) (f : Fin 6) (s : State) : Host.Outcome State Fault Refusal :=
  act s (fun s => s.busWrite who (IPL_CTL f) (BitVec.ofNat 32 (s.get (IPL_CTL_en f) + 8)))

end Sys2Proof.Machine
end

