-- ==== Sys2Proof/Machine/CmdMem.lean ====
section
/-! DEFINITION. Machine/CmdMem.lean: the meanings of the commands and events of the memory controller (R333–R350). -/

namespace Sys2Proof.Machine
open R

open State

/-- DRAM_BURST_GRANT: the arbiter serves the best of the requests that wait at a channel. -/
def execDramBurstGrant (ch : Fin 4) (pend : List DramReq) (s : State) : Host.Outcome State Fault Refusal :=
  act s (fun s => s.burstGrant ch pend)

/-- STARVE_TIMEOUT: a request of a class has waited too long. -/
def execStarveTimeout (c : Fin 4) (s : State) : Host.Outcome State Fault Refusal :=
  act s (fun s => s.starve c)

/-- MEM_INIT_START: a write of MEM_INIT.start. -/
def execMemInitStart (who : Party) (s : State) : Host.Outcome State Fault Refusal :=
  act s (fun s => s.busWrite who MEM_INIT 1#32)

/-- MEM_INIT_DONE: the fill ends. -/
def execMemInitDone (s : State) : Host.Outcome State Fault Refusal :=
  act s (fun s => s.memInitDone)

/-- SCRUB_ROW: one row unit is scrubbed; `ups` are the words that upsets have struck. -/
def execScrubRow (ups : List (Nat × Bool)) (s : State) : Host.Outcome State Fault Refusal :=
  actMem s (fun s => s.scrubRow ups)

/-- DRAM_TEMP_READ: the device temperatures are read. -/
def execDramTempRead (hot : Bool) (s : State) : Host.Outcome State Fault Refusal :=
  act s (fun s => s.dramTemp hot)

/-- DRAM_RETRAIN_DONE: the devices are trained. -/
def execDramRetrainDone (s : State) : Host.Outcome State Fault Refusal :=
  act s (fun s => s.dramTrained)

/-- MEM_INJECT: a write of MEM_INJ. -/
def execMemInject (who : Party) (v : W32) (s : State) : Host.Outcome State Fault Refusal :=
  act s (fun s => s.busWrite who MEM_INJ v)

/-- WINDOW_WRITE: a write through the paged window; it does nothing while DRAM requests wait (R472). (DEDUCED, log entry 61.) -/
def execWindowWrite (who : Party) (addr : Addr) (v : W32) (s : State) : Host.Outcome State Fault Refusal :=
  act s (fun s => if s.stalls who addr.toNat true then s else s.busWrite who addr.toNat v)

/-- WINDOW_FLUSH_TIMEOUT: 64 pipeline cycles without a next access of the party. -/
def execWindowFlushTimeout (who : Party) (s : State) : Host.Outcome State Fault Refusal :=
  actMem s (fun s => s.flushHeld who.code)

/-- DMA_START: a write of MEM_DMAd_CTL.start. -/
def execDmaStart (who : Party) (d : Fin 2) (s : State) : Host.Outcome State Fault Refusal :=
  act s (fun s => s.busWrite who (MEM_DMA_CTL d) 1#32)

/-- DMA_STOP: a write of MEM_DMAd_CTL.stop. -/
def execDmaStop (who : Party) (d : Fin 2) (s : State) : Host.Outcome State Fault Refusal :=
  act s (fun s => s.busWrite who (MEM_DMA_CTL d) 2#32)

/-- DMA_DESCRIPTOR_END: the descriptor in hand ends after `bursts` bursts. -/
def execDmaDescriptorEnd (d : Fin 2) (bursts : Nat) (s : State) : Host.Outcome State Fault Refusal :=
  actMem s (fun s => s.dmaDescriptor d bursts)

end Sys2Proof.Machine
end

