-- ==== Sys2Proof/Machine/CmdMen.lean ====
section
/-! DEFINITION. Machine/CmdMen.lean: the meanings of the commands and events of the metrology enclave (R241–R276). -/

namespace Sys2Proof.Machine
open R

open State

/-- SEAL_LOW_DECIDED: the seal pin has been low for 512 periods. -/
def execSealLowDecided (s : State) : Host.Outcome State Fault Refusal :=
  actAlways s (fun s => s.sealLow)

/-- SEAL_HIGH_DECIDED: the seal pin has been high for 512 periods. -/
def execSealHighDecided (s : State) : Host.Outcome State Fault Refusal :=
  actAlways s (fun s => s.sealHigh)

/-- IDENTITY_COMPLETE: the identity is computed and the seal closes. -/
def execIdentityComplete (s : State) : Host.Outcome State Fault Refusal :=
  actAlways s (fun s => s.identityComplete)

/-- REQUEST_BLOCK_POLL: MET reads the request block. -/
def execRequestBlockPoll (slow : Bool) (s : State) : Host.Outcome State Fault Refusal :=
  act s (fun s => s.requestPoll slow)

/-- REQUEST_FINAL_STATUS: the request in progress completes. -/
def execRequestFinalStatus (s : State) : Host.Outcome State Fault Refusal :=
  actAlways s (fun s => s.requestFinal)

/-- READ_DIGEST: the parameter digest. -/
def execReadDigest (seq : W32) (s : State) : Host.Outcome State Fault Refusal :=
  actAlways s (fun s => s.menRequest seq 1 [])

/-- READ_PUBKEY: the public key. -/
def execReadPubkey (seq : W32) (s : State) : Host.Outcome State Fault Refusal :=
  actAlways s (fun s => s.menRequest seq 2 [])

/-- READ_AUDIT: one audit entry. -/
def execReadAudit (seq : W32) (pay : List (BitVec 8)) (s : State) : Host.Outcome State Fault Refusal :=
  actAlways s (fun s => s.menRequest seq 3 pay)

/-- SET_TIME: the time, unverified. -/
def execSetTime (seq : W32) (pay : List (BitVec 8)) (s : State) : Host.Outcome State Fault Refusal :=
  actAlways s (fun s => s.menRequest seq 4 pay)

/-- SET_TIME_SIGNED: the time, verified by its signature. -/
def execSetTimeSigned (seq : W32) (pay : List (BitVec 8)) (s : State) : Host.Outcome State Fault Refusal :=
  actAlways s (fun s => s.menRequest seq 5 pay)

/-- REPLAY_RECORD: a record of a replayed slot. -/
def execReplayRecord (seq : W32) (pay : List (BitVec 8)) (s : State) : Host.Outcome State Fault Refusal :=
  actAlways s (fun s => s.menRequest seq 6 pay)

/-- RETRY_KAT: the lift of a port fence set by a known-answer failure. -/
def execRetryKat (seq : W32) (pay : List (BitVec 8)) (s : State) : Host.Outcome State Fault Refusal :=
  actAlways s (fun s => s.menRequest seq 7 pay)

/-- LIFT_FENCE: the lift of a legally relevant unit's fence. -/
def execLiftFence (seq : W32) (pay : List (BitVec 8)) (s : State) : Host.Outcome State Fault Refusal :=
  actAlways s (fun s => s.menRequest seq 8 pay)

/-- WRITE_ZONE: a zone descriptor. -/
def execWriteZone (seq : W32) (pay : List (BitVec 8)) (s : State) : Host.Outcome State Fault Refusal :=
  actAlways s (fun s => s.menRequest seq 0x10 pay)

/-- WRITE_MASK: a row of an exclusion plane. -/
def execWriteMask (seq : W32) (pay : List (BitVec 8)) (s : State) : Host.Outcome State Fault Refusal :=
  actAlways s (fun s => s.menRequest seq 0x11 pay)

/-- WRITE_CURVE: samples of a radiometric curve. -/
def execWriteCurve (seq : W32) (pay : List (BitVec 8)) (s : State) : Host.Outcome State Fault Refusal :=
  actAlways s (fun s => s.menRequest seq 0x12 pay)

/-- INSTALL_PROG_REF: a program reference digest. -/
def execInstallProgRef (seq : W32) (pay : List (BitVec 8)) (s : State) : Host.Outcome State Fault Refusal :=
  actAlways s (fun s => s.menRequest seq 0x13 pay)

/-- INSTALL_TABLE_REF: a table reference digest. -/
def execInstallTableRef (seq : W32) (pay : List (BitVec 8)) (s : State) : Host.Outcome State Fault Refusal :=
  actAlways s (fun s => s.menRequest seq 0x14 pay)

/-- SET_EVIDENTIAL: the evidential stream mask. -/
def execSetEvidential (seq : W32) (pay : List (BitVec 8)) (s : State) : Host.Outcome State Fault Refusal :=
  actAlways s (fun s => s.menRequest seq 0x15 pay)

/-- SET_RECORDS: the record configuration. -/
def execSetRecords (seq : W32) (pay : List (BitVec 8)) (s : State) : Host.Outcome State Fault Refusal :=
  actAlways s (fun s => s.menRequest seq 0x16 pay)

/-- SET_TIME_KEY: the time authority's public key. -/
def execSetTimeKey (seq : W32) (pay : List (BitVec 8)) (s : State) : Host.Outcome State Fault Refusal :=
  actAlways s (fun s => s.menRequest seq 0x17 pay)

/-- GENERATE_KEY: a new key pair. -/
def execGenerateKey (seq : W32) (s : State) : Host.Outcome State Fault Refusal :=
  actAlways s (fun s => s.menRequest seq 0x18 [])

/-- FIRMWARE_UPDATE: a signed firmware image. -/
def execFirmwareUpdate (seq : W32) (pay : List (BitVec 8)) (s : State) : Host.Outcome State Fault Refusal :=
  actAlways s (fun s => s.menRequest seq 0x19 pay)

/-- ZONE_CONFIRMATION: the zones of a port's last frame are judged. -/
def execZoneConfirmation (p : Port) (s : State) : Host.Outcome State Fault Refusal :=
  actMem s (fun s => s.zoneConfirmation p)

/-- RECORD_SIGNED: the signature of the oldest record is ready. -/
def execRecordSigned (s : State) : Host.Outcome State Fault Refusal :=
  actAlways s (fun s => s.recordSigned)

/-- TIME_VERIFY_EXPIRY: the verified time has aged out. -/
def execTimeVerifyExpiry (s : State) : Host.Outcome State Fault Refusal :=
  actAlways s (fun s => s.timeVerifyExpiry)

/-- MEN_EVT_READ: a read of MEN_EVT. -/
def execMenEvtRead (who : Party) (s : State) : Host.Outcome State Fault Refusal :=
  act s (fun s => s.readData who MEN_EVT)

/-- ENCLAVE_WATCHDOG_EXPIRY: the enclave resets itself. -/
def execEnclaveWatchdogExpiry (s : State) : Host.Outcome State Fault Refusal :=
  actAlways s (fun s => s.enclaveReset)

/-- MET_BOOT_COMPLETE: MET leaves BOOT; the outcome of its checks is given. -/
def execMetBootComplete (fwOk testOk : Bool) (bad : List W32) (s : State) : Host.Outcome State Fault Refusal :=
  actAlways s (fun s => s.metBoot fwOk testOk (bad.map (fun a => a.toNat)))

end Sys2Proof.Machine
end

