-- ==== Sys2Proof/Machine/CmdNvs.lean ====
section
/-! DEFINITION. Machine/CmdNvs.lean: the meanings of the commands and events of the nonvolatile store (R410–R425). -/

namespace Sys2Proof.Machine
open R

open State

/-- NVS_CMD with op [31:28], page [26:16], group [15:8], slot [1:0] (R429). -/
def nvsWord (op : BitVec 4) (page : BitVec 11) (group : BitVec 8) (slot : BitVec 2) : W32 := op ++ 0#1 ++ page ++ group ++ 0#6 ++ slot

namespace State

/-- A write of NVS_CMD: MET's own copy, to which MET has access while it runs, or the register in host space (R409, R412, R417). -/
def nvsRequest (s : State) (who : Party) (v : W32) : State :=
  if who = .met then (if s.metUp then s.nvsCmdWrite true v else s) else s.busWrite who NVS_CMD v

/-- A read of the NVS window: MET's own copy while it runs, or SUP's side in host space, which reads zero to a party without the right (R22, R409, R411, R417). -/
def nvsDataRead (s : State) (who : Party) (off : Nat) (err : Option Bool) : State :=
  let a := 0xD800 + off % 2048 / 4 * 4
  let s := if who = .met then s else s.beginAccess who.code a false
  let x := if (if who = .met then s.metUp else mayRead who.code a) then s.nvsWindowRead (who == .met) off err else (s, 0#32)
  { x.1 with rdata := Map.set (fun _ => 0#32) x.1.rdata who.code x.2 }

end State

/-- PROGRAM: the write buffer goes to a page. -/
def execProgram (who : Party) (page : BitVec 11) (s : State) : Host.Outcome State Fault Refusal :=
  actAs who s (fun s => s.nvsRequest who (nvsWord 1 page 0#8 0#2))

/-- GROUP: one group of the write buffer goes to a page. -/
def execGroup (who : Party) (page : BitVec 11) (group : BitVec 8) (s : State) : Host.Outcome State Fault Refusal :=
  actAs who s (fun s => s.nvsRequest who (nvsWord 2 page group 0#2))

/-- ERASE: a page is filled with zeros. -/
def execErase (who : Party) (page : BitVec 11) (s : State) : Host.Outcome State Fault Refusal :=
  actAs who s (fun s => s.nvsRequest who (nvsWord 3 page 0#8 0#2))

/-- INCR: a counter slot goes up by one. -/
def execIncr (who : Party) (page : BitVec 11) (slot : BitVec 2) (s : State) : Host.Outcome State Fault Refusal :=
  actAs who s (fun s => s.nvsRequest who (nvsWord 4 page 0#8 slot))

/-- CREAD: a counter slot is resolved into NVS_CNT_VAL. -/
def execCread (who : Party) (page : BitVec 11) (slot : BitVec 2) (s : State) : Host.Outcome State Fault Refusal :=
  actAs who s (fun s => s.nvsRequest who (nvsWord 5 page 0#8 slot))

/-- CFMT: a page becomes a counter page. -/
def execCfmt (who : Party) (page : BitVec 11) (s : State) : Host.Outcome State Fault Refusal :=
  actAs who s (fun s => s.nvsRequest who (nvsWord 6 page 0#8 0#2))

/-- RESOLVE: the resolution of a dual-copy record starts. -/
def execResolve (who : Party) (s : State) : Host.Outcome State Fault Refusal :=
  actAs who s (fun s => s.nvsRequest who (nvsWord 7 0#11 0#8 0#2))

/-- RESOLVE_DONE: the resolution of a side ends; MET judges its causes after its own (R420). -/
def execResolveDone (met : Bool) (s : State) : Host.Outcome State Fault Refusal :=
  actAs (if met then .met else .sup) s (fun s => if met then (s.nvsResolveDone true).metJudge else s.nvsResolveDone false)

/-- NVS_WRITE_START: the engine takes a pending write. -/
def execNvsWriteStart (s : State) : Host.Outcome State Fault Refusal :=
  actAlways s (fun s => s.nvsWriteStart)

/-- NVS_WRITE_DONE: the attempt in hand ends, verified or not; a page write took `t` units of 10 µs. -/
def execNvsWriteDone (ok : Bool) (t : Nat) (s : State) : Host.Outcome State Fault Refusal :=
  actAlways s (fun s => s.nvsWriteDone ok t)

/-- NVS_RETRY: the next attempt begins. -/
def execNvsRetry (s : State) : Host.Outcome State Fault Refusal :=
  actAlways s (fun s => s.nvsRetry)

/-- NVS_WINDOW_READ: a word of the selected page; `err` is what the code finds in its group. -/
def execNvsWindowRead (who : Party) (off : BitVec 11) (err : Option Bool) (s : State) : Host.Outcome State Fault Refusal :=
  actAs who s (fun s => s.nvsDataRead who off.toNat err)

/-- NVS_RECALL_DONE: recall ends. -/
def execNvsRecallDone (s : State) : Host.Outcome State Fault Refusal :=
  actAlways s (fun s => s.nvsRecallDone)

/-- NVS_HOLD_RELEASE: the write hold ends. -/
def execNvsHoldRelease (s : State) : Host.Outcome State Fault Refusal :=
  actAlways s (fun s => s.nvsHoldRelease)

end Sys2Proof.Machine
end

