-- ==== Sys2Proof/Machine/CmdPixel.lean ====
section
/-! DEFINITION. Machine/CmdPixel.lean: the meanings of the commands and events of the correction engine (R187–R212). -/

namespace Sys2Proof.Machine
open R

open State

/-- PIXEL_CORRECT: the next received result is corrected, with its table word as fetched. -/
def execPixelCorrect (p : Port) (f : Fetch) (s : State) : Host.Outcome State Fault Refusal :=
  act s (fun s => s.pixelDecide p f)

/-- PIXEL_INTERPOLATE: the next waiting pixel is interpolated, with its table word as fetched. -/
def execPixelInterpolate (t : PixelTurn) (s : State) : Host.Outcome State Fault Refusal :=
  act s (fun s => s.pixelFill t.port t.fetch)

/-- TABLE_CHECK_START: a write of PCE_x_TBL_CTL.check. -/
def execTableCheckStart (who : Party) (p : Port) (s : State) : Host.Outcome State Fault Refusal :=
  act s (fun s => s.busWrite who (PCE_TBL_CTL p) 2#32)

/-- TABLE_CHECK_COMPLETE: the table digest is ready. -/
def execTableCheckComplete (p : Port) (s : State) : Host.Outcome State Fault Refusal :=
  actMem s (fun s => (s.tableCheckComplete p).metJudge)

/-- RAD_DATA_WRITE: a write of PCE_RAD_DATA. -/
def execRadDataWrite (who : Party) (v : W32) (s : State) : Host.Outcome State Fault Refusal :=
  act s (fun s => s.busWrite who PCE_RAD_DATA v)

/-- REPLAY_REQUEST: a write of PCE_RPL_CTL. -/
def execReplayRequest (who : Party) (v : W32) (s : State) : Host.Outcome State Fault Refusal :=
  act s (fun s => s.busWrite who PCE_RPL_CTL v)

/-- REPLAY_PIXEL: the next pixel of the running replay. -/
def execReplayPixel (s : State) : Host.Outcome State Fault Refusal :=
  actMem s (fun s => s.replayPixel)

/-- REPLAY_COMPLETE: the running replay ends. -/
def execReplayComplete (s : State) : Host.Outcome State Fault Refusal :=
  actMem s (fun s =>
    let t := s.replayComplete
    if s.replay.running && !t.replay.running then t.recReplay s.replay.port s.replay.dst else t)

/-- KAT_INJECT: MET places a known-answer vector between frames. -/
def execKatInject (p : Port) (vec : List KatItem) (s : State) : Host.Outcome State Fault Refusal :=
  act s (fun s => s.katInject p vec)

/-- KAT_RESULT: MET compares the results of the vector in hand; a second failure fences the port. -/
def execKatResult (p : Port) (s : State) : Host.Outcome State Fault Refusal :=
  act s (fun s => let x := s.katResult p; if x.2 then x.1.portFence p 5 else x.1)

end Sys2Proof.Machine
end

