-- ==== Sys2Proof/Machine/CmdPort.lean ====
section
/-! DEFINITION. Machine/CmdPort.lean: the meanings of the commands and events of the focal-plane ports and the lane converters (R138–R182). -/

namespace Sys2Proof.Machine
open R

open State

/-- STROBE_SAMPLE: the next sample of the port's runs is taken, with what lies on its lanes. -/
def execStrobeSample (p : Port) (lanes : List LaneInput) (s : State) : Host.Outcome State Fault Refusal :=
  act s (fun s => s.strobeSample p lanes)

/-- POWER_UP_REQUEST: a write of FPP_x_PWR with req = 1. -/
def execPowerUpRequest (who : Party) (p : Port) (s : State) : Host.Outcome State Fault Refusal :=
  act s (fun s => s.busWrite who (FPP_PWR p) (withBits (s.reg (FPP_PWR p)) 0 0 1))

/-- POWER_DOWN_REQUEST: a write of FPP_x_PWR with req = 0. -/
def execPowerDownRequest (who : Party) (p : Port) (s : State) : Host.Outcome State Fault Refusal :=
  act s (fun s => s.busWrite who (FPP_PWR p) (withBits (s.reg (FPP_PWR p)) 0 0 0))

/-- PWR_UP_START: the up sequence begins. -/
def execPwrUpStart (p : Port) (s : State) : Host.Outcome State Fault Refusal :=
  act s (fun s => s.pwrUpStart p)

/-- PWR_PEN_ON: the port's power enable goes on. -/
def execPwrPenOn (p : Port) (s : State) : Host.Outcome State Fault Refusal :=
  act s (fun s => s.pwrPenOn p)

/-- PWR_SETTLE_END: the settle time ends. -/
def execPwrSettleEnd (p : Port) (s : State) : Host.Outcome State Fault Refusal :=
  act s (fun s => s.pwrSettleEnd p)

/-- PWR_BIAS_RAMP_STEP: the bias takes one step of its ramp. -/
def execPwrBiasRampStep (p : Port) (s : State) : Host.Outcome State Fault Refusal :=
  act s (fun s => s.pwrBiasRampStep p)

/-- PWR_DOWN_START: the down sequence begins. -/
def execPwrDownStart (p : Port) (s : State) : Host.Outcome State Fault Refusal :=
  act s (fun s => (s.pwrDownStart p).metJudge)

/-- PWR_PEN_OFF: the port's power enable goes off. -/
def execPwrPenOff (p : Port) (s : State) : Host.Outcome State Fault Refusal :=
  act s (fun s => s.pwrPenOff p)

/-- PWR_VCM_OFF: the common-mode supply goes off. -/
def execPwrVcmOff (p : Port) (s : State) : Host.Outcome State Fault Refusal :=
  act s (fun s => s.pwrVcmOff p)

/-- FAULT_INPUT_FENCE: the fault input has read low in `low` consecutive samples. -/
def execFaultInputFence (p : Port) (low : Nat) (s : State) : Host.Outcome State Fault Refusal :=
  act s (fun s => s.faultInput p low)

/-- PIXEL_RESULT_RECEIVE: the port's next result is received and checked. -/
def execPixelResultReceive (p : Port) (s : State) : Host.Outcome State Fault Refusal :=
  act s (fun s => s.pixelResultReceive p)

/-- ROW_CLOSE: the row in hand closes; `cap` is what a self-test line captured. -/
def execRowClose (p : Port) (cap : List LaneCapture) (s : State) : Host.Outcome State Fault Refusal :=
  act s (fun s => s.rowClose p cap)

/-- ERROR_INJECTION: a write of LCA_INJ. -/
def execErrorInjection (who : Party) (v : W32) (s : State) : Host.Outcome State Fault Refusal :=
  act s (fun s => s.busWrite who LCA_INJ v)

/-- SELF_TEST_REQUEST: a write of LCA_ST_CTL. -/
def execSelfTestRequest (who : Party) (v : W32) (s : State) : Host.Outcome State Fault Refusal :=
  act s (fun s => s.busWrite who LCA_ST_CTL v)

end Sys2Proof.Machine
end

