-- ==== Sys2Proof/Machine/CmdRaster.lean ====
section
/-! DEFINITION. Machine/CmdRaster.lean: the meanings of the raster, lock, frame-sync and comparator commands (R41–R63). -/

namespace Sys2Proof.Machine
open R

open State

/-- RASTER_LINE_START: the current line ends and another of the same frame starts. -/
def execRasterLineStart (r : Raster) (s : State) : Host.Outcome State Fault Refusal :=
  act s (fun s => if (s.raster r.idx).lastLine then s else s.rasterAdvance r.idx)

/-- RASTER_FRAME_START: the last line ends and a new frame starts. -/
def execRasterFrameStart (r : Raster) (s : State) : Host.Outcome State Fault Refusal :=
  act s (fun s => if (s.raster r.idx).lastLine then s.rasterAdvance r.idx else s)

/-- RASTER_RUN: a write of RTB_x_CTL with run = 1, and arm as given. -/
def execRasterRun (who : Party) (r : Raster) (arm : Bool) (s : State) : Host.Outcome State Fault Refusal :=
  act s (fun s => s.busWrite who (RTB_CTL r.idx) (BitVec.ofNat 32 (1 + 2 * b2n arm)))

/-- RASTER_STOP: a write of RTB_x_CTL with run = 0, and arm as given. -/
def execRasterStop (who : Party) (r : Raster) (arm : Bool) (s : State) : Host.Outcome State Fault Refusal :=
  act s (fun s => s.busWrite who (RTB_CTL r.idx) (BitVec.ofNat 32 (2 * b2n arm)))

/-- LOCK_WRITE: a write of RTB_x_LOCK. -/
def execLockWrite (who : Party) (r : Raster) (v : W32) (s : State) : Host.Outcome State Fault Refusal :=
  act s (fun s => s.busWrite who (RTB_LOCK r.idx) v)

/-- LOCK_LINE_END: the decision point of the last line under R54. -/
def execLockLineEnd (r : Raster) (s : State) : Host.Outcome State Fault Refusal :=
  act s (fun s => s.lockLineEnd r.idx)

/-- ACQUIRE_RESTART: the first alignment moment of ACQUIRE starts a frame. -/
def execAcquireRestart (r : Raster) (s : State) : Host.Outcome State Fault Refusal :=
  act s (fun s => s.acquireRestart r.idx)

/-- FSYNC_EDGE: the FSYNC ball takes a level. -/
def execFsyncEdge (high : Bool) (s : State) : Host.Outcome State Fault Refusal :=
  act s (fun s => s.fsyncEdge high)

/-- FSYNC_PULSE_ACCEPT: the pulse has lasted min_width slots. -/
def execFsyncPulseAccept (s : State) : Host.Outcome State Fault Refusal :=
  act s (fun s => s.fsyncAccept)

/-- FSYNC_PULSE_REJECT: the pulse ended before min_width slots. -/
def execFsyncPulseReject (s : State) : Host.Outcome State Fault Refusal :=
  act s (fun s => s.fsyncReject)

/-- FSYNC_CFG_WRITE: a write of RTB_FSYNC_CFG. -/
def execFsyncCfgWrite (who : Party) (v : W32) (s : State) : Host.Outcome State Fault Refusal :=
  act s (fun s => s.busWrite who RTB_FSYNC_CFG v)

/-- FSYNC_OUTPUT_PULSE: the output pulse begins. -/
def execFsyncOutputPulse (s : State) : Host.Outcome State Fault Refusal :=
  act s (fun s => s.fsyncOutputPulse)

/-- FSYNC_OUTPUT_END: the output pulse ends. -/
def execFsyncOutputEnd (s : State) : Host.Outcome State Fault Refusal :=
  act s (fun s => s.fsyncOutputEnd)

/-- CMP_COMMIT: a write of RTB_CMPn_LO, which commits the target with the party's latched upper word. -/
def execCmpCommit (who : Party) (n : Fin 8) (v : W32) (s : State) : Host.Outcome State Fault Refusal :=
  act s (fun s => s.busWrite who (RTB_CMP_LO n) v)

/-- CMP_CTL_WRITE: a write of RTB_CMPn_CTL. -/
def execCmpCtlWrite (who : Party) (n : Fin 8) (v : W32) (s : State) : Host.Outcome State Fault Refusal :=
  act s (fun s => s.busWrite who (RTB_CMP_CTL n) v)

/-- CMP_FIRE: the comparator matches. -/
def execCmpFire (n : Fin 8) (s : State) : Host.Outcome State Fault Refusal :=
  act s (fun s => s.cmpFire n)

/-- CMP_PULSE_END: the comparator's pulse ends. -/
def execCmpPulseEnd (n : Fin 8) (s : State) : Host.Outcome State Fault Refusal :=
  act s (fun s => s.cmpPulseEnd n)

end Sys2Proof.Machine
end

