-- ==== Sys2Proof/Machine/CmdSca.lean ====
section
/-! DEFINITION. Machine/CmdSca.lean: the meanings of the commands and events of supplies, resets, clocks and ageing (R416, R467–R479). -/

namespace Sys2Proof.Machine
open R

open State

/-- SUPPLY_WARNING: a rail comparator warns. -/
def execSupplyWarning (rail : Fin 4) (steps : Nat) (s : State) : Host.Outcome State Fault Refusal :=
  actAlways s (fun s => s.supplyWarning rail steps)

/-- SUPPLY_RECOVER: a rail comparator's warning ends. -/
def execSupplyRecover (rail : Fin 4) (s : State) : Host.Outcome State Fault Refusal :=
  actAlways s (fun s => s.supplyRecover rail)

/-- DIP_END: 2 ms without a warning. -/
def execDipEnd (s : State) : Host.Outcome State Fault Refusal :=
  act s (fun s => s.dipEnd)

/-- SUPPLY_RESET: a rail is below its reset level. -/
def execSupplyReset (s : State) : Host.Outcome State Fault Refusal :=
  commit (s.powerReset .supply 1)

/-- POWER_ON_RESET: PORST_N is low. -/
def execPowerOnReset (s : State) : Host.Outcome State Fault Refusal :=
  commit (s.powerReset .porst 0)

/-- PORST_RELEASE: PORST_N rises; the boot pins read `boot`. -/
def execPorstRelease (boot : BitVec 3) (s : State) : Host.Outcome State Fault Refusal :=
  commit (s.porstRelease boot)

/-- SYSTEM_RESET_PIN: SRST_N is low. -/
def execSystemResetPin (s : State) : Host.Outcome State Fault Refusal :=
  commit (s.systemReset 4)

/-- SYSTEM_RESET_REQUEST: a write of SCA_RST_CTL with sys = 1. -/
def execSystemResetRequest (who : Party) (key : BitVec 16) (sup : Bool) (s : State) : Host.Outcome State Fault Refusal :=
  act s (fun s => s.busWrite who SCA_RST_CTL (key ++ (0#14) ++ (1#1) ++ BitVec.ofBool sup))

/-- SUP_RESET_REQUEST: a write of SCA_RST_CTL with sup = 1 and sys = 0. -/
def execSupResetRequest (who : Party) (key : BitVec 16) (s : State) : Host.Outcome State Fault Refusal :=
  act s (fun s => s.busWrite who SCA_RST_CTL (key ++ 1#16))

/-- SYSTEM_RESET_END: the system reset ends. -/
def execSystemResetEnd (s : State) : Host.Outcome State Fault Refusal :=
  commit s.systemResetEnd

/-- SUPPLY_RESET_RELEASE: the internal supervisor releases the reset. -/
def execSupplyResetRelease (boot : BitVec 3) (s : State) : Host.Outcome State Fault Refusal :=
  commit (s.supplyRelease boot)

/-- PLL0_LOSS: PLL0 is out of lock. -/
def execPll0Loss (s : State) : Host.Outcome State Fault Refusal :=
  commit (s.powerReset .clock 2)

/-- PLL_LOSS: PLL1 or PLL2 loses lock. -/
def execPllLoss (pll2 : Bool) (s : State) : Host.Outcome State Fault Refusal :=
  act s (fun s => s.pllLoss pll2)

/-- PLL_RELOCK: PLL1 or PLL2 regains lock. -/
def execPllRelock (pll2 : Bool) (s : State) : Host.Outcome State Fault Refusal :=
  act s (fun s => s.pllRelock pll2)

/-- AVS_WRITE: a write of SCA_AVS. -/
def execAvsWrite (who : Party) (v : W32) (s : State) : Host.Outcome State Fault Refusal :=
  act s (fun s => s.busWrite who SCA_AVS v)

/-- AVS_APPLY: the next period start of the voltage request. -/
def execAvsApply (s : State) : Host.Outcome State Fault Refusal :=
  act s (fun s => s.avsApply)

/-- AGE_PASS_START: a write of SCA_AGE_CTL.start by a party, or the period's own start. -/
def execAgePassStart (w : Option Party) (s : State) : Host.Outcome State Fault Refusal :=
  act s (fun s => match w with
    | some who => s.busWrite who SCA_AGE_CTL (withBits (s.reg SCA_AGE_CTL) 0 0 1)
    | none => s.ageDue)

/-- AGE_PASS_END: the pass ends with the monitors' degradations. -/
def execAgePassEnd (deg : List Int) (s : State) : Host.Outcome State Fault Refusal :=
  act s (fun s => s.agePassEnd deg)

/-- CLOCK_REDUCE: a write of SCA_CLK_CTL. -/
def execClockReduce (who : Party) (v : W32) (s : State) : Host.Outcome State Fault Refusal :=
  act s (fun s => s.busWrite who SCA_CLK_CTL v)

/-- CLOCK_RAMP_END: the ramp ends. -/
def execClockRampEnd (s : State) : Host.Outcome State Fault Refusal :=
  act s (fun s => s.clockRampEnd)

end Sys2Proof.Machine
end

