-- ==== Sys2Proof/Machine/CmdSdr.lean ====
section
/-! DEFINITION. Machine/CmdSdr.lean: the meanings of the commands and events of the shutter drive (R455–R463). -/

namespace Sys2Proof.Machine
open R

open State

/-- SHUTTER_TRIGGER: a write of SDR_TRIG. -/
def execShutterTrigger (who : Party) (v : W32) (s : State) : Host.Outcome State Fault Refusal :=
  act s (fun s => s.busWrite who SDR_TRIG v)

/-- PHASE_END: the running phase of a pair ends. -/
def execPhaseEnd (n : Fin 4) (s : State) : Host.Outcome State Fault Refusal :=
  act s (fun s => s.phaseEnd n)

/-- PWM_PERIOD: the next gate change of a PWM phase. -/
def execPwmPeriod (n : Fin 4) (s : State) : Host.Outcome State Fault Refusal :=
  act s (fun s => s.pwmPeriod n)

/-- CURRENT_SAMPLE: a sample of a channel's current, in microvolts at the sense input. -/
def execCurrentSample (c : Fin 8) (uv : Int) (s : State) : Host.Outcome State Fault Refusal :=
  act s (fun s => s.sdrSample c uv)

/-- ON_TIME_LIMIT: a channel's on-time reaches max_on. -/
def execOnTimeLimit (c : Fin 8) (s : State) : Host.Outcome State Fault Refusal :=
  act s (fun s => s.sdrLimit c)

/-- TRIGGER_DEADLINE: the deadline of a waiting trigger passes. -/
def execTriggerDeadline (n : Fin 4) (s : State) : Host.Outcome State Fault Refusal :=
  act s (fun s => s.sdrDeadline n)

/-- WAITING_PROFILE_START: the waiting profile starts. -/
def execWaitingProfileStart (n : Fin 4) (s : State) : Host.Outcome State Fault Refusal :=
  act s (fun s => s.sdrWaiting n)

end Sys2Proof.Machine
end

