-- ==== Sys2Proof/Machine/HostFrame.lean ====
section
/-! DEFINITION. Machine/HostFrame.lean: register frames of the host port (R357–R363). -/

namespace Sys2Proof.Machine
open R

/-- Words of bytes, most significant byte first. -/
def beWords : Nat → List Byte → List W32
  | 0, _ => []
  | n + 1, l => BitVec.ofNat 32 (ofLe (l.take 4).reverse) :: beWords n (l.drop 4)

/-- The MISO bytes of a reply from byte 1 on: status byte, words, CRC-8 over both (R360). -/
def replyBytes (r : Reply) : List Byte :=
  let b := BitVec.ofNat 8 (0xA0 + r.status + (if r.early then 4 else 0)) :: r.words.flatMap (fun w => beBytes 4 w.toNat)
  b ++ [BitVec.ofNat 8 (crc8 b)]

/-- `n` bytes of a list, with zeros after its end. -/
def padTo (n : Nat) (l : List Byte) : List Byte := (l ++ List.replicate n 0#8).take n

namespace State

/-- `n` word reads from `a` on inside its 4 KiB block; past the block they return zero (R359, R362). -/
def burstRead (s : State) (a : Nat) (k : Nat) : Nat → State × List W32
  | 0 => (s, [])
  | n + 1 =>
    let (s, v) := if (a + 4 * k) / 4096 = a / 4096 then s.busRead .host (a + 4 * k) else (s, 0#32)
    let (s, l) := burstRead s a (k + 1) n
    (s, v :: l)

/-- Word writes from `a` on; past the block they are ignored. -/
def burstWrite (s : State) (a : Nat) (k : Nat) : List W32 → State
  | [] => s
  | v :: l => burstWrite (if (a + 4 * k) / 4096 = a / 4096 then s.busWrite .host (a + 4 * k) v else s) a (k + 1) l

/-- The command of a frame with n ≥ 1 whose CRC is right: its accesses run, and their reply follows (R359, R360). -/
def runFrame (s : State) (write : Bool) (a n : Nat) (data : List Byte) : State :=
  let past := decide ((a + 4 * (n - 1)) / 4096 ≠ a / 4096)
  let (s, words) := if write then (s.burstWrite a 0 (beWords n data), []) else s.burstRead a 0 n
  let s := if past then s.setBit HPORT_STAT_edge else s
  s.modSio (fun x => { x with running := some { status := (if write then 0 else 16) + (if past then 8 else 0), words := words } })

/-- REGISTER_FRAME: the MOSI bytes of one period of HCS_N low, and what it does (R357–R362). One whose first byte names a raw-word frame is that byte without a unit, or, while
raw-word frames are not accepted, is ignored: the port byte, then zeros (R364). (DEDUCED, log entry 34.) -/
def registerFrame (s : State) (bytes : List Byte) : State :=
  let b0 := (bytes.headD 0#8).toNat
  let len := bytes.length
  if len = 0 then s
  else if b0 < 128 then s.modSio (fun x => { x with miso := padTo (if s.bit HPORT_CFG_raw_en then 1 else len) [s.portByte] })
  else
    match s.sio.running with
    | some r =>
      (s.bump HPORT_CNT_early).modSio (fun x => { x with miso := padTo len [s.portByte, 0xA1#8], running := some { r with early := true } })
    | none =>
      let out := s.portByte :: (match s.sio.reply with | some r => replyBytes r | none => [0xA0#8])
      let s := s.modSio (fun x => { x with miso := padTo len out, reply := none })
      let write := decide (64 ≤ b0 % 128)
      let n := b0 % 64
      if n = 0 then s
      else
        let c := if write then 4 * n + 4 else 4
        if len ≤ c ∨ crc8 (bytes.take c) ≠ (bytes.getD c 0#8).toNat then
          ((s.setBit HPORT_STAT_crc).bump HPORT_CNT_crc).modSio (fun x => { x with reply := some { status := 2, words := [] } })
        else s.runFrame write (wordAddr (ofLe ((bytes.drop 1).take 3).reverse)) n (bytes.drop 4)

/-- REGISTER_FRAME_DONE: the last access is complete, and the reply is pending (R359). (DEDUCED, log entry 34.) -/
def registerFrameDone (s : State) : State :=
  match s.sio.running with
  | some r => s.modSio (fun x => { x with running := none, reply := some r })
  | none => s

end State
end Sys2Proof.Machine
end

