-- ==== Sys2Proof/Machine/CmdSio.lean ====
section
/-! DEFINITION. Machine/CmdSio.lean: the meanings of the commands and events of the host port, the peripheral port and the GPIO pins (R359–R375). -/

namespace Sys2Proof.Machine
open R

open State

/-- REGISTER_FRAME: a register frame ends at the host port. -/
def execRegisterFrame (bytes : List (BitVec 8)) (s : State) : Host.Outcome State Fault Refusal :=
  act s (fun s => s.registerFrame bytes)

/-- REGISTER_FRAME_DONE: the frame's reply becomes pending. -/
def execRegisterFrameDone (s : State) : Host.Outcome State Fault Refusal :=
  act s (fun s => s.registerFrameDone)

/-- RAW_WORD_UNIT: a raw-word unit is exchanged; with `first` the frame begins, and byte 0 goes before the unit. The boot ROM takes what a host push brings. -/
def execRawWordUnit (mosi : W32) (u : RawUnit) (s : State) : Host.Outcome State Fault Refusal :=
  act s (fun s => ((if u.first then s.rawBegin else s).rawWordUnit mosi u.full).bootPush)

/-- HPORT_RXD_READ: a read of HPORT_RXD. -/
def execHportRxdRead (who : Party) (s : State) : Host.Outcome State Fault Refusal :=
  act s (fun s => s.readData who HPORT_RXD)

/-- HPORT_TXD_WRITE: a write of HPORT_TXD. -/
def execHportTxdWrite (who : Party) (v : W32) (s : State) : Host.Outcome State Fault Refusal :=
  act s (fun s => s.busWrite who HPORT_TXD v)

/-- HPORT_DOORBELL_WRITE: a write of HPORT_DOORBELL. -/
def execHportDoorbellWrite (who : Party) (v : W32) (s : State) : Host.Outcome State Fault Refusal :=
  act s (fun s => s.busWrite who HPORT_DOORBELL v)

/-- TX_FLUSH: a write of HPORT_FIFO.tx_flush, the thresholds kept. -/
def execTxFlush (who : Party) (s : State) : Host.Outcome State Fault Refusal :=
  act s (fun s => s.busWrite who HPORT_FIFO (withBits (s.reg HPORT_FIFO) 9 8 2))

/-- RX_FLUSH: a write of HPORT_FIFO.rx_flush, the thresholds kept. -/
def execRxFlush (who : Party) (s : State) : Host.Outcome State Fault Refusal :=
  act s (fun s => s.busWrite who HPORT_FIFO (withBits (s.reg HPORT_FIFO) 9 8 1))

/-- PPORT_UNIT_COMPLETE: the unit that shifts ends; `wire` is what the device drove. The boot ROM takes what a flash sends. -/
def execPportUnitComplete (wire : Option W32) (s : State) : Host.Outcome State Fault Refusal :=
  act s (fun s => match s.sio.ppUnit with
    | some u => (s.ppComplete wire).bootFlash u
    | none => s)

/-- BULK_START: a write of PPORT_BULK_CTL with start. -/
def execBulkStart (who : Party) (v : W32) (s : State) : Host.Outcome State Fault Refusal :=
  act s (fun s => s.busWrite who PPORT_BULK_CTL (v ||| 1#32))

/-- BULK_STOP: a write of PPORT_BULK_CTL.stop by the owner, with the data received so far. -/
def execBulkStop (who : Party) (data : List (BitVec 8)) (s : State) : Host.Outcome State Fault Refusal :=
  act s (fun s => if s.owns who.code PPORT_BULK_CTL then (s.beginAccess who.code PPORT_BULK_CTL true).bulkStop data else s.busWrite who PPORT_BULK_CTL 2#32)

/-- BULK_DONE: every unit of the bulk read is in. -/
def execBulkDone (data : List (BitVec 8)) (s : State) : Host.Outcome State Fault Refusal :=
  actMem s (fun s => s.bulkDone data)

/-- GPIO_EDGE: a pin's outside drive changes. -/
def execGpioEdge (n : Fin 32) (drive : Option Bool) (s : State) : Host.Outcome State Fault Refusal :=
  act s (fun s => s.gpioEdge n drive)

end Sys2Proof.Machine
end

