-- ==== Sys2Proof/Machine/CmdVio.lean ====
section
/-! DEFINITION. Machine/CmdVio.lean: the meanings of the events of the CSI-2 ports (R376–R387). -/

namespace Sys2Proof.Machine
open R

open State

/-- TX_LINK_UP: the initial calibration ends. -/
def execTxLinkUp (t : Fin 2) (s : State) : Host.Outcome State Fault Refusal :=
  act s (fun s => s.txLinkUp t)

/-- TX_DESKEW: periodic calibration. -/
def execTxDeskew (t : Fin 2) (s : State) : Host.Outcome State Fault Refusal :=
  act s (fun s => s.txDeskew t)

/-- VIO_PACKET_BOUNDARY: the transmitter picks its next packet. -/
def execVioPacketBoundary (t : Fin 2) (s : State) : Host.Outcome State Fault Refusal :=
  act s (fun s => s.vioPacket t)

/-- RX_FRAME_START: a frame start short packet. -/
def execRxFrameStart (r : Fin 2) (vc : Fin 4) (dsk : Bool) (s : State) : Host.Outcome State Fault Refusal :=
  act s (fun s => s.rxFrameStart r vc dsk)

/-- RX_LONG_PACKET: a long packet, with the outcome of its header code and its CRC. -/
def execRxLongPacket (r : Fin 2) (vc : Fin 4) (dt : BitVec 8) (hdrOk crcOk : Bool) (body : List (BitVec 8)) (s : State) : Host.Outcome State Fault Refusal :=
  act s (fun s => s.rxLongPacket r vc dt.toNat hdrOk crcOk body)

/-- RX_FRAME_END: a frame end short packet. -/
def execRxFrameEnd (r : Fin 2) (vc : Fin 4) (s : State) : Host.Outcome State Fault Refusal :=
  act s (fun s => s.rxFrameEnd r vc)

/-- RX_MISSED_COUNT: a frame period of a fenced port has passed. -/
def execRxMissedCount (r : Fin 2) (s : State) : Host.Outcome State Fault Refusal :=
  act s (fun s => s.rxMissed r)

end Sys2Proof.Machine
end

