-- ==== Sys2Proof/Machine/PulonAlu.lean ====
section
/-! DEFINITION. Machine/PulonAlu.lean: the meanings of the arithmetic and logic instructions (R110, R111). -/

namespace Sys2Proof.Machine

open State

/-- ADD: d = a + b. -/
def execAdd (k : Core) (d a b : RegNo) (f : Bool) (s : State) : Host.Outcome State Fault Refusal :=
  commit (s.pulon k (.add k d a b f) 1 (aluEffect k d f (fun s => aluAdd (s.rd k.idx a) (s.rd k.idx b))))

/-- SUB: d = a − b. -/
def execSub (k : Core) (d a b : RegNo) (f : Bool) (s : State) : Host.Outcome State Fault Refusal :=
  commit (s.pulon k (.sub k d a b f) 1 (aluEffect k d f (fun s => aluSub (s.rd k.idx a) (s.rd k.idx b))))

/-- AND: d = a & b. -/
def execAndw (k : Core) (d a b : RegNo) (f : Bool) (s : State) : Host.Outcome State Fault Refusal :=
  commit (s.pulon k (.andw k d a b f) 1 (aluEffect k d f (fun s => aluPlain ((s.rd k.idx a) &&& (s.rd k.idx b)))))

/-- OR: d = a | b. -/
def execOrw (k : Core) (d a b : RegNo) (f : Bool) (s : State) : Host.Outcome State Fault Refusal :=
  commit (s.pulon k (.orw k d a b f) 1 (aluEffect k d f (fun s => aluPlain ((s.rd k.idx a) ||| (s.rd k.idx b)))))

/-- XOR: d = a ^ b. -/
def execXorw (k : Core) (d a b : RegNo) (f : Bool) (s : State) : Host.Outcome State Fault Refusal :=
  commit (s.pulon k (.xorw k d a b f) 1 (aluEffect k d f (fun s => aluPlain ((s.rd k.idx a) ^^^ (s.rd k.idx b)))))

/-- SHL: d = a << b[4:0]. -/
def execShl (k : Core) (d a b : RegNo) (f : Bool) (s : State) : Host.Outcome State Fault Refusal :=
  commit (s.pulon k (.shl k d a b f) 1 (aluEffect k d f (fun s => aluShl (s.rd k.idx a) (s.rd k.idx b))))

/-- SHR: d = a >> b[4:0], zero fill. -/
def execShr (k : Core) (d a b : RegNo) (f : Bool) (s : State) : Host.Outcome State Fault Refusal :=
  commit (s.pulon k (.shr k d a b f) 1 (aluEffect k d f (fun s => aluShr (s.rd k.idx a) (s.rd k.idx b))))

/-- SAR: d = a >> b[4:0], sign fill. -/
def execSar (k : Core) (d a b : RegNo) (f : Bool) (s : State) : Host.Outcome State Fault Refusal :=
  commit (s.pulon k (.sar k d a b f) 1 (aluEffect k d f (fun s => aluSar (s.rd k.idx a) (s.rd k.idx b))))

/-- MUL: d = low 32 bits of a × b. -/
def execMul (k : Core) (d a b : RegNo) (f : Bool) (s : State) : Host.Outcome State Fault Refusal :=
  commit (s.pulon k (.mul k d a b f) 1 (aluEffect k d f (fun s => aluPlain ((s.rd k.idx a) * (s.rd k.idx b)))))

/-- ADDI: d = a + sext16(imm16). -/
def execAddi (k : Core) (d a : RegNo) (f : Bool) (imm : BitVec 16) (s : State) : Host.Outcome State Fault Refusal :=
  commit (s.pulon k (.addi k d a f imm) 1 (aluEffect k d f (fun s => aluAdd (s.rd k.idx a) (imm.signExtend 32))))

/-- SUBI: d = a − sext16(imm16). -/
def execSubi (k : Core) (d a : RegNo) (f : Bool) (imm : BitVec 16) (s : State) : Host.Outcome State Fault Refusal :=
  commit (s.pulon k (.subi k d a f imm) 1 (aluEffect k d f (fun s => aluSub (s.rd k.idx a) (imm.signExtend 32))))

/-- ANDI: d = a & imm16. -/
def execAndi (k : Core) (d a : RegNo) (f : Bool) (imm : BitVec 16) (s : State) : Host.Outcome State Fault Refusal :=
  commit (s.pulon k (.andi k d a f imm) 1 (aluEffect k d f (fun s => aluPlain ((s.rd k.idx a) &&& (imm.zeroExtend 32)))))

/-- ORI: d = a | imm16. -/
def execOri (k : Core) (d a : RegNo) (f : Bool) (imm : BitVec 16) (s : State) : Host.Outcome State Fault Refusal :=
  commit (s.pulon k (.ori k d a f imm) 1 (aluEffect k d f (fun s => aluPlain ((s.rd k.idx a) ||| (imm.zeroExtend 32)))))

/-- XORI: d = a ^ imm16. -/
def execXori (k : Core) (d a : RegNo) (f : Bool) (imm : BitVec 16) (s : State) : Host.Outcome State Fault Refusal :=
  commit (s.pulon k (.xori k d a f imm) 1 (aluEffect k d f (fun s => aluPlain ((s.rd k.idx a) ^^^ (imm.zeroExtend 32)))))

/-- SHLI: d = a << imm16[4:0]. -/
def execShli (k : Core) (d a : RegNo) (f : Bool) (imm : BitVec 16) (s : State) : Host.Outcome State Fault Refusal :=
  commit (s.pulon k (.shli k d a f imm) 1 (aluEffect k d f (fun s => aluShl (s.rd k.idx a) (imm.zeroExtend 32))))

/-- SHRI: d = a >> imm16[4:0], zero fill. -/
def execShri (k : Core) (d a : RegNo) (f : Bool) (imm : BitVec 16) (s : State) : Host.Outcome State Fault Refusal :=
  commit (s.pulon k (.shri k d a f imm) 1 (aluEffect k d f (fun s => aluShr (s.rd k.idx a) (imm.zeroExtend 32))))

/-- SARI: d = a >> imm16[4:0], sign fill. -/
def execSari (k : Core) (d a : RegNo) (f : Bool) (imm : BitVec 16) (s : State) : Host.Outcome State Fault Refusal :=
  commit (s.pulon k (.sari k d a f imm) 1 (aluEffect k d f (fun s => aluSar (s.rd k.idx a) (imm.zeroExtend 32))))

/-- MOVH: d = (imm16 << 16) | a[15:0]. -/
def execMovh (k : Core) (d a : RegNo) (f : Bool) (imm : BitVec 16) (s : State) : Host.Outcome State Fault Refusal :=
  commit (s.pulon k (.movh k d a f imm) 1 (aluEffect k d f (fun s => aluMovh (s.rd k.idx a) (imm.zeroExtend 32))))

end Sys2Proof.Machine
end

