-- ==== Sys2Proof/Machine/PulonFlow.lean ====
section
/-! DEFINITION. Machine/PulonFlow.lean: the meanings of the branches, of IRET and of the special-register instructions (R110, R113–R116). -/

namespace Sys2Proof.Machine

open State

namespace State

/-- The index `off` instructions from the next instruction, where the PC stands already (R106). -/
def relTarget (s : State) (k : Nat) (off : BitVec 22) : Int := ((s.core k).pc : Int) + off.toInt

/-- W15 takes the index of the next instruction (R110). -/
def linkNext (s : State) (k : Nat) : State := s.wr k 15#4 (BitVec.ofNat 32 (s.core k).pc)

end State

/-- BR: if cond(c), PC = next + off22. -/
def execBr (k : Core) (c : BitVec 4) (off : BitVec 22) (s : State) : Host.Outcome State Fault Refusal :=
  commit (s.pulon k (.br k c off) 2 (fun _ s => if condHolds (s.core k.idx) c then s.jumpTo k.idx (s.relTarget k.idx off) else s))

/-- CALL: W15 = next; PC = next + off22. -/
def execCall (k : Core) (off : BitVec 22) (s : State) : Host.Outcome State Fault Refusal :=
  commit (s.pulon k (.call k off) 2 (fun _ s => (s.linkNext k.idx).jumpTo k.idx (s.relTarget k.idx off)))

/-- JR: PC = a. -/
def execJr (k : Core) (a : RegNo) (s : State) : Host.Outcome State Fault Refusal :=
  commit (s.pulon k (.jr k a) 2 (fun _ s => s.jumpTo k.idx (s.rd k.idx a).toNat))

/-- CALLR: the target is read before W15 is written. -/
def execCallr (k : Core) (a : RegNo) (s : State) : Host.Outcome State Fault Refusal :=
  commit (s.pulon k (.callr k a) 2 (fun _ s => (s.linkNext k.idx).jumpTo k.idx (s.rd k.idx a).toNat))

/-- A transfer to index `t` would fault (R114). -/
def State.overruns (k : Nat) (t : Int) : Bool := decide (t < 0) || decide ((imemWords k : Int) ≤ t)

/-- DBNZ: d = d − 1; if d ≠ 0, PC = next + off22; a taken one that overruns writes nothing (R83, R114). (DEDUCED, log entry 31.) -/
def execDbnz (k : Core) (d : RegNo) (off : BitVec 22) (s : State) : Host.Outcome State Fault Refusal :=
  commit (s.pulon k (.dbnz k d off) 2 (fun _ s =>
    let v := s.rd k.idx d - 1#32
    let t := s.wr k.idx d v
    if v = 0#32 then t else (if State.overruns k.idx (s.relTarget k.idx off) then s else t).jumpTo k.idx (s.relTarget k.idx off)))

/-- IRET: return from interrupt or fault. -/
def execIret (k : Core) (s : State) : Host.Outcome State Fault Refusal :=
  commit (s.pulon k (.iret k) 2 (fun _ s => s.iretEffect k.idx))

/-- MFS: d = special register. -/
def execMfs (k : Core) (d : RegNo) (sr : BitVec 4) (s : State) : Host.Outcome State Fault Refusal :=
  commit (s.pulon k (.mfs k d sr) 1 (fun _ s => s.wr k.idx d (s.special k sr.toNat)))

/-- MTS: special register = a. -/
def execMts (k : Core) (sr : BitVec 4) (a : RegNo) (s : State) : Host.Outcome State Fault Refusal :=
  commit (s.pulon k (.mts k sr a) 1 (fun _ s => s.setSpecial k sr.toNat (s.rd k.idx a)))

end Sys2Proof.Machine
end

