-- ==== Sys2Proof/Machine/PulonLocus.lean ====
section
/-! DEFINITION. Machine/PulonLocus.lean: the meanings of the locus, wait, edge and strobe instructions (R110, R117–R123). -/

namespace Sys2Proof.Machine

open State

/-- LNOW: the locus as it stands at the first tick of the instruction's cycle (R117). -/
def execLnow (k : Core) (x : LocNo) (r : BitVec 3) (s : State) : Host.Outcome State Fault Refusal :=
  commit (s.pulon k (.lnow k x r) 1 (fun t s => s.setLoc k.idx x (s.locusAt r.toNat t)))

/-- LSET: Lx = (a << 32) | b. -/
def execLset (k : Core) (x : LocNo) (a b : RegNo) (s : State) : Host.Outcome State Fault Refusal :=
  commit (s.pulon k (.lset k x a b) 1 (fun _ s => s.setLoc k.idx x (s.rd k.idx a ++ s.rd k.idx b)))

/-- LGET: a = the high or the low half of Ly. -/
def execLget (k : Core) (a : RegNo) (y : LocNo) (h : Bool) (s : State) : Host.Outcome State Fault Refusal :=
  commit (s.pulon k (.lget k a y h) 1 (fun _ s =>
    s.wr k.idx a (if h then (s.loc k.idx y).extractLsb' 32 32 else (s.loc k.idx y).extractLsb' 0 32)))

/-- LINS: Lx = Ly with field u replaced by b. -/
def execLins (k : Core) (x y : LocNo) (u : BitVec 2) (b : RegNo) (s : State) : Host.Outcome State Fault Refusal :=
  commit (s.pulon k (.lins k x y u b) 1 (fun _ s => s.setLoc k.idx x (linsOf (s.loc k.idx y) u.toNat (s.rd k.idx b))))

/-- LADV: Lx = ladv(Ly, u, sext12(imm12)); an unreachable Ly is copied, with V alone set (R118). -/
def execLadv (k : Core) (x y : LocNo) (u : BitVec 2) (imm : BitVec 12) (s : State) : Host.Outcome State Fault Refusal :=
  commit (s.pulon k (.ladv k x y u imm) 1 (fun _ s =>
    let p := s.loc k.idx y
    match ladvOf p (s.lineLenOf p) (s.frameLinesOf p) u.toNat imm.toInt with
    | some (q, z, c) => (s.setLoc k.idx x q).modCore k.idx (fun w => { w with z := z, n := false, c := c, v := false })
    | none => (s.setLoc k.idx x p).modCore k.idx (fun w => { w with z := false, n := false, c := false, v := true })))

/-- WAIT: the locus wait of R79. -/
def execWait (k : Core) (y : LocNo) (s : State) : Host.Outcome State Fault Refusal :=
  commit (s.pulon k (.wait k y) 2 (waitEffect k.idx y))

/-- WAIT_RESUME: the wait of a core ends at its target (R79). -/
def execWaitResume (k : Core) (s : State) : Host.Outcome State Fault Refusal :=
  act s (fun s => s.waitResume k.idx)

/-- EDGE: an edge entry with the mask of a register: 12 outputs on an SQ core, 32 pins on SUP (R121, R122). -/
def execEdge (k : Core) (y : LocNo) (soff : BitVec 11) (m : RegNo) (lvl : Bool) (s : State) : Host.Outcome State Fault Refusal :=
  commit (s.pulon k (.edge k y soff m lvl) 2 (fun _ s =>
    let w := s.rd k.idx m
    s.commitFlags k.idx { kind := .edge, mask := if k.isSq then w &&& 0xFFF#32 else w, lvl := lvl, target := s.entryTarget (s.loc k.idx y) soff }))

/-- EDGEI: an edge entry with the mask m. -/
def execEdgei (k : Core) (y : LocNo) (soff : BitVec 11) (m : BitVec 12) (lvl : Bool) (s : State) : Host.Outcome State Fault Refusal :=
  commit (s.pulon k (.edgei k y soff m lvl) 2 (fun _ s =>
    s.commitFlags k.idx { kind := .edge, mask := m.zeroExtend 32, lvl := lvl, target := s.entryTarget (s.loc k.idx y) soff }))

/-- STRB: a strobe entry with the strobe word m (R123). -/
def execStrb (k : Core) (y : LocNo) (soff : BitVec 11) (sw : BitVec 12) (s : State) : Host.Outcome State Fault Refusal :=
  commit (s.pulon k (.strb k y soff sw) 2 (fun _ s =>
    s.commitFlags k.idx { kind := .strobe, mask := sw.zeroExtend 32, lvl := false, target := s.entryTarget (s.loc k.idx y) soff }))

end Sys2Proof.Machine
end

