-- ==== Sys2Proof/Machine/PulonMem.lean ====
section
/-! DEFINITION. Machine/PulonMem.lean: the meanings of the load and store instructions (R110, R112). -/

namespace Sys2Proof.Machine

open State

/-- A value of `size` bytes loaded from `ea`, with what the access did to the state, goes to Wd. -/
def loadTo (k : Core) (d : RegNo) (x : State × W32) (ea size : Nat) : State := (x.1.noteClaim k ea size d).wr k.idx d x.2

/-- An instruction that takes `s` to `t` by an access to `ea`: while the access waits for DRAM the instruction is not done (R77, R472). (DEDUCED, log entry 61.) -/
def State.access (s : State) (k : Core) (ea : Nat) (write : Bool) (t : State) : State := if s.awaits k ea write then s else t

/-- LDW: d = word at address. -/
def execLdw (k : Core) (d a : RegNo) (imm : BitVec 16) (s : State) : Host.Outcome State Fault Refusal :=
  commit (s.access k (s.effAddr k.idx a imm) false (s.pulon k (.ldw k d a imm) (accessCycles (s.effAddr k.idx a imm)) (fun _ s => loadTo k d (s.loadWord k (s.effAddr k.idx a imm)) (s.effAddr k.idx a imm) 4)))

/-- LDH: d = halfword, zero-extended. -/
def execLdh (k : Core) (d a : RegNo) (imm : BitVec 16) (s : State) : Host.Outcome State Fault Refusal :=
  commit (s.access k (s.effAddr k.idx a imm) false (s.pulon k (.ldh k d a imm) (accessCycles (s.effAddr k.idx a imm)) (fun _ s => loadTo k d (s.loadPart k (s.effAddr k.idx a imm) 2) (s.effAddr k.idx a imm) 2)))

/-- LDB: d = byte, zero-extended. -/
def execLdb (k : Core) (d a : RegNo) (imm : BitVec 16) (s : State) : Host.Outcome State Fault Refusal :=
  commit (s.access k (s.effAddr k.idx a imm) false (s.pulon k (.ldb k d a imm) (accessCycles (s.effAddr k.idx a imm)) (fun _ s => loadTo k d (s.loadPart k (s.effAddr k.idx a imm) 1) (s.effAddr k.idx a imm) 1)))

/-- STW: word at address = s (s in field d). -/
def execStw (k : Core) (d a : RegNo) (imm : BitVec 16) (s : State) : Host.Outcome State Fault Refusal :=
  commit (s.access k (s.effAddr k.idx a imm) true (s.pulon k (.stw k d a imm) (accessCycles (s.effAddr k.idx a imm)) (fun _ s => s.storeWord k (s.effAddr k.idx a imm) (s.rd k.idx d))))

/-- STH: halfword at address = s[15:0]. -/
def execSth (k : Core) (d a : RegNo) (imm : BitVec 16) (s : State) : Host.Outcome State Fault Refusal :=
  commit (s.pulon k (.sth k d a imm) (accessCycles (s.effAddr k.idx a imm)) (fun _ s => s.storePart k (s.effAddr k.idx a imm) 2 (s.rd k.idx d)))

/-- STB: byte at address = s[7:0]. -/
def execStb (k : Core) (d a : RegNo) (imm : BitVec 16) (s : State) : Host.Outcome State Fault Refusal :=
  commit (s.pulon k (.stb k d a imm) (accessCycles (s.effAddr k.idx a imm)) (fun _ s => s.storePart k (s.effAddr k.idx a imm) 1 (s.rd k.idx d)))

/-- LDL: Lx = 64 bits of own data memory. -/
def execLdl (k : Core) (x : LocNo) (a : RegNo) (imm : BitVec 16) (s : State) : Host.Outcome State Fault Refusal :=
  commit (s.pulon k (.ldl k x a imm) 2 (fun _ s => s.setLoc k.idx x (s.loadLocus k.idx (s.effAddr k.idx a imm))))

/-- STL: 64 bits of own data memory = Lx. -/
def execStl (k : Core) (x : LocNo) (a : RegNo) (imm : BitVec 16) (s : State) : Host.Outcome State Fault Refusal :=
  commit (s.pulon k (.stl k x a imm) 2 (fun _ s => s.storeLocus k.idx (s.effAddr k.idx a imm) (s.loc k.idx x)))

end Sys2Proof.Machine
end

