-- ==== Sys2Proof/Machine/PulonUnits.lean ====
section
/-! DEFINITION. Machine/PulonUnits.lean: the meanings of the instructions that act on the peripheral port, the semaphores, the signals and the fences
(R110, R124–R131). -/

namespace Sys2Proof.Machine

open State

/-- PPX: one transfer unit is issued; C is 1 when nothing is (R124). -/
def execPpx (k : Core) (a : RegNo) (len : BitVec 5) (q rx : Bool) (s : State) : Host.Outcome State Fault Refusal :=
  commit (s.pulon k (.ppx k a len q rx) 2 (fun _ s =>
    let x := s.ppIssue k.idx (s.rd k.idx a) len.toNat q rx
    x.1.setC k.idx !x.2))

/-- PPS: the core's last received unit and the port's state (R125). -/
def execPps (k : Core) (d : RegNo) (s : State) : Host.Outcome State Fault Refusal :=
  commit (s.pulon k (.pps k d) 2 (fun _ s =>
    let shifting := match s.sio.ppUnit with | some u => u.core == k.idx | none => false
    (s.modCore k.idx (fun x => { x with z := !s.pportBusy, c := shifting, v := x.ppAborted })).wr k.idx d (s.core k.idx).ppRx))

/-- GSEL: select pins of a register's mask (R126). -/
def execGsel (k : Core) (m : RegNo) (lvl : Bool) (s : State) : Host.Outcome State Fault Refusal :=
  commit (s.pulon k (.gsel k m lvl) 1 (fun _ s => s.gsel k.idx (s.rd k.idx m).toNat lvl))

/-- GSELI: one select pin (R126). -/
def execGseli (k : Core) (pin : BitVec 5) (lvl : Bool) (s : State) : Host.Outcome State Fault Refusal :=
  commit (s.pulon k (.gseli k pin lvl) 1 (fun _ s => s.gsel k.idx (2 ^ pin.toNat) lvl))

/-- CLAIM: C is 0 when the core holds the semaphore (R92, R127). -/
def execClaim (k : Core) (n : BitVec 5) (s : State) : Host.Outcome State Fault Refusal :=
  commit (s.pulon k (.claim k n) 2 (fun _ s =>
    let x := s.semClaim k.idx n.toNat
    x.1.setC k.idx !x.2))

/-- FREE: C is 0 when the core held the semaphore (R92, R127). -/
def execFree (k : Core) (n : BitVec 5) (s : State) : Host.Outcome State Fault Refusal :=
  commit (s.pulon k (.free k n) 2 (fun _ s =>
    let x := s.semFree k.idx n.toNat
    x.1.setC k.idx !x.2))

/-- SIG: the bit of the core's code (R99). -/
def execSig (k : Core) (c : BitVec 3) (s : State) : Host.Outcome State Fault Refusal :=
  commit (s.pulon k (.sig k c) 1 (fun _ s => s.signal k.idx c.toNat))

namespace State

/-- The index of a fence request: n16, or the low half of Wa (R128). -/
def fenceIndex (s : State) (k : Nat) (r : Bool) (a : RegNo) (n : BitVec 16) : Nat := if r then (s.rd k a).toNat % 2 ^ 16 else n.toNat

end State

/-- FENCE: a unit is fenced; C is 1 when the request was ignored (R129). -/
def execFence (k : Core) (cls : BitVec 4) (r : Bool) (a : RegNo) (n : BitVec 16) (s : State) : Host.Outcome State Fault Refusal :=
  commit (s.pulon k (.fence k cls r a n) 2 (fun _ s =>
    let x := s.fenceRequest (k == .met) cls.toNat (s.fenceIndex k.idx r a n)
    x.1.setC k.idx x.2))

/-- FLIFT: a unit's fence is lifted; C is 1 when the lift was ignored (R130). -/
def execFlift (k : Core) (cls : BitVec 4) (r : Bool) (a : RegNo) (n : BitVec 16) (s : State) : Host.Outcome State Fault Refusal :=
  commit (s.pulon k (.flift k cls r a n) 2 (fun _ s =>
    let x := s.liftRequest (k == .met) cls.toNat (s.fenceIndex k.idx r a n)
    x.1.setC k.idx x.2))

end Sys2Proof.Machine
end

