-- ==== Sys2Proof/Machine/Dispatch.lean ====
section
/-! DEFINITION. Machine/Dispatch.lean: the meaning of every command, one direct call per row of spec/opcode_table.json. -/

namespace Sys2Proof.Machine

def exec (i : Instr) (s : State) : Host.Outcome State Fault Refusal :=
  match i with
  | .registerWrite who addr v => Sys2Proof.Machine.execRegisterWrite who addr v s
  | .ownershipWrite who n v => Sys2Proof.Machine.execOwnershipWrite who n v s
  | .auditCommit => Sys2Proof.Machine.execAuditCommit s
  | .rasterLineStart r => Sys2Proof.Machine.execRasterLineStart r s
  | .rasterFrameStart r => Sys2Proof.Machine.execRasterFrameStart r s
  | .rasterRun who r arm => Sys2Proof.Machine.execRasterRun who r arm s
  | .rasterStop who r arm => Sys2Proof.Machine.execRasterStop who r arm s
  | .lockWrite who r v => Sys2Proof.Machine.execLockWrite who r v s
  | .lockLineEnd r => Sys2Proof.Machine.execLockLineEnd r s
  | .acquireRestart r => Sys2Proof.Machine.execAcquireRestart r s
  | .fsyncEdge high => Sys2Proof.Machine.execFsyncEdge high s
  | .fsyncPulseAccept => Sys2Proof.Machine.execFsyncPulseAccept s
  | .fsyncPulseReject => Sys2Proof.Machine.execFsyncPulseReject s
  | .fsyncCfgWrite who v => Sys2Proof.Machine.execFsyncCfgWrite who v s
  | .fsyncOutputPulse => Sys2Proof.Machine.execFsyncOutputPulse s
  | .fsyncOutputEnd => Sys2Proof.Machine.execFsyncOutputEnd s
  | .cmpCommit who n v => Sys2Proof.Machine.execCmpCommit who n v s
  | .cmpCtlWrite who n v => Sys2Proof.Machine.execCmpCtlWrite who n v s
  | .cmpFire n => Sys2Proof.Machine.execCmpFire n s
  | .cmpPulseEnd n => Sys2Proof.Machine.execCmpPulseEnd n s
  | .add k d a b f => Sys2Proof.Machine.execAdd k d a b f s
  | .sub k d a b f => Sys2Proof.Machine.execSub k d a b f s
  | .andw k d a b f => Sys2Proof.Machine.execAndw k d a b f s
  | .orw k d a b f => Sys2Proof.Machine.execOrw k d a b f s
  | .xorw k d a b f => Sys2Proof.Machine.execXorw k d a b f s
  | .shl k d a b f => Sys2Proof.Machine.execShl k d a b f s
  | .shr k d a b f => Sys2Proof.Machine.execShr k d a b f s
  | .sar k d a b f => Sys2Proof.Machine.execSar k d a b f s
  | .mul k d a b f => Sys2Proof.Machine.execMul k d a b f s
  | .addi k d a f imm => Sys2Proof.Machine.execAddi k d a f imm s
  | .subi k d a f imm => Sys2Proof.Machine.execSubi k d a f imm s
  | .andi k d a f imm => Sys2Proof.Machine.execAndi k d a f imm s
  | .ori k d a f imm => Sys2Proof.Machine.execOri k d a f imm s
  | .xori k d a f imm => Sys2Proof.Machine.execXori k d a f imm s
  | .shli k d a f imm => Sys2Proof.Machine.execShli k d a f imm s
  | .shri k d a f imm => Sys2Proof.Machine.execShri k d a f imm s
  | .sari k d a f imm => Sys2Proof.Machine.execSari k d a f imm s
  | .movh k d a f imm => Sys2Proof.Machine.execMovh k d a f imm s
  | .ldw k d a imm => Sys2Proof.Machine.execLdw k d a imm s
  | .ldh k d a imm => Sys2Proof.Machine.execLdh k d a imm s
  | .ldb k d a imm => Sys2Proof.Machine.execLdb k d a imm s
  | .stw k d a imm => Sys2Proof.Machine.execStw k d a imm s
  | .sth k d a imm => Sys2Proof.Machine.execSth k d a imm s
  | .stb k d a imm => Sys2Proof.Machine.execStb k d a imm s
  | .ldl k x a imm => Sys2Proof.Machine.execLdl k x a imm s
  | .stl k x a imm => Sys2Proof.Machine.execStl k x a imm s
  | .br k c off => Sys2Proof.Machine.execBr k c off s
  | .call k off => Sys2Proof.Machine.execCall k off s
  | .jr k a => Sys2Proof.Machine.execJr k a s
  | .callr k a => Sys2Proof.Machine.execCallr k a s
  | .dbnz k d off => Sys2Proof.Machine.execDbnz k d off s
  | .iret k => Sys2Proof.Machine.execIret k s
  | .mfs k d sr => Sys2Proof.Machine.execMfs k d sr s
  | .mts k sr a => Sys2Proof.Machine.execMts k sr a s
  | .lnow k x r => Sys2Proof.Machine.execLnow k x r s
  | .lset k x a b => Sys2Proof.Machine.execLset k x a b s
  | .lget k a y h => Sys2Proof.Machine.execLget k a y h s
  | .lins k x y u b => Sys2Proof.Machine.execLins k x y u b s
  | .ladv k x y u imm => Sys2Proof.Machine.execLadv k x y u imm s
  | .wait k y => Sys2Proof.Machine.execWait k y s
  | .waitResume k => Sys2Proof.Machine.execWaitResume k s
  | .edge k y soff m lvl => Sys2Proof.Machine.execEdge k y soff m lvl s
  | .edgei k y soff m lvl => Sys2Proof.Machine.execEdgei k y soff m lvl s
  | .strb k y soff sw => Sys2Proof.Machine.execStrb k y soff sw s
  | .ppx k a len q rx => Sys2Proof.Machine.execPpx k a len q rx s
  | .pps k d => Sys2Proof.Machine.execPps k d s
  | .gsel k m lvl => Sys2Proof.Machine.execGsel k m lvl s
  | .gseli k pin lvl => Sys2Proof.Machine.execGseli k pin lvl s
  | .claim k n => Sys2Proof.Machine.execClaim k n s
  | .free k n => Sys2Proof.Machine.execFree k n s
  | .sig k c => Sys2Proof.Machine.execSig k c s
  | .fence k cls r a n => Sys2Proof.Machine.execFence k cls r a n s
  | .flift k cls r a n => Sys2Proof.Machine.execFlift k cls r a n s
  | .supInterruptEntry k => Sys2Proof.Machine.execSupInterruptEntry k s
  | .edgeEntryFire k => Sys2Proof.Machine.execEdgeEntryFire k s
  | .strobeSample p lanes => Sys2Proof.Machine.execStrobeSample p lanes s
  | .sqStartCommand who q => Sys2Proof.Machine.execSqStartCommand who q s
  | .sqCheckCommand who q => Sys2Proof.Machine.execSqCheckCommand who q s
  | .sqHaltCommand who q => Sys2Proof.Machine.execSqHaltCommand who q s
  | .sqFlushCommand who q => Sys2Proof.Machine.execSqFlushCommand who q s
  | .hashComplete q => Sys2Proof.Machine.execHashComplete q s
  | .sqWatchdogExpiry q => Sys2Proof.Machine.execSqWatchdogExpiry q s
  | .supWdKick who v => Sys2Proof.Machine.execSupWdKick who v s
  | .supWdCfgWrite who v => Sys2Proof.Machine.execSupWdCfgWrite who v s
  | .supWatchdogFirstStage => Sys2Proof.Machine.execSupWatchdogFirstStage s
  | .supWatchdogReset => Sys2Proof.Machine.execSupWatchdogReset s
  | .forcedRelease who v => Sys2Proof.Machine.execForcedRelease who v s
  | .romMapClear who => Sys2Proof.Machine.execRomMapClear who s
  | .powerUpRequest who p => Sys2Proof.Machine.execPowerUpRequest who p s
  | .powerDownRequest who p => Sys2Proof.Machine.execPowerDownRequest who p s
  | .pwrUpStart p => Sys2Proof.Machine.execPwrUpStart p s
  | .pwrPenOn p => Sys2Proof.Machine.execPwrPenOn p s
  | .pwrSettleEnd p => Sys2Proof.Machine.execPwrSettleEnd p s
  | .pwrBiasRampStep p => Sys2Proof.Machine.execPwrBiasRampStep p s
  | .pwrDownStart p => Sys2Proof.Machine.execPwrDownStart p s
  | .pwrPenOff p => Sys2Proof.Machine.execPwrPenOff p s
  | .pwrVcmOff p => Sys2Proof.Machine.execPwrVcmOff p s
  | .faultInputFence p low => Sys2Proof.Machine.execFaultInputFence p low s
  | .pixelResultReceive p => Sys2Proof.Machine.execPixelResultReceive p s
  | .rowClose p cap => Sys2Proof.Machine.execRowClose p cap s
  | .errorInjection who v => Sys2Proof.Machine.execErrorInjection who v s
  | .selfTestRequest who v => Sys2Proof.Machine.execSelfTestRequest who v s
  | .pixelCorrect p f => Sys2Proof.Machine.execPixelCorrect p f s
  | .pixelInterpolate t => Sys2Proof.Machine.execPixelInterpolate t s
  | .tableCheckStart who p => Sys2Proof.Machine.execTableCheckStart who p s
  | .tableCheckComplete p => Sys2Proof.Machine.execTableCheckComplete p s
  | .radDataWrite who v => Sys2Proof.Machine.execRadDataWrite who v s
  | .replayRequest who v => Sys2Proof.Machine.execReplayRequest who v s
  | .replayPixel => Sys2Proof.Machine.execReplayPixel s
  | .replayComplete => Sys2Proof.Machine.execReplayComplete s
  | .katInject p vec => Sys2Proof.Machine.execKatInject p vec s
  | .katResult p => Sys2Proof.Machine.execKatResult p s
  | .ffNow who p => Sys2Proof.Machine.execFfNow who p s
  | .ffMoveTimeout p => Sys2Proof.Machine.execFfMoveTimeout p s
  | .ffAverageFrame p => Sys2Proof.Machine.execFfAverageFrame p s
  | .ffComposeEnd p => Sys2Proof.Machine.execFfComposeEnd p s
  | .shutOk who p => Sys2Proof.Machine.execShutOk who p s
  | .statsSample p => Sys2Proof.Machine.execStatsSample p s
  | .statsClr who p => Sys2Proof.Machine.execStatsClr who p s
  | .compose who p => Sys2Proof.Machine.execCompose who p s
  | .statsComposeEnd p => Sys2Proof.Machine.execStatsComposeEnd p s
  | .wedgeArm who p => Sys2Proof.Machine.execWedgeArm who p s
  | .sealLowDecided => Sys2Proof.Machine.execSealLowDecided s
  | .sealHighDecided => Sys2Proof.Machine.execSealHighDecided s
  | .identityComplete => Sys2Proof.Machine.execIdentityComplete s
  | .requestBlockPoll slow => Sys2Proof.Machine.execRequestBlockPoll slow s
  | .requestFinalStatus => Sys2Proof.Machine.execRequestFinalStatus s
  | .readDigest seq => Sys2Proof.Machine.execReadDigest seq s
  | .readPubkey seq => Sys2Proof.Machine.execReadPubkey seq s
  | .readAudit seq pay => Sys2Proof.Machine.execReadAudit seq pay s
  | .setTime seq pay => Sys2Proof.Machine.execSetTime seq pay s
  | .setTimeSigned seq pay => Sys2Proof.Machine.execSetTimeSigned seq pay s
  | .replayRecord seq pay => Sys2Proof.Machine.execReplayRecord seq pay s
  | .retryKat seq pay => Sys2Proof.Machine.execRetryKat seq pay s
  | .liftFence seq pay => Sys2Proof.Machine.execLiftFence seq pay s
  | .writeZone seq pay => Sys2Proof.Machine.execWriteZone seq pay s
  | .writeMask seq pay => Sys2Proof.Machine.execWriteMask seq pay s
  | .writeCurve seq pay => Sys2Proof.Machine.execWriteCurve seq pay s
  | .installProgRef seq pay => Sys2Proof.Machine.execInstallProgRef seq pay s
  | .installTableRef seq pay => Sys2Proof.Machine.execInstallTableRef seq pay s
  | .setEvidential seq pay => Sys2Proof.Machine.execSetEvidential seq pay s
  | .setRecords seq pay => Sys2Proof.Machine.execSetRecords seq pay s
  | .setTimeKey seq pay => Sys2Proof.Machine.execSetTimeKey seq pay s
  | .generateKey seq => Sys2Proof.Machine.execGenerateKey seq s
  | .firmwareUpdate seq pay => Sys2Proof.Machine.execFirmwareUpdate seq pay s
  | .zoneConfirmation p => Sys2Proof.Machine.execZoneConfirmation p s
  | .recordSigned => Sys2Proof.Machine.execRecordSigned s
  | .timeVerifyExpiry => Sys2Proof.Machine.execTimeVerifyExpiry s
  | .menEvtRead who => Sys2Proof.Machine.execMenEvtRead who s
  | .enclaveWatchdogExpiry => Sys2Proof.Machine.execEnclaveWatchdogExpiry s
  | .metBootComplete fwOk testOk bad => Sys2Proof.Machine.execMetBootComplete fwOk testOk bad s
  | .facetEnableWrite who f v => Sys2Proof.Machine.execFacetEnableWrite who f v s
  | .bandEnd => Sys2Proof.Machine.execBandEnd s
  | .frameUrgent f => Sys2Proof.Machine.execFrameUrgent f s
  | .tableSync who f => Sys2Proof.Machine.execTableSync who f s
  | .tableSyncComplete f => Sys2Proof.Machine.execTableSyncComplete f s
  | .histClr who f => Sys2Proof.Machine.execHistClr who f s
  | .tileCode k => Sys2Proof.Machine.execTileCode k s
  | .tileVerify k upset => Sys2Proof.Machine.execTileVerify k upset s
  | .recFreeze who x => Sys2Proof.Machine.execRecFreeze who x s
  | .recExport who x => Sys2Proof.Machine.execRecExport who x s
  | .recRelease who x => Sys2Proof.Machine.execRecRelease who x s
  | .tableLoadStart who => Sys2Proof.Machine.execTableLoadStart who s
  | .tableLoadEnd => Sys2Proof.Machine.execTableLoadEnd s
  | .dramBurstGrant ch pend => Sys2Proof.Machine.execDramBurstGrant ch pend s
  | .starveTimeout c => Sys2Proof.Machine.execStarveTimeout c s
  | .memInitStart who => Sys2Proof.Machine.execMemInitStart who s
  | .memInitDone => Sys2Proof.Machine.execMemInitDone s
  | .scrubRow ups => Sys2Proof.Machine.execScrubRow ups s
  | .dramTempRead hot => Sys2Proof.Machine.execDramTempRead hot s
  | .memInject who v => Sys2Proof.Machine.execMemInject who v s
  | .windowWrite who addr v => Sys2Proof.Machine.execWindowWrite who addr v s
  | .windowFlushTimeout who => Sys2Proof.Machine.execWindowFlushTimeout who s
  | .dmaStart who d => Sys2Proof.Machine.execDmaStart who d s
  | .dmaStop who d => Sys2Proof.Machine.execDmaStop who d s
  | .dmaDescriptorEnd d bursts => Sys2Proof.Machine.execDmaDescriptorEnd d bursts s
  | .registerFrame bytes => Sys2Proof.Machine.execRegisterFrame bytes s
  | .registerFrameDone => Sys2Proof.Machine.execRegisterFrameDone s
  | .rawWordUnit mosi u => Sys2Proof.Machine.execRawWordUnit mosi u s
  | .hportRxdRead who => Sys2Proof.Machine.execHportRxdRead who s
  | .hportTxdWrite who v => Sys2Proof.Machine.execHportTxdWrite who v s
  | .hportDoorbellWrite who v => Sys2Proof.Machine.execHportDoorbellWrite who v s
  | .txFlush who => Sys2Proof.Machine.execTxFlush who s
  | .rxFlush who => Sys2Proof.Machine.execRxFlush who s
  | .pportUnitComplete bits => Sys2Proof.Machine.execPportUnitComplete bits s
  | .bulkStart who v => Sys2Proof.Machine.execBulkStart who v s
  | .bulkStop who data => Sys2Proof.Machine.execBulkStop who data s
  | .bulkDone data => Sys2Proof.Machine.execBulkDone data s
  | .gpioEdge n drive => Sys2Proof.Machine.execGpioEdge n drive s
  | .txLinkUp t => Sys2Proof.Machine.execTxLinkUp t s
  | .txDeskew t => Sys2Proof.Machine.execTxDeskew t s
  | .vioPacketBoundary t => Sys2Proof.Machine.execVioPacketBoundary t s
  | .rxFrameStart r vc dsk => Sys2Proof.Machine.execRxFrameStart r vc dsk s
  | .rxLongPacket r vc dt hdrOk crcOk body => Sys2Proof.Machine.execRxLongPacket r vc dt hdrOk crcOk body s
  | .rxFrameEnd r vc => Sys2Proof.Machine.execRxFrameEnd r vc s
  | .rxMissedCount r => Sys2Proof.Machine.execRxMissedCount r s
  | .intcClaim who t => Sys2Proof.Machine.execIntcClaim who t s
  | .intcClaimPeek who t => Sys2Proof.Machine.execIntcClaimPeek who t s
  | .intcComplete who t v => Sys2Proof.Machine.execIntcComplete who t v s
  | .intcSet who t n v => Sys2Proof.Machine.execIntcSet who t n v s
  | .intcClr who t n v => Sys2Proof.Machine.execIntcClr who t n v s
  | .holdoffExpiry t g => Sys2Proof.Machine.execHoldoffExpiry t g s
  | .program who page => Sys2Proof.Machine.execProgram who page s
  | .group who page group => Sys2Proof.Machine.execGroup who page group s
  | .erase who page => Sys2Proof.Machine.execErase who page s
  | .incr who page slot => Sys2Proof.Machine.execIncr who page slot s
  | .cread who page slot => Sys2Proof.Machine.execCread who page slot s
  | .cfmt who page => Sys2Proof.Machine.execCfmt who page s
  | .resolve who => Sys2Proof.Machine.execResolve who s
  | .resolveDone met => Sys2Proof.Machine.execResolveDone met s
  | .nvsWriteStart => Sys2Proof.Machine.execNvsWriteStart s
  | .nvsWriteDone ok t => Sys2Proof.Machine.execNvsWriteDone ok t s
  | .nvsRetry => Sys2Proof.Machine.execNvsRetry s
  | .nvsWindowRead who off err => Sys2Proof.Machine.execNvsWindowRead who off err s
  | .nvsRecallDone => Sys2Proof.Machine.execNvsRecallDone s
  | .nvsHoldRelease => Sys2Proof.Machine.execNvsHoldRelease s
  | .hkRoundStart => Sys2Proof.Machine.execHkRoundStart s
  | .hkConversionEnd x => Sys2Proof.Machine.execHkConversionEnd x s
  | .hkOpenWireCheck uv => Sys2Proof.Machine.execHkOpenWireCheck uv s
  | .hkUrgent who v => Sys2Proof.Machine.execHkUrgent who v s
  | .hkUrgentDone x => Sys2Proof.Machine.execHkUrgentDone x s
  | .throttleForceWrite who v => Sys2Proof.Machine.execThrottleForceWrite who v s
  | .throttleGraceExpiry => Sys2Proof.Machine.execThrottleGraceExpiry s
  | .dieTrip => Sys2Proof.Machine.execDieTrip s
  | .thermalResetEntry limit => Sys2Proof.Machine.execThermalResetEntry limit s
  | .thermalResetRelease boot => Sys2Proof.Machine.execThermalResetRelease boot s
  | .shutterTrigger who v => Sys2Proof.Machine.execShutterTrigger who v s
  | .phaseEnd n => Sys2Proof.Machine.execPhaseEnd n s
  | .pwmPeriod n => Sys2Proof.Machine.execPwmPeriod n s
  | .currentSample c uv => Sys2Proof.Machine.execCurrentSample c uv s
  | .onTimeLimit c => Sys2Proof.Machine.execOnTimeLimit c s
  | .triggerDeadline n => Sys2Proof.Machine.execTriggerDeadline n s
  | .waitingProfileStart n => Sys2Proof.Machine.execWaitingProfileStart n s
  | .supplyWarning rail steps => Sys2Proof.Machine.execSupplyWarning rail steps s
  | .supplyRecover rail => Sys2Proof.Machine.execSupplyRecover rail s
  | .dipEnd => Sys2Proof.Machine.execDipEnd s
  | .supplyReset => Sys2Proof.Machine.execSupplyReset s
  | .powerOnReset => Sys2Proof.Machine.execPowerOnReset s
  | .porstRelease boot => Sys2Proof.Machine.execPorstRelease boot s
  | .systemResetPin => Sys2Proof.Machine.execSystemResetPin s
  | .systemResetRequest who key sup => Sys2Proof.Machine.execSystemResetRequest who key sup s
  | .supResetRequest who key => Sys2Proof.Machine.execSupResetRequest who key s
  | .pll0Loss => Sys2Proof.Machine.execPll0Loss s
  | .pllLoss pll2 => Sys2Proof.Machine.execPllLoss pll2 s
  | .avsWrite who v => Sys2Proof.Machine.execAvsWrite who v s
  | .avsApply => Sys2Proof.Machine.execAvsApply s
  | .agePassStart w => Sys2Proof.Machine.execAgePassStart w s
  | .agePassEnd deg => Sys2Proof.Machine.execAgePassEnd deg s
  | .clockReduce who v => Sys2Proof.Machine.execClockReduce who v s
  | .clockRampEnd => Sys2Proof.Machine.execClockRampEnd s
  | .illegalInstruction k => Sys2Proof.Machine.execIllegalInstruction k s
  | .pllRelock pll2 => Sys2Proof.Machine.execPllRelock pll2 s
  | .dramRetrainDone => Sys2Proof.Machine.execDramRetrainDone s
  | .systemResetEnd => Sys2Proof.Machine.execSystemResetEnd s
  | .supplyResetRelease boot => Sys2Proof.Machine.execSupplyResetRelease boot s

end Sys2Proof.Machine
end

