-- ==== Sys2Proof/Machine/Step.lean ====
section
/-! DEFINITION. Machine/Step.lean: one step of the block: the command at the front of the queue, or a tick of the master clock when none waits. -/

namespace Sys2Proof.Machine

/-- With no command waiting the block idles for one tick of the master clock, which a system reset leaves running; while another reset holds the clock the resets that coincide
with it are over (DESIGN CHOICE, log entry 3; DESIGN CHOICE, log entry 12). -/
def idle (s : State) : Host.Outcome State Fault Refusal :=
  if s.hold = .none ∨ s.hold = .system then actAlways s (fun s => s.advanceTo (s.now + 1)) else commit (s.modSca (fun x => { x with resetAt := none }))

/-- One step: `exec` on the front command, with the rest of the queue. (DESIGN CHOICE, log entry 2; DESIGN CHOICE, log entry 3.) -/
def step (s : State) : Host.Outcome State Fault Refusal :=
  match s.pending with
  | [] => idle s
  | c :: rest => exec c { s with pending := rest }

/-- The queue with the command that a table word spells put in front; the table gives no row bits, so no word spells one. (DESIGN CHOICE, log entry 2.) -/
def State.withFetchWord (s : State) (nbits w : Nat) : State :=
  match decodeTableWord nbits w with
  | some c => { s with pending := c :: s.pending }
  | none => s

end Sys2Proof.Machine
end

