-- ==== Sys2Proof/Safety.lean ====
section
/-! DEFINITION. Safety.lean: what every state after a step looks like, in the terms the statements use. -/

namespace Sys2Proof.Machine

open R

/-- The command answers a next state, and `P` holds of it. -/
def Gives (i : Instr) (s : State) (P : State → Prop) : Prop := ∃ t, exec i s = .next t ∧ P t

/-- No reset holds the part and no thermal shutdown has been decided. -/
abbrev Normal (s : State) : Prop := s.hold = .none ∧ s.hk.shdn = none

/-- The interrupt pins, SUP's request and the alarm pins show what the rest of the state decides (R260, R395). -/
abbrev Settled (s : State) : Prop :=
  s.lines.hirq0 = s.requesting 1 ∧ s.lines.hirq1 = s.requesting 2 ∧ s.lines.sup = s.requesting 3 ∧ s.lines.malarm = s.malarmLevels

/-- From the decision of a thermal shutdown on, every port is off with its bias at 0 and its edges low (R446). -/
abbrev ShutdownSafe (s : State) : Prop :=
  s.hk.shdn.isSome = true → ∀ p : Fin 4, s.get (R.FPP_STAT_pwr p) = 0 ∧ s.get (R.FPP_BIAS_ACT_code p) = 0 ∧ s.bit (R.FPP_CTL_live p) = false ∧
    (s.port p).pen = false ∧ (s.port p).lvl = 0

/-- The memories in canonical form. -/
abbrev MemoriesCanonical (s : State) : Prop :=
  Memory.wf s.dram = true ∧ Memory.wf s.band = true ∧ Memory.wf s.imem = true ∧ Memory.wf s.dmem = true ∧ Memory.wf s.nvs.arr = true ∧ Memory.wf s.nvs.wbuf = true ∧
  Memory.wf s.nvs.mbuf = true ∧ Memory.wf s.men.masks = true ∧ Memory.wf s.men.maskAct = true

/-! ## Frames -/

/-- The hash in progress for core `k`, or, from 4 on, for a port's table. -/
def Lines.hashOf (l : Lines) (k : Nat) : Option HashRun := Map.get (fun _ => none) l.hashes k

/-- The interrupt controller and the lines of `t` when a command that leaves both to themselves takes `s` to `t`: the same sources in service and the same holdoffs, with the
watch of R403 gone on; pins and requests as `t` decides them; the latch of R49; and the hashes that were in progress still in progress (logs 7, 19, 22). -/
def Follows (s t : State) : Prop :=
  t.intc.hold = s.intc.hold ∧ Settled t ∧ t.lines.hs = t.hsLevels ∧
  (∀ n, (t.serving n).map (fun v => (v.target, v.level)) = (s.serving n).map (fun v => (v.target, v.level))) ∧
  (∀ n u v, s.serving n = some u → t.serving n = some v → (u.accessed = true → v.accessed = true) ∧ v.fell = (u.fell || (!v.accessed && !t.pendingAt v.target n))) ∧
  (t.hold = .none → t.lines.subst = t.substKeys ∧ t.lines.substEvt = (s.lines.substEvt || t.substKeys.any (fun k => !s.lines.subst.contains k))) ∧
  (t.hold ≠ .none → t.lines.subst = s.lines.subst ∧ t.lines.substEvt = s.lines.substEvt) ∧
  (t.now / 4 = s.now / 4 → t.lines.startCycle = s.lines.startCycle ∧ t.lines.startable = s.lines.startable) ∧
  ∀ k, (t.lines.hashOf k).map HashRun.start = (s.lines.hashOf k).map HashRun.start

/-- `t` is `s` but for the registers listed and for what settles after every command. -/
def RegsOnly (l : List Nat) (s t : State) : Prop :=
  t = { s with regs := t.regs, intc := t.intc, lines := t.lines } ∧ Follows s t ∧ ∀ a, a ∉ l → t.reg a = s.reg a

/-- `t` is `s` but for the registers listed, for what MET's judgement of its causes and its state changes while MET runs, and for what settles after every command (R272,
R273). -/
def RegsJudged (l : List Nat) (s t : State) : Prop :=
  t = { s with regs := t.regs, men := t.men, intc := t.intc, lines := t.lines } ∧ Follows s t ∧ (∀ a, a ∉ l → a / 0x1000 ≠ 0x12 → t.reg a = s.reg a) ∧
  (s.metUp = false → t.men = s.men ∧ ∀ a, a ∉ l → t.reg a = s.reg a)

/-- `t` is `s` but for what settles after every command. -/
def Quiet (s t : State) : Prop := t = { s with intc := t.intc, lines := t.lines } ∧ Follows s t

/-- `P` holds of `t` but for hash `k`, which may have begun or ended; every other hash goes on. -/
def HashOnly (k : Nat) (P : State → State → Prop) (s t : State) : Prop :=
  P s { t with lines := { t.lines with hashes := s.lines.hashes } } ∧
  ∀ j, j ≠ k → (t.lines.hashOf j).map HashRun.start = (s.lines.hashOf j).map HashRun.start

/-- `t` is `s` but for core `k`, the time, and what settles after every command. -/
def CoreOnly (k : Core) (s t : State) : Prop :=
  t = { s with cores := t.cores, now := t.now, wall := t.wall, intc := t.intc, lines := t.lines } ∧ Follows s t ∧ ∀ j, j ≠ k.idx → t.core j = s.core j

/-- Bit `i` of a field is 1 and every other bit of its register as in `w`. -/
def orBit (w : W32) (f : Field) (i : Nat) : W32 := w ||| BitVec.ofNat 32 (2 ^ (f.lo + i))

/-- Bit `i` of a field is 0 and every other bit of its register as in `w`. -/
def offBit (w : W32) (f : Field) (i : Nat) : W32 := w &&& ~~~BitVec.ofNat 32 (2 ^ (f.lo + i))

/-- A counter field one more, or still at all ones, and every other bit of its register as in `w` (R36). -/
def counted1 (w : W32) (f : Field) : W32 := withBits w f.hi f.lo (min (2 ^ (f.hi - f.lo + 1) - 1) (bitsOf w f.hi f.lo + 1))

/-- The party owns the group of register `a` and holds no half word in the paged window, no reset holds the part and no thermal shutdown is decided. -/
abbrev Writes (s : State) (who : Party) (a : Nat) : Prop := s.owns who.code a = true ∧ s.heldHalf who.code = none ∧ Normal s

/-- Read-write registers with no rule of their own, each with the mask of its fields. -/
def plainRegs : List (Nat × W32) :=
  [(PSC_SUP_ENTRY, 0x7FFF#32), (PSC_SUP_VEC, 0x7FFF7FFF#32), (PSC_SQ_ENTRY 0, 0xFFF#32), (PSC_SQ_WDOG 3, 0xFFF#32), (GPIO_OUT, 0xFFFFFFFF#32), (LCA_PAR_CFG, 0xFF#32),
    (CER_VER_CFG, 0xFF#32), (HKT_CH_LO 5, 0xFFFFFF#32), (RTB_LOCK_DLY 1, 0xFFFFFFFF#32)]

/-- The party and the register of each command that is one write to a register. MET's writes to its private space (R34) are writes to no group's register, and `metNvs` says
which they are. -/
def writeTarget : Instr → Option (Party × Nat)
  | .registerWrite who a _ => some (who, wordAddr a.toNat)
  | .ownershipWrite who n _ => some (who, PSC_OWN n)
  | .rasterRun who r _ => some (who, RTB_CTL r.idx)
  | .rasterStop who r _ => some (who, RTB_CTL r.idx)
  | .lockWrite who r _ => some (who, RTB_LOCK r.idx)
  | .fsyncCfgWrite who _ => some (who, RTB_FSYNC_CFG)
  | .cmpCommit who n _ => some (who, RTB_CMP_LO n)
  | .cmpCtlWrite who n _ => some (who, RTB_CMP_CTL n)
  | .sqStartCommand who q => some (who, PSC_SQ_CTL q)
  | .sqCheckCommand who q => some (who, PSC_SQ_CTL q)
  | .sqHaltCommand who q => some (who, PSC_SQ_CTL q)
  | .sqFlushCommand who q => some (who, PSC_SQ_CTL q)
  | .supWdKick who _ => some (who, PSC_SUP_WD_KICK)
  | .supWdCfgWrite who _ => some (who, PSC_SUP_WD_CFG)
  | .forcedRelease who _ => some (who, PSC_FORCE)
  | .romMapClear who => some (who, PSC_SUP_CTL)
  | .powerUpRequest who p => some (who, FPP_PWR p)
  | .powerDownRequest who p => some (who, FPP_PWR p)
  | .errorInjection who _ => some (who, LCA_INJ)
  | .selfTestRequest who _ => some (who, LCA_ST_CTL)
  | .tableCheckStart who p => some (who, PCE_TBL_CTL p)
  | .radDataWrite who _ => some (who, PCE_RAD_DATA)
  | .replayRequest who _ => some (who, PCE_RPL_CTL)
  | .ffNow who p => some (who, CSU_CTL p)
  | .shutOk who p => some (who, CSU_CTL p)
  | .statsClr who p => some (who, CSU_CTL p)
  | .compose who p => some (who, CSU_CTL p)
  | .wedgeArm who p => some (who, CSU_CTL p)
  | .facetEnableWrite who f _ => some (who, IPL_CTL f)
  | .tableSync who f => some (who, IPL_CTL f)
  | .histClr who f => some (who, IPL_CTL f)
  | .recFreeze who x => some (who, CER_REC_CTL x)
  | .recExport who x => some (who, CER_REC_CTL x)
  | .recRelease who x => some (who, CER_REC_CTL x)
  | .tableLoadStart who => some (who, CER_LOAD_CTL)
  | .memInitStart who => some (who, MEM_INIT)
  | .memInject who _ => some (who, MEM_INJ)
  | .dmaStart who d => some (who, MEM_DMA_CTL d)
  | .dmaStop who d => some (who, MEM_DMA_CTL d)
  | .hportTxdWrite who _ => some (who, HPORT_TXD)
  | .hportDoorbellWrite who _ => some (who, HPORT_DOORBELL)
  | .bulkStart who _ => some (who, PPORT_BULK_CTL)
  | .intcComplete who t _ => some (who, INTC_COMPLETE t)
  | .intcSet who t n _ => some (who, INTC_SET t n)
  | .intcClr who t n _ => some (who, INTC_CLR t n)
  | .hkUrgent who _ => some (who, HKT_URGENT)
  | .throttleForceWrite who _ => some (who, HKT_THR_CFG)
  | .shutterTrigger who _ => some (who, SDR_TRIG)
  | .avsWrite who _ => some (who, SCA_AVS)
  | .clockReduce who _ => some (who, SCA_CLK_CTL)
  | .windowWrite who a _ => some (who, wordAddr a.toNat)
  | .txFlush who => some (who, HPORT_FIFO)
  | .rxFlush who => some (who, HPORT_FIFO)
  | .bulkStop who _ => some (who, PPORT_BULK_CTL)
  | .agePassStart (some who) => some (who, SCA_AGE_CTL)
  | .systemResetRequest who _ _ => some (who, SCA_RST_CTL)
  | .supResetRequest who _ => some (who, SCA_RST_CTL)
  | .program who _ => byOwner who NVS_CMD
  | .group who _ _ => byOwner who NVS_CMD
  | .erase who _ => byOwner who NVS_CMD
  | .incr who _ _ => byOwner who NVS_CMD
  | .cread who _ _ => byOwner who NVS_CMD
  | .cfmt who _ => byOwner who NVS_CMD
  | .resolve who => byOwner who NVS_CMD
  | _ => none
where
  /-- A command of the NVS is a write to NVS_CMD but for MET, which writes its own copy. -/
  byOwner (who : Party) (a : Nat) : Option (Party × Nat) := if who = .met then none else some (who, a)

/-- The events that begin or end a reset while `h` holds the part (R469, R474), and the die trip, whose comparators run in every hold but the thermal one (R445). -/
def resetEvent (h : Hold) : Instr → Bool
  | .powerOnReset | .supplyReset | .pll0Loss | .porstRelease _ | .supplyResetRelease _ => true
  | .thermalResetRelease _ => h == .thermal
  | .systemResetEnd => h == .system
  | .dieTrip => h != .thermal
  | _ => false

/-- The commands of the parts that a system reset leaves running: MET and its instructions, the non-volatile store, the supplies and the thermal shutdown (R17, R473). -/
def systemRuns (i : Instr) : Bool :=
  (encodePulon i).any (fun e => e.1 == .met) ||
  match i with
  | .supInterruptEntry k => k == .met
  | .illegalInstruction k => k == .met
  | .registerWrite who a _ => who == .met && metSpace (wordAddr a.toNat)
  | .program who _ => who == .met
  | .group who _ _ => who == .met
  | .erase who _ => who == .met
  | .incr who _ _ => who == .met
  | .cread who _ _ => who == .met
  | .cfmt who _ => who == .met
  | .resolve who => who == .met
  | .resolveDone met => met
  | .nvsWindowRead who _ _ => who == .met
  | .nvsWriteStart | .nvsWriteDone _ _ | .nvsRetry | .nvsRecallDone | .nvsHoldRelease => true
  | .sealLowDecided | .sealHighDecided | .identityComplete | .recordSigned | .timeVerifyExpiry | .enclaveWatchdogExpiry | .metBootComplete _ _ _ | .auditCommit => true
  | .requestFinalStatus => true
  | .readDigest _ | .readPubkey _ | .readAudit _ _ | .setTime _ _ | .setTimeSigned _ _ | .replayRecord _ _ | .retryKat _ _ | .liftFence _ _ | .writeZone _ _ | .writeMask _ _ => true
  | .writeCurve _ _ | .installProgRef _ _ | .installTableRef _ _ | .setEvidential _ _ | .setRecords _ _ | .setTimeKey _ _ | .generateKey _ | .firmwareUpdate _ _ => true
  | .supplyWarning _ _ | .supplyRecover _ | .thermalResetEntry _ => true
  | _ => false

/-- MET has answered the request of this sequence number and opcode with this status, and says so in MEN_EVT (R247). -/
def Answered (seq : W32) (op status : Nat) (t : State) : Prop :=
  t.reg MEN_RSP_SEQ = seq ∧ t.num MEN_RSP_STATUS = op * 65536 + status ∧ t.bit ⟨MEN_EVT, 31, 0⟩ 3 = true

/-! ## Pulon instructions -/

/-- Core `k` runs, stands at instruction `i`, and the next instruction still lies in its memory. No thermal shutdown holds the outputs, and no halt waits for the
instruction's end. -/
abbrev Issues (k : Core) (i : Instr) (s : State) : Prop :=
  s.executing k = true ∧ s.fetches k i = true ∧ (s.core k.idx).pc + 1 < imemWords k.idx ∧ s.hk.shdn = none ∧ (s.core k.idx).halting = false

/-- The core's part when an instruction of `n` cycles has moved on: the PC at the next instruction, and ready after the last cycle. -/
def State.movedCore (s : State) (k : Core) (n : Nat) : CoreSt :=
  { s.core k.idx with pc := (s.core k.idx).pc + 1, readyAt := s.issueTick k.idx n + 4 * n }

/-- The state at the last tick of an instruction of `n` cycles, before its own effect. -/
def State.issued (s : State) (k : Core) (n : Nat) : State := (s.advanceTo (s.issueTick k.idx n + 4 * n - 1)).setCore k.idx (s.movedCore k n)

/-- Instruction `i` of `n` cycles completes: it moves the core on, changes it by `f`, and changes nothing else. -/
def Retires (k : Core) (i : Instr) (n : Nat) (s : State) (f : CoreSt → CoreSt) : Prop :=
  Gives i s (fun t => CoreOnly k s t ∧ t.now = s.issueTick k.idx n + 4 * n - 1 ∧ t.core k.idx = f (s.movedCore k n))

/-- Instruction `i` of `n` cycles completes: it moves the core on, changes it by `f`, writes registers of the list `l` alone, and changes nothing else; `P` says what it
leaves in those registers. -/
def RetiresRegs (k : Core) (i : Instr) (n : Nat) (l : List Nat) (s : State) (f : CoreSt → CoreSt) (P : State → Prop) : Prop :=
  Gives i s (fun t => t = { s with regs := t.regs, cores := t.cores, now := t.now, wall := t.wall, intc := t.intc, lines := t.lines } ∧ Follows s t ∧
    (∀ j, j ≠ k.idx → t.core j = s.core j) ∧ (∀ a, a ∉ l → t.reg a = s.reg a) ∧ t.now = s.issueTick k.idx n + 4 * n - 1 ∧ t.core k.idx = f (s.movedCore k n) ∧ P t)

/-- Condition `c` of a BR holds (R113). -/
def CoreSt.holds (x : CoreSt) (c : BitVec 4) : Bool :=
  [true, x.z, !x.z, x.c, !x.c, x.n, !x.n, x.v, !x.v, x.c && !x.z, !x.c || x.z, x.n == x.v, x.n != x.v, !x.z && (x.n == x.v), x.z || (x.n != x.v), false].getD c.toNat false

/-- The flags of a core as EFLAGS keeps them. -/
def CoreSt.flags (x : CoreSt) : Nat := b2n x.z * 8 + b2n x.n * 4 + b2n x.c * 2 + b2n x.v

/-- The core's part with Wd written: W0 takes nothing (R73). -/
def CoreSt.putW (x : CoreSt) (d : RegNo) (v : W32) : CoreSt := if d = 0#4 then x else { x with w := Map.set (fun _ => 0#32) x.w d.toNat v }

/-- The core's part with Lx written. -/
def CoreSt.putL (x : CoreSt) (l : LocNo) (v : W64) : CoreSt := { x with l := Map.set (fun _ => 0#64) x.l l.toNat v }

/-- What R110 and R111 give an arithmetic or logic instruction: its core, destination and f bit, the result, and C and V where it sets them. -/
def aluTable (s : State) : Instr → Option (Core × RegNo × Bool × W32 × Option Bool × Option Bool)
  | .add k d a b f => some (k, d, f, sum (s.rd k.idx a) (s.rd k.idx b))
  | .addi k d a f imm => some (k, d, f, sum (s.rd k.idx a) (BitVec.ofInt 32 imm.toInt))
  | .sub k d a b f => some (k, d, f, diff (s.rd k.idx a) (s.rd k.idx b))
  | .subi k d a f imm => some (k, d, f, diff (s.rd k.idx a) (BitVec.ofInt 32 imm.toInt))
  | .shl k d a b f => some (k, d, f, left (s.rd k.idx a) ((s.rd k.idx b).toNat % 32))
  | .shli k d a f imm => some (k, d, f, left (s.rd k.idx a) (imm.toNat % 32))
  | .shr k d a b f => some (k, d, f, right (s.rd k.idx a) (s.rd k.idx a).toNat ((s.rd k.idx b).toNat % 32))
  | .shri k d a f imm => some (k, d, f, right (s.rd k.idx a) (s.rd k.idx a).toNat (imm.toNat % 32))
  | .sar k d a b f => some (k, d, f, right (s.rd k.idx a) (s.rd k.idx a).toInt ((s.rd k.idx b).toNat % 32))
  | .sari k d a f imm => some (k, d, f, right (s.rd k.idx a) (s.rd k.idx a).toInt (imm.toNat % 32))
  | .mul k d a b f => some (k, d, f, BitVec.ofNat 32 ((s.rd k.idx a).toNat * (s.rd k.idx b).toNat), none, none)
  | .andw k d a b f => some (k, d, f, s.rd k.idx a &&& s.rd k.idx b, none, none)
  | .orw k d a b f => some (k, d, f, s.rd k.idx a ||| s.rd k.idx b, none, none)
  | .xorw k d a b f => some (k, d, f, s.rd k.idx a ^^^ s.rd k.idx b, none, none)
  | .andi k d a f imm => some (k, d, f, s.rd k.idx a &&& BitVec.ofNat 32 imm.toNat, none, none)
  | .ori k d a f imm => some (k, d, f, s.rd k.idx a ||| BitVec.ofNat 32 imm.toNat, none, none)
  | .xori k d a f imm => some (k, d, f, s.rd k.idx a ^^^ BitVec.ofNat 32 imm.toNat, none, none)
  | .movh k d a f imm => some (k, d, f, BitVec.ofNat 32 (imm.toNat * 2 ^ 16 + (s.rd k.idx a).toNat % 2 ^ 16), none, none)
  | _ => none
where
  /-- The sum; C is the carry out of bit 31, V a signed overflow. -/
  sum (x y : W32) : W32 × Option Bool × Option Bool :=
    (BitVec.ofNat 32 (x.toNat + y.toNat), some (decide (2 ^ 32 ≤ x.toNat + y.toNat)), some (decide ((BitVec.ofNat 32 (x.toNat + y.toNat)).toInt ≠ x.toInt + y.toInt)))
  /-- The difference; C is 1 without a borrow. -/
  diff (x y : W32) : W32 × Option Bool × Option Bool :=
    (BitVec.ofInt 32 (x.toInt - y.toInt), some (decide (y.toNat ≤ x.toNat)), some (decide ((BitVec.ofInt 32 (x.toInt - y.toInt)).toInt ≠ x.toInt - y.toInt)))
  /-- The left shift; C is the last bit shifted out. -/
  left (x : W32) (n : Nat) : W32 × Option Bool × Option Bool :=
    (BitVec.ofNat 32 (x.toNat * 2 ^ n), some (decide (n ≠ 0) && decide (x.toNat / 2 ^ (32 - n) % 2 = 1)), none)
  /-- The right shift of `x`, read as the number `v`. -/
  right (x : W32) (v : Int) (n : Nat) : W32 × Option Bool × Option Bool :=
    (BitVec.ofInt 32 (v / 2 ^ n), some (decide (n ≠ 0) && decide (x.toNat / 2 ^ (n - 1) % 2 = 1)), none)

/-- The flags of an arithmetic or logic instruction, when its f bit is 1: Z and N follow the result. -/
def CoreSt.aluFlags (x : CoreSt) (f : Bool) (r : W32) (c v : Option Bool) : CoreSt :=
  if f then { x with z := decide (r.toNat = 0), n := decide (2 ^ 31 ≤ r.toNat), c := c.getD x.c, v := v.getD x.v } else x

/-- Byte `a` of core `k`'s data memory. -/
def State.ownByte (s : State) (k : Core) (a : Nat) : Byte := Memory.byte s.dmem (coreBase k.idx + a)

/-- The number of `n` bytes of core `k`'s data memory from `a` up, least significant byte first. -/
def State.ownNum (s : State) (k : Core) (a n : Nat) : Nat := (List.range n).foldr (fun j r => (s.ownByte k (a + j)).toNat * 256 ^ j + r) 0

/-- Where `n` bytes stored at `a` lie: `v`, least significant byte first; every other byte is as before. -/
def StoresAt (k : Core) (a n v : Nat) (s t : State) : Prop :=
  ∀ x, Memory.byte t.dmem x = if coreBase k.idx + a ≤ x ∧ x < coreBase k.idx + a + n then BitVec.ofNat 8 (v / 256 ^ (x - (coreBase k.idx + a))) else Memory.byte s.dmem x

/-- The locus that R118's pseudocode returns, with Z and C; `none` where it returns an unreachable locus unchanged, with V alone. Its division truncates, and its result joins
the shifted fields by OR. -/
def ladvPseudo (p : W64) (ll fl : Nat) (u : Nat) (k : Int) : Option (W64 × Bool × Bool) :=
  if locRaster p > 4 ∨ locTick p > 95 then none
  else
    let flen : Int := 96 * ll * fl
    let f0 : Int := locFrame p
    let start : Int := ((locLine p * ll + locSlot p) * 96 + locTick p : Nat)
    let moved : Int := start + k * (if u = 0 then 1 else if u = 1 then 96 else 96 * ll)
    let q : Int := if 0 ≤ moved then Int.tdiv moved flen else - Int.tdiv (flen - 1 - moved) flen
    let pos : Nat := (if u = 3 then start else moved - q * flen).toNat
    let f : Nat := unsgn 26 (if u = 3 then f0 + k else f0 + q)
    some (BitVec.ofNat 64 (locRaster p) <<< 61 ||| BitVec.ofNat 64 f <<< 35 ||| BitVec.ofNat 64 (pos / (96 * ll)) <<< 23 ||| BitVec.ofNat 64 (pos / 96 % ll) <<< 7 |||
      BitVec.ofNat 64 (pos % 96), pos == 0, f != locFrame p)

/-- The entry that an edge or strobe instruction commits (R120–R123): its core, kind, mask, level and target. -/
def edgeEntry (s : State) : Instr → Option (Core × QEntry)
  | .edge k y soff m lvl => some (k, { kind := .edge, mask := if k.isSq then BitVec.ofNat 32 ((s.rd k.idx m).toNat % 2 ^ 12) else s.rd k.idx m, lvl := lvl, target := aim (s.loc k.idx y) soff.toNat })
  | .edgei k y soff m lvl => some (k, { kind := .edge, mask := BitVec.ofNat 32 m.toNat, lvl := lvl, target := aim (s.loc k.idx y) soff.toNat })
  | .strb k y soff sw => some (k, { kind := .strobe, mask := BitVec.ofNat 32 sw.toNat, lvl := false, target := aim (s.loc k.idx y) soff.toNat })
  | _ => none
where
  /-- `soff` slots after `p`; an unreachable `p` itself. -/
  aim (p : W64) (soff : Nat) : W64 :=
    match ladvPseudo p (s.raster (locRaster p)).lineLen (s.raster (locRaster p)).frameLines 1 soff with
    | some x => x.1
    | none => p

end Sys2Proof.Machine
end

