-- ==== Sys2Proof/WellFormed.lean ====
section
/-! DEFINITION. WellFormed.lean: which commands can occur on this part: an instruction that its core may execute with operands that its word can hold (R72, R108), lists no
longer than the lanes, payloads and packets they stand for, and addresses inside the unit named. -/

namespace Sys2Proof

/-- The numbers of a known-answer item lie in their fields (R212). -/
def katItemWf (k : KatItem) : Bool :=
  k.row < 4096 && k.col < 4096 && k.s < 65536 && k.b < 65536 && k.mode < 3 && k.cnt < 65536 && k.code < 65536 && k.flags < 256

/-- The classes in which a requester, by its code in MEM_ECC_INFO, reaches DRAM (R342, R355): CER is class 1 but for its table load, and the table names no class for MET
and for the fill. (DESIGN CHOICE for these two, log entry 65.) -/
def requesterClasses (req : Nat) : List Nat :=
  if 2 ≤ req ∧ req ≤ 5 then [0]
  else if req = 7 ∨ req = 10 ∨ req = 11 then [1]
  else if req = 9 then [1, 3]
  else if req = 8 then [2]
  else [3]

/-- A burst is aligned to its 64 bytes, comes in a class of its requester, carries bytes only if it writes, and its upsets name one of its eight words (R340, R342, R343). -/
def dramReqWf (r : DramReq) : Bool :=
  r.addr % 64 == 0 && (requesterClasses r.req.toNat).contains r.cls.val && decide (r.data.length ≤ 64) && (r.write || r.data.isEmpty) && r.upsets.all (fun u => u.1 < 8)

/-- The command can occur. -/
def WellFormed : Instr → Bool
  | .registerWrite .. => true
  | .ownershipWrite .. => true
  | .auditCommit => true
  | .rasterLineStart .. => true
  | .rasterFrameStart .. => true
  | .rasterRun .. => true
  | .rasterStop .. => true
  | .lockWrite .. => true
  | .lockLineEnd .. => true
  | .acquireRestart .. => true
  | .fsyncEdge .. => true
  | .fsyncPulseAccept => true
  | .fsyncPulseReject => true
  | .fsyncCfgWrite .. => true
  | .fsyncOutputPulse => true
  | .fsyncOutputEnd => true
  | .cmpCommit .. => true
  | .cmpCtlWrite .. => true
  | .cmpFire .. => true
  | .cmpPulseEnd .. => true
  | .add .. => true
  | .sub .. => true
  | .andw .. => true
  | .orw .. => true
  | .xorw .. => true
  | .shl .. => true
  | .shr .. => true
  | .sar .. => true
  | .mul .. => true
  | .addi .. => true
  | .subi .. => true
  | .andi .. => true
  | .ori .. => true
  | .xori .. => true
  | .shli .. => true
  | .shri .. => true
  | .sari .. => true
  | .movh .. => true
  | .ldw .. => true
  | .ldh .. => true
  | .ldb .. => true
  | .stw .. => true
  | .sth .. => true
  | .stb .. => true
  | .ldl .. => true
  | .stl .. => true
  | .br .. => true
  | .call .. => true
  | .jr .. => true
  | .callr .. => true
  | .dbnz .. => true
  | .iret k => !k.isSq
  | .mfs .. => true
  | .mts .. => true
  | .lnow _ _ r => r.toNat ≤ 4
  | .lset .. => true
  | .lget .. => true
  | .lins .. => true
  | .ladv .. => true
  | .wait .. => true
  | .waitResume .. => true
  | .edge k _ _ _ _ => k != .met
  | .edgei k _ _ _ _ => k != .met
  | .strb k _ _ _ => k.isSq
  | .ppx k _ len _ _ => k != .met && 3 ≤ len.toNat
  | .pps k _ => k != .met
  | .gsel k _ _ => k != .met
  | .gseli k _ _ => k != .met
  | .claim k _ => k != .met
  | .free k _ => k != .met
  | .sig .. => true
  | .fence k _ _ _ _ => !k.isSq
  | .flift k _ _ _ _ => !k.isSq
  | .supInterruptEntry .. => true
  | .edgeEntryFire .. => true
  | .strobeSample _ lanes => lanes.length ≤ 32
  | .sqStartCommand .. => true
  | .sqCheckCommand .. => true
  | .sqHaltCommand .. => true
  | .sqFlushCommand .. => true
  | .hashComplete .. => true
  | .sqWatchdogExpiry .. => true
  | .supWdKick .. => true
  | .supWdCfgWrite .. => true
  | .supWatchdogFirstStage => true
  | .supWatchdogReset => true
  | .forcedRelease .. => true
  | .romMapClear .. => true
  | .powerUpRequest .. => true
  | .powerDownRequest .. => true
  | .pwrUpStart .. => true
  | .pwrPenOn .. => true
  | .pwrSettleEnd .. => true
  | .pwrBiasRampStep .. => true
  | .pwrDownStart .. => true
  | .pwrPenOff .. => true
  | .pwrVcmOff .. => true
  | .faultInputFence .. => true
  | .pixelResultReceive .. => true
  | .rowClose _ cap => cap.length ≤ 32
  | .errorInjection .. => true
  | .selfTestRequest .. => true
  | .pixelCorrect .. => true
  | .pixelInterpolate .. => true
  | .tableCheckStart .. => true
  | .tableCheckComplete .. => true
  | .radDataWrite .. => true
  | .replayRequest .. => true
  | .replayPixel => true
  | .replayComplete => true
  | .katInject _ vec => vec.length ≤ 64 && vec.all katItemWf
  | .katResult .. => true
  | .ffNow .. => true
  | .ffMoveTimeout .. => true
  | .ffAverageFrame .. => true
  | .ffComposeEnd .. => true
  | .shutOk .. => true
  | .statsSample .. => true
  | .statsClr .. => true
  | .compose .. => true
  | .statsComposeEnd .. => true
  | .wedgeArm .. => true
  | .sealLowDecided => true
  | .sealHighDecided => true
  | .identityComplete => true
  | .requestBlockPoll .. => true
  | .requestFinalStatus => true
  | .readDigest .. => true
  | .readPubkey .. => true
  | .readAudit _ pay => pay.length ≤ 248
  | .setTime _ pay => pay.length ≤ 248
  | .setTimeSigned _ pay => pay.length ≤ 248
  | .replayRecord _ pay => pay.length ≤ 248
  | .retryKat _ pay => pay.length ≤ 248
  | .liftFence _ pay => pay.length ≤ 248
  | .writeZone _ pay => pay.length ≤ 248
  | .writeMask _ pay => pay.length ≤ 248
  | .writeCurve _ pay => pay.length ≤ 248
  | .installProgRef _ pay => pay.length ≤ 248
  | .installTableRef _ pay => pay.length ≤ 248
  | .setEvidential _ pay => pay.length ≤ 248
  | .setRecords _ pay => pay.length ≤ 248
  | .setTimeKey _ pay => pay.length ≤ 248
  | .generateKey .. => true
  | .firmwareUpdate _ pay => pay.length ≤ 248
  | .zoneConfirmation .. => true
  | .recordSigned => true
  | .timeVerifyExpiry => true
  | .menEvtRead .. => true
  | .enclaveWatchdogExpiry => true
  | .metBootComplete .. => true
  | .facetEnableWrite .. => true
  | .bandEnd => true
  | .frameUrgent .. => true
  | .tableSync .. => true
  | .tableSyncComplete .. => true
  | .histClr .. => true
  | .tileCode .. => true
  | .tileVerify .. => true
  | .recFreeze .. => true
  | .recExport .. => true
  | .recRelease .. => true
  | .tableLoadStart .. => true
  | .tableLoadEnd => true
  | .dramBurstGrant _ pend => pend.all dramReqWf
  | .starveTimeout .. => true
  | .memInitStart .. => true
  | .memInitDone => true
  | .scrubRow .. => true
  | .dramTempRead .. => true
  | .memInject .. => true
  | .windowWrite _ addr _ => 0x20_0000 ≤ addr.toNat && addr.toNat < 0x40_0000
  | .windowFlushTimeout .. => true
  | .dmaStart .. => true
  | .dmaStop .. => true
  | .dmaDescriptorEnd .. => true
  | .registerFrame .. => true
  | .registerFrameDone => true
  | .rawWordUnit .. => true
  | .hportRxdRead .. => true
  | .hportTxdWrite .. => true
  | .hportDoorbellWrite .. => true
  | .txFlush .. => true
  | .rxFlush .. => true
  | .pportUnitComplete .. => true
  | .bulkStart .. => true
  | .bulkStop _ data => data.length ≤ 2 ^ 32
  | .bulkDone data => data.length ≤ 2 ^ 32
  | .gpioEdge .. => true
  | .txLinkUp .. => true
  | .txDeskew .. => true
  | .vioPacketBoundary .. => true
  | .rxFrameStart .. => true
  | .rxLongPacket _ _ _ _ _ body => body.length < 65536
  | .rxFrameEnd .. => true
  | .rxMissedCount .. => true
  | .intcClaim .. => true
  | .intcClaimPeek .. => true
  | .intcComplete .. => true
  | .intcSet .. => true
  | .intcClr .. => true
  | .holdoffExpiry .. => true
  | .program .. => true
  | .group .. => true
  | .erase .. => true
  | .incr .. => true
  | .cread .. => true
  | .cfmt .. => true
  | .resolve .. => true
  | .resolveDone .. => true
  | .nvsWriteStart => true
  | .nvsWriteDone .. => true
  | .nvsRetry => true
  | .nvsWindowRead .. => true
  | .nvsRecallDone => true
  | .nvsHoldRelease => true
  | .hkRoundStart => true
  | .hkConversionEnd .. => true
  | .hkOpenWireCheck .. => true
  | .hkUrgent .. => true
  | .hkUrgentDone .. => true
  | .throttleForceWrite .. => true
  | .throttleGraceExpiry => true
  | .dieTrip => true
  | .thermalResetEntry .. => true
  | .thermalResetRelease .. => true
  | .shutterTrigger .. => true
  | .phaseEnd .. => true
  | .pwmPeriod .. => true
  | .currentSample .. => true
  | .onTimeLimit .. => true
  | .triggerDeadline .. => true
  | .waitingProfileStart .. => true
  | .supplyWarning .. => true
  | .supplyRecover .. => true
  | .dipEnd => true
  | .supplyReset => true
  | .powerOnReset => true
  | .porstRelease .. => true
  | .systemResetPin => true
  | .systemResetRequest .. => true
  | .supResetRequest .. => true
  | .pll0Loss => true
  | .pllLoss .. => true
  | .avsWrite .. => true
  | .avsApply => true
  | .agePassStart .. => true
  | .agePassEnd deg => deg.length == 24
  | .clockReduce .. => true
  | .clockRampEnd => true
  | .illegalInstruction .. => true
  | .pllRelock .. => true
  | .dramRetrainDone => true
  | .systemResetEnd => true
  | .supplyResetRelease .. => true

end Sys2Proof
end

