-- ==== Sys2Proof/Certificates/Slice0/Obligations.lean ====
section
/-! DEFINITION. Certificates/Slice0/Obligations.lean: the statements. -/

open Sys2Proof Sys2Proof.Machine Sys2Proof.Machine.R

/-! ## Steps, reset and words -/

/-- A step takes the command at the front of the queue and runs it with the rest of the queue. -/
def Obligations.StepRunsFrontCommand : Prop := ∀ (c : Instr) (rest : List Instr) (s : State), s.pending = c :: rest → step s = exec c { s with pending := rest }

/-- With no command waiting, and no reset or a system reset that holds the part, a step is one tick of the master clock: 9 units of 1/27 ns, or 10 at the reduced clock (R27,
R28); in every other hold no tick passes, and the requests that coincide with the hold's reset are past. That an empty queue lets a tick pass is the model's choice (log entry
3), and so is when a coincidence ends (log entry 12). -/
def Obligations.EmptyQueueTicks : Prop := ∀ (s : State), s.pending = [] → s.hk.shdn = none →
  (s.hold = .none ∨ s.hold = .system →
    ∃ t, step s = .next t ∧ t = { s with now := s.now + 1, wall := s.wall + (if s.sca.slow then 10 else 9), intc := t.intc, lines := t.lines } ∧ Follows s t) ∧
  (s.hold ≠ .none → s.hold ≠ .system →
    ∃ t, step s = .next t ∧ t = { s with sca := { s.sca with resetAt := none }, intc := t.intc, lines := t.lines } ∧ Follows s t)

/-- The words that spell four instructions in the encodings of R106 and R110.
Decoding the word of a well-formed Pulon instruction gives it back on the core that executes it. -/
def Obligations.EncodedInstructionDecodes : Prop :=
  (decodePulon .sqa 0xA4810003#32 = some (.edgei .sqa 0#2 16#11 3#12 true) ∧ decodePulon .sqa 0x99401002#32 = some (.ladv .sqa 1#2 1#2 1#2 2#12) ∧
  decodePulon .sup 0x78BFFFFC#32 = some (.dbnz .sup 2#4 (BitVec.ofInt 22 (-4))) ∧ decodePulon .sqb 0x68400004#32 = some (.br .sqb 1#4 4#22)) ∧
  (∀ (i : Instr) (k : Core) (w : W32), encodePulon i = some (k, w) → WellFormed i = true → decodePulon k w = some i)

/-! ## Pulon instructions (spec 03 and 04) -/

/-- R110 and R111: the result of every arithmetic and logic instruction goes to Wd, and with f = 1 its flags; it takes one cycle and changes nothing else. -/
def Obligations.AluResults : Prop := ∀ (i : Instr) (s : State) (k : Core) (d : RegNo) (f : Bool) (r : W32) (c v : Option Bool),
  aluTable s i = some (k, d, f, r, c, v) → Issues k i s → Retires k i 1 s (fun x => (x.aluFlags f r c v).putW d r)

/-- R112: loads from the core's own data memory, aligned down to their size, least significant byte first; elsewhere, outside host space, they load zero.
R89 and R112: a store into the core's own data memory changes the bytes it names, aligned down to its size, least significant byte first, and the core's time; a
store into an SQ core's constant region, or to an address of neither kind, changes no byte, and STL changes none in host space either. -/
def Obligations.OwnMemory : Prop :=
  (∀ (k : Core) (d a : RegNo) (x : LocNo) (imm : BitVec 16) (s : State) (e : Nat),
  (e : Int) = ((s.rd k.idx a).toInt + imm.toInt) % 2 ^ 32 →
  (e < dmemBytes k.idx →
    (Issues k (.ldw k d a imm) s → Retires k (.ldw k d a imm) 2 s (fun y => y.putW d (BitVec.ofNat 32 (s.ownNum k (e / 4 * 4) 4)))) ∧
    (Issues k (.ldh k d a imm) s → Retires k (.ldh k d a imm) 2 s (fun y => y.putW d (BitVec.ofNat 32 (s.ownNum k (e / 2 * 2) 2)))) ∧
    (Issues k (.ldb k d a imm) s → Retires k (.ldb k d a imm) 2 s (fun y => y.putW d (BitVec.ofNat 32 (s.ownNum k e 1)))) ∧
    (Issues k (.ldl k x a imm) s → Retires k (.ldl k x a imm) 2 s (fun y => y.putL x (BitVec.ofNat 64 (s.ownNum k (e / 8 * 8) 8))))) ∧
  (dmemBytes k.idx ≤ e → inHost e = false →
    (Issues k (.ldw k d a imm) s → Retires k (.ldw k d a imm) 2 s (fun y => y.putW d 0#32)) ∧
    (Issues k (.ldh k d a imm) s → Retires k (.ldh k d a imm) 2 s (fun y => y.putW d 0#32)) ∧
    (Issues k (.ldb k d a imm) s → Retires k (.ldb k d a imm) 2 s (fun y => y.putW d 0#32))) ∧
  (dmemBytes k.idx ≤ e → Issues k (.ldl k x a imm) s → Retires k (.ldl k x a imm) 2 s (fun y => y.putL x 0#64))) ∧
  (∀ (k : Core) (i : Instr) (d a : RegNo) (x : LocNo) (imm : BitVec 16) (s : State) (e n v : Nat),
  (e : Int) = ((s.rd k.idx a).toInt + imm.toInt) % 2 ^ 32 →
  (i = .stw k d a imm ∧ n = 4 ∧ v = (s.rd k.idx d).toNat ∨ i = .sth k d a imm ∧ n = 2 ∧ v = (s.rd k.idx d).toNat ∨
    i = .stb k d a imm ∧ n = 1 ∧ v = (s.rd k.idx d).toNat ∨ i = .stl k x a imm ∧ n = 8 ∧ v = (s.loc k.idx x).toNat) →
  Issues k i s →
  (e < dmemBytes k.idx → (k.isSq = true → s.constLen k.idx ≤ e / n * n) →
    Gives i s (fun t => t = { s with cores := t.cores, dmem := t.dmem, now := t.now, wall := t.wall, intc := t.intc, lines := t.lines } ∧ Follows s t ∧
      StoresAt k (e / n * n) n v s t ∧ t.core k.idx = s.movedCore k 2 ∧ ∀ j, j ≠ k.idx → t.core j = s.core j)) ∧
  (k.isSq = true → e < dmemBytes k.idx → e / n * n < s.constLen k.idx → Retires k i 2 s id) ∧
  (dmemBytes k.idx ≤ e → inHost e = false ∨ n = 8 → Retires k i 2 s id))

/-- R22, R31, R112: a core's load from host space takes 8 cycles and reads the register at its address, whole or the halfword or byte that bits [1:0] select, where the
core may read it and else zero; it is an access of the core's own party. (Registers that a read changes, upper words of wide values, and the image pipeline's registers while a
chosen band has not begun, apart.)
R112: STH and STB to host space are ignored, and so is STW where its core does not own the register's group: 8 cycles pass and nothing is written. STW by the owner of a
read-write register with no rule of its own replaces the bits that its fields cover and keeps the reserved ones (R9, R18, R22), for nine registers. -/
def Obligations.HostSpaceAccesses : Prop :=
  (∀ (k : Core) (i : Instr) (d a : RegNo) (imm : BitVec 16) (s : State) (e n : Nat),
  (e : Int) = ((s.rd k.idx a).toInt + imm.toInt) % 2 ^ 32 → inHost e = true → s.heldHalf k.party.code = none →
  (i = .ldw k d a imm ∧ n = 4 ∨ i = .ldh k d a imm ∧ n = 2 ∨ i = .ldb k d a imm ∧ n = 1) → Issues k i s →
  let h := wordAddr (e - 0x1000_0000)
  let w := if mayRead k.party.code h = true then (s.issued k 8).regValue h else 0#32
  (mayRead k.party.code h = true → h < 0x2_0000 ∧ State.isUpper h = false ∧ State.upperWords h = [] ∧ ¬ (0xD800 ≤ h ∧ h < 0xE000) ∧ h ≠ MEN_EVT ∧ h ≠ HPORT_RXD ∧
    h ≠ INTC_CLAIM 0 ∧ h ≠ INTC_CLAIM 1 ∧ h ≠ INTC_CLAIM 2) → ¬ (0x1000 ≤ h ∧ h < 0x2000) → (0x9000 ≤ h ∧ h < 0xB000 → s.ipl.chosen = none) →
  Retires k i 8 s (fun y => y.putW d (BitVec.ofNat 32 (w.toNat / 256 ^ (e % 4 / n * n) % 256 ^ n)))) ∧
  (∀ (k : Core) (i : Instr) (d a : RegNo) (imm : BitVec 16) (s : State) (e : Nat),
  (e : Int) = ((s.rd k.idx a).toInt + imm.toInt) % 2 ^ 32 → inHost e = true → s.heldHalf k.party.code = none →
  (i = .sth k d a imm ∨ i = .stb k d a imm ∨
      i = .stw k d a imm ∧ s.owns k.party.code (wordAddr (e - 0x1000_0000)) = false ∧ (k = .met → metNvs (wordAddr (e - 0x1000_0000)) = none) →
    Issues k i s → Retires k i 8 s id) ∧
  (∀ h m, h = wordAddr (e - 0x1000_0000) → (h, m) ∈ plainRegs → s.owns k.party.code h = true → Issues k (.stw k d a imm) s →
    RetiresRegs k (.stw k d a imm) 8 [h] s id (fun t => t.reg h = (s.reg h &&& ~~~m) ||| (s.rd k.idx d &&& m))))

/-- R113, R114: BR, CALL, JR, CALLR and DBNZ whose target lies in the core's instruction memory go there, and a BR or DBNZ that is not taken goes on; CALL and CALLR leave
the index of the next instruction in W15, and DBNZ decrements its register. Each takes 2 cycles. (DBNZ on W0, which reads 0 and stays 0, branches: log entry 31.) -/
def Obligations.BranchesGo : Prop := ∀ (k : Core) (s : State) (c : BitVec 4) (a d : RegNo) (off : BitVec 22) (g : Nat),
  let x := s.core k.idx
  let go := fun (n : Nat) (y : CoreSt) => { y with pc := n }
  let taken := x.holds c
  (taken = false → Issues k (.br k c off) s → Retires k (.br k c off) 2 s id) ∧
  ((g : Int) = x.pc + 1 + off.toInt → g < imemWords k.idx →
    (taken = true → Issues k (.br k c off) s → Retires k (.br k c off) 2 s (go g)) ∧
    (Issues k (.call k off) s → Retires k (.call k off) 2 s (fun y => go g (y.putW 15#4 (BitVec.ofNat 32 (x.pc + 1))))) ∧
    ((s.rd k.idx d).toNat ≠ 1 → Issues k (.dbnz k d off) s → Retires k (.dbnz k d off) 2 s (fun y => go g (y.putW d (s.rd k.idx d - 1#32))))) ∧
  ((s.rd k.idx d).toNat = 1 → Issues k (.dbnz k d off) s → Retires k (.dbnz k d off) 2 s (fun y => y.putW d 0#32)) ∧
  ((s.rd k.idx a).toNat < imemWords k.idx →
    (Issues k (.jr k a) s → Retires k (.jr k a) 2 s (go (s.rd k.idx a).toNat)) ∧
    (Issues k (.callr k a) s → Retires k (.callr k a) 2 s (fun y => go (s.rd k.idx a).toNat (y.putW 15#4 (BitVec.ofNat 32 (x.pc + 1))))))

/-- R83, R114: a taken transfer on SUP whose target lies outside its instruction memory faults as a PC overrun: PSC_SUP_FAULT holds the branch's own index and cause 2, and SUP
enters its fault handler at PSC_SUP_VEC.fvec with EPC at the branch and IE clear; CALL and CALLR have then written W15, and a DBNZ leaves its register. A second fault while
in_fault is 1 halts SUP and sets PSC_EVT.sup_fault. (A DBNZ on W0 transfers too: log entry 31. That the second fault is recorded as the first, and leaves EPC, EFLAGS and IE, is
log entry 66.)
R83, R96, R114: on an SQ core a taken transfer whose target lies outside its instruction memory fences the core's port: state FENCED, and PSC_SQx_CAUSE with cause 3 and the
branch's own index; a DBNZ leaves its
register. -/
def Obligations.BranchOverruns : Prop :=
  (∀ (i : Instr) (s : State) (c : BitVec 4) (a d : RegNo) (off : BitVec 22),
  (i = .br .sup c off ∧ (s.core 4).holds c = true ∨ i = .call .sup off ∨ i = .dbnz .sup d off ∧ (s.rd 4 d).toNat ≠ 1) ∧ ((s.core 4).pc + 1 + off.toInt < 0 ∨ (imemWords 4 : Int) ≤ (s.core 4).pc + 1 + off.toInt) ∨
    (i = .jr .sup a ∨ i = .callr .sup a) ∧ imemWords 4 ≤ (s.rd 4 a).toNat →
  Issues .sup i s → s.get PSC_SUP_VEC_fvec ≠ imemWords 4 →
  let link := fun (y : CoreSt) => if i = .call .sup off ∨ i = .callr .sup a then y.putW 15#4 (BitVec.ofNat 32 ((s.core 4).pc + 1)) else y
  (s.bit PSC_SUP_STAT_in_fault = false → RetiresRegs .sup i 2 [PSC_SUP_FAULT, PSC_SUP_STAT] s
    (fun y => { link y with epc := (s.core 4).pc, eflags := y.flags, ie := false, pc := s.get PSC_SUP_VEC_fvec, waiting := none })
    (fun t => t.num PSC_SUP_FAULT = (s.core 4).pc % 2 ^ 15 * 65536 + 2 ∧ t.reg PSC_SUP_STAT = orBit (s.reg PSC_SUP_STAT) PSC_SUP_STAT_in_fault 0)) ∧
  (s.bit PSC_SUP_STAT_in_fault = true → RetiresRegs .sup i 2 [PSC_SUP_FAULT, PSC_SUP_STAT, PSC_EVT] s (fun y => { link y with waiting := none })
    (fun t => t.num PSC_SUP_FAULT = (s.core 4).pc % 2 ^ 15 * 65536 + 2 ∧ t.reg PSC_SUP_STAT = orBit (s.reg PSC_SUP_STAT) PSC_SUP_STAT_halted 0 ∧
      t.reg PSC_EVT = orBit (s.reg PSC_EVT) PSC_EVT_sup_fault 0))) ∧
  (∀ (q : Port) (i : Instr) (s : State) (c : BitVec 4) (a d : RegNo) (off : BitVec 22),
  let k := Core.ofPort q
  (i = .br k c off ∧ (s.core q).holds c = true ∨ i = .call k off ∨ i = .dbnz k d off ∧ (s.rd q d).toNat ≠ 1) ∧ ((s.core q).pc + 1 + off.toInt < 0 ∨ (imemWords q : Int) ≤ (s.core q).pc + 1 + off.toInt) ∨
    (i = .jr k a ∨ i = .callr k a) ∧ imemWords q ≤ (s.rd q a).toNat →
  Issues k i s → (s.stream q).writing = false →
  Gives i s (fun t => t.sqState q = 3 ∧ t.num (PSC_SQ_CAUSE q) = (s.core q).pc % 4096 * 65536 + 3 ∧ t.bit PSC_EVT_fenced q = true ∧ (t.core q).queue = [] ∧
    (i = .dbnz k d off → ∀ r, t.rd q r = s.rd q r) ∧
    t.bit (FPP_STAT_fenced q) = true ∧ t.bit (FPP_CTL_live q) = false))

/-- R110, R115, R117: LNOW, LSET, LGET and LINS move loci, field by field; MFS reads the special registers, and MTS writes those that the core may write. -/
def Obligations.LociAndSpecialRegisters : Prop := ∀ (k : Core) (s : State) (x y : LocNo) (a b d : RegNo) (u : BitVec 2) (h : Bool) (r : BitVec 3) (sr : BitVec 4),
  let p := s.loc k.idx y
  let m := s.core k.idx
  let own := fun (n : Nat) => if k.isSq then 0 else n
  let v := (s.rd k.idx a).toNat
  (Issues k (.lnow k x r) s → ∃ q, Retires k (.lnow k x r) 1 s (fun c => c.putL x q) ∧ locRaster q = r.toNat ∧
    let z := (s.raster r.toNat).posAt (s.issueTick k.idx 1)
    locFrame q = z.frame % 2 ^ 26 ∧ locLine q = z.line % 2 ^ 12 ∧ locSlot q = z.slot % 2 ^ 16 ∧ locTick q = z.tick % 2 ^ 7) ∧
  (Issues k (.lset k x a b) s → Retires k (.lset k x a b) 1 s (fun c => c.putL x (BitVec.ofNat 64 (v * 2 ^ 32 + (s.rd k.idx b).toNat)))) ∧
  (Issues k (.lget k d y h) s → Retires k (.lget k d y h) 1 s (fun c => c.putW d (BitVec.ofNat 32 (if h then p.toNat / 2 ^ 32 else p.toNat % 2 ^ 32)))) ∧
  (Issues k (.lins k x y u b) s → ∃ q, Retires k (.lins k x y u b) 1 s (fun c => c.putL x q) ∧
    let n := (s.rd k.idx b).toNat
    locRaster q = locRaster p ∧ locTick q = (if u = 0#2 then n % 2 ^ 7 else locTick p) ∧ locSlot q = (if u = 1#2 then n % 2 ^ 16 else locSlot p) ∧
    locLine q = (if u = 2#2 then n % 2 ^ 12 else locLine p) ∧ locFrame q = (if u = 3#2 then n % 2 ^ 26 else locFrame p)) ∧
  (Issues k (.mfs k d sr) s → Retires k (.mfs k d sr) 1 s (fun c => c.putW d (BitVec.ofNat 32
    ([b2n m.z * 8 + b2n m.n * 4 + b2n m.c * 2 + b2n m.v, k.party.code, own m.epc, own m.eflags, own (b2n m.ie), if k.isSq then k.idx else 4].getD sr.toNat 0)))) ∧
  (Issues k (.mts k sr a) s → Retires k (.mts k sr a) 1 s (fun c =>
    if sr = 0#4 then { c with z := bitOf (s.rd k.idx a) 3, n := bitOf (s.rd k.idx a) 2, c := bitOf (s.rd k.idx a) 1, v := bitOf (s.rd k.idx a) 0 }
    else if k.isSq then c
    else if sr = 2#4 then { c with epc := v % imemWords k.idx } else if sr = 3#4 then { c with eflags := v % 16 }
    else if sr = 4#4 then { c with ie := decide (v % 2 = 1) } else c))

/-- R116: IRET loads the PC from EPC and the flags from EFLAGS and sets IE; on SUP it clears in_fault where that is 1, and in_irq otherwise. -/
def Obligations.IretReturns : Prop := ∀ (s : State) (i : Fin 2),
  let k := if i = 0 then Core.sup else Core.met
  let x := s.core k.idx
  let f := fun (c : CoreSt) => { c with pc := x.epc, z := decide (x.eflags / 8 % 2 = 1), n := decide (x.eflags / 4 % 2 = 1), c := decide (x.eflags / 2 % 2 = 1), v := decide (x.eflags % 2 = 1), ie := true }
  Issues k (.iret k) s → x.epc ≠ imemWords k.idx →
  (k = .met → Retires .met (.iret .met) 2 s f) ∧
  (k = .sup → RetiresRegs .sup (.iret .sup) 2 [PSC_SUP_STAT] s f (fun t =>
    t.bit PSC_SUP_STAT_in_fault = false ∧ t.bit PSC_SUP_STAT_in_irq = (s.bit PSC_SUP_STAT_in_irq && s.bit PSC_SUP_STAT_in_fault)))

/-- R118: LADV leaves in Lx what the pseudocode returns with the raster's active lengths, and Z and C with it, N and V clear; an unreachable locus is copied and V is set. -/
def Obligations.LadvFollowsPseudocode : Prop := ∀ (k : Core) (x y : LocNo) (u : BitVec 2) (imm : BitVec 12) (s : State),
  Issues k (.ladv k x y u imm) s →
  let p := s.loc k.idx y
  Retires k (.ladv k x y u imm) 1 s (fun c =>
    match ladvPseudo p (s.raster (locRaster p)).lineLen (s.raster (locRaster p)).frameLines u.toNat imm.toInt with
    | some (q, z, b) => { c.putL x q with z := z, n := false, c := b, v := false }
    | none => { c.putL x p with z := false, n := false, c := false, v := true })

/-- R79, R119: WAIT of a target that is unreachable, names a raster other than an SQ core's own, or is at or before the locus in each tick of its 2 cycles sets C and goes on; a
target that is after the locus in each of them suspends the core at the WAIT with the target kept; one that the locus reaches within them does either. WAIT_RESUME of a waiting
core clears C and moves on, ready from the first Pulon cycle that begins at or after the target's tick. (In which of its 8 ticks a WAIT is judged is free: log entry 30. That the
PC stays at the WAIT and that WAIT_RESUME moves it on: log entry 32. That Pulon cycles begin at the multiples of 4 ticks: log entry 10. That a command moves the clock on to its
event and never back: log entry 7.) -/
def Obligations.WaitAndResume : Prop := ∀ (k : Core) (y : LocNo) (s : State),
  let p := s.loc k.idx y
  let reached := fun (j : Nat) => unreachable p = true ∨ k.isSq = true ∧ locRaster p ≠ k.idx ∨ ordLocus p ((s.raster (locRaster p)).posAt (s.issueTick k.idx 2 + j)) ≠ .gt
  let goes := Retires k (.wait k y) 2 s (fun c => { c with c := true })
  let waits := Retires k (.wait k y) 2 s (fun c => { c with pc := (s.core k.idx).pc, waiting := some p })
  (Issues k (.wait k y) s → ((∀ j, j < 8 → reached j) → goes) ∧ ((∀ j, j < 8 → ¬ reached j) → waits) ∧ (goes ∨ waits)) ∧
  (∀ q d, (s.core k.idx).waiting = some q → s.dueTick q = some d → Normal s → (s.core k.idx).pc + 1 < imemWords k.idx →
    ∃ r, r % 4 = 0 ∧ max d (s.core k.idx).readyAt ≤ r ∧ r < max d (s.core k.idx).readyAt + 4 ∧
      Gives (.waitResume k) s (fun t => CoreOnly k s t ∧ t.now = max s.now r ∧
        t.core k.idx = { s.core k.idx with waiting := none, c := false, pc := (s.core k.idx).pc + 1, readyAt := r }))

/-- R81, R120–R123: EDGE, EDGEI and STRB commit one entry in their last tick. A target that is unreachable, names a raster other than an SQ core's own, or is at or before the
locus then is dropped and counted as late, with C; else an entry into a queue of 64 is dropped and counted as full, with C and V; else it is pending, with neither. -/
def Obligations.EntriesCommit : Prop := ∀ (i : Instr) (s : State) (k : Core) (e : QEntry), edgeEntry s i = some (k, e) → k ≠ .met → Issues k i s →
  let late := unreachable e.target = true ∨ k.isSq = true ∧ locRaster e.target ≠ k.idx ∨
    ordLocus e.target ((s.raster (locRaster e.target)).posAt (s.issueTick k.idx 2 + 7)) ≠ .gt
  let full := 64 ≤ (s.core k.idx).queue.length
  let cnt := fun (sq : Nat → Field) (sup : Field) => if k.isSq then sq k.idx else sup
  (late → let f := cnt PSC_SQ_CNT_late PSC_SUP_CNT_late
    RetiresRegs k i 2 [f.addr, PSC_EVT] s (fun c => { c with c := true, v := false }) (fun t =>
      t.reg f.addr = counted1 (s.reg f.addr) f ∧ t.reg PSC_EVT = orBit (s.reg PSC_EVT) PSC_EVT_late k.idx)) ∧
  (¬ late → full → let f := cnt PSC_SQ_CNT_full PSC_SUP_CNT_full
    RetiresRegs k i 2 [f.addr, PSC_EVT] s (fun c => { c with c := true, v := true }) (fun t =>
      t.reg f.addr = counted1 (s.reg f.addr) f ∧ t.reg PSC_EVT = orBit (s.reg PSC_EVT) PSC_EVT_full k.idx)) ∧
  (¬ late → ¬ full → Retires k i 2 s (fun c => { c with queue := c.queue ++ [e], c := false, v := false }))

/-- R92, R127: a CLAIM leaves a semaphore that is free with the core, one that is held with its holder, and C is 0 when the core then holds it; a FREE by the holder frees it
and clears C, any other FREE sets C and leaves it. Of two cores' claims of a free semaphore in one Pulon cycle the first in the order SQA, SQB, SQC, SQD, SUP holds it,
whichever the sender names first. SIG sets the signal bit of R99 and changes no flag. (In which cycle a command stands: log entries 7 and 10.)
R99: a signal of MET goes to its private controller and sets no bit of the PSC's. (Where the controller keeps it, and that an entry takes it: log entry 11.) -/
def Obligations.SemaphoresAndSignals : Prop :=
  (∀ (k : Core) (n : BitVec 5) (b : BitVec 3) (s : State),
  let code := 8 + k.party.code
  let sem := PSC_SEM n.toNat
  let cyc := s.issueTick k.idx 2 / 4 + 1
  let rest := Map.get (fun _ => ({} : SemOps)) s.arb.sems n.toNat
  let sets := fun (t : State) (w : Nat) (c : Bool) => t = { s with regs := t.regs, cores := t.cores, arb := t.arb, now := t.now, wall := t.wall, intc := t.intc, lines := t.lines } ∧ Follows s t ∧
    t.num sem = w ∧ t.reg PSC_SEM_BUSY = (if w = 0 then offBit else orBit) (s.reg PSC_SEM_BUSY) ⟨PSC_SEM_BUSY, 31, 0⟩ n.toNat ∧
    (∀ a, a ∉ [sem, PSC_SEM_BUSY] → t.reg a = s.reg a) ∧ t.core k.idx = { s.movedCore k 2 with c := c }
  k ≠ .met →
  (Issues k (.claim k n) s → rest.cycle ≠ cyc → Gives (.claim k n) s (fun t => (∀ j, j ≠ k.idx → t.core j = s.core j) ∧
    (if s.num sem = 0 then sets t code false else sets t (s.num sem) (s.num sem != code)))) ∧
  (Issues k (.free k n) s → rest.cycle ≠ cyc → Gives (.free k n) s (fun t => (∀ j, j ≠ k.idx → t.core j = s.core j) ∧
    (if s.num sem = code then sets t 0 false else sets t (s.num sem) true))) ∧
  (∀ j, Issues k (.claim k n) s → rest = { cycle := cyc, start := 0, claims := [j], frees := [] } → j < 5 → j ≠ k.idx → s.num sem = 8 + coreCode j →
    Gives (.claim k n) s (fun t => sets t (8 + coreCode (min j k.idx)) (decide (j < k.idx)) ∧ (t.core j).c = decide (k.idx < j))) ∧
  (Issues k (.sig k b) s →
    (k.isSq = true → RetiresRegs k (.sig k b) 1 [PSC_SIG] s id (fun t => t.reg PSC_SIG = orBit (s.reg PSC_SIG) ⟨PSC_SIG, 31, 0⟩ (8 * k.idx + b.toNat))) ∧
    (k = .sup → RetiresRegs k (.sig k b) 1 [PSC_SIG_SUP] s id (fun t => t.reg PSC_SIG_SUP = orBit (s.reg PSC_SIG_SUP) PSC_SIG_SUP_sup b.toNat)))) ∧
  (∀ (b : BitVec 3) (s : State), Issues .met (.sig .met b) s →
  Gives (.sig .met b) s (fun t => t = { s with cores := t.cores, now := t.now, wall := t.wall, intc := t.intc, lines := t.lines, men := { s.men with sig := s.men.sig ||| 2 ^ b.toNat } } ∧ Follows s t ∧
    t.core 5 = s.movedCore .met 1 ∧ ∀ j, j ≠ 5 → t.core j = s.core j))

/-- R124, R125, R371: PPX starts one unit of len + 1 bits, the low bits of Wa, where PPORT is enabled and idle, and clears C; its shift clocks are len + 1, or a nibble each on
the quad bus, its last nibble filled up with zeros. Elsewhere it sets C and starts nothing; of two units of one Pulon cycle the first in the order SQA, SQB, SQC, SQD, SUP is
issued, whichever the sender names first. PPS returns the core's last received value with Z, C and V. A receiving unit ends after its shift periods, leaves the bits received,
right-aligned and without those that fill a last nibble up, with its core alone, and the port idle. (When the first edge comes: log entry 36.)
R126: GSEL and GSELI set the select pins of their mask that are in the PPORT-select function and belong to the core, or to any core when SUP executes them, to the level,
but for a pin that SUP drives in the same Pulon cycle; every other pin stays.
An event moves the clock to its own tick (log entry 7). -/
def Obligations.PportAndSelectPins : Prop :=
  (∀ (k : Core) (a d : RegNo) (len : BitVec 5) (q rx : Bool) (s : State),
  let idle := s.sio.ppUnit = none ∧ s.sio.bulk = none
  let cyc := s.issueTick k.idx 2 / 4 + 1
  let behind := fun (u : PpUnit) => u.cycle = cyc ∧ k.idx < u.core
  let n := len.toNat + 1
  let clocks := if q then (n + 3) / 4 else n
  let unit : PpUnit := { core := k.idx, bits := n, quad := q, rx := rx, tx := BitVec.ofNat 32 ((s.rd k.idx a).toNat % 2 ^ n * 2 ^ ((if q then 4 * clocks else clocks) - n)),
                         clocks := clocks, edgeAt := s.issueTick k.idx 2 + 8 + s.get PPORT_CFG_div / 2, cycle := cyc, wasAborted := (s.core k.idx).ppAborted }
  let issued := fun (t : State) => t.sio = { s.sio with ppUnit := some unit } ∧
    t.core k.idx = { s.movedCore k 2 with c := false, ppAborted := false } ∧ t.bit PPORT_STAT_busy = true ∧ t.get PPORT_STAT_holder = k.party.code ∧
    t = { s with regs := t.regs, sio := t.sio, cores := t.cores, now := t.now, wall := t.wall, intc := t.intc, lines := t.lines } ∧ Follows s t ∧ ∀ r, r ≠ PPORT_STAT_busy.addr → t.reg r = s.reg r
  (Issues k (.ppx k a len q rx) s → s.bit PPORT_CFG_en = false ∨ s.sio.bulk ≠ none ∨ (∃ u, s.sio.ppUnit = some u ∧ ¬ behind u) →
    Retires k (.ppx k a len q rx) 2 s (fun c => { c with c := true })) ∧
  (Issues k (.ppx k a len q rx) s → s.bit PPORT_CFG_en = true → idle → Gives (.ppx k a len q rx) s (fun t => issued t ∧ ∀ j, j ≠ k.idx → t.core j = s.core j)) ∧
  (∀ u, Issues k (.ppx k a len q rx) s → s.bit PPORT_CFG_en = true → s.sio.ppUnit = some u → s.sio.bulk = none → behind u →
    Gives (.ppx k a len q rx) s (fun t => issued t ∧ (∀ j, j ≠ k.idx → j ≠ u.core → t.core j = s.core j) ∧
      t.core u.core = { s.core u.core with c := true, ppAborted := u.wasAborted })) ∧
  (Issues k (.pps k d) s → Retires k (.pps k d) 2 s (fun c =>
    { c with z := decide (s.sio.ppUnit = none ∧ s.sio.bulk = none), c := (match s.sio.ppUnit with | some u => u.core == k.idx | none => false), v := c.ppAborted }.putW d c.ppRx)) ∧
  (∀ u b, s.sio.ppUnit = some u → u.clocks = (if u.quad then (u.bits + 3) / 4 else u.bits) → Normal s → Gives (.pportUnitComplete (some b)) s (fun t =>
    let w := if u.quad then 4 * u.clocks else u.clocks
    t.sio = { s.sio with ppUnit := none } ∧ u.edgeAt + u.clocks * s.get PPORT_CFG_div < t.now ∧ s.now ≤ t.now ∧
    (t.core u.core).ppRx = (if u.rx then BitVec.ofNat 32 (b.toNat % 2 ^ w / 2 ^ (w - u.bits)) else (s.core u.core).ppRx) ∧
    (∀ j, j ≠ u.core → t.core j = s.core j) ∧ t.bit PPORT_STAT_busy = false ∧ ∀ r, r ≠ PPORT_STAT_busy.addr → t.reg r = s.reg r))) ∧
  (∀ (k : Core) (m : RegNo) (pin : BitVec 5) (lvl : Bool) (s : State) (i : Instr) (mask : Nat),
  (i = .gsel k m lvl ∧ mask = (s.rd k.idx m).toNat ∨ i = .gseli k pin lvl ∧ mask = 2 ^ pin.toNat) → k ≠ .met → Issues k i s →
  let bySup := fun (n : Nat) => k ≠ .sup ∧ s.sio.supDrove.1 = s.issueTick k.idx 1 / 4 ∧ s.sio.supDrove.2 / 2 ^ n % 2 = 1
  Gives i s (fun t => t = { s with sio := { s.sio with sel := t.sio.sel, supDrove := t.sio.supDrove }, cores := t.cores, now := t.now, wall := t.wall, intc := t.intc, lines := t.lines } ∧ Follows s t ∧
    t.core k.idx = s.movedCore k 1 ∧ (∀ j, j ≠ k.idx → t.core j = s.core j) ∧
    ∀ n, n < 32 → bitOf t.sio.sel n =
      if mask / 2 ^ n % 2 = 1 ∧ s.get (GPIO_FUN_func n) = 2 ∧ (k = .sup ∨ s.get (GPIO_FUN_core n) = k.party.code) ∧ ¬ bySup n then lvl else bitOf s.sio.sel n))

/-- R96, R128, R129, R131: FENCE of a lane, a port, a facet, a compression coder, a shutter channel, a housekeeping input, an NVS page or a CSI-2 receive port leaves the unit
fenced, with the cause of SUP's or MET's request where the unit has one, and clears C; a port goes with its core, and a shutter channel's gate is off. A unit already fenced keeps
its first cause (a lane whose lift waits for the next frame is fenced anew, and a port that SUP fenced in the same Pulon cycle takes MET's cause). An index outside the class, or a
unit that is not legally relevant when MET asks, sets C and fences nothing. A lift of the same lane or coder in the same Pulon cycle, by the other of SUP and MET, sees C = 1.
(In which cycle a command stands: log entries 7 and 10. The lane whose lift waits: log entry 39.)
R38, R84, R130, R131: FLIFT of a unit that is not fenced clears C and leaves the unit, to be fenced by a request that follows in the same Pulon cycle. FLIFT of an NVS page, of
an index outside the class, of a unit whose cause still holds (a lane whose self-test fails, a port whose fault input is low, an open housekeeping input), of a legally relevant
unit by SUP while the seal is not open, or of a port that a known-answer test fenced while it is not open, sets C and changes nothing. Any other lift clears C and the fence: a
lane's cause clears and the lane rejoins at the next frame, a port's core is ARMED with its hash running, and a facet, a coder, a shutter channel, a housekeeping input and a
CSI-2 receive port are unfenced. (No request of the same cycle fenced the unit. What a lift does to a port's core and a lane's bits, and the C of an index outside the class:
log entry 39. In which cycle a command stands: log entries 7 and 10.) -/
def Obligations.FencesAndLifts : Prop :=
  (∀ (k : Core) (r : Bool) (a : RegNo) (cls : BitVec 4) (w : BitVec 16) (s : State) (n : Nat),
  n = (if r then (s.rd k.idx a).toNat % 2 ^ 16 else w.toNat) →
  let i := Instr.fence k cls r a w
  let cyc := s.issueTick k.idx 2 / 4 + 1
  let meets := fun (l : LiftRec) => l.cls = cls.toNat ∧ l.i = n ∧ l.cycle = cyc
  let held := s.laneFenced (n / 32) (n % 32) = true ∧ (s.port (n / 32)).liftWait / 2 ^ (n % 32) % 2 = 0
  let cause := if k = .met then 5 else 4
  let done := fun (t : State) => (t.core k.idx).c = false
  Issues k i s →
  ((∀ l, s.arb.lift = some l → ¬ meets l) →
    (cls = 0#4 → n < 128 → Gives i s (fun t => t.laneFenced (n / 32) (n % 32) = true ∧ done t ∧
      (held → t.regs = s.regs) ∧ (¬ held → t.get (LCA_LANE_CTL_cause n) = cause) ∧
      ∀ x, x ∉ [LCA_FENCED (n / 32), LCA_LANE_CTL n, LCA_EVT] → t.reg x = s.reg x)) ∧
    (cls = 1#4 → n < 4 → s.sqState n ≠ 3 → (s.stream n).writing = false → Gives i s (fun t => t.sqState n = 3 ∧ done t ∧
      t.num (PSC_SQ_CAUSE n) = (s.core n).pc % 4096 * 65536 + cause ∧ t.bit PSC_EVT_fenced n = true ∧ (t.core n).queue = [] ∧
      t.bit (FPP_STAT_fenced n) = true ∧ t.bit (FPP_CTL_live n) = false)) ∧
    (cls = 1#4 → n < 4 → s.sqState n = 3 → Gives i s (fun t => done t ∧
      (k = .met ∧ s.get (PSC_SQ_CAUSE_cause n) = 4 ∧ s.lastFence = some (1, n, cyc) ∧ s.arb.fresh = true → t.get (PSC_SQ_CAUSE_cause n) = 5 ∧ ∀ x, x ≠ PSC_SQ_CAUSE n → t.reg x = s.reg x) ∧
      (¬ (k = .met ∧ s.get (PSC_SQ_CAUSE_cause n) = 4 ∧ s.lastFence = some (1, n, cyc) ∧ s.arb.fresh = true) → t.regs = s.regs))) ∧
    (cls = 2#4 → n < 6 → k = .sup → Gives i s (fun t => t.bit (IPL_F_STAT_fenced n) = true ∧ done t)) ∧
    (cls = 3#4 → n < 2 → Gives i s (fun t => t.bit CER_STAT_coder n = true ∧ done t ∧
      (s.bit CER_STAT_coder n = true → t.regs = s.regs) ∧ ∀ x, x ∉ [CER_STAT, CER_EVT2] → t.reg x = s.reg x)) ∧
    (cls = 4#4 → n < 8 → k = .sup → Gives i s (fun t => t.bit SDR_FENCED_channels n = true ∧ done t ∧ (s.bit SDR_FENCED_channels n = true → t.regs = s.regs) ∧
      (s.bit SDR_FENCED_channels n = false → t.get (SDR_CH_STAT_last n) = 3 ∧ t.bit (SDR_CH_STAT_gate n) = false))) ∧
    (cls = 5#4 → n < 24 → k = .sup → Gives i s (fun t => t.bit HKT_FENCED_inputs n = true ∧ done t)) ∧
    (cls = 6#4 → n < 2048 → (k = .met → partition n = 1) → Gives i s (fun t => t.isRetired n = true ∧ done t ∧ (s.isRetired n = true → t.regs = s.regs ∧ t.nvs = s.nvs) ∧
      (s.isRetired n = false → (t.pageMeta n).retired = 2 ∧ t.bit NVS_EVT_retire = true))) ∧
    (cls = 7#4 → n < 2 → k = .sup → Gives i s (fun t => t.bit (VIO_RX_STAT_fenced n) = true ∧ done t ∧ (s.bit (VIO_RX_STAT_fenced n) = true → t.regs = s.regs) ∧
      (s.bit (VIO_RX_STAT_fenced n) = false → t.get (VIO_RX_STAT_fence n) = 2)))) ∧
  (cls = 0#4 ∨ cls = 3#4 → n < (if cls = 0#4 then 128 else 2) → ∀ l, s.arb.lift = some l → meets l → l.core ≠ k.idx →
    Gives i s (fun t => done t ∧ (t.core l.core).c = true ∧ t.arb.lift = none)) ∧
  ([128, 4, 6, 2, 8, 24, 2048, 2].getD cls.toNat 0 ≤ n ∨ k = .met ∧ (cls.toNat ∈ [2, 4, 5, 7] ∨ cls = 6#4 ∧ partition n ≠ 1) → Retires k i 2 s (fun c => { c with c := true }))) ∧
  (∀ (k : Core) (r : Bool) (a : RegNo) (cls : BitVec 4) (w : BitVec 16) (s : State) (n : Nat),
  n = (if r then (s.rd k.idx a).toNat % 2 ^ 16 else w.toNat) →
  let i := Instr.flift k cls r a w
  let cyc := s.issueTick k.idx 2 / 4 + 1
  let refused := Retires k i 2 s (fun c => { c with c := true })
  let lifted := fun (P : State → Prop) => Gives i s (fun t => (t.core k.idx).c = false ∧ P t)
  let fenced := match cls.toNat with
    | 0 => s.laneFenced (n / 32) (n % 32)
    | 1 => decide (s.sqState n = 3)
    | 2 => s.bit (IPL_F_STAT_fenced n)
    | 3 => s.bit CER_STAT_coder n
    | 4 => s.bit SDR_FENCED_channels n
    | 5 => s.bit HKT_FENCED_inputs n
    | _ => s.bit (VIO_RX_STAT_fenced n)
  let pinLow := s.get (PSC_SQ_CAUSE_cause n) = 6 ∧ (s.port n).fltLow = true ∧ s.bit (FPP_FLT_CFG_en n) = true
  let ka := s.frozen = true ∧ (s.facetMen n).katFence = true
  Issues k i s → s.lastFence ≠ some (cls.toNat, n, cyc) →
  ([128, 4, 6, 2, 8, 24, 2048, 2].getD cls.toNat 0 ≤ n ∨ cls = 6#4 ∨ k = .met ∧ cls.toNat ∈ [2, 4, 5, 7] → refused) ∧
  (n < [128, 4, 6, 2, 8, 24, 0, 2].getD cls.toNat 0 → (k = .met → cls.toNat ∈ [0, 1, 3]) →
    (fenced = false → Gives i s (fun t => t = { s with cores := t.cores, arb := { s.arb with lift := t.arb.lift }, now := t.now, wall := t.wall, intc := t.intc, lines := t.lines } ∧
      Follows s t ∧ (∀ j, j ≠ k.idx → t.core j = s.core j) ∧ t.core k.idx = { s.movedCore k 2 with c := false } ∧
      ∃ l, t.arb.lift = some l ∧ l.cls = cls.toNat ∧ l.i = n ∧ l.cycle = cyc ∧ l.core = k.idx)) ∧
    (fenced = true → cls.toNat ∈ [0, 1, 3] → s.frozen = true → k ≠ .met → refused) ∧
    (fenced = true → (s.frozen = true → cls.toNat ∈ [0, 1, 3] → k = .met) →
      (cls = 0#4 → (s.bit (LCA_LANE_CTL_st_fail n) = true → refused) ∧
        (s.bit (LCA_LANE_CTL_st_fail n) = false → lifted (fun t => t.get (LCA_LANE_CTL_cause n) = 0 ∧ (t.port (n / 32)).liftWait / 2 ^ (n % 32) % 2 = 1 ∧
          ∀ x, x ≠ LCA_LANE_CTL n → t.reg x = s.reg x))) ∧
      (cls = 1#4 → (pinLow ∨ ka → refused) ∧
        (¬ pinLow → ¬ ka → lifted (fun t => t.sqState n = 1 ∧ t.bit (PSC_SQ_STAT_hashing n) = true ∧ t.bit (FPP_STAT_fenced n) = false ∧
          ∀ x, x ∉ [PSC_SQ_STAT n, FPP_STAT n] → t.reg x = s.reg x))) ∧
      (cls = 2#4 → lifted (fun t => t.bit (IPL_F_STAT_fenced n) = false ∧ t.get (IPL_F_STAT_cause n) = 0)) ∧
      (cls = 3#4 → lifted (fun t => t.bit CER_STAT_coder n = false ∧ ∀ x, x ≠ CER_STAT → t.reg x = s.reg x)) ∧
      (cls = 4#4 → lifted (fun t => t.bit SDR_FENCED_channels n = false ∧ t.bit (SDR_CH_STAT_fenced n) = false)) ∧
      (cls = 5#4 → (s.bit HKT_OPEN_inputs n = true → refused) ∧ (s.bit HKT_OPEN_inputs n = false → lifted (fun t => t.bit HKT_FENCED_inputs n = false))) ∧
      (cls = 7#4 → lifted (fun t => t.bit (VIO_RX_STAT_fenced n) = false ∧ t.get (VIO_RX_STAT_fence n) = 0 ∧ ∀ x, x ∉ [VIO_RX_STAT n, VIO_STAT] → t.reg x = s.reg x)))))

/-- R82: a pending request that SUP's controller shows is taken at the next instruction boundary while IE is 1: EPC and EFLAGS keep the PC and the flags, IE clears, a wait
is abandoned, SUP goes on at PSC_SUP_VEC.ivec and in_irq reads 1. MET follows the same rules with its private controller while a signal of its own waits there, goes on at an index
that the spec does not give, and runs so in a system reset too. (That EPC at a wait is the WAIT's own index: log entry 32. That Pulon cycles begin at the multiples of 4 ticks: log
entry 10. MET's controller, and that the entry takes its signals: log entry 11.)
R83, R96, R108: a word that a core may not execute occupies one Pulon cycle and faults it. On SUP PSC_SUP_FAULT holds the PC and cause 1, and SUP enters its fault handler; on
an SQ core the port is fenced with the core, and PSC_SQx_CAUSE holds the PC and cause 2; on MET, whose words the spec does not give (log entry 9), the enclave is reset: MET no
longer runs, the alarm pins are inactive, MEN_RSTCNT counts, and nothing outside the enclave changes. -/
def Obligations.CoreTraps : Prop :=
  (∀ (s : State) (k : Core) (r : Nat), r % 4 = 0 → max s.now (s.core k.idx).readyAt ≤ r → r < max s.now (s.core k.idx).readyAt + 4 →
  s.hk.shdn = none → (s.core k.idx).ie = true →
  let x := s.core k.idx
  let entered := fun (t : State) (pc : Nat) => t.now = r ∧ (∀ j, j ≠ k.idx → t.core j = s.core j) ∧
    t.core k.idx = { x with epc := x.pc, eflags := x.flags, ie := false, waiting := none, pc := pc, readyAt := r }
  (k = .sup → s.hold = .none → Settled s → s.lines.sup = true → s.bit PSC_SUP_STAT_halted = false →
    Gives (.supInterruptEntry k) s (fun t => t = { s with regs := t.regs, cores := t.cores, now := t.now, wall := t.wall, intc := t.intc, lines := t.lines } ∧ Follows s t ∧
      entered t (s.get PSC_SUP_VEC_ivec) ∧ t.reg PSC_SUP_STAT = orBit (s.reg PSC_SUP_STAT) PSC_SUP_STAT_in_irq 0 ∧ ∀ a, a ≠ PSC_SUP_STAT → t.reg a = s.reg a)) ∧
  (k = .met → s.hold = .none ∨ s.hold = .system → s.variantM = true → s.men.sig ≠ 0 →
    Gives (.supInterruptEntry k) s (fun t => t = { s with men := { s.men with sig := 0 }, freeCtr := t.freeCtr, cores := t.cores, now := t.now, wall := t.wall, intc := t.intc, lines := t.lines } ∧
      Follows s t ∧ ∃ v, entered t v))) ∧
  (∀ (s : State) (k : Core), s.executing k = true → (k ≠ .met → decodePulon k (s.fetchWord k.idx (s.core k.idx).pc) = none) →
  s.hk.shdn = none →
  let x := s.core k.idx
  let last := s.issueTick k.idx 1 + 3
  (k = .sup → s.bit PSC_SUP_STAT_rom = false → s.bit PSC_SUP_STAT_in_fault = false →
    Gives (.illegalInstruction k) s (fun t => t = { s with regs := t.regs, cores := t.cores, now := t.now, wall := t.wall, intc := t.intc, lines := t.lines } ∧ Follows s t ∧
      t.now = last ∧ t.num PSC_SUP_FAULT = x.pc % 2 ^ 15 * 65536 + 1 ∧ t.reg PSC_SUP_STAT = orBit (s.reg PSC_SUP_STAT) PSC_SUP_STAT_in_fault 0 ∧
      (∀ a, a ∉ [PSC_SUP_FAULT, PSC_SUP_STAT] → t.reg a = s.reg a) ∧ (∀ j, j ≠ 4 → t.core j = s.core j) ∧
      t.core 4 = { x with epc := x.pc, eflags := x.flags, ie := false, waiting := none, pc := s.get PSC_SUP_VEC_fvec, readyAt := last + 1 })) ∧
  (∀ q : Port, k = Core.ofPort q → (s.stream q).writing = false → Gives (.illegalInstruction k) s (fun t => t.now = last ∧ t.sqState q = 3 ∧
    t.num (PSC_SQ_CAUSE q) = x.pc % 4096 * 65536 + 2 ∧ t.bit PSC_EVT_fenced q = true ∧ (t.core q).queue = [] ∧ (∀ r, t.rd q r = s.rd q r) ∧
    t.bit (FPP_STAT_fenced q) = true ∧ t.bit (FPP_CTL_live q) = false)) ∧
  (k = .met → Gives (.illegalInstruction k) s (fun t => t.now = last ∧ t.metUp = false ∧ t.get MEN_STAT_state = 0 ∧ t.num MEN_RSTCNT = min 0xFFFF (s.num MEN_RSTCNT + 1) ∧
    t.lines.malarm = (List.range 4).foldl (fun m j => m + b2n (t.pinPolarity j) * 2 ^ j) 0 ∧ t.core 5 = { readyAt := last } ∧ (∀ j, j ≠ 5 → t.core j = s.core j) ∧
    (∀ a, a / 0x1000 ≠ 0x12 → t.reg a = s.reg a) ∧ t.dmem = s.dmem ∧ t.dram = s.dram ∧ t.nvs.arr = s.nvs.arr ∧ t.rasters = s.rasters)))

/-- R81, R94, R122, R123: the pending entries of a core that are due first fire together in their target tick and leave the queue, in commit order: an edge entry of an SQ core
sets the outputs of its mask to its level, so that of several the one committed last decides, a strobe entry begins its run, and an edge entry of SUP sets the pins of its mask
that are in the timed-output function. (That the command moves the clock on to that tick and never back: log entry 7.) -/
def Obligations.EntriesFire : Prop := ∀ (k : Core) (s : State) (d : Nat), k ≠ .met → Normal s →
  let q := (s.core k.idx).queue
  let due := fun (e : QEntry) => decide (s.dueTick e.target = some d)
  (∃ e ∈ q, s.dueTick e.target = some d) → (∀ e ∈ q, ∀ x, s.dueTick e.target = some x → d ≤ x) →
  let last := fun (j : Nat) => (q.filter (fun e => due e && e.kind == .edge && e.mask.getLsbD j)).getLast?
  Gives (.edgeEntryFire k) s (fun t => t.now = max s.now d ∧ (t.core k.idx).queue = q.filter (fun e => !due e) ∧ (∀ j, j ≠ k.idx → t.core j = s.core j) ∧ t.regs = s.regs ∧
    (k.isSq = true → ∀ j, j < 12 → ((t.port k.idx).lvl / 2 ^ j % 2 = 1 ↔ match last j with | some e => e.lvl = true | none => (s.port k.idx).lvl / 2 ^ j % 2 = 1)) ∧
    (k.isSq = true → (t.port k.idx).runs = (s.port k.idx).runs ++ (q.filter (fun e => due e && e.kind == .strobe)).map (fun e =>
      { kind := bitsOf e.mask 11 8, left := bitsOf e.mask 7 0 + 1, slot := locSlot e.target, tick := locTick e.target, bornAt := d, done := 0 })) ∧
    (k = .sup → (∀ e ∈ q, e.kind = .edge) → ∀ j, j < 32 → bitOf t.sio.timed j = match last j with
      | some e => if s.get (GPIO_FUN_func j) = 3 then e.lvl else bitOf s.sio.timed j
      | none => bitOf s.sio.timed j))

/-! ## Register writes (spec 00 and 01) -/

/-- R9, R18, R31: a write by a party that does not own the register's group changes nothing, whichever command it is: no register, no part of the state, no source in service and
no line, but for R403's watch of the accesses to a block. (MET's copy of the NVS block in its private space, log entry 11, is no group's register.) -/
def Obligations.NonOwnerWriteIgnored : Prop := ∀ (i : Instr) (s : State) (who : Party) (a : Nat),
  writeTarget i = some (who, a) → s.owns who.code a = false → (who = .met → metNvs a = none) → s.heldHalf who.code = none → Normal s → Gives i s (Quiet s)

/-- R9: the owner's write of a read-write register with no rule of its own replaces the bits that its fields cover, keeps the reserved ones and changes nothing else, the
register given with the mask of its fields, for nine registers. R11, R244, R251: a write of a sealed register while the seal is open replaces its fields in the same way, for six
registers, and on a part with the enclave MET notes a change under the register's class and the identity is stale. (What makes the identity stale: log entry 18.) -/
def Obligations.OwnerWriteTakesEffect : Prop := ∀ (s : State) (who : Party) (v : W32) (a : Nat) (m : W32),
  let new := (s.reg a &&& ~~~m) ||| (v &&& m)
  ((a, m) ∈ plainRegs → Writes s who a → Gives (.registerWrite who (BitVec.ofNat 24 a) v) s (fun t => RegsOnly [a] s t ∧ t.reg a = new)) ∧
  (∀ cls, (a, m, cls) ∈ [(FPP_IDLE 0, 0xFFF#32, 1), (FPP_BIAS 3, 0xFFFF#32, 1), (FPP_PWR_SETTLE 2, 0xFFF#32, 1), (PCE_DRIFT_REF 1, 0xFFFFF#32, 3), (CSU_UPD 2, 0xFFFFFF#32, 4),
      (CSU_RESP_REF 0, 0xFFFF#32, 4)] → Writes s who a → s.frozen = false →
    Gives (.registerWrite who (BitVec.ofNat 24 a) v) s (fun t => t = { s with regs := t.regs, men := { s.men with opens := t.men.opens }, intc := t.intc, lines := t.lines } ∧ Follows s t ∧
      t.reg a = new ∧ (∀ x, x ≠ a → x ≠ MEN_STAT → t.reg x = s.reg x) ∧
      (s.variantM = true ∧ new ≠ s.reg a → t.reg MEN_STAT = orBit (s.reg MEN_STAT) MEN_STAT_ident_stale 0 ∧
        ∃ e ∈ t.men.opens, e.cls = cls ∧ e.item = a ∧ e.new = new.toNat ∧ e.frame = s.men.frames) ∧
      (¬ (s.variantM = true ∧ new ≠ s.reg a) → t.men.opens = s.men.opens ∧ t.reg MEN_STAT = s.reg MEN_STAT)))

/-- R9, R10, R49: the owner's write to an event register, or to SCA_RST_CAUSE, clears the bits that it writes as 1 and no other, each register given with the mask of its bits; the
latch of RTB_EVT.subst clears with its bit, and is set anew where a substitution begins. (A band of the image pipeline that waits for its time apart.)
R36: a write of all ones to a counter field clears it, and any other value leaves it. -/
def Obligations.ClearingWrites : Prop :=
  (∀ (s : State) (who : Party) (v : W32),
  (Writes s who RTB_EVT → Gives (.registerWrite who (BitVec.ofNat 24 RTB_EVT) v) s (fun t => t = { s with regs := t.regs, intc := t.intc, lines := t.lines } ∧
    Follows { s with lines := { s.lines with substEvt := s.lines.substEvt && !bitOf v 26 } } t ∧ t.reg RTB_EVT = s.reg RTB_EVT &&& ~~~(v &&& 0x71F1F1F#32) ∧
    ∀ a, a ≠ RTB_EVT → t.reg a = s.reg a)) ∧
  ∀ (a : Nat) (m : W32), (a, m) ∈ [(SCA_EVT, 0x7F#32), (SCA_RST_CAUSE, 0xFF#32), (MEM_EVT, 0x1F0F1F#32), (HKT_WEVT, 0xFFFFFFF#32), (HKT_REVT, 0xFFFFFFF#32), (HKT_OEVT, 0xFFFFFF#32), (PSC_EVT, 0xFF3F1F1F#32), (FPP_EVT 0, 0x3F#32), (LCA_EVT, 0x1F#32), (PCE_EVT, 0x3FFFFF#32), (CSU_EVT, 0xFFFFFFFF#32), (IPL_EVT0, 0x3F3F3F3F#32),
    (IPL_EVT1, 0x13F3F3F#32), (CER_EVT0, 0xFFFFFFFF#32), (CER_EVT1, 0xFFFF#32), (CER_EVT2, 0x303FFFF#32), (NVS_EVT, 0x7F#32), (HKT_EVT, 0x17F#32), (SDR_EVT, 0xFFFFFFFF#32),
    (SIO_EVT, 0x7F#32), (GPIO_EVT, 0xFFFFFFFF#32), (VIO_EVT, 0x7FF#32)] →
  Writes s who a → (0x9000 ≤ a ∧ a < 0xB000 → s.ipl.chosen = none) →
  Gives (.registerWrite who (BitVec.ofNat 24 a) v) s (fun t => RegsOnly [a] s t ∧ t.reg a = s.reg a &&& ~~~(v &&& m))) ∧
  (∀ (s : State) (who : Party) (v : W32) (f : Field),
  f ∈ [PSC_SQ_CNT_late 0, PSC_SQ_CNT_full 2, PSC_SUP_CNT_late, PSC_SUP_CNT_full, RTB_SLIP_CNT_clamped 4, LCA_STRAY_CNT_stray 1, CSU_CNT_shutter 3, CER_S_CNT_vfail 15,
    SDR_CH_CNT_overcurrent 7, HPORT_CNT_crc, VIO_RX_CNT_hdr 0] → Writes s who f.addr →
  Gives (.registerWrite who (BitVec.ofNat 24 f.addr) v) s (fun t => RegsOnly [f.addr] s t ∧
    t.get f = (if bitsOf v f.hi f.lo = 2 ^ (f.hi - f.lo + 1) - 1 then 0 else s.get f)))

/-- R9, R11, R244: with the seal not open, the owner's write to a sealed register changes no register but the class's rejection counter, and MET notes it.
R244: the audit entries that frames of H before the present one have opened are committed, each with its number and counted in its class's audit counter, and those of the
present frame stay open; nothing but the trail, its registers and what settles changes. -/
def Obligations.SealedWritesAndAudit : Prop :=
  (∀ (s : State) (who : Party) (v : W32) (a cls : Nat),
  (a, cls) ∈ [(CSU_GATE 0, 4), (CSU_FF_CFG 1, 4), (PCE_WEDGE_CFG, 3), (FPP_FLT_CFG 2, 1)] → Writes s who a → s.frozen = true →
  Gives (.registerWrite who (BitVec.ofNat 24 a) v) s (fun t =>
    t.reg (MEN_REJ_rejections cls).addr = counted1 (s.reg (MEN_REJ_rejections cls).addr) (MEN_REJ_rejections cls) ∧
    (∀ x, x ≠ (MEN_REJ_rejections cls).addr → t.reg x = s.reg x) ∧ t.men.opens.any (fun e => e.cls == cls && e.item == a) = true)) ∧
  (∀ (s : State), s.hold = .none ∨ s.hold = .system → s.hk.shdn = none →
  let due := s.men.opens.filter (fun e => decide (e.frame < s.men.frames))
  Gives .auditCommit s (fun t => t.men.opens = s.men.opens.filter (fun e => !decide (e.frame < s.men.frames)) ∧ t.men.entries = s.men.entries + due.length ∧
    (∀ c, c < 12 → t.num (MEN_AUDCNT c) = min 0xFFFF_FFFF (s.num (MEN_AUDCNT c) + (due.filter (fun e => e.cls == c)).length)) ∧
    t = { s with regs := t.regs, men := { s.men with opens := t.men.opens, entries := t.men.entries, trail := t.men.trail }, intc := t.intc, lines := t.lines } ∧ Follows s t))

/-- R19–R21: the party that owns the register PSC_OWNn, which is SUP for every group (R19), may hand group n to a party that the table permits, and any other code leaves it; for
the groups that the seal never freezes. -/
def Obligations.OwnershipChanges : Prop := ∀ (s : State) (who : Party) (n : Fin 32) (v : W32),
  ¬ (5 ≤ n.val ∧ n.val ≤ 15) → n.val ≠ 25 → n.val ≠ 26 → Writes s who (PSC_OWN n) →
  let c := v.toNat % 8
  let ok := if n.val ∈ [0, 3, 16, 17, 21, 24, 28] then c ≤ 1 else if n.val ∈ [1, 22] then c = 0 else if n.val ∈ [29, 30, 31] then False else c = 1
  Gives (.ownershipWrite who n v) s (fun t => RegsOnly [PSC_OWN n] s t ∧ t.num (PSC_OWN n) = if ok then c else s.num (PSC_OWN n))

/-! ## Raster time (spec 02) -/

/-- R41: when a line that is not its frame's last ends, the raster's next line starts in the tick at which it ended; no other raster moves and the frame goes on.
R41, R42: when the last line of a free-running raster's frame ends, its next frame starts in that tick: the frame counter advances, the epoch with its wrap, the line
counter restarts, and an armed pair of lengths becomes active.
An event moves the clock to its own tick (log entry 7). -/
def Obligations.LinesAndFramesStart : Prop :=
  (∀ (r : Raster) (s : State), Normal s →
  let x := s.raster r.idx
  x.running = true → x.line + 1 < x.frameLines → x.cutAt = none →
  Gives (.rasterLineStart r) s (fun t => t.raster r.idx = { x with line := x.line + 1, lineAt := x.lineAt + 96 * x.lineLen, prev := some (x.lineAt, x.frame, x.line) } ∧ x.lineAt + 96 * x.lineLen ≤ t.now ∧
    ∀ j, j ≠ r.idx → t.raster j = s.raster j)) ∧
  (∀ (r : Raster) (s : State), Normal s →
  let x := s.raster r.idx
  x.running = true → x.frameLines ≤ x.line + 1 → x.cutAt = none → x.src = 7 → x.lockState = 0 → x.lockPending = false → s.bit (RTB_CTL_run r.idx) = true →
  Gives (.rasterFrameStart r) s (fun t => let y := t.raster r.idx
    y.running = true ∧ y.frame = (x.frame + 1) % 2 ^ 32 ∧ y.epoch = (if (x.frame + 1) % 2 ^ 32 = 0 then (x.epoch + 1) % 2 ^ 16 else x.epoch) ∧ y.line = 0 ∧
    y.lineAt = x.lineAt + 96 * x.lineLen ∧ x.lineAt + 96 * x.lineLen ≤ t.now ∧
    y.lineLen = (if s.bit (RTB_CTL_arm r.idx) then s.get (RTB_LINE_LEN_shadow r.idx) else x.lineLen) ∧
    y.frameLines = (if s.bit (RTB_CTL_arm r.idx) then s.get (RTB_FRAME_LINES_shadow r.idx) else x.frameLines)))

/-- R43: a write of run = 1 starts a stopped port raster with no lock source at the next tick from the locus it holds, and holds one with a lock source until its first
alignment moment; a write of run = 0 lets the frame in hand complete. Raster H takes neither. -/
def Obligations.RastersRunAndStop : Prop := ∀ (who : Party) (r : Raster) (s : State), Writes s who (RTB_CTL r.idx) →
  let x := s.raster r.idx
  (r ≠ .h → x.running = false → x.holding = false →
    (x.src = 7 → x.lockState = 0 → Gives (.rasterRun who r false) s (fun t => let y := t.raster r.idx
      y.running = true ∧ y.frame = x.frame ∧ y.line = 0 ∧ y.lineAt = s.now + 1 ∧ t.bit (RTB_CTL_run r.idx) = true)) ∧
    (x.src ≠ 7 → Gives (.rasterRun who r false) s (fun t => t.raster r.idx = { x with holding := true, aligns := [] } ∧ t.bit (RTB_CTL_run r.idx) = true))) ∧
  (r ≠ .h → x.holding = false → Gives (.rasterStop who r false) s (fun t => RegsOnly [RTB_CTL r.idx] s { t with rasters := s.rasters } ∧
    t.bit (RTB_CTL_run r.idx) = false ∧ t.raster r.idx = x)) ∧
  (Gives (.rasterRun who .h false) s (RegsOnly [] s)) ∧
  (Gives (.rasterStop who .h false) s (RegsOnly [] s))

/-- R50: a lock write that closes no loop takes effect at once on a stopped raster, discarding the pending alignment moments, into ACQUIRE or, with no source, OFF; a running
raster keeps its settings until its next frame; one that names the raster itself, or one that follows it, is ignored in full. (Raster H may follow a source too: log entry 21.)
R54, R56, R58: at the last line of every N-th frame of a follower that is LOCKED, or acquires by steering: an alignment moment before e_min ends the line at e_min and one
after e_max at e_max, both slips, which LOCKED counts; one between ends it there and locks an acquiring follower; with none pending the line ends at its length and the miss
is counted, and the last of lose misses in LOCKED loses the lock. (That RTB_EVT.slip latches where LOCKED counts, and nowhere else: log entry 21.)
R57: in ACQUIRE by restart a running follower starts a frame at the first alignment moment after ACQUIRE was entered, LOCKED, truncating the frame in hand, which is
counted where the moment is not its end.
An event moves the clock to its own tick (log entry 7). -/
def Obligations.LocksFollow : Prop :=
  (∀ (who : Party) (r : Raster) (v : W32) (s : State), Writes s who (RTB_LOCK r.idx) →
  let x := s.raster r.idx
  let src := bitsOf v 2 0
  (src ∈ [5, 7] ∨ src < 5 ∧ src ≠ r.idx ∧ 5 ≤ s.get (RTB_LOCK_src src) → bitsOf v 11 8 ≠ 0 →
    (x.running = false → Gives (.lockWrite who r v) s (fun t => let y := t.raster r.idx
      y.src = src ∧ y.acq = bitsOf v 3 3 ∧ y.ratio = bitsOf v 7 4 ∧ y.lose = bitsOf v 11 8 ∧ y.window = bitsOf v 19 12 ∧ y.aligns = [] ∧
      y.lockState = (if src = 7 then 0 else 1) ∧ y.running = false ∧ y.frame = x.frame ∧ ∀ a, a ≠ RTB_LOCK r.idx → t.reg a = s.reg a)) ∧
    (x.running = true → Gives (.lockWrite who r v) s (fun t => t.raster r.idx = { x with lockPending := true } ∧ t.get (RTB_LOCK_src r.idx) = src))) ∧
  (src = r.idx ∨ src < 5 ∧ s.get (RTB_LOCK_src src) = r.idx → Gives (.lockWrite who r v) s (Quiet s))) ∧
  (∀ (r : Raster) (s : State), Normal s →
  let x := s.raster r.idx
  let n := x.lineAt + 96 * x.lineLen
  let lo := n - 96 * min x.window (x.lineLen - 8)
  let hi := n + 96 * min x.window (65535 - x.lineLen)
  let slip := fun (t : State) => if x.lockState = 2 then
      t.reg (RTB_SLIP_CNT_clamped r.idx).addr = counted1 (s.reg (RTB_SLIP_CNT_clamped r.idx).addr) (RTB_SLIP_CNT_clamped r.idx) ∧ t.bit RTB_EVT_slip r.idx = true else t.regs = s.regs
  x.running = true → x.frameLines ≤ x.line + 1 → (x.sinceAlign + 1) % (x.ratio + 1) = 0 → (x.lockState = 2 ∨ x.lockState = 1 ∧ x.acq = 1) → x.cutAt = none →
  (∀ a l, x.aligns = a :: l →
    (a < lo → Gives (.lockLineEnd r) s (fun t => (t.raster r.idx).cutAt = some lo ∧ (t.raster r.idx).aligns = l ∧ slip t)) ∧
    (hi < a → Gives (.lockLineEnd r) s (fun t => (t.raster r.idx).cutAt = some hi ∧ (t.raster r.idx).aligns = l ∧ slip t)) ∧
    (lo ≤ a → a ≤ hi → Gives (.lockLineEnd r) s (fun t => (t.raster r.idx).cutAt = some a ∧ (t.raster r.idx).aligns = l ∧ (t.raster r.idx).lockState = 2 ∧
      (t.raster r.idx).lastCorr = (a : Int) - n ∧ (x.lockState = 1 → t.bit RTB_EVT_acq r.idx = true)))) ∧
  (x.aligns = [] → Gives (.lockLineEnd r) s (fun t => (t.raster r.idx).cutAt = some n ∧
    t.reg (RTB_MISS_CNT_missed r.idx).addr = counted1 (s.reg (RTB_MISS_CNT_missed r.idx).addr) (RTB_MISS_CNT_missed r.idx) ∧
    ((t.raster r.idx).lockState = if x.lockState = 2 ∧ x.lose ≤ x.missRun + 1 then 3 else x.lockState) ∧
    (x.lockState = 2 → x.lose ≤ x.missRun + 1 → t.bit RTB_EVT_lost r.idx = true)))) ∧
  (∀ (r : Raster) (s : State) (a : Nat) (l : List Nat), Normal s →
  let x := s.raster r.idx
  x.running = true → x.holding = false → x.lockState = 1 → x.acq = 0 → x.src < 6 → x.src ≠ r.idx → x.lockPending = false → s.bit (RTB_CTL_run r.idx) = true →
  x.aligns = a :: l → x.acqAt < a → s.now ≤ a → x.lineEnd ≠ a →
  Gives (.acquireRestart r) s (fun t => let y := t.raster r.idx
    y.lockState = 2 ∧ y.frame = (x.frame + 1) % 2 ^ 32 ∧ y.line = 0 ∧ y.lineAt = a ∧ a ≤ t.now ∧
    t.get (RTB_TRUNC_CNT_frames r.idx) = min (2 ^ ((RTB_TRUNC_CNT_frames r.idx).hi - (RTB_TRUNC_CNT_frames r.idx).lo + 1) - 1) (s.get (RTB_TRUNC_CNT_frames r.idx) + 1)))

/-- R60: while FSYNC is an input a leading edge is timestamped; a pulse that stays active for min_width slots is accepted, and RTB_FSYNC_PERIOD holds the ticks between the
last two accepted; a shorter one is rejected and counted.
R60: a write of RTB_FSYNC_CFG that changes pol or dir judges no edge; as an output FSYNC goes active 12 ticks after (out_line, 0, 0) of its raster in every frame,
also while the pulse of the frame before still runs, and inactive after width slots. (That it stands inactive between pulses: log entry 40.)
An event moves the clock to its own tick (log entry 7). -/
def Obligations.FrameSync : Prop :=
  (∀ (s : State), Normal s → s.bit RTB_FSYNC_CFG_dir = false →
  let w := 96 * s.get RTB_FSYNC_CFG_min_width
  let pol := s.bit RTB_FSYNC_CFG_pol
  (s.fsync.high = pol → Gives (.fsyncEdge (!pol)) s (fun t => t.fsync = { s.fsync with high := !pol, edgeAt := some s.now, fellAt := none } ∧ t.regs = s.regs)) ∧
  (∀ e, s.fsync.edgeAt = some e → s.fsync.high = !pol → Gives (.fsyncEdge pol) s (fun t => t.fsync = { s.fsync with high := pol, fellAt := some s.now } ∧ t.regs = s.regs)) ∧
  (∀ e, s.fsync.edgeAt = some e → s.fsync.fellAt = none → Gives .fsyncPulseAccept s (fun t => t.now = max s.now (e + w) ∧
    t.fsync = { s.fsync with edgeAt := none, fellAt := none, lastAt := some e } ∧
    ∀ p, s.fsync.lastAt = some p → t.num RTB_FSYNC_PERIOD = min (2 ^ 32 - 1) (e - p))) ∧
  (∀ e f, s.fsync.edgeAt = some e → s.fsync.fellAt = some f → f < e + w → Gives .fsyncPulseReject s (fun t => RegsOnly [RTB_FSYNC_STAT_rejected.addr, RTB_EVT] s { t with fsync := s.fsync } ∧
    t.fsync = { s.fsync with edgeAt := none, fellAt := none } ∧
    t.reg RTB_FSYNC_STAT_rejected.addr = counted1 (s.reg RTB_FSYNC_STAT_rejected.addr) RTB_FSYNC_STAT_rejected ∧ t.reg RTB_EVT = orBit (s.reg RTB_EVT) RTB_EVT_fsync 0))) ∧
  (∀ (s : State) (who : Party) (v : W32),
  (Writes s who RTB_FSYNC_CFG → bitsOf v RTB_FSYNC_CFG_width.hi RTB_FSYNC_CFG_width.lo ≠ 0 → bitsOf v RTB_FSYNC_CFG_out_raster.hi RTB_FSYNC_CFG_out_raster.lo ≤ 4 →
    bitsOf v RTB_FSYNC_CFG_pol.hi RTB_FSYNC_CFG_pol.lo ≠ s.get RTB_FSYNC_CFG_pol → Gives (.fsyncCfgWrite who v) s (fun t =>
      t.fsync.edgeAt = none ∧ t.fsync.fellAt = none ∧ t.get RTB_FSYNC_CFG_pol = bitsOf v RTB_FSYNC_CFG_pol.hi RTB_FSYNC_CFG_pol.lo ∧
      t.get RTB_FSYNC_CFG_min_width = bitsOf v RTB_FSYNC_CFG_min_width.hi RTB_FSYNC_CFG_min_width.lo ∧ ∀ a, a ≠ RTB_FSYNC_CFG → t.reg a = s.reg a)) ∧
  (Normal s → s.bit RTB_FSYNC_CFG_dir = true → let x := s.raster (s.get RTB_FSYNC_CFG_out_raster)
    (x.running = true → x.line = s.get RTB_FSYNC_CFG_out_line → s.fsync.outAt ≠ some x.lineAt → s.now ≤ x.lineAt + 12 →
      Gives .fsyncOutputPulse s (fun t => t.now = x.lineAt + 12 ∧ t.regs = s.regs ∧ t.fsync = { s.fsync with outAt := some x.lineAt, outExt := 0, high := !s.bit RTB_FSYNC_CFG_pol })) ∧
    (∀ d, s.fsync.outAt = some d → x.running = true → x.lineAt = d → s.fsync.outExt = 0 → s.get RTB_FSYNC_CFG_width < x.slots →
      Gives .fsyncOutputEnd s (fun t => t.now = max s.now (d + 96 * s.get RTB_FSYNC_CFG_width + 12) ∧ t.regs = s.regs ∧
        t.fsync = { s.fsync with outAt := none, high := s.bit RTB_FSYNC_CFG_pol }))))

/-- R35, R47, R61, R62, R70: a write of RTB_CMPn_LO commits the target of both words, the upper one where the party wrote it; with en set a target that is unreachable, or in
one-shot mode already passed, is late: late is set and counted, and a one-shot clears en. A match sets hit, clears en in one-shot mode, and a pulse of width slots lasts until
24 ticks after its last; a pulse that goes on past a line's final slot gains the ticks that a lock added to that slot. (That a commit with en = 0 is not judged and that a
periodic comparator with an unreachable target keeps en: log entry 27.)
An event moves the clock to its own tick (log entry 7). -/
def Obligations.ComparatorsCommitAndFire : Prop := ∀ (who : Party) (n : Fin 8) (v h : W32) (s : State),
  (Writes s who (RTB_CMP_LO n) → s.writtenWord who.code (RTB_CMP_HI n) = some h →
    let p : W64 := BitVec.ofNat 64 (v.toNat + 2 ^ 32 * h.toNat)
    let judged := s.bit (RTB_CMP_CTL_en n) = true
    let one := s.get (RTB_CMP_CTL_mode n) = 0
    let x := s.raster (locRaster p)
    let late := unreachable p = true ∨ one ∧ (ordLocus p (x.posAt s.now) = .lt ∨ ordLocus p (x.posAt s.now) = .eq ∧ x.running = true)
    Gives (.cmpCommit who n v) s (fun t => (t.cmp n).target = p ∧ (judged → late → t.bit (RTB_CMP_CTL_late n) = true ∧ (t.bit (RTB_CMP_CTL_en n) = false ↔ one) ∧
      t.reg RTB_LATE_CNT_late.addr = counted1 (s.reg RTB_LATE_CNT_late.addr) RTB_LATE_CNT_late ∧ t.bit RTB_EVT_late = true) ∧
      (¬ (judged ∧ late) → ∀ a, a ∉ [RTB_CMP_LO n.val, RTB_CMP_HI n] → t.reg a = s.reg a))) ∧
  (Writes s who (RTB_CMP_CTL n) → s.bit (RTB_CMP_CTL_en n) = false → bitsOf v (RTB_CMP_CTL_en n).hi (RTB_CMP_CTL_en n).lo = 1 →
    bitsOf v (RTB_CMP_CTL_mode n).hi (RTB_CMP_CTL_mode n).lo = 0 → unreachable (s.cmp n).target = true →
    Gives (.cmpCtlWrite who n v) s (fun t => t.bit (RTB_CMP_CTL_en n) = false ∧ t.bit (RTB_CMP_CTL_late n) = true ∧ (t.cmp n) = s.cmp n)) ∧
  (Normal s → ∀ d, s.dueTick (s.cmp n).target = some d → s.bit (RTB_CMP_CTL_en n) = true → s.get (RTB_CMP_CTL_mode n) = 0 → s.now ≤ d → (s.cmp n).modeFrom ≤ s.now →
    Gives (.cmpFire n) s (fun t => t.now = d ∧ t.bit (RTB_CMP_CTL_hit n) = true ∧ t.bit (RTB_CMP_CTL_en n) = false ∧ (∀ a, a ≠ RTB_CMP_CTL n → t.reg a = s.reg a) ∧
      (t.cmp n).pulses = (s.cmp n).pulses ++ (if s.get (RTB_CMP_CTL_width n) = 0 then [] else [⟨d, locRaster (s.cmp n).target, s.get (RTB_CMP_CTL_width n), 0⟩]))) ∧
  (Normal s → ∀ q rest, (s.cmp n).pulses = q :: rest → let x := s.raster q.raster
    x.running = true → x.lineAt + 96 * x.slots ≤ x.lineEnd →
    Gives (.cmpPulseEnd n) s (fun t => t.now = max s.now (q.at_ + q.ext + 96 * q.width +
        (if q.at_ < x.lineEnd ∧ x.lineAt + 96 * x.slots ≤ q.at_ + q.ext + 96 * q.width then x.lineEnd - (x.lineAt + 96 * x.slots) else 0) + 24) ∧
      (t.cmp n).pulses = rest ∧ t.regs = s.regs))

/-! ## Commands of the sequencers (spec 03) -/

/-- R84: start moves a HALTED core to ARMED and begins its hash, and is ignored in any other state; check begins a hash alone; halt stops an ARMED core with its hash abandoned,
and a RUNNING one at once between two instructions and during a wait, else after the instruction in progress; flush empties the edge queue and changes nothing else. MET judges
its state after each.
R84: a core whose halt came while an instruction ran is HALTED at that instruction's end, with the whole of its effect; for the arithmetic and logic instructions. (Which
ticks an instruction takes: log entry 66.)
R86, R87: a hash ends with the digest of the bytes that it has read and of the rest as they stand, which is that of the whole program where nothing changed behind its read
point; the digest registers hold it, word by word least significant byte first; digest_ok reads 1 exactly where a reference is installed and equal; the hash event is set and
hashing clears. (How fast it reads: log entry 19.)
An event moves the clock to its own tick (log entry 7). -/
def Obligations.SqCommandsAndHashes : Prop :=
  (∀ (who : Party) (q : Port) (s : State), Writes s who (PSC_SQ_CTL q) →
  let stat := PSC_SQ_STAT q
  let busy := (s.core q).waiting = none ∧ ((s.core q).readyAt + 3) / 4 * 4 < s.now
  (s.sqState q = 0 →
    Gives (.sqStartCommand who q) s (fun t => HashOnly q (RegsJudged [stat]) s t ∧ t.sqState q = 1 ∧ t.bit (PSC_SQ_STAT_hashing q) = true ∧
      t.bit (PSC_SQ_STAT_digest_ok q) = s.bit (PSC_SQ_STAT_digest_ok q) ∧ t.lines.hashOf q = some { start := s.now }) ∧
    Gives (.sqCheckCommand who q) s (fun t => HashOnly q (RegsJudged [stat]) s t ∧ t.sqState q = 0 ∧ t.bit (PSC_SQ_STAT_hashing q) = true ∧
      t.bit (PSC_SQ_STAT_digest_ok q) = s.bit (PSC_SQ_STAT_digest_ok q) ∧ t.lines.hashOf q = some { start := s.now })) ∧
  (s.sqState q ≠ 0 → Gives (.sqStartCommand who q) s (RegsJudged [] s) ∧ Gives (.sqCheckCommand who q) s (RegsJudged [] s)) ∧
  (s.sqState q = 1 → Gives (.sqHaltCommand who q) s (fun t => HashOnly q (RegsJudged [stat]) s t ∧ t.sqState q = 0 ∧ t.bit (PSC_SQ_STAT_hashing q) = false ∧ t.lines.hashOf q = none)) ∧
  (s.sqState q = 2 → ¬ busy → Gives (.sqHaltCommand who q) s (fun t => RegsJudged [stat] s { t with cores := s.cores } ∧ t.sqState q = 0 ∧
    t.core q = { s.core q with waiting := none, halting := false } ∧ ∀ j, j ≠ q.val → t.core j = s.core j)) ∧
  (s.sqState q = 2 → busy → Gives (.sqHaltCommand who q) s (fun t => RegsJudged [] s { t with cores := s.cores } ∧ t.core q = { s.core q with halting := true } ∧
    ∀ j, j ≠ q.val → t.core j = s.core j)) ∧
  (s.sqState q = 0 ∨ s.sqState q = 3 → Gives (.sqHaltCommand who q) s (RegsJudged [] s)) ∧
  Gives (.sqFlushCommand who q) s (fun t => RegsJudged [] s { t with cores := s.cores } ∧ t.core q = { s.core q with queue := [] } ∧ ∀ j, j ≠ q.val → t.core j = s.core j)) ∧
  (∀ (i : Instr) (s : State) (k : Core) (d : RegNo) (f : Bool) (r : W32) (c v : Option Bool),
  aluTable s i = some (k, d, f, r, c, v) → k.isSq = true → s.executing k = true → s.fetches k i = true → (s.core k.idx).pc + 1 < imemWords k.idx → s.hk.shdn = none →
  (s.core k.idx).halting = true →
  Gives i s (fun t => t.sqState k.idx = 0 ∧ t.core k.idx = { ((s.movedCore k 1).aluFlags f r c v).putW d r with waiting := none, halting := false } ∧
    t = { s with regs := t.regs, cores := t.cores, now := t.now, wall := t.wall, intc := t.intc, lines := t.lines } ∧ Follows s t ∧
    (∀ j, j ≠ k.idx → t.core j = s.core j) ∧ ∀ a, a ≠ PSC_SQ_STAT k.idx → t.reg a = s.reg a)) ∧
  (∀ (q : Port) (s : State), Normal s → s.bit (PSC_SQ_STAT_hashing q) = true →
  let ref := Map.get (fun _ => []) s.progRef q
  let got := (s.hashRun q).got
  let d := sha256 (got ++ (s.programBytes q).drop got.length)
  (∀ n, got = (s.programBytes q).take n → d = sha256 (s.programBytes q)) ∧
  Gives (.hashComplete q) s (fun t => (∀ k, k < 8 → t.num (PSC_SQ_DIGEST q k) = ofLe (d.drop (4 * k) |>.take 4)) ∧
    t.bit (PSC_SQ_STAT_digest_ok q) = (decide (ref ≠ []) && decide (ref = d)) ∧ t.bit (PSC_SQ_STAT_hashing q) = false ∧ t.bit PSC_EVT_hash q = true ∧
    t.sqState q = s.sqState q ∧ t.lines.hashOf q = none ∧ s.now ≤ t.now ∧ (∀ a, a / 0x1000 ≠ 0x12 → a ∉ [PSC_SQ_STAT q, PSC_EVT] ++ (List.range 8).map (PSC_SQ_DIGEST q) → t.reg a = s.reg a) ∧
    t = { s with regs := t.regs, men := t.men, now := t.now, wall := t.wall, intc := t.intc, lines := t.lines }))

/-- R94, R95: an SQ watchdog at its limit fences the core's port with cause 1; SUP's, at its limit without a first stage before, sets the supwd event and restarts, and with one
resets SUP alone. A kick with 0x5A restarts the count and withdraws the first stage, any other value does neither; a new raster or limit restarts the count. (That a count which
is already past a new limit expires at once: log entry 33. What SUP's reset releases: log entry 67.)
R39, R93, R97: forced release of a FENCED SQ core frees every semaphore that it holds and no other, aborts its PPORT unit, and counts what it released; of a core in
another state it does nothing.
R73, R91, R105: a write of 0 to rom_map ends the boot ROM: SUP starts at PSC_SUP_ENTRY, its registers, loci and flags cleared. -/
def Obligations.WatchdogsAndReleases : Prop :=
  (∀ (s : State) (q : Port) (who : Party) (v : W32),
  let limit := s.get PSC_SUP_WD_CFG_limit
  let atLimit := limit ≠ 0 ∧ limit ≤ (s.core 4).wdCnt
  (Normal s → s.sqState q = 2 → s.get (PSC_SQ_WDOG_limit q) ≠ 0 → s.get (PSC_SQ_WDOG_limit q) ≤ (s.core q).wdCnt → (s.stream q).writing = false →
    Gives (.sqWatchdogExpiry q) s (fun t => t.sqState q = 3 ∧ t.num (PSC_SQ_CAUSE q) = (s.core q).pc % 4096 * 65536 + 1 ∧ t.bit PSC_EVT_fenced q = true)) ∧
  (Normal s → atLimit → (s.core 4).wdFirst = false → Gives .supWatchdogFirstStage s (fun t => RegsOnly [PSC_EVT] s { t with cores := s.cores } ∧
    t.reg PSC_EVT = orBit (s.reg PSC_EVT) PSC_EVT_supwd 0 ∧ t.core 4 = { s.core 4 with wdCnt := 0, wdFirst := true } ∧ ∀ j, j ≠ 4 → t.core j = s.core j)) ∧
  (Normal s → atLimit → (s.core 4).wdFirst = true → Gives .supWatchdogReset s (fun t => t.core 4 = { readyAt := s.now } ∧ t.bit ⟨SCA_RST_CAUSE, 31, 0⟩ 6 = true ∧ t.num PSC_SUP_CTL = 1 ∧
    t.rasters = s.rasters ∧ t.ports = s.ports ∧ t.imem = s.imem ∧ t.dmem = s.dmem ∧ t.dram = s.dram ∧ t.men = s.men ∧ t.nvs = s.nvs)) ∧
  (Writes s who PSC_SUP_WD_KICK → Gives (.supWdKick who v) s (fun t => Quiet s { t with cores := s.cores } ∧ (∀ j, j ≠ 4 → t.core j = s.core j) ∧
    t.core 4 = if v = 0x5A#32 then { s.core 4 with wdCnt := 0, wdFirst := false } else s.core 4)) ∧
  (Writes s who PSC_SUP_WD_CFG → bitsOf v 18 16 ≤ 4 → Gives (.supWdCfgWrite who v) s (fun t => RegsOnly [PSC_SUP_WD_CFG] s { t with cores := s.cores } ∧
    t.get PSC_SUP_WD_CFG_limit = bitsOf v 15 0 ∧ t.get PSC_SUP_WD_CFG_raster = bitsOf v 18 16 ∧
    (t.core 4).wdCnt = if bitsOf v 15 0 = limit ∧ bitsOf v 18 16 = s.get PSC_SUP_WD_CFG_raster then (s.core 4).wdCnt else 0))) ∧
  (∀ (who : Party) (q : Port) (v : W32) (s : State), Writes s who PSC_FORCE → v.toNat % 8 = 4 + q.val →
  let held := fun (n : Nat) => s.bit (PSC_SEM_busy n) && (s.get (PSC_SEM_holder n) == 4 + q.val)
  (s.sqState q ≠ 3 → Gives (.forcedRelease who v) s (Quiet s)) ∧
  (s.sqState q = 3 → Gives (.forcedRelease who v) s (fun t =>
    (∀ n, n < 32 → t.bit (PSC_SEM_busy n) = (s.bit (PSC_SEM_busy n) && !held n)) ∧ (∀ n, n < 32 → held n = false → t.reg (PSC_SEM n) = s.reg (PSC_SEM n)) ∧
    (∀ u, s.sio.ppUnit = some u → u.core = q.val → t.sio.ppUnit = none ∧ (t.core q).ppAborted = true ∧ t.bit SIO_EVT_abort = true) ∧
    (s.sio.ppUnit = none → s.activeSelects q = [] → t.get ⟨PSC_FORCE_CNT, 15, 0⟩ = min 65535 (s.get ⟨PSC_FORCE_CNT, 15, 0⟩ + ((List.range 32).filter held).length))))) ∧
  (∀ (who : Party) (s : State), Writes s who PSC_SUP_CTL → s.bit PSC_SUP_CTL_rom_map = true →
  Gives (.romMapClear who) s (fun t => RegsOnly [PSC_SUP_CTL, PSC_SUP_STAT] s { t with cores := s.cores } ∧ t.bit PSC_SUP_CTL_rom_map = false ∧ t.bit PSC_SUP_STAT_rom = false ∧
    t.core 4 = { s.core 4 with pc := s.get PSC_SUP_ENTRY_entry, w := [], l := [], z := false, n := false, c := false, v := false, waiting := none, halting := false } ∧ ∀ j, j ≠ 4 → t.core j = s.core j))

/-! ## Resets, supplies and ageing (spec 18) -/

/-- R468, R469, R472–R474: a power-on reset, a rail below its reset level and a loss of PLL0 each reset every domain: no core, raster or register keeps anything, but for what
P1 keeps and for the cause, which is the reset's own, with that of every reset that coincides with it. While such a reset holds the part another one changes nothing but the cause
of one that coincides, and what asks for it holds the part from then on. (Registers without a reset value in the spec: log entry 5; which resets coincide: log entry 12.)
R43, R367, R469, R472: the end of a power-on, supply, clock or thermal reset, once nothing asks for a reset any longer, starts raster H at the start of a line with the boot
pins sampled and the source that they select shown, of which the reserved codes act as 0b010, and the end of a system reset starts it in the next tick; the release of one cause
leaves the part held by another that stands. (Which command ends which reset: log entry 12; that H starts in the tick of the release: log entry 14.)
R17, R473, R483: a system reset, by SYSRST_N or by a keyed request with sys = 1, resets the cores other than MET and the rasters, keeps the memories, the non-volatile store
and MET's core, and adds its own cause; a keyed request with sup alone resets SUP alone; a request without the key does nothing. (What else a system reset keeps: log entry 15.
What SUP's reset releases: log entry 67.) -/
def Obligations.Resets : Prop :=
  (∀ (i : Instr) (h : Hold) (c : Nat) (s : State),
  (i, h, c) ∈ [(Instr.powerOnReset, Hold.porst, 0), (.supplyReset, .supply, 1), (.pll0Loss, .clock, 2)] →
  let asks := fun (t : State) => t.sca.pinLow = (s.sca.pinLow || h == .porst) ∧ t.sca.railLow = (s.sca.railLow || h == .supply) ∧ t.sca.pllLow = (s.sca.pllLow || h == .clock)
  let near := match s.sca.resetAt with | some (n, l) => if n = s.now then l else [] | none => []
  (s.hold ∈ [.porst, .supply, .clock] → s.hk.shdn = none → Gives i s (fun t => asks t ∧ RegsOnly [SCA_RST_CAUSE] s { t with sca := s.sca } ∧
    t.sca = { s.sca with pinLow := t.sca.pinLow, railLow := t.sca.railLow, pllLow := t.sca.pllLow, resetAt := t.sca.resetAt } ∧
    ∀ b, b < 8 → t.bit ⟨SCA_RST_CAUSE, 31, 0⟩ b = (s.bit ⟨SCA_RST_CAUSE, 31, 0⟩ b || !near.isEmpty && (b == c || near.contains b)))) ∧
  (s.hold ∈ [.none, .system, .thermal] → Gives i s (fun t => t.hold = h ∧ asks t ∧ (∀ b, b < 8 → t.bit ⟨SCA_RST_CAUSE, 31, 0⟩ b = (b == c || near.contains b)) ∧
    (∀ k, t.core k = {}) ∧ (∀ r, t.raster r = {}) ∧ t.pending = s.pending ∧ ∀ a, a ∉ persistentRegs → a ≠ SCA_RST_CAUSE → t.reg a = regReset a))) ∧
  (∀ (boot : BitVec 3) (s : State),
  let held := s.hold ∈ [.porst, .supply, .clock]
  (∀ i, (i = .porstRelease boot ∧ held ∧ s.sca.railLow = false ∧ s.sca.pllLow = false ∨ i = .supplyResetRelease boot ∧ held ∧ s.sca.pinLow = false ∨
      i = .thermalResetRelease boot ∧ s.hold = .thermal) →
    Gives i s (fun t => t.hold = .none ∧ (t.raster 4).running = true ∧ (t.raster 4).line = 0 ∧ (t.raster 4).lineAt = s.now ∧ (t.raster 4).frame = (s.raster 4).frame ∧
      t.get SIO_BOOT_boot = boot.toNat ∧ t.get SIO_BOOT_source = (if 4 ≤ boot.toNat then 2 else boot.toNat) ∧ t.bit SIO_BOOT_flash_fail = false ∧ t.get SCA_STAT_lock = 7)) ∧
  (held → s.hk.shdn = none →
    (s.sca.railLow = true ∨ s.sca.pllLow = true → Gives (.porstRelease boot) s (fun t => t.hold = (if s.sca.railLow then .supply else .clock) ∧
      Quiet s { t with hold := s.hold, sca := s.sca } ∧ t.sca = { s.sca with pinLow := false })) ∧
    (s.sca.pinLow = true → Gives (.supplyResetRelease boot) s (fun t => t.hold = .porst ∧
      Quiet s { t with hold := s.hold, sca := s.sca } ∧ t.sca = { s.sca with railLow := false, pllLow := false }))) ∧
  (s.hold = .system → Gives .systemResetEnd s (fun t => t.hold = .none ∧ (t.raster 4).running = true ∧ (t.raster 4).line = 0 ∧ (t.raster 4).lineAt = s.now + 1))) ∧
  (∀ (who : Party) (key : BitVec 16) (sup : Bool) (s : State),
  let done := fun (c : Nat) (t : State) => t.hold = .system ∧ (∀ k, k ≠ 5 → t.core k = {}) ∧ t.core 5 = s.core 5 ∧ (∀ r, t.raster r = {}) ∧ t.imem = s.imem ∧ t.dmem = s.dmem ∧
    t.dram = s.dram ∧ t.nvs.arr = s.nvs.arr ∧ t.bit ⟨SCA_RST_CAUSE, 31, 0⟩ c = true
  (Normal s → Gives .systemResetPin s (done 4)) ∧
  (Writes s who SCA_RST_CTL → key = 0xA5C3#16 → Gives (.systemResetRequest who key sup) s (done 5) ∧
    Gives (.supResetRequest who key) s (fun t => t.hold = .none ∧ t.core 4 = { readyAt := s.now } ∧ (∀ k, k < 4 → t.sqState k = s.sqState k) ∧ t.rasters = s.rasters ∧ t.dmem = s.dmem ∧
      t.bit ⟨SCA_RST_CAUSE, 31, 0⟩ 7 = true)) ∧
  (Writes s who SCA_RST_CTL → key ≠ 0xA5C3#16 → Gives (.systemResetRequest who key sup) s (Quiet s) ∧ Gives (.supResetRequest who key) s (Quiet s)))

/-- R468, R470, R471: a rail's warning shows at once and opens a dip; when the last one clears the supply has recovered; 2 ms later the dip ends, is counted and its record
registers hold its rails and frame. A held system reset stops none of it; SCA_EVT takes no bit in it (log entry 15).
R472: PLL1 or PLL2 losing lock shows in SCA_STAT.lock and SCA_EVT.pll, PLL1's loss also ends the DRAM's training; the lock shows again when it is back. (That
MEM_STAT.trained clears at the loss: log entry 61.)
R475, R478: a voltage request in mode 2 takes effect at once outside a warning, one in mode 1 at the next period of AVS_PWM; the clock is reduced only at code 10 outside a
warning, and 0.5 ms later the reduction is complete.
R476: a pass that the owner starts shows as busy; at its end each of the 24 monitors holds its degradation since manufacture, limited to the field, and the age event is
set. -/
def Obligations.SuppliesClocksAndAgeing : Prop :=
  (∀ (rail : Fin 4) (n : Nat) (s : State), (s.hold = .none ∨ s.hold = .system) → s.hk.shdn = none →
  Gives (.supplyWarning rail n) s (fun t => t.bit SCA_STAT_rail_warn rail = true ∧ t.bit SCA_STAT_warn = true ∧ t.bit SCA_STAT_dip = true ∧
    t.bit SCA_EVT_warn = (decide (s.hold = .none) || s.bit SCA_EVT_warn)) ∧
  (s.bit SCA_STAT_rail_warn rail = true → Gives (.supplyRecover rail) s (fun t => t.bit SCA_STAT_rail_warn rail = false ∧ t.bit SCA_STAT_dip = s.bit SCA_STAT_dip ∧
    (s.get SCA_STAT_rail_warn = 2 ^ rail.val → t.bit SCA_STAT_warn = false ∧ t.bit SCA_EVT_recover = (decide (s.hold = .none) || s.bit SCA_EVT_recover) ∧ t.sca.quiet = s.wall) ∧
    (s.get SCA_STAT_rail_warn ≠ 2 ^ rail.val → t.bit SCA_STAT_warn = s.bit SCA_STAT_warn ∧ t.sca = s.sca))) ∧
  (s.hold = .none → s.bit SCA_STAT_dip = true → s.bit SCA_STAT_warn = false → Gives .dipEnd s (fun t => t.bit SCA_STAT_dip = false ∧ s.sca.quiet + 2 * 27000000 ≤ t.wall ∧
    t.num SCA_DIP_CNT = (counted1 (s.reg SCA_DIP_CNT) SCA_DIP_CNT_dips).toNat ∧ t.get SCA_DIP0_rails = s.sca.rails % 16 ∧ t.num SCA_DIP1 = s.sca.dipFrame % 2 ^ 32))) ∧
  (∀ (b : Bool) (s : State), Normal s →
  Gives (.pllLoss b) s (fun t => t.bit SCA_STAT_lock (if b then 2 else 1) = false ∧ t.bit SCA_EVT_pll = true ∧ (b = false → t.bit MEM_STAT_trained = false) ∧ t.dram = s.dram) ∧
  Gives (.pllRelock b) s (fun t => t.reg SCA_STAT = orBit (s.reg SCA_STAT) SCA_STAT_lock (if b then 2 else 1) ∧ RegsOnly [SCA_STAT] s t)) ∧
  (∀ (who : Party) (v : W32) (s : State),
  (Writes s who SCA_AVS → bitsOf v 3 0 ≤ 10 → s.bit SCA_STAT_warn = false →
    (bitsOf v 9 8 = 2 → Gives (.avsWrite who v) s (fun t => t.sca.code = bitsOf v 3 0 ∧ t.bit SCA_EVT_avs = true ∧ t.get SCA_AVS_code = bitsOf v 3 0 ∧ t.get SCA_AVS_mode = 2)) ∧
    (bitsOf v 9 8 = 1 → Gives (.avsWrite who v) s (fun t => t.sca.code = s.sca.code ∧ t.sca.avsWait = decide (bitsOf v 3 0 ≠ s.sca.code) ∧ t.get SCA_AVS_mode = 1))) ∧
  (Normal s → s.get SCA_AVS_mode = 1 → s.sca.avsWait = true → s.bit SCA_STAT_warn = false →
    Gives .avsApply s (fun t => t.sca = { s.sca with code := s.get SCA_AVS_code, avsWait := false } ∧ RegsOnly [SCA_EVT] s { t with sca := s.sca } ∧ t.bit SCA_EVT_avs = true)) ∧
  (Writes s who SCA_CLK_CTL → s.sca.slow = false → Gives (.clockReduce who v) s (fun t =>
    t.sca.slow = (bitOf v 0 && decide (s.get SCA_AVS_code = 10) && !s.bit SCA_STAT_warn) ∧ (t.sca.slow = true → t.bit SCA_CLK_STAT_ramping = true ∧ t.sca.rampAt = s.wall))) ∧
  (Normal s → s.bit SCA_CLK_STAT_ramping = true → Gives .clockRampEnd s (fun t => t.bit SCA_CLK_STAT_ramping = false ∧ t.bit SCA_CLK_STAT_reduced = true ∧
    t.bit SCA_STAT_reduced = true ∧ t.bit SCA_EVT_clk = true ∧ s.sca.rampAt + 13500000 ≤ t.wall))) ∧
  (∀ (who : Party) (deg : List Int) (s : State),
  (Writes s who SCA_AGE_CTL → s.bit SCA_STAT_age_busy = false → Gives (.agePassStart (some who)) s (fun t => t.bit SCA_STAT_age_busy = true ∧ t.sca.ageAt = s.wall)) ∧
  (Normal s → s.sca.ageWait = true → s.bit SCA_STAT_dip = false → s.bit SCA_STAT_age_busy = false →
    Gives (.agePassStart none) s (fun t => t.bit SCA_STAT_age_busy = true ∧ t.sca.ageAt = s.wall ∧ t.sca.ageWait = false)) ∧
  (Normal s → s.bit SCA_STAT_age_busy = true → Gives (.agePassEnd deg) s (fun t => t.bit SCA_STAT_age_busy = false ∧ t.bit SCA_EVT_age = true ∧
    ∀ m, m < 24 → sgn 16 (t.get (SCA_AGE_deg m)) = max (-32767) (min 32767 (deg.getD m 0 - Config.ageZero m)))))

/-! ## Focal-plane ports and lane converters (spec 05 and 06) -/

/-- R138, R139: the power sequence of a port. A request in OFF or ON waits for the next line start of H; each step changes the state, the supplies and the bias as the rule says,
at a line start of H when its lines have passed; the bias code moves by 16 × ramp_step once in a line, and ON or OFF is entered with its event.
An event without its condition changes nothing (log entry 6). -/
def Obligations.PowerSequence : Prop := ∀ (p : Port) (who : Party) (s : State),
  let x := s.port p
  let st := s.get (FPP_STAT_pwr p)
  let step := 16 * s.get (FPP_PWR_CFG_ramp_step p)
  let code := s.get (FPP_BIAS_ACT_code p)
  let due := fun (n : Nat) => s.now = (s.raster 4).lineAt ∧ n ≤ x.pwrLines
  (Writes s who (FPP_PWR p) → s.bit (FPP_PWR_req p) = false → st = 0 → Gives (.powerUpRequest who p) s (fun t => t.bit (FPP_PWR_req p) = true ∧ (t.port p).reqPending = true ∧ t.get (FPP_STAT_pwr p) = 0)) ∧
  (Writes s who (FPP_PWR p) → s.bit (FPP_PWR_req p) = true → st = 2 → Gives (.powerDownRequest who p) s (fun t => t.bit (FPP_PWR_req p) = false ∧ (t.port p).reqPending = true ∧ t.get (FPP_STAT_pwr p) = 2)) ∧
  (Writes s who (FPP_PWR p) → (st = 1 ∨ st = 3 ∨ st = 2 → Gives (.powerUpRequest who p) s (Quiet s)) ∧ (st = 1 ∨ st = 3 ∨ st = 0 → Gives (.powerDownRequest who p) s (Quiet s))) ∧
  (Normal s →
    (due 1 → x.reqPending = true → st = 0 → s.bit (FPP_PWR_req p) = true → Gives (.pwrUpStart p) s (fun t => t.get (FPP_STAT_pwr p) = 1 ∧ t.get (FPP_BIAS_ACT_code p) = 0 ∧
      t.port p = { x with reqPending := false, vcm := true, pen := false, settled := false, pwrLines := 0, zeroed := false })) ∧
    (st = 1 → x.pen = false → due (s.get (FPP_PWR_CFG_vcm_lines p)) → Gives (.pwrPenOn p) s (fun t => t.port p = { x with pen := true, pwrLines := 0 } ∧ t.regs = s.regs)) ∧
    (st = 1 → x.pen = true → x.settled = false → due (s.get (FPP_PWR_SETTLE_settle_lines p)) →
      Gives (.pwrSettleEnd p) s (fun t => t.port p = { x with settled := true, pwrLines := 1, fltFrom := s.now } ∧ t.bit (FPP_STAT_ramping p) = true)) ∧
    (due 1 → st = 1 → x.settled = true → step ≠ 0 → x.bias < 65536 → code + step < x.bias →
      Gives (.pwrBiasRampStep p) s (fun t => t.get (FPP_BIAS_ACT_code p) = code + step ∧ t.get (FPP_STAT_pwr p) = 1 ∧ t.port p = { x with pwrLines := 0 })) ∧
    (due 1 → st = 1 → x.settled = true → x.bias < 65536 → code ≤ x.bias → step = 0 ∨ x.bias ≤ code + step →
      Gives (.pwrBiasRampStep p) s (fun t => t.get (FPP_BIAS_ACT_code p) = x.bias ∧ t.get (FPP_STAT_pwr p) = 2 ∧ t.bit (FPP_EVT_up p) = true ∧ (t.port p).lvl = x.idle)) ∧
    (due 1 → x.reqPending = true → st = 2 → s.bit (FPP_PWR_req p) = false → Gives (.pwrDownStart p) s (fun t => t.get (FPP_STAT_pwr p) = 3 ∧ t.bit (FPP_CTL_live p) = false ∧
      t.port p = { x with reqPending := false, zeroed := false, penDone := false, pwrLines := 0 })) ∧
    (due 1 → st = 3 → x.zeroed = false → Gives (.pwrBiasRampStep p) s (fun t => t.get (FPP_BIAS_ACT_code p) = (if step = 0 then 0 else code - step) ∧ t.get (FPP_STAT_pwr p) = 3)) ∧
    (x.pwrLines = 0 → Gives (.pwrBiasRampStep p) s (Quiet s)) ∧
    (st = 3 → x.penDone = false → x.zeroed = true → due (s.get (FPP_PWR_CFG_off_lines p)) →
      Gives (.pwrPenOff p) s (fun t => t.port p = { x with pen := false, settled := false, penDone := true, pwrLines := 0 } ∧ t.regs = s.regs)) ∧
    (st = 3 → x.penDone = true → due (s.get (FPP_PWR_CFG_vcm_lines p)) → Gives (.pwrVcmOff p) s (fun t => t.get (FPP_STAT_pwr p) = 0 ∧ t.bit (FPP_EVT_down p) = true ∧
      t.port p = { x with vcm := false, pwrLines := 0, fencedDown := false })))

/-- R140, R141: a fault input that has read low in filter consecutive samples, one at tick 0 of each slot of H and all of them since it was unmasked and enabled, while the port
is powered and settled sets the port's fault event and fences it with cause 6: its bias goes to 0, its outputs to idle and it powers down. A port already fenced keeps its
cause.
R123, R144, R159, R161: the next sample of a port's only strobe run falls at its slot and tick, and the run moves on or ends; a sample of a kind that the active mode does
not use is stray and counted, and any other counts one sample of its kind in the line.
An event moves the clock to its own tick (log entry 7). -/
def Obligations.FaultInputsAndStrobes : Prop :=
  (∀ (p : Port) (n : Nat) (s : State), Normal s → (s.port p).pen = true → (s.port p).settled = true → s.bit (FPP_FLT_CFG_en p) = true →
  0 < n → s.get (FPP_FLT_CFG_filter p) ≤ n → (s.pos 4).tick = 0 → (s.port p).fltFrom + 96 * (n - 1) ≤ s.now →
  (s.sqState p ≠ 3 → s.get (FPP_STAT_pwr p) ≠ 0 → (s.stream p).writing = false →
    Gives (.faultInputFence p n) s (fun t => t.bit (FPP_EVT_fault p) = true ∧ t.sqState p = 3 ∧ t.get (PSC_SQ_CAUSE_cause p) = 6 ∧ t.get (FPP_STAT_pwr p) = 3 ∧
      t.get (FPP_BIAS_ACT_code p) = 0 ∧ t.bit (FPP_CTL_live p) = false ∧ (t.port p).lvl = (s.port p).idle)) ∧
  (s.sqState p = 3 → Gives (.faultInputFence p n) s (fun t => t.bit (FPP_EVT_fault p) = true ∧ ∀ a, a ≠ FPP_EVT p → t.reg a = s.reg a))) ∧
  (∀ (p : Port) (l : List LaneInput) (r : Run) (s : State), Normal s → (s.raster p).running = true → (s.port p).runs = [r] →
  s.bit (modeAct p) 3 = false → r.slot < (s.raster p).slots →
  let mode := s.get (modeAct p) / 2 % 4
  let used := s.bit (modeAct p) 0 = true ∧ (mode = 0 ∧ r.kind = 0 ∨ mode = 1 ∧ r.kind ∈ [1, 2] ∨ mode = 2 ∧ r.kind ∈ [1, 2, 3, 4])
  Gives (.strobeSample p l) s (fun t => t.now = max s.now ((s.raster p).lineAt + 96 * r.slot + r.tick) ∧
    (t.port p).runs = (if r.left = 1 then [] else [{ r with left := r.left - 1, slot := r.slot + 1, done := r.done + 1 }]) ∧
    (¬ used → t.reg (LCA_STRAY_CNT_stray p).addr = counted1 (s.reg (LCA_STRAY_CNT_stray p).addr) (LCA_STRAY_CNT_stray p) ∧ t.reg LCA_EVT = orBit (s.reg LCA_EVT) LCA_EVT_stray 0 ∧
      ∀ a, a ∉ [(LCA_STRAY_CNT_stray p).addr, LCA_EVT] → t.reg a = s.reg a) ∧
    (used → Map.get (fun _ => 0) (t.port p).kindCnt r.kind = Map.get (fun _ => 0) (s.port p).kindCnt r.kind + 1)))

/-- R168–R170: a pixel result that reaches the receiver from an unfenced lane has its parity judged and then its tag: one with its row's tag and right parity is accepted; one with
a wrong parity counts as a parity error and its pixel is interpolated; a tag of another row fences the lane, with cause 2 where its parity was right. An injected error strikes
the named lane's next result.
An event moves the clock to its own tick (log entry 7). -/
def Obligations.ResultsReceived : Prop := ∀ (p : Port) (r : PixRes) (l : List PixRes) (s : State) (who : Party) (v : W32),
  let lane := 32 * p.val + r.lane
  let good := decide (r.parS = parityBit 20 r.s) && decide (r.parB = parityBit 20 r.b)
  let counted := fun (t : State) => t.bit LCA_EVT_parity = true ∧ t.get (LCA_LANE_CTL_par_cnt lane) = min 255 (s.get (LCA_LANE_CTL_par_cnt lane) + 1)
  (Normal s → (s.port p).results = r :: l → r.lane < 32 → s.laneFenced p r.lane = false →
    ((s.port p).inj = none → Gives (.pixelResultReceive p) s (fun t => t.now = max s.now r.at_ ∧ (t.port p).results = l ∧
      ((s.port p).suspended = false → r.tag ≠ (s.port p).rows % 16 → t.laneFenced p r.lane = true ∧ (t.port p).intake = (s.port p).intake ∧
        (good = true → t.get (LCA_LANE_CTL_cause lane) = 2) ∧ (good = false → counted t)) ∧
      (r.tag = (s.port p).rows % 16 → good = true → r.missing = false → (t.port p).intake = (s.port p).intake ++ [r] ∧ t.regs = s.regs) ∧
      (r.tag = (s.port p).rows % 16 → good = false → (t.port p).intake = (s.port p).intake ∧ counted t))) ∧
    ((s.port p).inj = some (r.lane, true, false) → good = true → r.tag = (s.port p).rows % 16 →
      Gives (.pixelResultReceive p) s (fun t => (t.port p).inj = none ∧ (t.port p).intake = (s.port p).intake ∧ counted t))) ∧
  (Writes s who LCA_INJ → Gives (.errorInjection who v) s (fun t => t.regs = s.regs ∧
    (t.port (bitsOf v 6 0 / 32)).inj = some (bitsOf v 6 0 % 32, bitOf v 8, bitOf v 9)))

/-- R173–R176, R178, R181: a self-test request is taken for a port that is ON, not live and whose pacing raster's line is long enough, and refused otherwise; at the row close of
the last capture line each lane of the port's mode keeps the means of its low and high steps, of which a legacy lane's results are shifted right by 4 bits, and fails where one is
out of tolerance, spread too far, or the input is open. (The capture holds ns samples of each step for each lane.) -/
def Obligations.SelfTests : Prop := ∀ (p : Port) (who : Party) (s : State) (cap : List LaneCapture) (x : SelfTest),
  let legacy := s.bit (modeAct p) 3
  let ns := 16 * 2 ^ s.get LCA_ST_CFG_samples
  let ok := s.get (FPP_STAT_pwr p) = 2 ∧ s.bit (FPP_CTL_live p) = false ∧ ns + 32 ≤ (s.raster (s.counted p)).lineLen
  let full := cap.length = (if legacy then 16 else 32) ∧ ∀ c ∈ cap, ∀ l ∈ [c.s1, c.s2, c.s3, c.s4], l.length = ns ∧ ∀ v ∈ l, v < (if legacy then 2 ^ 20 else 2 ^ 16)
  let shifted := fun (l : List Nat) => if legacy then l.map (· / 16) else l
  (Writes s who LCA_ST_CTL → s.bit LCA_ST_STAT_busy p = false → Gives (.selfTestRequest who (BitVec.ofNat 32 (2 ^ p.val))) s (fun t =>
    t.bit LCA_ST_STAT_busy p = decide ok ∧ (t.port p).selfTest.isSome = (decide ok || (s.port p).selfTest.isSome) ∧ (¬ ok → t.bit LCA_ST_STAT_refused p = true))) ∧
  (Normal s → (s.port p).selfTest = some x → x.judge = true → s.bit (FPP_STAT_delivering p) = false → full → Gives (.rowClose p cap) s (fun t =>
    t.bit LCA_ST_STAT_done p = true ∧ t.bit LCA_ST_STAT_busy p = false ∧ (t.port p).selfTest = none ∧
    ∀ k c, cap[k]? = some c →
      let lo := State.meanOf (shifted c.s1)
      let hi := State.meanOf (shifted c.s2)
      let tol := s.get LCA_ST_LIM_tol
      t.num (LCA_LANE_CAP (32 * p.val + k)) = hi % 65536 * 65536 + lo % 65536 ∧
      (t.bit (LCA_LANE_CTL_st_fail (32 * p.val + k)) = decide (tol < ((lo : Int) - 16384).natAbs ∨ tol < ((hi : Int) - 49152).natAbs ∨ s.get LCA_ST_LIM_spread < State.spreadOf (shifted c.s1) ∨
        s.get LCA_ST_LIM_spread < State.spreadOf (shifted c.s2) ∨ (s.get LCA_ST_CFG_open_thr : Int) ≤ (State.meanOf (shifted c.s4) : Int) - (State.meanOf (shifted c.s3) : Int)))))

/-! ## Pixel correction (spec 07) -/

/-- R187–R190, R192, R200: the oldest accepted result goes through the stages with the active table's word, or the neutral word with nocorr where no table is active or the table
is too short, 15 ticks after stage 1, and its count, code and flags stand in the planes of the slot being written, which lies in the data space.
R193, R194: a pixel waits until its neighbours inside the window are known; then it takes the mean of the counts and codes of two usable ones, rounded up, the one usable
one's, or with none becomes missing with count and code 0; its clip and sat bits are its own or a neighbour's, usable or not. (A pixel of a stream with no active table, whose
own flags hold neither sat nor nocorr yet. Whose clip and sat bits count, and that a pixel waits: log entry 24.)
An event moves the clock to its own tick (log entry 7). -/
def Obligations.PixelsCorrected : Prop :=
  (∀ (p : Port) (r : PixRes) (l : List PixRes) (s : State), Normal s → (s.port p).intake = r :: l → (s.stream p).wedge = none →
  (s.port p).rows < s.rowsDue p → r.row < (s.port p).height →
  let col := r.lane + (if r.legacy then 16 else 32) * r.n
  col < (s.port p).width →
  let i := r.row * (s.port p).width + col
  let off := (if s.legacyTable p then 4 else 8) * i
  let has := s.bit (PCE_TBL_STAT_active p) = true ∧ off < s.get (PCE_TBL_ACT_LEN_active p) * 4096
  (has → s.poisoned (s.get (PCE_TBL_ACT_BASE_active p) * 4096 + off) = false) →
  let tw := if has then s.wordAt p (s.get (PCE_TBL_ACT_BASE_active p) * 4096 + off) else neutralWord
  let v := correctPixel r.legacy r.mode r.s r.b r.trim tw (s.corrOf p) (s.coef p)
  let n := s.curSlot p
  let b := s.slotBase p n
  i < (s.slotPlace p n).2 → s.dramOk = true → b + s.planeOff p n 3 + i < s.dataBytes →
  Gives (.pixelCorrect p .inTime) s (fun t => t.now = max s.now (r.at_ + r.lane + 15) ∧ (t.port p).intake = l ∧
    Memory.num t.dram (b + s.planeOff p n 1 + 2 * i) 2 = v.cnt ∧ Memory.num t.dram (b + s.planeOff p n 2 + 2 * i) 2 = v.code ∧
    Memory.num t.dram (b + s.planeOff p n 3 + i) 1 = ((if has then tw.flags % 8 else 128) + 32 * b2n r.clip + 64 * b2n (v.sat || (s.stream p).dtSat)) % 256)) ∧
  (∀ (p : Port) (row col fl : Nat) (l : List (Nat × Nat × Nat)) (a b : PixOut) (f : Fetch) (s : State), Normal s →
  (s.port p).interp = (row, col, fl) :: l → s.bit (PCE_TBL_STAT_active p) = false → (s.port p).rows < s.rowsDue p → row < (s.port p).height → 0 < col → col + 1 < (s.port p).width →
  col + 1 < 4096 →
  let find := fun (c : Nat) => ((s.port p).pix.find? (fun e => e.1 == row * 4096 + c)).map (·.2)
  let waits := fun (c : Nat) => (s.port p).interp.any (fun q => q.1 == row && q.2.1 == c)
  let ok := fun (o : PixOut) => o.flags % 2 = 0 ∧ o.flags / 8 % 4 = 0 ∧ o.flags / 128 = 0
  let i := row * (s.port p).width + col
  let n := s.curSlot p
  let at_ := fun (k : Nat) => s.slotBase p n + s.planeOff p n k
  let makes := fun (cnt code : Nat) => Gives (.pixelInterpolate ⟨p, f⟩) s (fun t => (t.port p).interp = l ∧ Memory.num t.dram (at_ 1 + 2 * i) 2 = cnt ∧ Memory.num t.dram (at_ 2 + 2 * i) 2 = code ∧
    let g := Memory.num t.dram (at_ 3 + i) 1
    g / 32 % 2 = b2n (fl / 32 % 2 = 1 ∨ a.own / 32 % 2 = 1 ∨ b.own / 32 % 2 = 1) ∧ g / 64 % 2 = b2n ((s.stream p).dtSat = true ∨ a.own / 64 % 2 = 1 ∨ b.own / 64 % 2 = 1) ∧ g / 128 = 1)
  (fl < 64 → i < (s.slotPlace p n).2 → s.dramOk = true → at_ 3 + i < s.dataBytes → find (col - 1) = some a → find (col + 1) = some b →
    a.cnt < 65536 → b.cnt < 65536 → a.code < 65536 → b.code < 65536 →
    (ok a → ok b → makes ((a.cnt + b.cnt + 1) / 2) ((a.code + b.code + 1) / 2)) ∧ (ok a → ¬ ok b → makes a.cnt a.code) ∧ (¬ ok a → ok b → makes b.cnt b.code) ∧
    (¬ ok a → ¬ ok b → makes 0 0)) ∧
  (find (col - 1) = none ∧ waits (col - 1) = false ∨ find (col + 1) = none ∧ waits (col + 1) = false →
    Gives (.pixelInterpolate ⟨p, f⟩) s (fun t => t.port p = s.port p ∧ t.dram = s.dram)))

/-- R198, R204, R206: a table check hashes the shadow's range, each byte as it stands when the check reads it and a poisoned word as zero: the digest registers hold it, and
check_ok reads 1 exactly where a reference is installed and equal, else check_fail. A coefficient write stores at the selection and moves it on, on the part without an enclave
alone. (How fast the check reads: log entry 19.) -/
def Obligations.TablesAndCoefficients : Prop := ∀ (p : Port) (who : Party) (v : W32) (s : State),
  let got := (s.hashRun (4 + p)).got
  let d := sha256 (got ++ (s.dramBytes (s.get (PCE_TBL_BASE_table p) * 4096) (s.get (PCE_TBL_LEN_table p) * 4096)).drop got.length)
  let ref := Map.get (fun _ => []) s.tblRef p
  let q := s.get PCE_RAD_SEL_port
  let k := s.get PCE_RAD_SEL_seg * 4 + s.get PCE_RAD_SEL_coef
  (Writes s who (PCE_TBL_CTL p) → Gives (.tableCheckStart who p) s (fun t => t.bit (PCE_TBL_STAT_checking p) = true ∧ t.dram = s.dram)) ∧
  (Normal s → s.dramWaits = false → s.bit (PCE_TBL_STAT_checking p) = true → Gives (.tableCheckComplete p) s (fun t =>
    (∀ j, j < 8 → t.num (PCE_TBL_DIGEST p j) = ofLe ((d.drop (4 * j)).take 4)) ∧ t.bit (PCE_TBL_STAT_checking p) = false ∧ t.bit PCE_EVT_check p = true ∧
    t.bit (PCE_TBL_STAT_check_ok p) = decide (ref ≠ [] ∧ ref = d) ∧ t.bit (PCE_TBL_STAT_check_fail p) = !decide (ref ≠ [] ∧ ref = d) ∧ t.dram = s.dram)) ∧
  (Writes s who PCE_RAD_DATA → s.variantM = true → Gives (.radDataWrite who v) s (Quiet s)) ∧
  (Writes s who PCE_RAD_DATA → s.variantM = false → Gives (.radDataWrite who v) s (fun t => Map.get (fun _ => 0) t.coefShadow (q * 256 + k) = v.toInt ∧
    t.get PCE_RAD_SEL_seg * 4 + t.get PCE_RAD_SEL_coef = (k + 1) % 256 ∧ t.get PCE_RAD_SEL_port = q))

/-- R210, R211: a replay of a held slot with a raw plane starts, shows as busy and runs pixel by pixel, at least div ticks apart and each in the first tick in which stage 1 takes
no live result of that stream; any other request is refused with its event. A pixel that needs no interpolation leaves its flags in the destination, which lies in the data space.
Its completion clears busy and sets its event. (That a replay begins its destination slot as a frame does: log entry 24.)
R212, R270, R271: MET injects a vector of at most 64 items that is due in the blanking of a live port, one in a frame; where every output is as expected the facet has passed; a
first mismatch keeps the vector for another try, and a second one sets the facet's known-answer condition and its event, counts in MEN_KAT_CNT and fences the port with cause 5.
An event moves the clock to its own tick, and without its condition changes nothing (log entries 7 and 6). -/
def Obligations.ReplaysAndKnownAnswers : Prop :=
  (∀ (who : Party) (v : W32) (s : State),
  let p := bitsOf v 1 0
  let src := bitsOf v 9 6
  let ok := s.replay.running = false ∧ s.bit ⟨PCE_HOLD p, 15, 0⟩ src = true ∧ (s.stream p).rawSlots / 2 ^ src % 2 = 1
  let q := s.replay
  let w := (s.port q.port).width
  let o := s.replayValue q.next
  let at_ := fun (k : Nat) => s.slotBase q.port q.dst + s.planeOff q.port q.dst k
  let live := fun (n : Nat) => (∃ r ∈ (s.port q.port).intake, n = r.at_ + r.lane) ∨ ∃ r ∈ (s.port q.port).results, r.missing = false ∧ n = r.at_ + r.lane
  (Writes s who PCE_RPL_CTL → bitOf v 31 = true →
    (ok → Gives (.replayRequest who v) s (fun t => t.replay.running = true ∧ t.replay.port = p ∧ t.replay.src = src ∧ t.replay.dst = bitsOf v 13 10 ∧ t.replay.next = 0 ∧
      t.bit PCE_RPL_STAT_busy = true)) ∧
    (¬ ok → Gives (.replayRequest who v) s (fun t => t.replay = s.replay ∧ t.bit PCE_EVT_rpl_refused = true))) ∧
  (Normal s → s.dramWaits = false → q.running = true → q.next < w * q.rows →
    Gives .replayPixel s (fun t => max s.now q.readyAt ≤ t.now ∧ ¬ live t.now ∧ (∀ n, max s.now q.readyAt ≤ n → n < t.now → live n) ∧ t.replay = { q with next := q.next + 1, readyAt := t.now + s.get PCE_RPL_CFG_div, tblUnderrun := t.replay.tblUnderrun, underruns := t.replay.underruns } ∧
      (∀ a, a ∉ [PCE_RPL_STAT_rows.addr, PCE_EVT, (PCE_CNT_ecc q.port).addr] → ¬ (0xC000 ≤ a ∧ a < 0xC038) → t.reg a = s.reg a) ∧
      (o.flags / 8 % 4 = 0 → s.dramOk = true → at_ 3 + q.next < s.dataBytes → Memory.num t.dram (at_ 3 + q.next) 1 = o.flags % 256 ∧
        (q.next < (s.slotPlace q.port q.dst).2 → Memory.num t.dram (at_ 1 + 2 * q.next) 2 = o.cnt ∧ Memory.num t.dram (at_ 2 + 2 * q.next) 2 = o.code)))) ∧
  (Normal s → s.dramWaits = false → q.running = true → w * q.rows ≤ q.next →
    Gives .replayComplete s (fun t => t.replay.running = false ∧ t.bit PCE_RPL_STAT_busy = false ∧ t.bit PCE_EVT_rpl_done = true))) ∧
  (∀ (p : Port) (vec : List KatItem) (s : State) (e : Nat), Normal s → s.metUp = true →
  let f := s.facetMen p
  let held := Map.get (fun _ => []) s.kat p
  let ok := s.katOk p (s.windowHits p) held
  let done := held ≠ [] ∧ (s.stream p).katAt = some e
  (held = [] → s.bit (FPP_CTL_live p) = true → (s.port p).closed = true ∨ (s.raster p).line < (s.port p).line0 → f.again = none → f.katDue = true → f.katDone = false →
    Gives (.katInject p vec) s (fun t => t.kat = Map.set (fun _ => []) s.kat p (vec.take 64) ∧ t.regs = s.regs ∧ (t.facetMen p).katDue = false ∧ (t.facetMen p).katDone = true)) ∧
  (f.katDone = true ∨ f.again = none ∧ f.katDue = false → Gives (.katInject p vec) s (Quiet s)) ∧
  (done → ok = true → Gives (.katResult p) s (fun t => t.now = max s.now (e + held.length + 15) ∧ Map.get (fun _ => []) t.kat p = [] ∧ (t.facetMen p).passed = true ∧ (t.facetMen p).again = none)) ∧
  (done → ok = false → f.again = none → Gives (.katResult p) s (fun t => Map.get (fun _ => []) t.kat p = [] ∧ (t.facetMen p).again = some held ∧ t.regs = s.regs)) ∧
  (done → ok = false → f.again ≠ none → (s.stream p).writing = false → s.sqState p ≠ 3 →
    Gives (.katResult p) s (fun t => t.sqState p = 3 ∧ t.get (PSC_SQ_CAUSE_cause p) = 5 ∧ (t.facetMen p).katFence = true ∧
      t.get MEN_KAT_CNT_known = min 65535 (s.get MEN_KAT_CNT_known + 1) ∧ t.bit ⟨MEN_EVT, 31, 0⟩ 5 = true ∧ t.bit ⟨MEN_FACET, 31, 0⟩ (8 * p + 3) = true)))

/-! ## Calibration (spec 08) -/

/-- R219, R221, R225–R227, R231, R232: the commands of CSU_x_CTL. ff_now asks for a flat-field where none runs; shut_ok makes the shutter available again, and the frames
from the next on lose "shutter", but for those of a flat-field in states 1 to 4, which sets it itself (log entry 68); stats_clr reseeds the statistics; compose starts a
composition unless a wedge or a flat-field runs or a target is ready and not armed, and is otherwise counted as refused; arm is kept while a
target is ready.
R218, R221, R227: a closing shutter that has not reported by move_to frames is a fault, which ends the flat-field; the first averaging frame's raw plane fills the
accumulation words of a buffer in the data space, and no byte outside the target buffer moves; the end of the composition leaves the target ready, the port anchored and the
flat-field recorded. (A read of memory may count an error of its words, in MEM registers alone.)
R229–R231: a due sample between two consecutive frames fit for statistics counts the bands that move, and with none moves no byte of memory, as an unfit one never does;
the end of a composition of statistics leaves the target ready, and no byte outside the target buffer moves; where none runs nothing ends. (A read of memory may count an error
of its words, in MEM registers alone.)
An event without its condition changes nothing (log entry 6). -/
def Obligations.CalibrationRuns : Prop :=
  (∀ (p : Port) (who : Party) (s : State), Writes s who (CSU_CTL p) →
  let x := s.csuOf p
  let ok := (s.stream p).wedge = none ∧ s.ffState p = 0 ∧ (s.bit (CSU_STAT_ready p) = true → s.bit (CSU_CTL_arm p) = true)
  Gives (.ffNow who p) s (fun t => (∀ a, t.reg a = s.reg a) ∧ t.csuOf p = if s.ffState p = 0 then { x with request := true } else x) ∧
  Gives (.shutOk who p) s (fun t => t.bit (CSU_STAT_shut_unavail p) = false ∧ (∀ a, a ≠ (CSU_STAT_shut_unavail p).addr → t.reg a = s.reg a) ∧
    t.csuOf p = if s.ffState p = 0 ∨ s.ffState p = 5 then { x with shutterNext := false } else x) ∧
  Gives (.statsClr who p) s (fun t => (∀ a, t.reg a = s.reg a) ∧ t.csuOf p = { x with reseed := true }) ∧
  (ok → Gives (.compose who p) s (fun t => (∀ a, t.reg a = s.reg a) ∧ t.csuOf p = { x with statComposing := true, buf := 0 })) ∧
  (¬ ok → Gives (.compose who p) s (fun t => t.csuOf p = x ∧ t.reg (CSU_CNT_refused p).addr = counted1 (s.reg (CSU_CNT_refused p).addr) (CSU_CNT_refused p) ∧
    t.bit CSU_EVT_refused p = true)) ∧
  Gives (.wedgeArm who p) s (fun t => t.csuOf p = x ∧ t.bit (CSU_CTL_arm p) = (s.bit (CSU_CTL_arm p) || s.bit (CSU_STAT_ready p)) ∧ ∀ a, a ≠ CSU_CTL p → t.reg a = s.reg a)) ∧
  (∀ (p : Port) (s : State), Normal s →
  let x := s.csuOf p
  let base := s.tgtBase p x.buf
  let outside := fun (t : State) => ∀ a, (a < base ∨ base + 8 * s.pixels p ≤ a) → Memory.byte t.dram a = Memory.byte s.dram a
  (s.ffState p = 1 → s.get (CSU_SHT_CFG_move_to p) ≤ x.moveFrames → Gives (.ffMoveTimeout p) s (fun t => t.ffState p = 0 ∧ t.bit (CSU_STAT_shut_unavail p) = true ∧
    t.bit CSU_EVT_shutter p = true ∧ t.reg (CSU_CNT_shutter p).addr = counted1 (s.reg (CSU_CNT_shutter p).addr) (CSU_CNT_shutter p) ∧ t.dram = s.dram)) ∧
  (s.ffState p = 1 → x.moveFrames < s.get (CSU_SHT_CFG_move_to p) → Gives (.ffMoveTimeout p) s (Quiet s)) ∧
  (∀ n rest, s.dramWaits = false → x.avgSlots = n :: rest → Gives (.ffAverageFrame p) s (fun t => (t.csuOf p).averaged = x.averaged + 1 ∧ (t.csuOf p).avgSlots = rest ∧ (∀ a, ¬ (0xC000 ≤ a ∧ a < 0xC038) → t.reg a = s.reg a) ∧
    outside t ∧ (x.averaged = 0 → (∀ a, s.poisoned a = false) → (base + 8 * s.pixels p ≤ s.slotBase p n ∨ s.slotBase p n + s.planeOff p n 0 + 2 * s.pixels p ≤ base) →
      s.dramOk = true → base + 8 * s.pixels p ≤ s.dataBytes →
      ∀ i, i < s.pixels p → t.getWord (base + 8 * i) = AccWord.toNat ⟨s.rawOf p n i, s.rawOf p n i, s.rawOf p n i⟩))) ∧
  (s.dramWaits = false → x.composing = true → x.avgSlots = [] → Gives (.ffComposeEnd p) s (fun t => t.bit CSU_EVT_ff_done p = true ∧ t.bit (CSU_STAT_ready p) = true ∧ t.get (CSU_STAT_ready_buf p) = x.buf % 2 ∧
    t.bit (CSU_STAT_overdue p) = false ∧ t.num (CSU_FF_LAST p) = x.faFrame % 2 ^ 32 ∧ (t.csuOf p).composing = false ∧ (t.csuOf p).anchored = true ∧
    t.ffState p = (if s.ffState p = 5 then 0 else s.ffState p)))) ∧
  (∀ (p : Port) (s : State), Normal s →
  let x := s.csuOf p
  let base := s.tgtBase p x.buf
  let marks := fun n => State.unsampled (s.marksOf (p * 16 + n))
  (s.dramWaits = false → x.sampleDue = true → ∀ n f m g, x.lastDone = some (n, f) → x.prevDone = some (m, g) →
    let fit := (g + 1) % 2 ^ 32 = f ∧ marks n = false ∧ marks m = false ∧ (s.stream p).wedge = none ∧ s.marksOf (p * 16 + n) / 2 ^ 14 % 2 = 0 ∧ s.ffState p = 0
    let moving := ((List.range (((s.port p).height + 63) / 64)).filter (s.bandMoves p n m)).length
    (fit → Gives (.statsSample p) s (fun t => (t.csuOf p) = { x with sampleDue := false, reseed := false } ∧
      (moving < 2 ^ ((CSU_GATED_moving p).hi - (CSU_GATED_moving p).lo + 1) → t.get (CSU_GATED_moving p) = moving) ∧ (moving = 0 → t.dram = s.dram) ∧
      ∀ a, a ≠ (CSU_GATED_moving p).addr → ¬ (0xC000 ≤ a ∧ a < 0xC038) → t.reg a = s.reg a)) ∧
    (¬ fit → Gives (.statsSample p) s (fun t => (t.csuOf p) = { x with sampleDue := false } ∧ t.dram = s.dram ∧ t.regs = s.regs))) ∧
  (s.dramWaits = false → x.statComposing = true → Gives (.statsComposeEnd p) s (fun t => t.bit CSU_EVT_composed p = true ∧ t.bit (CSU_STAT_ready p) = true ∧
    t.get (CSU_STAT_ready_buf p) = x.buf % 2 ∧ t.csuOf p = { x with statComposing := false, updFor := 0 } ∧
    ∀ a, (a < base ∨ base + 8 * s.pixels p ≤ a) → Memory.byte t.dram a = Memory.byte s.dram a)) ∧
  (x.statComposing = false → Gives (.statsComposeEnd p) s (Quiet s)))

/-! ## Metrology enclave (spec 09) -/

/-- R2, R240–R242, R262: the decision that SEAL_N is low opens the seal; the decision that it is high moves an open seal to CLOSING and empties every staging area but that of a
curve request in progress, and leaves a closed one; a part without the enclave has no seal. With no request in progress the seal closes when the identity is complete:
MEN_LEGAL_CRC and the digest are those of the sealed image.
(MEN_EVT.seal set at each change: log entry 48; the area of a request in progress: log entry 49.)
An event without its condition changes nothing (log entry 6). -/
def Obligations.SealDecisions : Prop := ∀ (s : State), Normal s →
  (s.variantM = false → Gives .sealLowDecided s (Quiet s) ∧ Gives .sealHighDecided s (Quiet s)) ∧
  (s.variantM = true → Gives .sealLowDecided s (fun t => (s.sealState ≤ 2 → t.sealState = 0) ∧ t.bit MEN_STAT_seal_pin = false ∧ t.men.decided = true ∧ (s.sealState = 1 ∨ s.sealState = 2 → t.bit ⟨MEN_EVT, 31, 0⟩ 0 = true)) ∧
    Gives .sealHighDecided s (fun t => t.bit MEN_STAT_seal_pin = true ∧ t.men.decided = true ∧ t.sealState = (if s.sealState = 0 then 1 else s.sealState) ∧
      (s.sealState = 0 → t.bit ⟨MEN_EVT, 31, 0⟩ 0 = true ∧ (s.men.busy = none → t.men.staging = []) ∧
        (∀ n pay x l, s.men.busy = some (n, 0x12, pay, true) → ((x, l) ∈ t.men.staging ↔ (x, l) ∈ s.men.staging ∧ x = pf pay 0 1))) ∧
      (s.sealState ≠ 0 → t.men.staging = s.men.staging))) ∧
  (s.metUp = true → s.sealState = 1 → s.men.busy = none → Gives .identityComplete s (fun t => t.sealState = 2 ∧ t.bit ⟨MEN_EVT, 31, 0⟩ 0 = true ∧
    t.reg MEN_LEGAL_CRC = BitVec.ofNat 32 (crc32 s.sealedImage) ∧ t.men.digest = sha256 s.sealedImage ∧ t.bit MEN_STAT_ident_stale = false)) ∧
  (s.metUp = false ∨ s.sealState ≠ 1 ∨ s.men.busy ≠ none → Gives .identityComplete s (Quiet s))

/-- R3, R253, R255, R258, R259, R274–R276: after NVS recall MET starts where its firmware verifies, with a version word that is not zero, and otherwise reads as version FFFFFFFFH
and stays in BOOT until the enclave is reset; the enclave's watchdog resets it and counts; a verified time ages out; the signer moves the oldest record to the queue with its
signature; a read of MEN_EVT keeps its value with the reader, and one by the host or SUP clears it; at its locus a measured frame's confirmation judges every zone with the
active descriptors, and an unmeasured one leaves them; before its locus nothing is judged.
(The start in BOOT until an enclave reset and the copies found bad: log entry 51; event records: log entry 48; pins held until the next confirmation: log entry 47.)
An event moves the clock to its own tick, and without its condition changes nothing (log entries 7 and 6). -/
def Obligations.EnclaveEvents : Prop := ∀ (p : Port) (who : Party) (fw st : Bool) (bad : List W32) (s : State), Normal s → s.variantM = true →
  (s.men.up = true ∨ s.men.fwFail = true ∨ s.bit NVS_STAT_ready = false → Gives (.metBootComplete fw st bad) s (Quiet s)) ∧
  (s.men.up = false → s.men.fwFail = false → s.bit NVS_STAT_ready = true →
    (fw = true → Gives (.metBootComplete fw st bad) s (fun t => t.men.up = true ∧ t.reg MEN_ID ≠ 0#32 ∧ t.men.p1Bad = bad.map (fun a => a.toNat) ∧ t.men.testFail = !st)) ∧
    (fw = false → Gives (.metBootComplete fw st bad) s (fun t => t.men = { s.men with fwFail := true } ∧ t.reg MEN_ID = 0xFFFFFFFF#32 ∧ ∀ a, a ≠ MEN_ID → t.reg a = s.reg a))) ∧
  Gives .enclaveWatchdogExpiry s (fun t => t.men.up = false ∧ t.men.wasReset = true ∧ t.num MEN_RSTCNT = min 0xFFFF (s.num MEN_RSTCNT + 1) ∧ t.core 5 = { readyAt := s.now } ∧ t.men.fwFail = false ∧
    t.reg MEN_ID = s.reg MEN_ID ∧ t.sealState = s.sealState ∧ t.men.zones = s.men.zones ∧ t.men.winAct = s.men.winAct ∧ t.men.privKey = s.men.privKey ∧ t.men.pubKey = s.men.pubKey ∧ ∀ k, k ≠ 5 → t.core k = s.core k) ∧
  (s.bit MEN_STAT_time_verified = true → Gives .timeVerifyExpiry s (fun t => t.bit MEN_STAT_time_verified = false ∧ s.men.utcWall + s.timeValid * 27000000000 ≤ t.wall ∧
    ∀ a, a ≠ MEN_STAT → t.reg a = s.reg a)) ∧
  (∀ b rest, s.men.built = b :: rest → Gives .recordSigned s (fun t => t.regs = s.regs ∧
    t.men = { s.men with built := rest, queue := s.men.queue ++ [b ++ P256.sign s.men.privKey (sha256 b)] })) ∧
  (s.heldHalf who.code = none → mayRead who.code MEN_EVT = true → Gives (.menEvtRead who) s (fun t => t.reg MEN_EVT = (if who.code < 2 then 0#32 else s.reg MEN_EVT) ∧ Map.get (fun _ => 0#32) t.rdata who.code = s.reg MEN_EVT ∧
    ∀ a, a ≠ MEN_EVT → t.reg a = s.reg a)) ∧
  (s.metUp = false ∨ (s.facetMen p).confirm = false ∨ s.confirmTick p = none → Gives (.zoneConfirmation p) s (Quiet s)) ∧
  (∀ at_, s.dramWaits = false → s.metUp = true → (s.facetMen p).confirm = true → s.confirmTick p = some at_ →
    let slot := s.get (PCE_SLOT_last p)
    let blank := (s.facetMen p).blank
    let marks := s.marksOf (if blank then 64 + p else p * 16 + slot)
    let measured := blank = false ∧ marks / 2 ^ 7 % 2 = 0 ∧ marks / 2 ^ 9 % 2 = 0 ∧ marks % 2 = 0
    let rows := s.dramNum (s.slotBase p slot + 6) 2
    Gives (.zoneConfirmation p) s (fun t => t.now = max s.now at_ ∧ (t.facetMen p).confirm = false ∧ t.facetBit p 6 = !decide measured ∧ (¬ measured → t.men.zone = s.men.zone) ∧
      (measured → ∀ n, n < 64 → zoneDefined (s.zoneDesc p n) = true →
        let d := s.zoneDesc p n
        let good := (s.zonePixels p slot d rows).filter (fun q => q.2.2.2)
        let above := (good.filter (fun q => decide (zf d 8 2 ≤ q.2.2.1))).length
        (t.zoneSt p n).n = good.length ∧ (t.zoneSt p n).above = above ∧ (t.zoneSt p n).absCond = decide (zf d 16 3 ≤ above) ∧
        (zf d 16 3 ≤ above → (t.zoneSt p n).absOn = true))))

/-- R244, R246–R248: a request is taken only by a running MET with none in progress and with a sequence number that is new; one that changes a parameter is refused and
counted unless the seal is open, and changes nothing; one with a payload of the wrong length is answered as an invalid parameter. (REPLAY_RECORD and FIRMWARE_UPDATE read DRAM,
whose requests wait while the devices are to be trained again, R472: log entry 61.)
R246, R247, R348: MET reads the request block in the band store as it reads the request itself; a request that reports in progress is answered with status 1 first, and
completes later as the request would with the seal as it was at its start; one with a payload word that cannot be corrected is answered with status 3.
(Which state of the seal ends a request in progress, a request while one is in progress, a poisoned block: log entry 49.)
An event without its condition changes nothing (log entry 6). -/
def Obligations.RequestsTaken : Prop :=
  (∀ (i : Instr) (op : Nat) (seq : W32) (pay : List (BitVec 8)) (s : State), Normal s →
  (i, op) ∈ [(Instr.readDigest seq, 1), (.readPubkey seq, 2), (.readAudit seq pay, 3), (.setTime seq pay, 4), (.setTimeSigned seq pay, 5), (.replayRecord seq pay, 6),
    (.retryKat seq pay, 7), (.liftFence seq pay, 8), (.writeZone seq pay, 16), (.writeMask seq pay, 17), (.writeCurve seq pay, 18), (.installProgRef seq pay, 19),
    (.installTableRef seq pay, 20), (.setEvidential seq pay, 21), (.setRecords seq pay, 22), (.setTimeKey seq pay, 23), (.generateKey seq, 24), (.firmwareUpdate seq pay, 25)] →
  (s.metUp = false ∨ s.men.busy ≠ none ∨ s.reg MEN_RSP_SEQ = seq → Gives i s (Quiet s)) ∧
  let runs := s.dramWaits = false ∨ op ≠ 6 ∧ op ≠ 25
  (¬ runs → Gives i s (Quiet s)) ∧
  (runs → s.metUp = true → s.men.busy = none → s.reg MEN_RSP_SEQ ≠ seq → 16 ≤ op → s.sealState ≠ 0 → Gives i s (fun t => Answered seq op 2 t ∧ t.bit ⟨MEN_EVT, 31, 0⟩ 7 = true ∧
    t.get (MEN_REJ_rejections (reqClass op)) = min 65535 (s.get (MEN_REJ_rejections (reqClass op)) + 1) ∧ t.men.zones = s.men.zones ∧ t.men.masks = s.men.masks ∧ t.men.evid = s.men.evid ∧
    t.men.recCfg = s.men.recCfg ∧ t.men.timeKey = s.men.timeKey ∧ t.men.pubKey = s.men.pubKey ∧ t.men.privKey = s.men.privKey ∧ t.men.winArm = s.men.winArm ∧ t.men.image = s.men.image ∧ t.men.staging = s.men.staging ∧
    t.progRef = s.progRef ∧ t.tblRef = s.tblRef ∧ t.coefShadow = s.coefShadow)) ∧
  (runs → s.metUp = true → s.men.busy = none → s.reg MEN_RSP_SEQ ≠ seq → 3 ≤ op → op ≠ 24 → (16 ≤ op → s.sealState = 0) → pay = [] →
    Gives i s (fun t => Answered seq op 3 t ∧ t.men.utc = s.men.utc ∧ t.men.zones = s.men.zones ∧ t.progRef = s.progRef ∧ t.coefShadow = s.coefShadow))) ∧
  (∀ (seq : W32) (s : State), Normal s → s.metUp = true →
  (s.men.busy = none → (∀ a, s.wordErr (State.wordNo true a) = none) → s.reg MEN_RSP_SEQ ≠ seq → Memory.num s.band 0xBFFF00 4 = seq.toNat → Memory.num s.band 0xBFFF04 4 = 1 →
    (∃ t, exec (.readDigest seq) s = .next t ∧ exec (.requestBlockPoll false) s = .next t) ∧
    Gives (.requestBlockPoll true) s (fun t => Answered seq 1 1 t ∧ t.men.busy = some (seq.toNat, 1, [], s.sealState == 0))) ∧
  (s.men.busy = none → s.reg MEN_RSP_SEQ ≠ seq → Memory.num s.band 0xBFFF00 4 = seq.toNat → Memory.num s.band 0xBFFF04 4 = 3 + 2 * 2 ^ 16 → s.wordErr (State.wordNo true 0xBFFF00) = none →
    (s.wordErr (State.wordNo true 0xBFFF08)).any (·.ue) = true → ∀ slow, Gives (.requestBlockPoll slow) s (fun t => Answered seq 3 3 t ∧ t.bit MEM_EVT_bs_ue = true)) ∧
  (s.men.busy = some (seq.toNat, 1, [], true) → Gives .requestFinalStatus s (fun t => Answered seq 1 0 t ∧ t.men.busy = none)) ∧
  (s.men.busy = none → Gives .requestFinalStatus s (Quiet s)))

/-- R245–R249, R252, R255, R263, R271: what MET answers to the requests that it serves with the seal in any state, each with the status of its completion.
(Response words that stay: log entry 49; lifts: log entry 39; replay records: log entry 48.) -/
def Obligations.ServiceRequests : Prop := ∀ (seq : W32) (pay : List (BitVec 8)) (s : State), Normal s → s.metUp = true → s.men.busy = none → s.reg MEN_RSP_SEQ ≠ seq →
  let held := fun (l : List Byte) (t : State) => ∀ k, 4 * k + 4 ≤ l.length → k < 16 → t.num (MEN_RSP_DATA k) = pf l (4 * k) 4
  let e := Map.get (fun _ => []) s.men.trail (pf pay 0 2)
  let nonce := s.num MEN_TIME_NONCE_LO + 2 ^ 32 * s.num MEN_TIME_NONCE_HI
  let p := pf pay 0 1
  let n := pf pay 1 1
  let b := s.slotBase p n
  Gives (.readDigest seq) s (fun t => Answered seq 1 0 t ∧ (s.men.digest.length = 32 → held s.men.digest t)) ∧
  Gives (.readPubkey seq) s (fun t => Answered seq 2 0 t ∧ (s.men.pubKey = [] → ∀ k, k < 16 → t.num (MEN_RSP_DATA k) = 0) ∧ (s.men.pubKey.length = 64 → held s.men.pubKey t)) ∧
  (pay.length = 2 → e.length = 32 → Gives (.readAudit seq pay) s (fun t => Answered seq 3 0 t ∧ held e t)) ∧
  (pay.length = 8 → Gives (.setTime seq pay) s (fun t => Answered seq 4 0 t ∧ t.bit MEN_STAT_time_set = true ∧ t.bit MEN_STAT_time_verified = false ∧ t.men.utc = pf pay 0 8 ∧
    t.men.utcWall = s.wall)) ∧
  (pay.length = 80 →
    let ok := P256.verifies s.men.timeKey (sha256 (pay.take 16)) (pay.drop 16) = true ∧ pf pay 8 8 = nonce ∧ s.utcNow ≤ pf pay 0 8 + 60000
    Gives (.setTimeSigned seq pay) s (fun t => (ok → Answered seq 5 0 t ∧ t.bit MEN_STAT_time_verified = true ∧ t.men.utc = pf pay 0 8 ∧ t.men.utcWall = s.wall) ∧
      (¬ ok → Answered seq 5 5 t ∧ t.men.utc = s.men.utc ∧ t.men.utcWall = s.men.utcWall ∧ t.bit ⟨MEN_EVT, 31, 0⟩ 7 = true))) ∧
  (s.dramWaits = false → pay.length = 2 → p < 4 → n < s.ringSlots p → s.dramNum (b + 12) 1 / 32 % 2 = 1 → s.men.pubKey ≠ [] → s.recDepth < 512 →
    Gives (.replayRecord seq pay) s (fun t => Answered seq 6 0 t ∧ ∃ r, (s.men.built ++ [r]) <+: t.men.built ∧ r.length = 192 ∧ r.getD 1 0#8 / 16#8 = 3#8)) ∧
  (pay.length = 1 → p < 4 → (s.facetMen p).katFence = true →
    (Map.get (fun _ => none) s.men.retryAt p = none → Gives (.retryKat seq pay) s (fun t => Answered seq 7 0 t ∧ t.sqState p = 1 ∧ t.bit (FPP_STAT_fenced p) = false ∧
      (t.facetMen p).katFence = false ∧ Map.get (fun _ => none) t.men.retryAt p = some s.men.frames)) ∧
    (∀ f, Map.get (fun _ => none) s.men.retryAt p = some f → s.men.frames < f + 3600 → Gives (.retryKat seq pay) s (fun t => Answered seq 7 6 t ∧ t.sqState p = s.sqState p ∧
      (t.facetMen p).katFence = true))) ∧
  (pay.length = 4 → pf pay 0 2 = 0 → pf pay 2 2 < 128 →
    let i := pf pay 2 2
    (s.laneFenced (i / 32) (i % 32) = true → s.bit (LCA_LANE_CTL_st_fail i) = false → s.lastFence ≠ some (0, i, s.pulonCycle) →
      Gives (.liftFence seq pay) s (fun t => Answered seq 8 0 t ∧ t.get (LCA_LANE_CTL_cause i) = 0)) ∧
    (s.laneFenced (i / 32) (i % 32) = true → s.bit (LCA_LANE_CTL_st_fail i) = true → Gives (.liftFence seq pay) s (fun t => Answered seq 8 6 t ∧
      t.reg (LCA_LANE_CTL i) = s.reg (LCA_LANE_CTL i))) ∧
    (s.laneFenced (i / 32) (i % 32) = false → Gives (.liftFence seq pay) s (fun t => Answered seq 8 0 t ∧ t.reg (LCA_LANE_CTL i) = s.reg (LCA_LANE_CTL i))))

/-- R24, R25, R87, R204, R252, R254–R257, R261, R262, R268, R269: what MET answers, with the seal open, to the requests that change a parameter. A zone or a row of an exclusion
plane is held by MET and armed, and its stream's window stands until the next frame start of its port; a generated key is derived from a private key that MET keeps.
(When a zone or plane takes effect: log entry 47; firmware images and keys: log entry 43; where the parameters are held: log entry 51.) -/
def Obligations.ParameterRequests : Prop := ∀ (seq : W32) (pay : List (BitVec 8)) (s : State), Normal s → s.metUp = true → s.men.busy = none → s.reg MEN_RSP_SEQ ≠ seq →
  s.sealState = 0 →
  let d := pay.drop 4
  let x := pf pay 0 1
  let im := s.dramBytes (pf pay 0 4) (pf pay 4 4)
  let new : List W32 := (List.range ((pay.length - 4) / 4)).map (fun i => BitVec.ofNat 32 (pf pay (4 + 4 * i) 4))
  let held := Map.get (fun _ => []) s.men.staging x
  let samples := (held ++ new).map (fun w => sgn 32 w.toNat)
  (pay.length = 36 → x < 4 → pf pay 1 1 < 64 → zoneValid d = true → Gives (.writeZone seq pay) s (fun t => Answered seq 16 0 t ∧ t.zoneHeld x (pf pay 1 1) = d ∧
    t.men.winArm / 2 ^ x % 2 = 1 ∧ t.men.winAct = s.men.winAct ∧ t.men.zone = s.men.zone ∧ ∀ y m, m < 64 → (y, m) ≠ (x, pf pay 1 1) → t.zoneHeld y m = s.zoneHeld y m)) ∧
  (pay.length = 164 → x < 4 → pf pay 1 2 < 512 → Gives (.writeMask seq pay) s (fun t => Answered seq 17 0 t ∧ t.men.winArm / 2 ^ x % 2 = 1 ∧ t.men.maskAct = s.men.maskAct ∧
    Memory.bytes t.men.masks (x * 81920 + pf pay 1 2 * 160) 160 = d ∧
    ∀ a, (a < x * 81920 + pf pay 1 2 * 160 ∨ x * 81920 + pf pay 1 2 * 160 + 160 ≤ a) → Memory.byte t.men.masks a = Memory.byte s.men.masks a)) ∧
  (8 ≤ pay.length → pay.length % 4 = 0 → new.length ≤ 56 → x < 4 →
    (pf pay 2 2 = 0 → Gives (.writeCurve seq pay) s (fun t => Answered seq 18 0 t ∧ Map.get (fun _ => []) t.men.staging x = new ∧ t.coefShadow = s.coefShadow)) ∧
    (pf pay 2 2 ≠ 0 → pf pay 2 2 ≠ held.length → Gives (.writeCurve seq pay) s (fun t => Answered seq 18 3 t ∧ t.men.staging = s.men.staging ∧ t.coefShadow = s.coefShadow)) ∧
    (pf pay 2 2 ≠ 0 → pf pay 2 2 = held.length → held.length + new.length < 257 → Gives (.writeCurve seq pay) s (fun t => Answered seq 18 0 t ∧
      Map.get (fun _ => []) t.men.staging x = held ++ new ∧ t.coefShadow = s.coefShadow)) ∧
    (257 < pf pay 2 2 + new.length → Gives (.writeCurve seq pay) s (fun t => Answered seq 18 3 t ∧ t.men.staging = s.men.staging ∧ t.coefShadow = s.coefShadow)) ∧
    (pf pay 2 2 ≠ 0 → pf pay 2 2 = held.length → held.length + new.length = 257 → Gives (.writeCurve seq pay) s (fun t =>
      Map.get (fun _ => []) t.men.staging x = [] ∧
      if curveOk samples then Answered seq 18 0 t ∧ t.coefArm / 2 ^ x % 2 = 1 ∧ t.bit MEN_STAT_ident_stale = true else Answered seq 18 3 t ∧ t.coefShadow = s.coefShadow))) ∧
  (pay.length = 36 → x < 4 → Gives (.installProgRef seq pay) s (fun t => Answered seq 19 0 t ∧ t.progRef = Map.set (fun _ => []) s.progRef x d ∧ t.tblRef = s.tblRef) ∧
    Gives (.installTableRef seq pay) s (fun t => Answered seq 20 0 t ∧ t.tblRef = Map.set (fun _ => []) s.tblRef x d ∧ t.progRef = s.progRef)) ∧
  (pay.length = 2 → let m := pf pay 0 2
    ((∀ n, n < 16 → m / 2 ^ n % 2 = 1 → s.get (CER_S_DELTA_delta_act n) = 0) → Gives (.setEvidential seq pay) s (fun t => Answered seq 21 0 t ∧ t.men.evid = m)) ∧
    (∀ n, n < 16 → m / 2 ^ n % 2 = 1 → s.get (CER_S_DELTA_delta_act n) ≠ 0 → Gives (.setEvidential seq pay) s (fun t => Answered seq 21 3 t ∧ t.men.evid = s.men.evid))) ∧
  (pay.length = 32 → pf pay 10 1 < 16 → 4 ≤ pf pay 11 1 → pay.drop 16 = List.replicate 16 0#8 →
    Gives (.setRecords seq pay) s (fun t => Answered seq 22 0 t ∧ t.men.recCfg = pay)) ∧
  (pay.length = 64 → Gives (.setTimeKey seq pay) s (fun t => Answered seq 23 0 t ∧ t.men.timeKey = pay)) ∧
  Gives (.generateKey seq) s (fun t => Answered seq 24 0 t ∧ 0 < t.men.privKey ∧ t.men.privKey < P256.order ∧ t.men.pubKey = P256.publicKey t.men.privKey ∧
    t.bit MEN_STAT_key_present = true) ∧
  (s.dramWaits = false → pay.length = 8 → pf pay 0 4 + pf pay 4 4 ≤ s.dataBytes → s.dramOk = true → (∀ a, s.poisoned a = false) → Gives (.firmwareUpdate seq pay) s (fun t =>
    if Config.imageValid im = true then t.men.image = some im ∧ t.men.up = false ∧ t.men.opens = [] else Answered seq 25 5 t ∧ t.men.image = s.men.image))

/-! ## Image pipeline (spec 10) -/

/-- R283, R284, R286, R288, R293, R300: an enabled facet starts without history and a disabled one keeps no waiting frame; hist_clr makes the history invalid; a bank copy makes
both banks agree 5,120 pipeline cycles after its start; at the end of a band the facet goes on with its next band, while the throttle is enforced only after an idle gap as long
as the band (R301), and after the last one its output slot is complete; half a deadline makes a waiting frame urgent.
(The facet chosen in an idle gap still waits: log entry 57.)
An event moves the clock to its own tick, and without its condition changes nothing (log entries 7 and 6). -/
def Obligations.FacetsRun : Prop := ∀ (f : Fin 6) (who : Party) (s : State),
  let x := s.facet f
  let d := s.get (IPL_SCHED_deadline f)
  let b := s.get (IPL_F_STAT_bank f)
  (Writes s who (IPL_CTL f) → s.ipl.chosen = none →
    (s.bit (IPL_CTL_en f) = false → Gives (.facetEnableWrite who f 1#32) s (fun t => t.bit (IPL_CTL_en f) = true ∧ (t.facet f).histValid = false ∧
      (t.facet f).waiting = x.waiting ∧ t.bit (IPL_F_STAT_seeded f) = false)) ∧
    (s.bit (IPL_CTL_en f) = true → x.run = none → Gives (.facetEnableWrite who f 0#32) s (fun t => t.bit (IPL_CTL_en f) = false ∧ (t.facet f).waiting = [] ∧
      (t.facet f).run = none ∧ t.get (IPL_F_STAT_backlog f) = 0)) ∧
    (s.bit (IPL_F_STAT_syncing f) = false → Gives (.tableSync who f) s (fun t => t.bit (IPL_F_STAT_syncing f) = true ∧ t.facet f = { x with syncAt := s.now })) ∧
    Gives (.histClr who f) s (fun t => (t.facet f).histValid = false ∧ (t.facet f).waiting = x.waiting ∧ t.bit (IPL_F_STAT_seeded f) = false)) ∧
  (Normal s → s.bit (IPL_F_STAT_syncing f) = true → Gives (.tableSyncComplete f) s (fun t => t.now = max s.now (x.syncAt + 10240) ∧
    t.bit (IPL_F_STAT_syncing f) = false ∧ (∀ i, i < 2816 → t.bankWord (1 - b) f (4 * i) = s.bankWord b f (4 * i)) ∧
    ∀ i, i < 2816 → t.bankWord b f (4 * i) = s.bankWord b f (4 * i))) ∧
  (Normal s → s.dramWaits = false → s.ipl.chosen = none → ∀ r, s.ipl.band = some f.val → x.run = some r → r.abandon = false →
    (r.band + 1 < State.bandsOf r.frame → s.ipl.loaded = some f.val → s.ipl.cont = true → s.bit (IPL_CTL_en f) = true → s.bit (IPL_F_STAT_fenced f) = false →
      (∀ g, g < 6 → g ≠ f.val → s.bit (IPL_CTL_en g) = false) →
      (s.enforced = false → Gives .bandEnd s (fun t => t.now = max s.now s.ipl.endAt ∧ t.ipl.band = some f.val ∧ t.get IPL_STAT_facet = f.val ∧
        ∃ q, (t.facet f).run = some q ∧ q.band = r.band + 1 ∧ q.frame = r.frame)) ∧
      (s.enforced = true → s.now ≤ s.ipl.endAt → s.ipl.startAt < s.ipl.endAt → Gives .bandEnd s (fun t => t.now = s.ipl.endAt ∧ t.ipl.band = none ∧ t.get IPL_STAT_facet = 7 ∧
        t.ipl.chosen = some f.val ∧ t.ipl.startAt = s.ipl.endAt + (s.ipl.endAt - s.ipl.startAt) ∧ t.bit IPL_STAT_throttled = true))) ∧
    (State.bandsOf r.frame ≤ r.band + 1 → Gives .bandEnd s (fun t => t.now = max s.now s.ipl.endAt ∧ t.bit IPL_EVT0_frame f = true ∧
      t.get (IPL_OUT_SLOT_last f) = s.get (IPL_OUT_SLOT_slot f)))) ∧
  (Normal s → s.ipl.band = none → s.ipl.chosen = none → Gives .bandEnd s (Quiet s)) ∧
  (Normal s → d ≠ 0 → Gives (.frameUrgent f) s (fun t => t.regs = s.regs ∧ (t.facet f).waiting = x.waiting.map (fun q => { q with urgent := q.urgent || decide (d ≤ 2 * q.age) }))) ∧
  (Normal s → d = 0 → Gives (.frameUrgent f) s (Quiet s))

/-! ## Compression and recorder (spec 11) -/

/-- R310, R314–R317, R319: a coder codes the tile in hand in 2 × (samples + 24) ticks from the tick at which it was free, whatever the other coder does, and hands it to its
decoder lane; a tile that decodes to its reconstruction is released as it was coded and stands in its unit's ring behind the bytes before it, and one that an upset struck is
counted and released raw. (That the verification takes its bound of w × h + 64 cycles whole: log entry 58.)
An event moves the clock to its own tick (log entry 7). -/
def Obligations.TilesCodedAndVerified : Prop := ∀ (k : Fin 2) (s : State), Normal s → s.dramWaits = false →
  let c := s.coder k
  (∀ id row col j rows, c.cur = some (id, row, col) → s.jobOf id = some j → col + 1 < (j.w + 255) / 256 →
    let w := min 256 (j.w - 256 * col)
    let h := min 8 (j.rows.getD j.h - 8 * row)
    s.tileSamples j row col w h = some rows →
    Gives (.tileCode k) s (fun t => t.now = max s.now (c.codeAt + 2 * (w * h + 24)) ∧ (t.coder k).cur = some (id, row, col + 1) ∧ (t.coder k).codeAt = c.codeAt + 2 * (w * h + 24) ∧
      t.jobOf id = some { j with waiting := j.waiting + 1 } ∧
      ∃ z, (t.coder k).queue = c.queue ++ [z] ∧ z.job = id ∧ z.x = rows.flatten ∧ z.payload = (codeTile j.delta rows).1 ∧ z.r = (codeTile j.delta rows).2)) ∧
  (∀ z rest j, c.queue = z :: rest → s.jobOf z.job = some j → j.ended = false → j.unit = z.unit →
    let ok := decodeTile z.delta z.w z.h z.payload = z.r
    let fin := z.at_ + 2 * (z.w * z.h + 64)
    let n := 8 + z.payload.length
    (ok → s.bit CER_STAT_coder k = false → z.payload.length < rawLen z.w z.h → s.openJob z.unit = some j → j.out = [] → (∀ a, s.wordErr a = none) → s.dramOk = true →
      s.ringBase z.unit + s.ringSize z.unit ≤ s.dataBytes → n ≤ s.ringSize z.unit →
      Gives (.tileVerify k false) s (fun t => t.regs = s.regs ∧ (t.coder k).queue = rest ∧ t.now = max s.now fin ∧
        t.jobOf z.job = some { j with len := j.len + n, tiles := j.tiles + 1, waiting := j.waiting - 1 } ∧
        (t.ringGet z.unit ((s.ring z.unit).wr + j.len) n).drop 8 = z.payload)) ∧
    (z.unit < 16 → Gives (.tileVerify k true) s (fun t => t.bit CER_EVT0_vfail z.unit = true ∧ (t.coder k).queue = rest ∧
      t.get (CER_S_CNT_vfail z.unit) = min (2 ^ ((CER_S_CNT_vfail z.unit).hi - (CER_S_CNT_vfail z.unit).lo + 1) - 1) (s.get (CER_S_CNT_vfail z.unit) + 1))))

/-- R322–R324, R326, R327: a freeze of a running recorder triggers it with cause 2 and freezes it at once with no frame to follow; one of a triggered recorder freezes it; an
export with nothing held has sent its last, and otherwise begins; a release empties a frozen recorder and lets it run; a table load is refused into a guarded range, and
otherwise runs until its end, which reports a chunk that fails; where none does, every sample of every tile stands in its table word, and the load has succeeded if they make up
the length that the image states. A replayed frame that a recorder holds is appended to it at the end of the replay while replay_en is 1 and the
recorder is not OFF, and else not.
(A freeze of a triggered recorder, an empty export, the append of a replay: log entry 58; chunks with an uncorrectable word: log entry 60.) -/
def Obligations.RecordersAndTableLoads : Prop := ∀ (x : Fin 4) (who : Party) (s : State) (tiles : List (List Byte × List Byte)) (rest : List Byte),
  let g := s.ring (16 + x)
  (Writes s who (CER_REC_CTL x) →
    (s.recState x = 1 → s.cer.jobs = [] → Gives (.recFreeze who x) s (fun t => t.recState x = (if s.get (CER_REC_CFG_post x) = 0 then 3 else 2) ∧ t.get (CER_REC_STAT_cause x) = 2 ∧
      t.num (CER_REC_TRIG x) = (s.raster x).frame % 2 ^ 32)) ∧
    (s.recState x = 2 → s.recBoth x 2 = false → Gives (.recFreeze who x) s (fun t => t.recState x = 3 ∧ t.bit (CER_REC_STAT_exported x) = false ∧ t.bit CER_EVT2_freeze x = true)) ∧
    (s.recState x = 3 → g.recs = [] → Gives (.recExport who x) s (fun t => t.recState x = 3 ∧ t.bit (CER_REC_STAT_exported x) = true ∧ t.bit CER_EVT2_export x = true)) ∧
    (s.recState x = 3 → g.recs ≠ [] → Gives (.recExport who x) s (fun t => t.recState x = 4 ∧ t.ring (16 + x) = { g with sent := 0 })) ∧
    (s.recState x = 3 → Gives (.recRelease who x) s (fun t => t.num (CER_REC_STAT x) = 1 ∧ t.ring (16 + x) = {} ∧ t.recState x = 1)) ∧
    (s.recState x ≠ 3 → Gives (.recExport who x) s (Quiet s) ∧ Gives (.recRelease who x) s (Quiet s))) ∧
  (Writes s who CER_LOAD_CTL → s.bit CER_LOAD_STAT_busy = true → Gives (.tableLoadStart who) s (Quiet s)) ∧
  (Writes s who CER_LOAD_CTL → s.bit CER_LOAD_STAT_busy = false → (∀ a, s.guarded a = false) → Gives (.tableLoadStart who) s (fun t => t.reg CER_LOAD_STAT = 1#32 ∧
    ∀ a, a ≠ CER_LOAD_STAT → t.reg a = s.reg a)) ∧
  (Normal s → s.dramWaits = false → s.bit CER_LOAD_STAT_busy = true → Gives .tableLoadEnd s (fun t => t.bit CER_LOAD_STAT_busy = false ∧
    ∀ i, s.badChunk (s.get CER_LOAD_SRC_image * 4096) (s.get CER_LOAD_LEN_chunks) = some i → i < 2 ^ 20 →
      t.bit CER_LOAD_STAT_crc_fail = true ∧ t.get CER_LOAD_STAT_chunk = i ∧ t.bit CER_EVT2_load_fail = true)) ∧
  (Normal s → s.dramWaits = false → s.bit CER_LOAD_STAT_busy = true → s.dramOk = true → (∀ a, s.guarded a = false) →
    let n := s.get CER_LOAD_LEN_chunks
    let chunk := fun (i : Nat) => s.dramBytes (s.get CER_LOAD_SRC_image * 4096 + 4096 * i) 4096
    let data := (List.range n).flatMap (fun i => (chunk i).take 4092)
    let size := if pf data 1 1 % 2 = 1 then 4 else 8
    let w := pf data 2 2
    let h := pf data 4 2
    let cols := (w + 255) / 256
    let dst := s.get CER_LOAD_DST_table * 4096
    let idx := fun (e : List Byte × List Byte) => pf e.1 1 2
    let plane := fun (e : List Byte × List Byte) => pf e.1 5 1 / 4 % 4
    let tw := fun e => min 256 (w - 256 * (idx e % cols))
    let th := fun e => min 8 (h - 8 * (idx e / cols))
    let sample := fun (e : List Byte × List Byte) i => (if pf e.1 0 1 / 128 = 1 then rawSamples (tw e * th e) e.2 else decodeTile 0 (tw e) (th e) e.2).getD i 0
    (∀ i, i < n → crc32 ((chunk i).take 4092) = ofLe ((chunk i).drop 4092)) → pf data 0 1 = 1 → w ≠ 0 → h ≠ 0 → dst + size * w * h ≤ s.dataBytes →
    data.drop 64 = tiles.flatMap (fun e => e.1 ++ e.2) ++ rest → tiles.length = size / 2 * cols * ((h + 7) / 8) → (tiles.map (fun e => (plane e, idx e))).Nodup →
    (∀ e ∈ tiles, e.1.length = 8 ∧ pf e.1 3 2 = e.2.length ∧ e.2 ≠ [] ∧ pf e.1 5 1 % 4 = 3 ∧ plane e < size / 2 ∧ idx e < cols * ((h + 7) / 8)) →
    Gives .tableLoadEnd s (fun t => t.bit CER_LOAD_STAT_busy = false ∧
      (∀ e ∈ tiles, ∀ i, i < tw e * th e → Memory.num t.dram (dst + size * ((8 * (idx e / cols) + i / tw e) * w + 256 * (idx e % cols) + i % tw e) + 2 * plane e) 2 = sample e i % 65536) ∧
      (2 * (tiles.map (fun e => tw e * th e)).sum = pf data 8 4 → t.bit CER_EVT2_load_done = true ∧ t.bit CER_EVT2_load_fail = s.bit CER_EVT2_load_fail) ∧
      (2 * (tiles.map (fun e => tw e * th e)).sum ≠ pf data 8 4 → t.bit CER_LOAD_STAT_fmt_fail = true ∧ t.bit CER_EVT2_load_fail = true))) ∧
  (Normal s → s.dramWaits = false → s.replay.running = true → (s.port s.replay.port).width * s.replay.rows ≤ s.replay.next → s.dramOk = true →
    let p := s.replay.port
    let n := s.dramNum (s.slotBase p s.replay.src) 4
    let appends := s.recState p ≠ 0 ∧ s.bit (CER_REC_CFG_replay_en p) = true ∧ ∃ e ∈ (s.ring (16 + p)).recs, e.frame = n
    s.slotBase p s.replay.dst + 4096 ≤ s.dataBytes → (∀ j ∈ s.cer.jobs, j.id ≠ s.cer.nextId) →
    Gives .replayComplete s (fun t => (¬ appends → t.cer = s.cer) ∧
      (appends → ∃ j, t.cer.jobs = s.cer.jobs ++ [j] ∧ j.unit = 16 + p ∧ j.port = p ∧ j.slot = s.replay.dst ∧ j.frame = n ∧ j.replay = true)))

/-! ## Memory (spec 12) -/

/-- R331–R336, R338, R340–R346: training, the fill and a temperature reading show in MEM_STAT; a granted burst counts for its class and a write stores what it carries, free of
error; a request whose address lies on another channel does not pend, and of two classes the one below its guarantee is served; a class that starved is counted; a scrubbed row
leaves no correctable error; an injection is armed; a low half word is held, merged with its high half into one word, and else flushed alone. While the devices are to be trained
again (R472) what reads or writes DRAM waits: it does nothing, and the training ends only while PLL1 has lock. (Log entries 61 and 65.)
R349, R350: a start on an idle channel makes it busy at the descriptor that MEM_DMAn_DESC names, and a busy one ignores it; a stop is kept for a busy channel. A fill
descriptor writes its value to every word of its range, and a copy writes the words of its source, from DRAM or the band store: a guarded word of the destination is not written and
sets guard, and a poisoned source word is written poisoned and sets ue; neither ends the descriptor. The last one ends the chain with its event; a length of zero ends it as a
range error. (Both ranges at multiples of 8; that requests wait while the devices are to be trained again, R472: log entry 61.)
An event without its condition changes nothing (log entry 6). -/
def Obligations.MemoryServes : Prop :=
  (∀ (ch c : Fin 4) (who : Party) (v : W32) (addr : Addr) (hot : Bool) (ups : List (Nat × Bool)) (r q : DramReq) (s : State),
  let moved := fun (t : State) k => Map.get (fun _ => 0) t.mem.moved k
  let n := s.get MEM_SCRUB_CFG_lines
  let u := s.get MEM_SCRUB_POS_next
  let a := wordAddr addr.toNat
  let d := s.windowAddr a
  let others := fun (t : State) (o k : Nat) => ∀ y, (y < o ∨ o + k ≤ y) → Memory.byte t.dram y = Memory.byte s.dram y
  (Normal s →
    (s.bit MEM_STAT_trained = true → (s.dramPlace r.addr).channel = ch → Gives (.dramBurstGrant ch [r]) s (fun t => moved t r.cls = moved s r.cls + 64 ∧
      let base := r.addr / 64 * 64
      let k := r.data.length
      (r.write = true → s.dramOk = true → base < s.dataBytes → k ≤ 64 → k % 8 = 0 → t.regs = s.regs ∧ Memory.bytes t.dram base k = r.data ∧ others t base k ∧
        ∀ i, i < k / 8 → t.wordErr (State.wordNo false (base + 8 * i)) = none))) ∧
    ((s.dramPlace r.addr).channel ≠ ch ∨ s.bit MEM_STAT_trained = false → Gives (.dramBurstGrant ch [r]) s (Quiet s)) ∧
    (s.bit MEM_STAT_trained = true → (s.dramPlace r.addr).channel = ch → (s.dramPlace q.addr).channel = ch → r.cls ≠ q.cls → s.qosOf r.cls ≤ s.granted ch r.cls →
      s.granted ch q.cls < s.qosOf q.cls →
      Gives (.dramBurstGrant ch [r, q]) s (fun t => moved t q.cls = moved s q.cls + 64 ∧ moved t r.cls = moved s r.cls)) ∧
    Gives (.starveTimeout c) s (fun t => t.bit MEM_EVT_starve c = true ∧
      t.reg MEM_STARVE_CNT = counted1 (s.reg MEM_STARVE_CNT) ⟨MEM_STARVE_CNT, 8 * c + 7, 8 * c⟩) ∧
    (s.bit MEM_STAT_init_busy = true → Gives .memInitDone s (fun t => t.bit MEM_STAT_init_busy = false ∧ t.bit MEM_STAT_init_done = true ∧ t.bit MEM_EVT_init_done = true ∧
      ∀ y, Memory.byte t.dram y = 0#8)) ∧
    (n ≠ 0 → n ≤ s.mem.scrubLines → s.dramOk = true → s.dramWaits = false → u + 1 < 2 ^ 24 → Gives (.scrubRow ups) s (fun t => t.mem.scrubLines = 0 ∧ moved t 3 = moved s 3 + 1792 ∧
      (∀ k e, k < 224 → t.wordErr (State.wordNo false (1792 * u + 8 * k)) = some e → e.ue = true) ∧
      t.get MEM_SCRUB_POS_next = (if s.dataBytes / 1792 ≤ u + 1 then 0 else u + 1) ∧ (s.dataBytes / 1792 ≤ u + 1 → t.bit MEM_EVT_scrub = true))) ∧
    (16 ≤ s.mem.tempLines → Gives (.dramTempRead hot) s (fun t => t.bit MEM_STAT_derate = hot ∧ t.mem.tempLines = 0 ∧ (hot ≠ s.bit MEM_STAT_derate → t.bit MEM_EVT_temp = true))) ∧
    (s.bit MEM_STAT_trained = true ∨ s.bit SCA_STAT_lock 1 = false → Gives .dramRetrainDone s (Quiet s)) ∧
    (s.bit MEM_STAT_trained = false → s.bit SCA_STAT_lock 1 = true → Gives .dramRetrainDone s (fun t => t.bit MEM_STAT_trained = true ∧ t.get MEM_STAT_data_size = s.configSize % 256 ∧
      t.mem.retraining = false ∧ t.dram = s.dram)) ∧
    (s.dramWaits = true → Gives (.windowFlushTimeout who) s (Quiet s) ∧ Gives (.scrubRow ups) s (Quiet s) ∧
      (0x200000 ≤ a → a < 0x400000 → d < s.dataBytes → s.owns who.code a = true → Gives (.windowWrite who addr v) s (Quiet s))) ∧
    (∀ o w, s.dramWaits = false → s.heldHalf who.code = some (o, w) → s.windowOk o = true → s.mem.inj = none → s.wordErr (State.wordNo false o) = none →
      Gives (.windowFlushTimeout who) s (fun t => t.heldHalf who.code = none ∧ Memory.num t.dram (o / 4 * 4) 4 = w.toNat ∧ others t (o / 4 * 4) 4)) ∧
    (0x200000 ≤ a → a < 0x400000 → s.owns who.code a = true → s.dramWaits = false →
      (d / 4 % 2 = 0 → s.heldHalf who.code = none → Gives (.windowWrite who addr v) s (fun t => t.heldHalf who.code = some (d / 4 * 4, v) ∧ t.dram = s.dram)) ∧
      (∀ lo, d / 4 % 2 = 1 → s.heldHalf who.code = some (d / 4 * 4 - 4, lo) → s.windowOk d = true → s.mem.inj = none →
        Gives (.windowWrite who addr v) s (fun t => t.heldHalf who.code = none ∧ Memory.num t.dram (d / 8 * 8) 8 = lo.toNat + 2 ^ 32 * v.toNat ∧ others t (d / 8 * 8) 8)))) ∧
  (Writes s who MEM_INIT → s.bit MEM_STAT_trained = true → s.bit MEM_STAT_init_busy = false → s.bit MEM_STAT_init_done = false →
    Gives (.memInitStart who) s (fun t => t.bit MEM_STAT_init_busy = true ∧ t.dram = s.dram)) ∧
  (Writes s who MEM_INIT → s.bit MEM_STAT_trained = false ∨ s.bit MEM_STAT_init_busy = true ∨ s.bit MEM_STAT_init_done = true → Gives (.memInitStart who) s (Quiet s)) ∧
  (Writes s who MEM_INJ → Gives (.memInject who v) s (fun t => t.regs = s.regs ∧
    t.mem = { s.mem with inj := if bitsOf v 1 0 = 1 then some (bitOf v 2, false) else if bitsOf v 1 0 = 2 then some (bitOf v 2, true) else none }))) ∧
  (∀ (d : Fin 2) (who : Party) (n : Nat) (s : State),
  let busy := s.bit (MEM_DMA_STAT_busy d)
  let o := Map.get (fun _ => 0) s.mem.dmaAt d
  let f := fun (i k : Nat) => Memory.num s.band (o + i) k
  (Writes s who (MEM_DMA_CTL d) →
    (busy = false → Gives (.dmaStart who d) s (fun t => t.reg (MEM_DMA_STAT d) = 0x80000000#32 ∧ Map.get (fun _ => 0) t.mem.dmaAt d = s.num (MEM_DMA_DESC d) ∧
      Map.get (fun _ => false) t.mem.dmaStop d = false) ∧ Gives (.dmaStop who d) s (Quiet s)) ∧
    (busy = true → Gives (.dmaStart who d) s (Quiet s) ∧ Gives (.dmaStop who d) s (fun t => t.regs = s.regs ∧ Map.get (fun _ => false) t.mem.dmaStop d = true))) ∧
  (Normal s → busy = true → s.dramWaits = true → Gives (.dmaDescriptorEnd d n) s (Quiet s)) ∧
  (Normal s → busy = true → s.dramWaits = false → (∀ k, k < 4 → s.wordErr (State.wordNo true (o + 8 * k)) = none) → o + 32 ≤ bandBytes → o % 8 = 0 →
    Map.get (fun _ => false) s.mem.dmaStop d = false →
    let len := f 16 4
    let dst := f 8 8
    let inBand := 2 ^ 63 ≤ f 0 8
    let src := f 0 8 % 2 ^ 63
    let keeps := fun (t : State) i => t.bit (MEM_DMA_STAT_guard d) = true ∧ Memory.num t.dram (dst + 8 * i) 8 = Memory.num s.dram (dst + 8 * i) 8
    let ends := fun (t : State) => t.bit (MEM_DMA_STAT_busy d) = false ∧ t.bit MEM_EVT_dma_done d = true ∧ ∀ a, (a < dst ∨ dst + len ≤ a) → Memory.byte t.dram a = Memory.byte s.dram a
    (len = 0 → Gives (.dmaDescriptorEnd d n) s (fun t => t.bit (MEM_DMA_STAT_busy d) = false ∧ t.bit (MEM_DMA_STAT_range d) = true ∧ t.bit MEM_EVT_dma_err d = true ∧ t.dram = s.dram)) ∧
    (len ≠ 0 → len % 8 = 0 → dst % 8 = 0 → dst + len ≤ s.dataBytes → s.dramOk = true →
      (f 20 1 % 4 = 3 → Gives (.dmaDescriptorEnd d n) s (fun t => ends t ∧ ∀ i, i < len / 8 → (s.guarded (dst + 8 * i) = true → keeps t i) ∧
        (s.guarded (dst + 8 * i) = false → Memory.num t.dram (dst + 8 * i) 8 = f 24 4 + 2 ^ 32 * f 24 4 ∧ t.wordErr (State.wordNo false (dst + 8 * i)) = none))) ∧
      (f 20 1 % 4 = 2 → src % 8 = 0 → (inBand → src + len ≤ bandBytes) → (¬ inBand → src + len ≤ s.dataBytes ∧ (src + len ≤ dst ∨ dst + len ≤ src)) →
        let bad := fun i => (s.wordErr (State.wordNo (decide inBand) (src + 8 * i))).any (·.ue) = true
        Gives (.dmaDescriptorEnd d n) s (fun t => ends t ∧ ∀ i, i < len / 8 → (s.guarded (dst + 8 * i) = true → keeps t i) ∧
          (s.guarded (dst + 8 * i) = false →
            (bad i → t.bit (MEM_DMA_STAT_ue d) = true ∧ (t.wordErr (State.wordNo false (dst + 8 * i))).any (·.ue) = true) ∧
            (¬ bad i → Memory.num t.dram (dst + 8 * i) 8 = Memory.num (if inBand then s.band else s.dram) (src + 8 * i) 8 ∧ t.wordErr (State.wordNo false (dst + 8 * i)) = none)))))))

/-! ## Host, peripheral and video ports (spec 13) -/

/-- R357–R361, R364: a register frame with a wrong CRC is counted and answered with status 2, one that comes while accesses run is counted, and one that names no register access
gives the port byte and does nothing else; a right write frame of one word writes it, a right read frame reads it, and the reply is pending when the accesses are done. (What the
port sends where no
register frame begins: log entry 34.)
R357, R364, R365, R368, R369, R371, R372, R374, R391: the raw-word FIFOs, doorbell, bulk engine and pins. A frame's byte 0 is the port byte, and a full unit moves a word each
way; SUP's read pops, the host's shows; a write of TXD joins the transmit FIFO or overflows; a flush empties; the doorbell shows; the bulk engine runs on an idle port, ends in
memory or stops; a pin's edge sets its event. While the boot ROM loads, the doorbell has it check the image in the band store, and a pushed image is answered 1 for a bad
header, 2 for a wrong CRC and 0 when it is accepted; an accepted image stands in SUP's memories, and SUP fetches at its entry index.
(The boot load and its answers: log entry 35; edges that the part drives: log entry 36; a stopped or guarded bulk transfer: log entry 37.) -/
def Obligations.HostAndPeripheralPorts : Prop :=
  (∀ (v : W32) (b c : BitVec 8) (l : List (BitVec 8)) (s : State), Normal s →
  let w := 0xC1#8 :: beBytes 3 GPIO_OUT ++ beBytes 4 v.toNat
  let r := 0x81#8 :: beBytes 3 GPIO_OUT
  (b.toNat < 128 → Gives (.registerFrame (b :: l)) s (fun t => Quiet s { t with sio := s.sio } ∧
    t.sio = { s.sio with miso := padTo (if s.bit HPORT_CFG_raw_en then 1 else l.length + 1) [s.portByte] })) ∧
  (∀ q, 128 ≤ b.toNat → s.sio.running = some q → Gives (.registerFrame (b :: l)) s (fun t => t.reg HPORT_CNT = counted1 (s.reg HPORT_CNT) HPORT_CNT_early ∧
    t.sio = { s.sio with miso := padTo (l.length + 1) [s.portByte, 0xA1#8], running := some { q with early := true } })) ∧
  (s.sio.running = none →
    (crc8 r ≠ c.toNat → Gives (.registerFrame (r ++ c :: l)) s (fun t => t.bit HPORT_STAT_crc = true ∧ t.reg HPORT_CNT = counted1 (s.reg HPORT_CNT) HPORT_CNT_crc ∧
      t.sio.reply = some { status := 2, words := [] } ∧ t.sio.running = none)) ∧
    (crc8 r = c.toNat → s.heldHalf 0 = none → Gives (.registerFrame (r ++ c :: l)) s (fun t => t.sio.running = some { status := 16, words := [s.reg GPIO_OUT] } ∧
      t.sio.reply = none ∧ ∀ a, t.reg a = s.reg a)) ∧
    (crc8 w = c.toNat → Writes s .host GPIO_OUT → Gives (.registerFrame (w ++ c :: l)) s (fun t => t.sio.running = some { status := 0, words := [] } ∧
      t.sio.reply = none ∧ t.reg GPIO_OUT = v ∧ ∀ a, a ≠ GPIO_OUT → t.reg a = s.reg a))) ∧
  (∀ q, s.sio.running = some q → Gives .registerFrameDone s (fun t => t.regs = s.regs ∧ t.sio = { s.sio with running := none, reply := some q }))) ∧
  (∀ (who : Party) (v : W32) (n : Fin 32) (lvl first : Bool) (data : List (BitVec 8)) (s : State),
  let x := s.sio
  let miso := if first then [s.portByte] else x.miso
  let loads := fun (h : BootHeader) (l : List Byte) (t : State) => Memory.bytes t.imem (coreBase 4) h.instr = (l.drop 32).take h.instr ∧
    Memory.bytes t.dmem (coreBase 4) h.data = (l.drop (32 + h.instr)).take h.data ∧ t.bit PSC_SUP_CTL_rom_map = false ∧ t.get PSC_SUP_ENTRY_entry = h.entry % 2 ^ 15 ∧
    (t.core 4).pc = h.entry % 2 ^ 15
  let pushed := x.boot.data ++ leBytes 4 v.toNat
  let lim := fun (w : W32) => BitVec.ofNat 32 (w.toNat % 2 ^ (s.get HPORT_CFG_unit + 1))
  let base := s.get PPORT_BULK_DST_dram * 4096
  let free := s.bit PPORT_CFG_en = true ∧ x.ppUnit = none ∧ x.bulk = none
  (Normal s →
    (∀ h rest, s.bit HPORT_CFG_raw_en = true → s.bootsFrom 3 = false → x.txq = h :: rest → x.rxq.length < 64 → Gives (.rawWordUnit v ⟨first, true⟩) s (fun t => t.regs = s.regs ∧
      t.sio = { x with miso := miso, txq := rest, misoUnit := lim h, rxq := x.rxq ++ [lim v] })) ∧
    (s.bit HPORT_CFG_raw_en = true → s.bootsFrom 3 = false → x.txq = [] → 64 ≤ x.rxq.length → Gives (.rawWordUnit v ⟨first, true⟩) s (fun t => t.bit SIO_EVT_tx_udf = true ∧
      t.bit SIO_EVT_rx_ovf = true ∧ t.reg HPORT_CNT = counted1 (s.reg HPORT_CNT) HPORT_CNT_rx_ovf ∧ t.sio = { x with miso := miso, misoUnit := 0#32 })) ∧
    (s.bit HPORT_CFG_raw_en = false → s.bootsFrom 3 = false → Gives (.rawWordUnit v ⟨first, true⟩) s (fun t => t.regs = s.regs ∧ t.sio = { x with miso := miso, misoUnit := 0#32 })) ∧
    (s.bit HPORT_CFG_raw_en = true → s.bootsFrom 3 = true → x.txq = [] → x.rxq = [] → s.get HPORT_CFG_unit = 31 →
      (pushed.length < 32 → Gives (.rawWordUnit v ⟨first, true⟩) s (fun t => t.sio.boot.data = pushed ∧ t.sio.txq = [] ∧ t.imem = s.imem)) ∧
      (32 ≤ pushed.length → bootHeader pushed = none → Gives (.rawWordUnit v ⟨first, true⟩) s (fun t => t.sio.boot.data = [] ∧ t.sio.txq = [1#32] ∧ t.imem = s.imem)) ∧
      (∀ h, 32 ≤ pushed.length → bootHeader pushed = some h → h.size ≤ pushed.length → Gives (.rawWordUnit v ⟨first, true⟩) s (fun t =>
        t.sio.txq = [if h.sound pushed then 0#32 else 2#32] ∧ (h.sound pushed = true → loads h pushed t) ∧ (h.sound pushed = false → t.imem = s.imem ∧ t.dmem = s.dmem)))) ∧
    (∀ h rest, x.rxq = h :: rest → s.heldHalf who.code = none → who.code < 4 → Gives (.hportRxdRead who) s (fun t => Map.get (fun _ => 0#32) t.rdata who.code = h ∧
      t.regs = s.regs ∧ t.sio.rxq = if who = .sup then rest else x.rxq)) ∧
    (x.bulk ≠ none → s.dramWaits = false → data.length = s.get PPORT_BULK_LEN_4 * 4096 → base + data.length ≤ s.dataBytes → s.dramOk = true → (∀ a, s.guarded a = false) →
      s.bit PPORT_BULK_STAT_guard = false → Gives (.bulkDone data) s (fun t => Memory.bytes t.dram base data.length = data ∧ t.sio = { x with bulk := none } ∧
        t.bit PPORT_BULK_STAT_busy = false ∧ t.bit SIO_EVT_bulk_done = true ∧ ∀ a, (a < base ∨ base + data.length ≤ a) → Memory.byte t.dram a = Memory.byte s.dram a)) ∧
    (s.get (GPIO_FUN_func n) = 0 → Gives (.gpioEdge n (some lvl)) s (fun t => bitOf t.sio.seen n = lvl ∧ (lvl = bitOf x.seen n → t.regs = s.regs) ∧
      (lvl ≠ bitOf x.seen n → (s.get (GPIO_FUN_edge n) = 0 → t.regs = s.regs) ∧ (s.get (GPIO_FUN_edge n) = 3 → t.bit ⟨GPIO_EVT, 31, 0⟩ n = true))))) ∧
  (Writes s who HPORT_TXD → Gives (.hportTxdWrite who v) s (fun t => (x.txq.length < 64 → t.regs = s.regs ∧ t.sio = { x with txq := x.txq ++ [v] }) ∧
    (64 ≤ x.txq.length → t.bit SIO_EVT_tx_ovf = true ∧ t.sio = x))) ∧
  (Writes s who HPORT_DOORBELL → (s.bootsFrom 2 = false → Gives (.hportDoorbellWrite who v) s (fun t => t.reg HPORT_DOORBELL = v ∧ t.bit SIO_EVT_doorbell = true ∧ t.sio = x)) ∧
    (∀ h, s.bootsFrom 2 = true → bootHeader (Memory.bytes s.band 0 32) = some h → Gives (.hportDoorbellWrite who v) s (fun t =>
      let l := Memory.bytes s.band 0 h.size
      (h.sound l = true → loads h l t ∧ t.num (PSC_OWN 28) = 1) ∧ (h.sound l = false → t.imem = s.imem ∧ t.dmem = s.dmem ∧ t.num (PSC_OWN 28) = 0)))) ∧
  (Writes s who HPORT_FIFO → Gives (.txFlush who) s (fun t => t.sio = { x with txq := [] }) ∧ Gives (.rxFlush who) s (fun t => t.sio = { x with rxq := [] })) ∧
  (Writes s who PPORT_BULK_CTL →
    (bitOf v 1 = false → free → Gives (.bulkStart who v) s (fun t => t.sio = { x with bulk := some (bitOf v 2) } ∧ t.reg PPORT_BULK_STAT = 0x80000000#32)) ∧
    (bitOf v 1 = false → ¬ free → Gives (.bulkStart who v) s (fun t => t.sio = x ∧ t.bit SIO_EVT_bulk_err = true)) ∧
    (x.bulk ≠ none → Gives (.bulkStop who data) s (fun t => t.sio = { x with bulk := none } ∧ t.bit PPORT_BULK_STAT_busy = false ∧ t.bit SIO_EVT_bulk_err = true)) ∧
    (x.bulk = none → Gives (.bulkStop who data) s (Quiet s))))

/-- R338, R376–R381, R384–R388: a transmit link comes up with PLL2 locked; its periodic calibration restarts its lines; at a packet boundary the chosen stream sends the next line of
its frame with its error code and CRC, begins a unit with its frame start and that packet's error code, or the port idles. An enabled receiver joins at the next frame start on its
channel, and until then takes nothing and counts nothing; it opens, fills and closes a frame on its channel, counts what it cannot take, and misses frames while it is fenced.
(Error code and CRC: log entry 56; which frame a stream starts with: log entry 59.) -/
def Obligations.VideoPorts : Prop := ∀ (x : Fin 2) (vc : Fin 4) (b : Bool) (dt : BitVec 8) (body : List (BitVec 8)) (s : State), Normal s →
  let up := s.bit (VIO_TX_STAT_up x)
  let q := s.rxPort x
  let f := 4 + x.val
  let live := s.bit (VIO_RX_STAT_fenced x) = false ∧ s.bit (VIO_RX_CFG_en x) = true
  let px := if s.bit (IPL_FMT_raw12 f) then unpackRaw12 body.length body else unpackRaw10 body.length body
  let a := s.inSlotBase f q.slot + 2 * s.get (IPL_FMT_width f) * q.line
  (s.bit (VIO_TX_CFG_en x) = true → up = false → s.bit SCA_STAT_lock 2 = true → Gives (.txLinkUp x) s (fun t => t.bit (VIO_TX_STAT_up x) = true ∧
    t.bit VIO_STAT_transmit x = true ∧ t.bit VIO_EVT_tx_up x = true ∧ (t.txPort x).lines = 0)) ∧
  (s.get (VIO_TX_CFG_deskew x) ≠ 0 → up = true → s.get (VIO_TX_CFG_deskew x) * 256 ≤ (s.txPort x).lines →
    Gives (.txDeskew x) s (fun t => t.regs = s.regs ∧ t.txPort x = { s.txPort x with lines := 0 })) ∧
  (up = true →
    (s.pickStream x = none → Gives (.vioPacketBoundary x) s (fun t => t.get (VIO_TX_STAT_stream x) = 255 ∧ t.bit (VIO_TX_STAT_high x) = false ∧ t.vio = s.vio)) ∧
    (∀ k g, s.pickStream x = some k → (s.txStream k).cur = some g → g.kind = 1 → g.head = false → g.next + 1 < g.total →
      Gives (.vioPacketBoundary x) s (fun t => (∃ z, (t.txPort x).pkt = some z ∧ z.start = false ∧ z.ends = false ∧ z.vc = s.get (VIO_S_CFG_vc k) ∧ z.body = (s.payloadOf g).1 ∧ z.crc = csiCrc z.body ∧
        z.ecc = csiEcc (z.vc * 64 + z.dt + 256 * (z.body.length % 65536))) ∧
        ∃ g', (t.txStream k).cur = some g' ∧ g'.next = g.next + 1)) ∧
    (∀ k g n, s.pickStream x = some k → (s.txStream k).cur = none → s.nextUnit k = some (g, n) → Gives (.vioPacketBoundary x) s (fun t =>
      (∃ z, (t.txPort x).pkt = some z ∧ z.start = true ∧ z.vc = s.get (VIO_S_CFG_vc k) ∧ z.startEcc = csiEcc (z.vc * 64 + 256 * (z.frame % 65536))) ∧ (n ≠ 0 → t.bit VIO_EVT_skip = true)))) ∧
  (live →
    (vc.val = s.get (VIO_RX_CFG_vc x) →
      Gives (.rxFrameStart x vc b) s (fun t => t.bit (VIO_RX_STAT_in x) = true ∧ t.bit (VIO_RX_STAT_deskewed x) = b ∧ (t.rxPort x).line = 0 ∧
        (t.rxPort x).joined = true ∧ (t.rxPort x).slot = if q.slot + 1 < s.get (IPL_IN_CFG_slots f) then q.slot + 1 else 0) ∧
      (q.joined = true → s.bit (VIO_RX_STAT_in x) = true → Gives (.rxFrameEnd x vc) s (fun t => t.bit (VIO_RX_STAT_in x) = false ∧ t.bit VIO_EVT_rx_frame x = true ∧
        t.num (VIO_RX_FRAMES x) = (s.num (VIO_RX_FRAMES x) + 1) % 2 ^ 32)) ∧
      (q.joined = true → dt.toNat = (if s.bit (IPL_FMT_raw12 f) then 0x2C else 0x2B) → s.bit (VIO_RX_STAT_in x) = true → q.line < s.get (IPL_FMT_height f) → px.length = s.get (IPL_FMT_width f) →
        (∀ y, s.wordErr y = none) → s.dramOk = true → a + 2 * px.length ≤ s.dataBytes →
        Gives (.rxLongPacket x vc dt true true body) s (fun t => t.regs = s.regs ∧ t.rxPort x = { q with line := q.line + 1 } ∧
          (∀ i p, px[i]? = some p → p < 65536 → Memory.num t.dram (a + 2 * i) 2 = p) ∧
          ∀ y, (y < a ∨ a + 2 * px.length ≤ y) → Memory.byte t.dram y = Memory.byte s.dram y))) ∧
    (q.joined = false → Gives (.rxFrameEnd x vc) s (Quiet s) ∧ (∀ h c, Gives (.rxLongPacket x vc dt h c body) s (Quiet s)) ∧
      (vc.val ≠ s.get (VIO_RX_CFG_vc x) → Gives (.rxFrameStart x vc b) s (Quiet s))) ∧
    (q.joined = true → vc.val ≠ s.get (VIO_RX_CFG_vc x) → Gives (.rxFrameStart x vc b) s (fun t => t.vio = s.vio ∧
      t.reg (VIO_RX_CNT x) = counted1 (s.reg (VIO_RX_CNT x)) (VIO_RX_CNT_foreign x) ∧ ∀ y, y ≠ VIO_RX_CNT x → t.reg y = s.reg y)) ∧
    (q.joined = true → s.get (VIO_RX_CFG_err_limit x) = 0 → Gives (.rxLongPacket x vc dt false true body) s (fun t => t.bit VIO_EVT_rx_err x = true ∧ t.dram = s.dram ∧
      t.reg (VIO_RX_CNT x) = counted1 (s.reg (VIO_RX_CNT x)) (VIO_RX_CNT_hdr x)))) ∧
  (s.bit (VIO_RX_STAT_fenced x) = true → s.get (VIO_RX_FPER_nominal x) ≠ 0 → s.get (VIO_RX_FPER_nominal x) ≤ q.lines → Gives (.rxMissedCount x) s (fun t =>
    t.reg (VIO_RX_CNT x) = counted1 (s.reg (VIO_RX_CNT x)) (VIO_RX_CNT_missed x) ∧ t.rxPort x = { q with lines := q.lines - s.get (VIO_RX_FPER_nominal x) }))

/-! ## Interrupts (spec 14) -/

/-- R395–R404: a claim by the target's owner takes, of the sources that are claimable and were so at the start of the Pulon cycle, the one of the highest priority, of equal ones
the lowest, and takes it into service with its level; the host's claim takes the source also from a claim of a later target in the same cycle, which is then empty where nothing else
is claimable (log entry 7); a read by another party only shows it; a completion at the serving target ends the service, counts a spurious interrupt and starts the group's
holdoff; SETn and CLRn move the enables or,
with inject, the software-pending bits; a holdoff whose lines have passed ends. -/
def Obligations.InterruptsServed : Prop := ∀ (k : Fin 3) (who : Party) (v : W32) (n : Fin 4) (g : Fin 16) (s : State),
  let tgt := k.val + 1
  let i := v.toNat % 128
  let hold := INTC_HOLD_lines k (i / 8)
  let a := if s.bit (INTC_CFG_inject k) then INTC_SWP k n else INTC_ENA k n
  let read := fun (t : State) => Map.get (fun _ => 0#32) t.rdata who.code
  let first := fun (j : Nat) => s.claimable tgt j = true ∧ (s.lines.startCycle = s.now / 4 + 1 → tgt * 128 + j ∈ s.lines.startable)
  let empty := fun (j : Fin 3) => min (2 ^ ((INTC_CNT_empty j).hi - (INTC_CNT_empty j).lo + 1) - 1) (s.get (INTC_CNT_empty j) + 1)
  (Writes s who (INTC_CLAIM k) → who.code < 4 → (∀ r ∈ s.cycleClaims, r.target ≤ tgt) →
    (s.bestSource tgt = none → Gives (.intcClaim who k) s (fun t => read t = 0#32 ∧ t.get (INTC_CNT_empty k) = empty k)) ∧
    (∀ m, s.bestSource tgt = some m → Gives (.intcClaim who k) s (fun t => read t = BitVec.ofNat 32 (0x80000000 + m) ∧ t.swPending tgt m = false ∧
      (∃ w, t.serving m = some w ∧ w.target = tgt ∧ w.level = s.srcLevel m) ∧ first m ∧
      ∀ j, j < 128 → first j → s.groupPrio tgt (j / 8) < s.groupPrio tgt (m / 8) ∨ s.groupPrio tgt (j / 8) = s.groupPrio tgt (m / 8) ∧ m ≤ j))) ∧
  (Writes s .host (INTC_CLAIM k) → ∀ r m w (j : Fin 3), s.cycleClaims = [r] → r.target = j.val + 1 → tgt < r.target → r.source = some m → r.swp = false → m < 128 →
    s.serving m = some w → w.target = r.target → s.srcLevel m = true → s.enabledAt tgt m = true → s.holdOf tgt (m / 8) = none →
    (s.lines.startCycle = s.now / 4 + 1 → tgt * 128 + m ∈ s.lines.startable) → s.bestSource tgt = none → (∀ y, s.claimable r.target y = false) →
    Gives (.intcClaim .host k) s (fun t => Map.get (fun _ => 0#32) t.rdata 0 = BitVec.ofNat 32 (0x80000000 + m) ∧ (t.serving m).map (·.target) = some tgt ∧
      t.get (INTC_CNT_empty j) = empty j)) ∧
  (Normal s → s.owns who.code (INTC_CLAIM k) = false → who.code < 4 → s.heldHalf who.code = none → Gives (.intcClaimPeek who k) s (fun t =>
    read t = State.claimWord (s.bestSource tgt) ∧ t.regs = s.regs ∧ ∀ m, (t.serving m).isSome = (s.serving m).isSome)) ∧
  (Writes s who (INTC_COMPLETE k) →
    (∀ w, s.serving i = some w → w.target = tgt → Gives (.intcComplete who k v) s (fun t => t.serving i = none ∧
      t.holdOf tgt (i / 8) = (if s.get hold = 0 then s.holdOf tgt (i / 8) else some (s.get hold, s.get (INTC_HOLD_raster k (i / 8)))) ∧
      t.get (INTC_CNT_spurious k) = if w.level && w.fell then min (2 ^ ((INTC_CNT_spurious k).hi - (INTC_CNT_spurious k).lo + 1) - 1) (s.get (INTC_CNT_spurious k) + 1)
        else s.get (INTC_CNT_spurious k))) ∧
    (∀ w, s.serving i = some w → w.target ≠ tgt → Gives (.intcComplete who k v) s (fun t => t.regs = s.regs ∧ (t.serving i).isSome = true))) ∧
  (Writes s who (INTC_SET k n) → Gives (.intcSet who k n v) s (fun t => RegsOnly [a] s t ∧ t.reg a = s.reg a ||| v)) ∧
  (Writes s who (INTC_CLR k n) → Gives (.intcClr who k n v) s (fun t => RegsOnly [a] s t ∧ t.reg a = s.reg a &&& ~~~v)) ∧
  (Normal s → ∀ m r, s.holdOf tgt g = some (m, r) → Gives (.holdoffExpiry k g) s (fun t => t.regs = s.regs ∧ t.holdOf tgt g = if m = 0 then none else some (m, r)))

/-! ## Non-volatile store (spec 15) -/

/-- R409, R412–R415, R417, R421–R423: a write command that its side may give takes the side's slot, MET's while MET runs, and one for a page of another partition does nothing. The
engine takes MET's pending command first, with the group writes that it stands for: the buffer's bytes as they stand then, zeros, or an increment. A verified attempt leaves them in
the array and every other byte as before, with its result, 3 for a corrupt counter; a failed attempt waits for its retry, and the last one retires the page. (Log entry 38.)
R411, R416, R419, R420, R422, R425: CREAD gives 32 × U + k, or all ones with result 3; RESOLVE refuses a pair in two partitions and gives the newer valid copy, either of two
whose numbers lie half the range apart, and of two with equal numbers and different contents none: it is ambiguous, or in P1 corrupt, and the item then has no value (which item: log
entry 50; the page that NVS_CMD_STAT shows: log entry 38); the window reads a word of a readable page and zero of another or for a party without the right, and counts what the code
finds; recall ends ready, and the hold of writes ends 2 ms after the last warning.
(Numbers half the range apart: log entry 42.)
An event without its condition changes nothing (log entry 6). -/
def Obligations.NonvolatileStore : Prop :=
  (∀ (who : Party) (page : BitVec 11) (g : BitVec 8) (k : BitVec 2) (t : Nat) (s : State),
  let m := decide (who = .met)
  let p := page.toNat
  let free := s.nvsReady = true ∧ s.wrHold = false ∧ s.slotTaken m = false ∧ s.isRetired p = false ∧ s.busyPage ≠ some p
  let takes := fun (i : Instr) (op gr sl : Nat) =>
    (State.mayWrite m p = true → free → (op = 4 → (s.pageMeta p).counter = true) → Gives i s (fun t => t.regs = s.regs ∧
      t.nvs = if m then { s.nvs with pendM := some ⟨op, p, gr, sl⟩ } else { s.nvs with pendS := some ⟨op, p, gr, sl⟩ })) ∧
    (State.mayWrite m p = false → Gives i s (Quiet s))
  let starts := fun (n : Bool) (c : NvsCmd) (l : Option (List (Nat × List Byte))) =>
    let buf := if n then s.nvs.mbuf else s.nvs.wbuf
    (c.op = 1 → l = some ((List.range 256).map (fun j => (j, Memory.bytes buf (8 * j) 8)))) ∧ (c.op = 2 → l = some [(c.group, Memory.bytes buf (8 * c.group) 8)]) ∧
    (c.op = 3 ∨ c.op = 6 → l = some ((List.range 256).map (fun j => (j, List.replicate 8 0#8)))) ∧
    (c.op = 4 → (s.resolveSlot true c.page c.slot = none → l = none) ∧ ∀ u i, s.resolveSlot true c.page c.slot = some (u, i) → i < 31 → s.staleCells c.page c.slot i = [] →
      l = some [(64 * c.slot + 2 + i, unaryBytes u i)])
  (who = .met ∧ Normal s ∧ s.metUp = true ∨ who ≠ .met ∧ Writes s who NVS_CMD →
    takes (.program who page) 1 0 0 ∧ takes (.group who page g) 2 g.toNat 0 ∧ takes (.erase who page) 3 0 0 ∧ takes (.incr who page k) 4 0 k.toNat ∧
    takes (.cfmt who page) 6 0 0) ∧
  (Normal s → who = .met → s.metUp = false → ∀ i ∈ [Instr.program who page, .group who page g, .erase who page, .incr who page k, .cfmt who page], Gives i s (Quiet s)) ∧
  (Normal s →
    (s.nvs.run = none → s.wrHold = false → s.nvsReady = true →
      (∀ c, s.nvs.pendM = some c → s.isRetired c.page = false → Gives .nvsWriteStart s (fun t => t.regs = s.regs ∧
        ∃ l, t.nvs = { s.nvs with pendM := none, run := some { met := true, cmd := c, steps := l } } ∧ starts true c l)) ∧
      (∀ c, s.nvs.pendM = none → s.nvs.pendS = some c → s.isRetired c.page = false → Gives .nvsWriteStart s (fun t => t.regs = s.regs ∧
        ∃ l, t.nvs = { s.nvs with pendS := none, run := some { met := false, cmd := c, steps := l } } ∧ starts false c l)) ∧
      (s.nvs.pendM = none → s.nvs.pendS = none → Gives .nvsWriteStart s (Quiet s))) ∧
    (∀ r, s.nvs.run = some r → s.nvs.cut = none → r.retry = none → r.lost = false →
      let base := r.cmd.page * 2048
      let ends := fun (u : State) (res : Nat) => u.nvs.run = none ∧ u.nreg r.met NVS_CMD_STAT = BitVec.ofNat 32 (2 ^ 31 + res * 2 ^ 28 + r.cmd.op * 2 ^ 24 + r.cmd.page) ∧
        u.nget r.met NVS_EVT_done = 1
      (∀ l, r.steps = some l → (l.map (·.1)).Nodup → (∀ e ∈ l, e.2.length = 8) → Gives (.nvsWriteDone true t) s (fun u => ends u 0 ∧
        (∀ e ∈ l, Memory.bytes u.nvs.arr (base + 8 * e.1) 8 = e.2) ∧
        ∀ a, (∀ e ∈ l, a < base + 8 * e.1 ∨ base + 8 * e.1 + 8 ≤ a) → Memory.byte u.nvs.arr a = Memory.byte s.nvs.arr a)) ∧
      (r.steps = none → Gives (.nvsWriteDone true t) s (fun u => ends u 3 ∧ u.nvs.arr = s.nvs.arr)) ∧
      (r.fails < s.nget r.met NVS_CFG_retries → Gives (.nvsWriteDone false t) s (fun u => u.regs = s.regs ∧
        u.nvs = { s.nvs with run := some { r with fails := r.fails + 1, retry := some (s.nget r.met NVS_CFG_retry_lines) } })) ∧
      (s.nget r.met NVS_CFG_retries ≤ r.fails → s.isRetired r.cmd.page = false → Gives (.nvsWriteDone false t) s (fun u => ends u 1 ∧ u.isRetired r.cmd.page = true ∧
        u.nget false NVS_EVT_retire = 1 ∧ u.nget true NVS_EVT_retire = 1))) ∧
    (∀ r : NvsRun, s.nvs.run = some { r with retry := some 0 } → Gives .nvsRetry s (fun u => u.regs = s.regs ∧ u.nvs = { s.nvs with run := some { r with retry := none } })) ∧
    (∀ (r : NvsRun) (n : Nat), s.nvs.run = some { r with retry := some (n + 1) } → Gives .nvsRetry s (Quiet s)))) ∧
  (∀ (who : Party) (page off : BitVec 11) (k : BitVec 2) (m : Bool) (s : State),
  let w := decide (who = .met)
  let p := page.toNat
  let pa := fun (n : Bool) => s.nget n NVS_REC_A_page
  let pb := fun (n : Bool) => s.nget n NVS_REC_B_page
  let rd := s.nget w NVS_RD_PAGE_page
  let read := fun (t : State) => Map.get (fun _ => 0#32) t.rdata who.code
  let copyA := s.recordCopy m (pa m) (s.nget m NVS_REC_A_group)
  let copyB := s.recordCopy m (pb m) (s.nget m NVS_REC_B_group)
  let done := fun (res : Nat) => Gives (.resolveDone m) s (fun t => t.nreg m NVS_REC_STAT = BitVec.ofNat 32 res ∧ t.nreg m NVS_CMD_STAT = BitVec.ofNat 32 (2 ^ 31 + 7 * 2 ^ 24 + pa m))
  (who = .met ∧ Normal s ∧ s.metUp = true ∨ who ≠ .met ∧ Writes s who NVS_CMD → s.nvsReady = true →
    ((s.pageMeta p).counter = true →
      (∀ u i, s.resolveSlot w p k.toNat = some (u, i) → Gives (.cread who page k) s (fun t => t.nreg w NVS_CNT_VAL_LO = BitVec.ofNat 32 (32 * u + i) ∧
        t.nreg w NVS_CNT_VAL_HI = BitVec.ofNat 32 ((32 * u + i) / 2 ^ 32 % 2 ^ 13) ∧ t.nreg w NVS_CMD_STAT = BitVec.ofNat 32 (2 ^ 31 + 5 * 2 ^ 24 + p))) ∧
      (s.resolveSlot w p k.toNat = none → Gives (.cread who page k) s (fun t => t.nreg w NVS_CNT_VAL_LO = 0xFFFFFFFF#32 ∧ t.nreg w NVS_CNT_VAL_HI = 0x1FFF#32 ∧
        t.nreg w NVS_CMD_STAT = BitVec.ofNat 32 (2 ^ 31 + 3 * 2 ^ 28 + 5 * 2 ^ 24 + p)))) ∧
    ((s.pageMeta p).counter = false → Gives (.cread who page k) s (Quiet s)) ∧
    (s.nget w NVS_REC_STAT_busy = 0 →
      (pa w ≠ pb w → partition (pa w) = partition (pb w) → Gives (.resolve who) s (fun t => t.nreg w NVS_REC_STAT = 0x80000000#32 ∧ t.nreg w NVS_CMD_STAT = s.nreg w NVS_CMD_STAT)) ∧
      (pa w = pb w ∨ partition (pa w) ≠ partition (pb w) → Gives (.resolve who) s (fun t => t.nreg w NVS_REC_STAT = 3#32)))) ∧
  (Normal s → s.nget m NVS_REC_STAT_busy = 1 →
    (copyA = none → copyB = none → done 0) ∧ (∀ x, copyA = some x → copyB = none → done 1) ∧ (∀ y, copyA = none → copyB = some y → done 2) ∧
    (∀ x y, copyA = some x → copyB = some y → x.1 ≠ y.1 → (x.1 + 2 ^ 32 - y.1) % 2 ^ 32 ≠ 2 ^ 31 → done (if (x.1 + 2 ^ 32 - y.1) % 2 ^ 32 < 2 ^ 31 then 1 else 2)) ∧
    (∀ x y, copyA = some x → copyB = some y → x = y → done 1) ∧
    (∀ x y, copyA = some x → copyB = some y → x.1 ≠ y.1 → (x.1 + 2 ^ 32 - y.1) % 2 ^ 32 = 2 ^ 31 →
      Gives (.resolveDone m) s (fun t => (t.nreg m NVS_REC_STAT = 1#32 ∨ t.nreg m NVS_REC_STAT = 2#32) ∧ t.nreg m NVS_CMD_STAT = BitVec.ofNat 32 (2 ^ 31 + 7 * 2 ^ 24 + pa m))) ∧
    (∀ x y, copyA = some x → copyB = some y → x.1 = y.1 → x.2 ≠ y.2 → Gives (.resolveDone m) s (fun t =>
      t.nreg m NVS_CMD_STAT = BitVec.ofNat 32 (2 ^ 31 + 7 * 2 ^ 24 + pa m) ∧
      if partition (pa m) = 1 then t.nreg m NVS_REC_STAT = 8#32 ∧ Config.p1Item (pf x.2 2 2) ∈ t.men.p1Bad else t.nreg m NVS_REC_STAT = 5#32 ∧ t.nget m NVS_EVT_ambig = 1))) ∧
  (Normal s → (who = .met ∨ s.heldHalf who.code = none) →
    let may := if who = .met then s.metUp = true else mayRead who.code 0xD800 = true
    (s.pageReads w rd = false ∨ ¬ may → ∀ e, Gives (.nvsWindowRead who off e) s (fun t => read t = 0#32 ∧ t.regs = s.regs ∧ t.nvs = s.nvs)) ∧
    (s.pageReads w rd = true → may →
      Gives (.nvsWindowRead who off none) s (fun t => read t = BitVec.ofNat 32 (Memory.num s.nvs.arr (rd * 2048 + off.toNat / 4 * 4) 4) ∧ t.regs = s.regs ∧ t.nvs = s.nvs) ∧
      Gives (.nvsWindowRead who off (some false)) s (fun t => read t = BitVec.ofNat 32 (Memory.num s.nvs.arr (rd * 2048 + off.toNat / 4 * 4) 4) ∧
        t.nget w NVS_ECC_CNT_ce = min 65535 (s.nget w NVS_ECC_CNT_ce + 1) ∧ t.nget w NVS_EVT_ce = 1) ∧
      Gives (.nvsWindowRead who off (some true)) s (fun t => read t = 0#32 ∧ t.nget w NVS_ECC_CNT_ue = min 65535 (s.nget w NVS_ECC_CNT_ue + 1) ∧ t.nget w NVS_EVT_ue = 1))) ∧
  (Normal s → s.nvsReady = false → Gives .nvsRecallDone s (fun t => t.nvsReady = true ∧ t.nget false NVS_EVT_ready = 1 ∧ t.nget true NVS_EVT_ready = 1)) ∧
  (Normal s → (s.wrHold = true → s.warned = false → Gives .nvsHoldRelease s (fun t => t.wrHold = false ∧ t.nvs = s.nvs ∧ s.sca.quiet + 54000000 ≤ t.wall)) ∧
    (s.wrHold = false ∨ s.warned = true → Gives .nvsHoldRelease s (Quiet s))))

/-! ## Housekeeping and thermal (spec 16) -/

/-- R434–R437, R441, R443: a round start takes the channels of the mask in rising order, or is an overrun while a round runs; a conversion's end leaves the result in the channel's
register and goes on; an open input is fenced at 1.15 V; an urgent conversion starts on an idle converter and otherwise is dropped, and its end leaves its result.
(What an open input reads: log entry 53.)
An event without its condition changes nothing (log entry 6). -/
def Obligations.HousekeepingRuns : Prop := ∀ (who : Party) (v : W32) (x : Option (Int × Nat)) (uv : Int) (s : State),
  (Normal s →
    (s.hk.lineDue = false → Gives .hkRoundStart s (Quiet s)) ∧
    (s.hk.lineDue = true →
      (s.hk.todo ≠ [] → Gives .hkRoundStart s (fun t => t.hk = { s.hk with lineDue := false } ∧ t.reg HKT_CNT = counted1 (s.reg HKT_CNT) HKT_CNT_ovr ∧ t.bit HKT_EVT_ovr = true)) ∧
      (s.hk.todo = [] → s.hk.urgent ≠ none → Gives .hkRoundStart s (fun t => t.regs = s.regs ∧ t.hk = { s.hk with lineDue := false, due := true })) ∧
      (s.hk.todo = [] → s.hk.urgent = none → Gives .hkRoundStart s (fun t => t.hk.todo = (List.range 28).filter (fun c => bitOf (s.reg HKT_ROUND_MASK) c) ∧
        t.hk.rounds = s.hk.rounds + 1 ∧ ∀ c, c < 28 → t.hkAct (HKT_CH_CFG c) = s.reg (HKT_CH_CFG c) ∧ t.hkAct (HKT_CH_CAL c) = s.reg (HKT_CH_CAL c)))) ∧
    (∀ c rest, s.hk.todo = c :: rest → c < 28 →
      (s.hk.checking = false → s.chanFenced c = false → s.hk.struck = false → s.hk.owRound = false →
        let r := s.hkResult (s.hkAct (HKT_CH_CFG c)) (s.hkAct (HKT_CH_CAL c)) x
        Gives (.hkConversionEnd x) s (fun t => t.get (HKT_CH_RES_value c) = unsgn 24 r ∧ t.get (HKT_CH_RES_valid c) = 1 ∧ t.get (HKT_CH_RES_held c) = 0 ∧ t.hk.todo = rest ∧
          (rest = [] → t.bit HKT_EVT_round = true) ∧
          (s.isAbove c = false → s.isBelow c = false → sgn 24 (s.hkActGet (HKT_CH_HI_band c)) < r → t.isAbove c = true ∧ t.bit HKT_WEVT_all c = true ∧
            (s.hkActGet (HKT_CH_CFG_hi_act c) = 2 → ∃ d, t.hk.shdn = some d ∧ d.cause = 2 ∧ d.chan = c)))) ∧
      (s.hk.checking = true → c < 20 → Gives (.hkOpenWireCheck uv) s (fun t => t.hk.todo = rest ∧ t.bit HKT_OPEN_inputs ((chanInput c).getD 0) = decide (1150000 ≤ uv) ∧
        (1150000 ≤ uv → t.inputFenced ((chanInput c).getD 0) = true ∧ t.bit HKT_OEVT_bit ((chanInput c).getD 0) = true)))) ∧
    (∀ c cfg cal, s.hk.urgent = some (c, cfg, cal) → s.hk.due = false → Gives (.hkUrgentDone x) s (fun t => t.hk.urgent = none ∧ t.bit HKT_EVT_urg_done = true ∧
      t.reg HKT_URG_RES = BitVec.ofNat 32 (2 ^ 31 + s.get (HKT_CH_RES_open c) * 2 ^ 29 + c * 2 ^ 24 + unsgn 24 (s.hkResult cfg cal x))))) ∧
  (Writes s who HKT_URGENT →
    (bitOf v 8 = true → v.toNat % 32 < 28 →
      (s.hk.todo = [] → s.hk.urgent = none → Gives (.hkUrgent who v) s (fun t =>
        t.hk = { s.hk with urgent := some (v.toNat % 32, s.reg (HKT_CH_CFG (v.toNat % 32)), s.reg (HKT_CH_CAL (v.toNat % 32))) } ∧ t.bit HKT_STAT_urgent = true)) ∧
      (s.hk.todo ≠ [] ∨ s.hk.urgent ≠ none → Gives (.hkUrgent who v) s (fun t => t.hk = s.hk ∧ t.reg HKT_DROP = counted1 (s.reg HKT_DROP) HKT_DROP_urgent ∧
        t.bit HKT_EVT_drop = true))) ∧
    (bitOf v 8 = false ∨ 28 ≤ v.toNat % 32 → Gives (.hkUrgent who v) s (Quiet s)))

/-- R444–R447: force requests a throttle at once and its lift ends one; grace over, it is enforced; a die trip decides the shutdown with cause 1, makes the outputs safe, and a later decision
changes nothing; the thermal reset then takes every domain with cause THERMAL, its record in the store, or rec_lost where the time limit came first or recall was not complete at the
decision. (Log entries 52 and 54; the channel field of a die trip: log entry 53.)
An event without its condition changes nothing (log entry 6). -/
def Obligations.ThermalProtection : Prop := ∀ (who : Party) (v : W32) (s : State),
  let page := s.get NVS_SHDN_PAGE_shutdown
  (Writes s who HKT_THR_CFG →
    (bitOf v 0 = true → s.get HKT_THR_STAT_state = 0 → Gives (.throttleForceWrite who v) s (fun t => t.get HKT_THR_STAT_state = 1 ∧ t.bit HKT_EVT_thr_req = true ∧
      t.get HKT_THR_STAT_grace = v.toNat / 2 ^ 16)) ∧
    (bitOf v 0 = false → s.get HKT_THR_STAT_state ≠ 0 → (∀ c, c < 28 → s.isAbove c = false ∧ s.violating c = 0) → Gives (.throttleForceWrite who v) s (fun t =>
      t.get HKT_THR_STAT_state = 0 ∧ t.bit HKT_EVT_thr_end = true))) ∧
  (Normal s →
    (s.get HKT_THR_STAT_state = 1 → s.hk.graceDue = true → s.throttleCond = true → Gives .throttleGraceExpiry s (fun t => t.get HKT_THR_STAT_state = 2 ∧ t.bit HKT_EVT_thr_enf = true)) ∧
    (s.hk.graceDue = false ∨ s.throttleCond = false → Gives .throttleGraceExpiry s (Quiet s))) ∧
  (s.hold ≠ .thermal → s.hk.shdn = none → Gives .dieTrip s (fun t => (∃ d, t.hk.shdn = some d ∧ d.cause = 1 ∧ d.chan = 255) ∧ ShutdownSafe t ∧ t.get HKT_SHDN_STAT_cause = 1)) ∧
  (∀ d, s.hk.shdn = some d → s.hold = .none ∨ s.hold = .system →
    Gives .dieTrip s (fun t => t.hk = s.hk ∧ t.reg HKT_SHDN_STAT = s.reg HKT_SHDN_STAT) ∧
    Gives (.thermalResetEntry true) s (fun t => t.hold = .thermal ∧ t.hk.shdn = some d ∧ t.cores = [] ∧ t.pending = s.pending ∧ t.bit SCA_RST_CAUSE_thermal = true ∧
      t.bit HKT_SHDN_STAT_rec_lost = true) ∧
    (∀ k, s.nvs.run = none → d.ready = true → s.erasedSlot page = some k → d.record.length = 64 → Gives (.thermalResetEntry false) s (fun t => t.hold = .thermal ∧
      t.reg HKT_SHDN_STAT = s.reg HKT_SHDN_STAT ∧ Memory.bytes t.nvs.arr (page * 2048 + 64 * k) 64 = d.record ∧
      ∀ a, (a < page * 2048 + 64 * k ∨ page * 2048 + 64 * k + 64 ≤ a) → Memory.byte t.nvs.arr a = Memory.byte s.nvs.arr a)) ∧
    (s.nvs.run = none → d.ready = false → Gives (.thermalResetEntry false) s (fun t => t.hold = .thermal ∧ t.bit HKT_SHDN_STAT_rec_lost = true ∧ t.nvs.arr = s.nvs.arr)) ∧
    (s.nvs.run.isSome = true → Gives (.thermalResetEntry false) s (fun t => t.hold = s.hold ∧ t.nvs = s.nvs))) ∧
  (s.hk.shdn = none → Gives (.thermalResetEntry true) s (Quiet s))

/-! ## Shutter drive (spec 17) -/

/-- R454–R464: a trigger starts its profile on an idle pair at the next slot, waits for a running one, or is dropped; a phase ends after its lines and the last ends the profile;
the PWM follows its duty; samples give the code, find the movement and fence at the fourth code of i_max; on-time and deadline stop what is too long, the deadline also in the tick
of a line start; the waiting profile starts where its deadline has not passed. (At which ticks the samples fall: log entry 26.)
(A profile runs from its trigger on: log entry 28.)
An event moves the clock to its own tick, and without its condition changes nothing (log entries 7 and 6). -/
def Obligations.ShutterDrives : Prop := ∀ (who : Party) (v : W32) (n : Fin 4) (c : Fin 8) (uv : Int) (s : State),
  let x := s.pair n
  let k := bitsOf v 3 0
  let r := bitsOf v 18 16
  let cn := c.val / 2
  let ch := fun (q : ProfRun) => s.profChan n q.prof
  let dropped := fun (t : State) => t.reg SDR_DROP_CNT = counted1 (s.reg SDR_DROP_CNT) ⟨SDR_DROP_CNT, 8 * n.val + 7, 8 * n.val⟩ ∧ t.bit SDR_EVT_drop n = true
  let new : ProfRun := { prof := k, trig := r, holder := if who = .host then 2 else 1, csu := none, at_ := s.now }
  (Writes s who SDR_TRIG → r ≤ 4 →
    (bitOf v 31 = true → bitsOf v 9 8 = n.val →
      (s.get (SDR_PRF_CFG_nphase k) ≠ 0 → s.bit SDR_FENCED_channels (s.profChan n k) = false →
        (x.run = none → x.wait = none → Gives (.shutterTrigger who v) s (fun t => (t.pair n).run = some new ∧ (t.pair n).wait = none ∧ (t.pair n).phase = 0 ∧
          (t.pair n).phaseAt = s.nextSlotTick (s.profRaster new) ∧ t.bit (SDR_PAIR_STAT_running n) = true ∧ t.get (SDR_PAIR_STAT_profile n) = k ∧ ∀ j, j ≠ n.val → t.pair j = s.pair j)) ∧
        (∀ q, x.run = some q → x.wait = none → Gives (.shutterTrigger who v) s (fun t => t.pair n = { x with wait := some new } ∧ t.bit (SDR_PAIR_STAT_waiting n) = true)) ∧
        (∀ q, x.wait = some q → Gives (.shutterTrigger who v) s (fun t => t.pair n = x ∧ dropped t))) ∧
      (s.get (SDR_PRF_CFG_nphase k) = 0 ∨ s.bit SDR_FENCED_channels (s.profChan n k) = true → Gives (.shutterTrigger who v) s (fun t => t.pair n = x ∧ dropped t))) ∧
    (bitOf v 31 = false → Gives (.shutterTrigger who v) s (RegsOnly [SDR_TRIG] s))) ∧
  (Normal s →
    (∀ q, x.run = some q → s.bit (SDR_PRF_CFG_unit q.prof) = false →
      (s.phaseLen n q.prof x.phase ≤ q.lines → x.releasing = true → Gives (.phaseEnd n) s (fun t => (t.pair n).run = none ∧ t.bit (SDR_CH_STAT_gate (ch q)) = false ∧
        t.bit (SDR_PAIR_STAT_hs n) = false ∧ t.bit (SDR_PAIR_STAT_running n) = false ∧ t.bit SDR_EVT_done n = true)) ∧
      (s.phaseLen n q.prof x.phase ≤ q.lines → x.releasing = false → Gives (.phaseEnd n) s (fun t => (t.pair n).phase = x.phase + 1 ∧ (t.pair n).run = some { q with lines := 0 } ∧
        (t.pair n).releasing = decide (s.get (SDR_PRF_CFG_nphase q.prof) ≤ x.phase + 2))) ∧
      (q.lines < s.phaseLen n q.prof x.phase → Gives (.phaseEnd n) s (Quiet s))) ∧
    (∀ q, x.run = some q → x.releasing = false → s.get (SDR_PRF_PH_mode q.prof x.phase) = 2 →
      let per := 96 * s.get (SDR_PRF_DRV_pwm_per q.prof)
      let on := s.get (SDR_PRF_PH_duty q.prof x.phase) * per / 256
      let y := s.raster (s.counted (s.profRaster q))
      let e := x.pwmAt + x.pwmExt + per
      (s.now < x.pwmAt + on → Gives (.pwmPeriod n) s (fun t => t.now = x.pwmAt + on ∧ t.bit (SDR_CH_STAT_gate (ch q)) = false)) ∧
      (x.pwmAt + on ≤ s.now → y.running = true → y.lineAt + 96 * y.slots ≤ y.lineEnd → Gives (.pwmPeriod n) s (fun t =>
        t.now = max s.now (e + if x.pwmAt < y.lineEnd ∧ y.lineAt + 96 * y.slots ≤ e then y.lineEnd - (y.lineAt + 96 * y.slots) else 0) ∧
        t.bit (SDR_CH_STAT_gate (ch q)) = decide (0 < on)))) ∧
    Gives (.currentSample c uv) s (fun t => t.now = max ((s.chan c).at_ / 1500 + 1) ((s.now + 1499) / 1500) * 1500 ∧ t.get (SDR_CH_I_latest c) = State.senseCode uv ∧ (t.chan c).codes = (State.senseCode uv :: (s.chan c).codes).take 3 ∧
      ((s.chan c).overRun = 3 → s.get (SDR_CH_CFG_i_max c) ≤ State.senseCode uv → s.bit SDR_FENCED_channels c = false →
        t.bit SDR_FENCED_channels c = true ∧ t.get (SDR_CH_STAT_last c) = 1 ∧ t.bit SDR_EVT_fence c = true ∧ t.bit (SDR_CH_STAT_gate c) = false)) ∧
    (∀ q a b d, (s.pair cn).run = some q → s.profChan cn q.prof = c.val → (s.pair cn).phaseAt ≤ s.now → (s.chan c).codes = [a, b, d] → s.bit (SDR_PRF_PH_detect q.prof (s.pair cn).phase) = true →
      (s.pair cn).move = .fall → (s.pair cn).lo + s.get (SDR_CH_DET_dip_thr c) ≤ (State.senseCode uv + a + b + d) / 4 → (s.pair cn).lo ≤ (State.senseCode uv + a + b + d) / 4 →
      Gives (.currentSample c uv) s (fun t => t.bit SDR_EVT_move c = true ∧ t.get (SDR_CH_TPEAK_sample c) = (s.pair cn).tpeak % 2 ^ 24 ∧ (t.pair cn).move = .done)) ∧
    (∀ q w, (s.pair cn).run = some q → (s.pair cn).onWall = some w → s.profChan cn q.prof = c.val → (s.pair cn).releasing = false → s.bit SDR_FENCED_channels c = false →
      Gives (.onTimeLimit c) s (fun t => t.bit SDR_FENCED_channels c = true ∧ t.get (SDR_CH_STAT_last c) = 2 ∧ t.bit (SDR_CH_STAT_gate c) = false ∧ (t.pair cn).releasing = true ∧
        w + s.get (SDR_CH_CFG_max_on c) * 4423680 ≤ t.wall)) ∧
    (∀ q, x.wait = some q → q.csu = none →
      let y := s.raster (s.counted (s.profRaster q))
      let late := s.get (SDR_PRF_CFG_deadline q.prof) ≠ 0 ∧ s.get (SDR_PRF_CFG_deadline q.prof) ≤ q.lines + (if y.running = true ∧ y.lineEnd ≤ s.now then 1 else 0)
      let gone := fun (t : State) => t.pair n = { x with wait := none } ∧ t.bit (SDR_PAIR_STAT_waiting n) = false ∧ dropped t
      (late → Gives (.triggerDeadline n) s gone ∧ (x.run = none → Gives (.waitingProfileStart n) s gone)) ∧
      (¬ late → Gives (.triggerDeadline n) s (Quiet s)) ∧
      (¬ late → x.run = none → Gives (.waitingProfileStart n) s (fun t => (t.pair n).run = some { q with lines := 0 } ∧ (t.pair n).wait = none ∧ (t.pair n).phase = 0 ∧
        t.bit (SDR_PAIR_STAT_running n) = true ∧ t.bit (SDR_PAIR_STAT_waiting n) = false))))

/-! ## Reset and invariants -/

/-- R14, R64, R100, R153, R354, R429, R450, R466, R473, R482: right after power is applied the part is held by the power-on reset, no command waits, no core has run, and the
registers hold the values that the register tables give.
(That the state at reset is the held part with cause POR: log entry 13.) -/
def Obligations.ResetLeaves : Prop :=  let s := State.reset
  s.hold = .porst ∧ s.pending = [] ∧ s.cores = [] ∧ s.reg SCA_RST_CAUSE = 1#32 ∧ s.bit NVS_STAT_ready = false ∧
  (∀ e ∈ [(SCA_SUPV_CFG, 0x10258), (SCA_LATENCY, 5000), (RTB_LINE_LEN 0, 250), (RTB_FRAME_LINES 3, 1250), (RTB_FSYNC_PERIOD, 0xFFFFFFFF), (PSC_SUP_CTL, 1), (PSC_SQ_WDOG 3, 16),
    (FPP_CTL 0, 2), (FPP_PWR_SETTLE 2, 625), (LCA_MODE 1, 3), (PCE_PEDESTAL 0, 0x4000), (CSU_INTERVAL 2, 108000), (IPL_BLACK 5, 1024), (CER_VER_CFG, 4), (MEM_DRAM_CFG, 0x27),
    (NVS_SHDN_PAGE, 1023), (NVS_FREE0, 0x1000100), (HKT_SHDN_CFG, 0x5F7D), (HKT_ROUND_MASK, 0xFF0000F), (SDR_CH_CFG 7, 0x3FF0262), (HPORT_CFG, 0x1F01), (VIO_RX_FPER 1, 4167),
    (MEN_STAT, 2), (GPIO_OUT, 0), (INTC_HOLD 0 15, 0x4000)], s.num e.1 = e.2) ∧
  Settled s ∧ ShutdownSafe s ∧ MemoriesCanonical s

/-- R260, R395, R446: every step, from every state, leaves the interrupt pins, SUP's request and the alarm pins as the rest of the state decides, and after the decision of a thermal
shutdown every port unpowered, unbiased and with its edges low. -/
def Obligations.StepKeepsInvariants : Prop := ∀ (s t : State), step s = .next t → Settled t ∧ ShutdownSafe t

/-- R473, R474: every step keeps the canonical form of every memory: the data space, the band store, the cores' memories, the non-volatile array with the write buffers of its two
sides, and MET's exclusion planes. (The canonical form is that of the model's own representation.) -/
def Obligations.MemoriesStayCanonical : Prop := ∀ (s t : State), step s = .next t → MemoriesCanonical s → MemoriesCanonical t

/-- R17, R445, R473, R474: while a power-on reset, a supply reset, the loss of PLL0 or a thermal reset holds the part, every command but the resets, their releases and the die trip leaves the
whole state as it is, and while a system reset holds it every command but those of the enclave, the non-volatile store, the supplies and the resets does (log entry 15). No reset
coincides with the one that holds the part (log entry 12), and a shutdown that has been decided finds the outputs as R446 leaves them. -/
def Obligations.HeldPartIsQuiet : Prop := ∀ (i : Instr) (s : State), (∀ n l, s.sca.resetAt = some (n, l) → n ≠ s.now) → (s.hk.shdn.isSome = true → s.safeOutputs = s) →
  (s.hold = .porst ∨ s.hold = .supply ∨ s.hold = .clock ∨ s.hold = .thermal → resetEvent s.hold i = false → Gives i s (Quiet s)) ∧
  (s.hold = .system → resetEvent s.hold i = false → systemRuns i = false → Gives i s (Quiet s))
end

