-- ==== Sys2Proof/Laws/Bits.lean ====
section
/-! SUPPORT. Laws/Bits.lean: reading a bit field after a field is written. -/

namespace Sys2Proof.Machine

/-- Bit `i` of a word with a field replaced. -/
theorem withBits_testBit (w : W32) {hi lo : Nat} (v i : Nat) (h : lo ≤ hi) (h32 : hi < 32) :
    (withBits w hi lo v).toNat.testBit i = if lo ≤ i ∧ i ≤ hi then v.testBit (i - lo) else w.toNat.testBit i := by
  have hw := w.isLt
  have e : 2 ^ (hi + 1) = 2 ^ lo * 2 ^ (hi - lo + 1) := by rw [← Nat.pow_add]; congr 1; omega
  have hX : w.toNat % 2 ^ lo < 2 ^ lo := Nat.mod_lt _ (Nat.pos_of_ne_zero (by simp))
  have hV : v % 2 ^ (hi - lo + 1) < 2 ^ (hi - lo + 1) := Nat.mod_lt _ (Nat.pos_of_ne_zero (by simp))
  have hs : w.toNat / 2 ^ (hi + 1) * 2 ^ (hi + 1) + v % 2 ^ (hi - lo + 1) * 2 ^ lo + w.toNat % 2 ^ lo =
      2 ^ lo * (2 ^ (hi - lo + 1) * (w.toNat / 2 ^ (hi + 1)) + v % 2 ^ (hi - lo + 1)) + w.toNat % 2 ^ lo := by
    rw [Nat.mul_add]
    congr 1
    congr 1
    · rw [← Nat.mul_assoc, ← e, Nat.mul_comm]
    · rw [Nat.mul_comm]
  simp only [withBits, BitVec.toNat_ofNat, hs, Nat.testBit_mod_two_pow]
  rw [Nat.testBit_two_pow_mul_add _ hX]
  by_cases hi32 : i < 32
  · by_cases h1 : i < lo
    · have h2 : ¬ (lo ≤ i ∧ i ≤ hi) := by omega
      simp [hi32, h1, h2, Nat.testBit_mod_two_pow]
    · simp only [hi32, decide_true, Bool.true_and, if_neg h1]
      rw [Nat.testBit_two_pow_mul_add _ hV]
      by_cases h3 : i ≤ hi
      · have h4 : i - lo < hi - lo + 1 := by omega
        have h5 : lo ≤ i ∧ i ≤ hi := by omega
        simp [h4, h5, Nat.testBit_mod_two_pow]
      · have h4 : ¬ i - lo < hi - lo + 1 := by omega
        have h5 : ¬ (lo ≤ i ∧ i ≤ hi) := by omega
        rw [if_neg h4, if_neg h5, Nat.testBit_div_two_pow]
        congr 1
        omega
  · have h2 : ¬ (lo ≤ i ∧ i ≤ hi) := by omega
    have h3 : w.toNat.testBit i = false := Nat.testBit_lt_two_pow (Nat.lt_of_lt_of_le hw (Nat.pow_le_pow_right (by decide) (by omega)))
    simp [hi32, h2, h3]

/-- Bit `i` of a field's value. -/
theorem bitsOf_testBit (w : W32) (hi lo i : Nat) : (bitsOf w hi lo).testBit i = (decide (i < hi - lo + 1) && w.toNat.testBit (lo + i)) := by
  simp only [bitsOf, Nat.testBit_mod_two_pow, Nat.testBit_div_two_pow]
  rw [Nat.add_comm i lo]

/-- A field read back after a write of it. -/
theorem bitsOf_withBits_same (w : W32) {hi lo : Nat} (v : Nat) (h : lo ≤ hi) (h32 : hi < 32) :
    bitsOf (withBits w hi lo v) hi lo = v % 2 ^ (hi - lo + 1) := by
  apply Nat.eq_of_testBit_eq
  intro i
  rw [bitsOf_testBit, withBits_testBit w v _ h h32, Nat.testBit_mod_two_pow]
  by_cases hn : i < hi - lo + 1
  · have : lo ≤ lo + i ∧ lo + i ≤ hi := by omega
    simp [hn, this]
  · simp [hn]

/-- A write of one field leaves a field that shares no bit with it. -/
theorem bitsOf_withBits_other (w : W32) {hi lo : Nat} (v hi' lo' : Nat) (h : lo ≤ hi) (h32 : hi < 32) (h' : lo' ≤ hi') (hd : hi < lo' ∨ hi' < lo) :
    bitsOf (withBits w hi lo v) hi' lo' = bitsOf w hi' lo' := by
  apply Nat.eq_of_testBit_eq
  intro i
  rw [bitsOf_testBit, bitsOf_testBit, withBits_testBit w v _ h h32]
  by_cases hn : i < hi' - lo' + 1
  · have : ¬ (lo ≤ lo' + i ∧ lo' + i ≤ hi) := by omega
    simp [this]
  · simp [hn]

/-- A field's value fits its width. -/
theorem bitsOf_lt (w : W32) (hi lo : Nat) : bitsOf w hi lo < 2 ^ (hi - lo + 1) := Nat.mod_lt _ (Nat.pos_of_ne_zero (by simp))

end Sys2Proof.Machine
end

