-- ==== Sys2Proof/Laws/Map.lean ====
section
/-! SUPPORT. Laws/Map.lean: reading a map after a write, and the canonical form. -/

namespace Sys2Proof.Machine

theorem Map.get_del_same {α : Type} (d : Nat → α) (m : List (Nat × α)) (k : Nat) : Map.get d (Map.del m k) k = d k := by
  induction m with
  | nil => rfl
  | cons e r ih =>
    obtain ⟨j, v⟩ := e
    by_cases h : j = k
    · simpa [Map.del, h] using ih
    · simpa [Map.del, Map.get, h] using ih

theorem Map.get_del_other {α : Type} (d : Nat → α) (m : List (Nat × α)) {k j : Nat} (h : j ≠ k) :
    Map.get d (Map.del m k) j = Map.get d m j := by
  induction m with
  | nil => rfl
  | cons e r ih =>
    obtain ⟨i, v⟩ := e
    by_cases hi : i = k
    · have hij : i ≠ j := fun he => h (he ▸ hi)
      simpa [Map.del, Map.get, hi, show ¬ k = j from fun he => h he.symm] using ih
    · by_cases hj : i = j
      · simp [Map.del, Map.get, hj, h]
      · simpa [Map.del, Map.get, hi, hj] using ih

theorem Map.get_ins_same {α : Type} (d : Nat → α) (m : List (Nat × α)) (k : Nat) (v : α) (h : Map.del m k = m) :
    Map.get d (Map.ins m k v) k = v := by
  induction m with
  | nil => simp [Map.ins, Map.get]
  | cons e r ih =>
    obtain ⟨j, w⟩ := e
    by_cases hj : j = k
    · exfalso
      have hlen := congrArg List.length h
      have hle : ∀ l : List (Nat × α), (Map.del l k).length ≤ l.length := by
        intro l
        induction l with
        | nil => simp [Map.del]
        | cons a l il =>
          obtain ⟨x, y⟩ := a
          by_cases hx : x = k <;> simp [Map.del, hx] <;> omega
      have := hle r
      simp [Map.del, hj] at hlen
      omega
    · have hr : Map.del r k = r := by simpa [Map.del, hj] using h
      by_cases hk : k < j
      · simp [Map.ins, Map.get, hk]
      · simpa [Map.ins, Map.get, hk, hj] using ih hr

theorem Map.get_ins_other {α : Type} (d : Nat → α) (m : List (Nat × α)) {k j : Nat} (v : α) (h : j ≠ k) :
    Map.get d (Map.ins m k v) j = Map.get d m j := by
  induction m with
  | nil => simp [Map.ins, Map.get, Ne.symm h]
  | cons e r ih =>
    obtain ⟨i, w⟩ := e
    by_cases hk : k < i
    · simp [Map.ins, Map.get, hk, Ne.symm h]
    · by_cases hi : i = j
      · subst hi
        simp [Map.ins, Map.get, hk]
      · simpa [Map.ins, Map.get, hk, hi] using ih

theorem Map.del_del {α : Type} (m : List (Nat × α)) (k : Nat) : Map.del (Map.del m k) k = Map.del m k := by
  induction m with
  | nil => rfl
  | cons e r ih =>
    obtain ⟨j, v⟩ := e
    by_cases h : j = k <;> simp [Map.del, h, ih]

/-- A read of the key just written. -/
@[simp] theorem Map.get_set_same {α : Type} [DecidableEq α] (d : Nat → α) (m : List (Nat × α)) (k : Nat) (v : α) :
    Map.get d (Map.set d m k v) k = v := by
  unfold Map.set
  split
  · next h => rw [Map.get_del_same, h]
  · exact Map.get_ins_same d _ k v (Map.del_del m k)

/-- A write leaves every other key. -/
theorem Map.get_set_other {α : Type} [DecidableEq α] (d : Nat → α) (m : List (Nat × α)) {k j : Nat} (v : α) (h : j ≠ k) :
    Map.get d (Map.set d m k v) j = Map.get d m j := by
  unfold Map.set
  split
  · exact Map.get_del_other d m h
  · rw [Map.get_ins_other d _ v h, Map.get_del_other d m h]

theorem Map.wfAbove_weaken {α : Type} [DecidableEq α] (d : Nat → α) {a b : Nat} (hab : a ≤ b) (m : List (Nat × α))
    (h : Map.wfAbove d (some b) m = true) : Map.wfAbove d (some a) m = true := by
  cases m with
  | nil => rfl
  | cons e r =>
    obtain ⟨j, v⟩ := e
    simp only [Map.wfAbove, Bool.and_eq_true, decide_eq_true_eq] at h ⊢
    exact ⟨⟨by omega, h.1.2⟩, h.2⟩

theorem Map.wfAbove_del {α : Type} [DecidableEq α] (d : Nat → α) (k : Nat) (m : List (Nat × α)) :
    ∀ b, Map.wfAbove d b m = true → Map.wfAbove d b (Map.del m k) = true := by
  induction m with
  | nil => intro b h; exact h
  | cons e r ih =>
    intro b h
    obtain ⟨j, v⟩ := e
    simp only [Map.wfAbove, Bool.and_eq_true] at h
    by_cases hj : j = k
    · simp only [Map.del, if_pos hj]
      have hr := ih _ h.2
      cases b with
      | none =>
        cases hd : Map.del r k with
        | nil => rfl
        | cons e' r' =>
          obtain ⟨j', v'⟩ := e'
          rw [hd] at hr
          simp only [Map.wfAbove, Bool.and_eq_true] at hr ⊢
          exact ⟨⟨trivial, hr.1.2⟩, hr.2⟩
      | some x =>
        have hx : x < j := by simpa using h.1.1
        exact Map.wfAbove_weaken d (Nat.le_of_lt hx) _ hr
    · simp only [Map.del, if_neg hj, Map.wfAbove, Bool.and_eq_true]
      exact ⟨h.1, ih _ h.2⟩

theorem Map.wfAbove_ins {α : Type} [DecidableEq α] (d : Nat → α) (k : Nat) (v : α) (hv : v ≠ d k) (m : List (Nat × α)) :
    ∀ b, (∀ x, b = some x → x < k) → Map.del m k = m → Map.wfAbove d b m = true → Map.wfAbove d b (Map.ins m k v) = true := by
  induction m with
  | nil =>
    intro b hb _ _
    cases b with
    | none => simp [Map.ins, Map.wfAbove, hv]
    | some x => simp [Map.ins, Map.wfAbove, hv, hb x rfl]
  | cons e r ih =>
    intro b hb hd h
    obtain ⟨j, w⟩ := e
    simp only [Map.wfAbove, Bool.and_eq_true] at h
    by_cases hk : k < j
    · simp only [Map.ins, if_pos hk, Map.wfAbove, Bool.and_eq_true]
      refine ⟨⟨?_, by simpa using hv⟩, ⟨by simpa using hk, h.1.2⟩, h.2⟩
      cases b with
      | none => rfl
      | some x => simpa using hb x rfl
    · by_cases hj : j = k
      · exfalso
        have hmem : ∀ l : List (Nat × α), ∀ y, (k, y) ∉ Map.del l k := by
          intro l y
          induction l with
          | nil => simp [Map.del]
          | cons a l il =>
            obtain ⟨x, z⟩ := a
            by_cases hx : x = k
            · simpa [Map.del, hx] using il
            · simp only [Map.del, if_neg hx, List.mem_cons, Prod.mk.injEq, not_or]
              exact ⟨fun he => hx he.1.symm, il⟩
        refine hmem ((j, w) :: r) w ?_
        rw [hd, hj]
        exact List.mem_cons_self
      · have hr : Map.del r k = r := by simpa [Map.del, hj] using hd
        simp only [Map.ins, if_neg hk, Map.wfAbove, Bool.and_eq_true]
        exact ⟨h.1, ih (some j) (fun x hx => by cases hx; omega) hr h.2⟩

/-- A write keeps the canonical form. -/
theorem Map.wf_set {α : Type} [DecidableEq α] (d : Nat → α) (m : List (Nat × α)) (k : Nat) (v : α) (h : Map.wf d m = true) :
    Map.wf d (Map.set d m k v) = true := by
  unfold Map.set
  split
  · exact Map.wfAbove_del d k m none h
  · next hv => exact Map.wfAbove_ins d k v hv _ none (fun x hx => by cases hx) (Map.del_del m k) (Map.wfAbove_del d k m none h)

/-- Filtering keeps the canonical form. -/
theorem Map.wfAbove_filter {α : Type} [DecidableEq α] (d : Nat → α) (q : Nat × α → Bool) (m : List (Nat × α)) :
    ∀ b, Map.wfAbove d b m = true → Map.wfAbove d b (m.filter q) = true := by
  induction m with
  | nil => intro b h; exact h
  | cons e r ih =>
    intro b h
    obtain ⟨j, v⟩ := e
    simp only [Map.wfAbove, Bool.and_eq_true] at h
    have hr := ih _ h.2
    by_cases hq : q (j, v)
    · simp only [List.filter_cons, hq, if_true, Map.wfAbove, Bool.and_eq_true]
      exact ⟨h.1, hr⟩
    · simp only [List.filter_cons, hq]
      cases b with
      | none =>
        cases hd : r.filter q with
        | nil => simp [Map.wfAbove]
        | cons e' r' =>
          obtain ⟨j', v'⟩ := e'
          rw [hd] at hr
          simp only [Map.wfAbove, Bool.and_eq_true] at hr
          simp only [Bool.false_eq_true, if_false, Map.wfAbove, Bool.and_eq_true]
          exact ⟨⟨trivial, hr.1.2⟩, hr.2⟩
      | some x =>
        have hx : x < j := by simpa using h.1.1
        simpa using Map.wfAbove_weaken d (Nat.le_of_lt hx) _ hr

theorem Map.wf_filter {α : Type} [DecidableEq α] (d : Nat → α) (q : Nat × α → Bool) (m : List (Nat × α)) (h : Map.wf d m = true) :
    Map.wf d (m.filter q) = true := Map.wfAbove_filter d q m none h

/-- A map whose values alone are changed, each by its key, reads as the changed value; what an unlisted key reads as is changed so too. -/
theorem Map.get_map {α β : Type} (d : Nat → α) (d' : Nat → β) (f : Nat × α → Nat × β) (g : Nat → α → β) (hf : ∀ e, f e = (e.1, g e.1 e.2)) (hd : ∀ k, g k (d k) = d' k)
    (k : Nat) : ∀ m : List (Nat × α), Map.get d' (m.map f) k = g k (Map.get d m k)
  | [] => (hd k).symm
  | (j, v) :: r => by
    simp only [List.map_cons, hf, Map.get]
    split
    · next h => rw [h]
    · rw [show (r.map f) = r.map f from rfl, Map.get_map d d' f g hf hd k r]

end Sys2Proof.Machine
end

