-- ==== Sys2Proof/Laws/State.lean ====
section
/-! SUPPORT. Laws/State.lean: what each named update of the state does to each field. -/

namespace Sys2Proof.Machine.State

@[simp] theorem setReg_regs (s : State) (a : Nat) (v : W32) : (s.setReg a v).regs = Map.set regReset s.regs a v := rfl
@[simp] theorem setReg_now (s : State) (a : Nat) (v : W32) : (s.setReg a v).now = s.now := rfl
@[simp] theorem setReg_wall (s : State) (a : Nat) (v : W32) : (s.setReg a v).wall = s.wall := rfl
@[simp] theorem setReg_variantM (s : State) (a : Nat) (v : W32) : (s.setReg a v).variantM = s.variantM := rfl
@[simp] theorem setReg_freeCtr (s : State) (a : Nat) (v : W32) : (s.setReg a v).freeCtr = s.freeCtr := rfl
@[simp] theorem setReg_hold (s : State) (a : Nat) (v : W32) : (s.setReg a v).hold = s.hold := rfl
@[simp] theorem setReg_rlatch (s : State) (a : Nat) (v : W32) : (s.setReg a v).rlatch = s.rlatch := rfl
@[simp] theorem setReg_wlatch (s : State) (a : Nat) (v : W32) : (s.setReg a v).wlatch = s.wlatch := rfl
@[simp] theorem setReg_rasters (s : State) (a : Nat) (v : W32) : (s.setReg a v).rasters = s.rasters := rfl
@[simp] theorem setReg_fsync (s : State) (a : Nat) (v : W32) : (s.setReg a v).fsync = s.fsync := rfl
@[simp] theorem setReg_cmps (s : State) (a : Nat) (v : W32) : (s.setReg a v).cmps = s.cmps := rfl
@[simp] theorem setReg_cores (s : State) (a : Nat) (v : W32) : (s.setReg a v).cores = s.cores := rfl
@[simp] theorem setReg_imem (s : State) (a : Nat) (v : W32) : (s.setReg a v).imem = s.imem := rfl
@[simp] theorem setReg_dmem (s : State) (a : Nat) (v : W32) : (s.setReg a v).dmem = s.dmem := rfl
@[simp] theorem setReg_dram (s : State) (a : Nat) (v : W32) : (s.setReg a v).dram = s.dram := rfl
@[simp] theorem setReg_band (s : State) (a : Nat) (v : W32) : (s.setReg a v).band = s.band := rfl
@[simp] theorem setReg_ports (s : State) (a : Nat) (v : W32) : (s.setReg a v).ports = s.ports := rfl
@[simp] theorem setReg_streams (s : State) (a : Nat) (v : W32) : (s.setReg a v).streams = s.streams := rfl
@[simp] theorem setReg_replay (s : State) (a : Nat) (v : W32) : (s.setReg a v).replay = s.replay := rfl
@[simp] theorem setReg_coefAct (s : State) (a : Nat) (v : W32) : (s.setReg a v).coefAct = s.coefAct := rfl
@[simp] theorem setReg_coefShadow (s : State) (a : Nat) (v : W32) : (s.setReg a v).coefShadow = s.coefShadow := rfl
@[simp] theorem setReg_coefArm (s : State) (a : Nat) (v : W32) : (s.setReg a v).coefArm = s.coefArm := rfl
@[simp] theorem setReg_tblRef (s : State) (a : Nat) (v : W32) : (s.setReg a v).tblRef = s.tblRef := rfl
@[simp] theorem setReg_progRef (s : State) (a : Nat) (v : W32) : (s.setReg a v).progRef = s.progRef := rfl
@[simp] theorem setReg_kat (s : State) (a : Nat) (v : W32) : (s.setReg a v).kat = s.kat := rfl
@[simp] theorem setReg_pairs (s : State) (a : Nat) (v : W32) : (s.setReg a v).pairs = s.pairs := rfl
@[simp] theorem setReg_chans (s : State) (a : Nat) (v : W32) : (s.setReg a v).chans = s.chans := rfl
@[simp] theorem setReg_csu (s : State) (a : Nat) (v : W32) : (s.setReg a v).csu = s.csu := rfl
@[simp] theorem setReg_marks (s : State) (a : Nat) (v : W32) : (s.setReg a v).marks = s.marks := rfl
@[simp] theorem setReg_mem (s : State) (a : Nat) (v : W32) : (s.setReg a v).mem = s.mem := rfl
@[simp] theorem setReg_sio (s : State) (a : Nat) (v : W32) : (s.setReg a v).sio = s.sio := rfl
@[simp] theorem setReg_ipl (s : State) (a : Nat) (v : W32) : (s.setReg a v).ipl = s.ipl := rfl
@[simp] theorem setReg_cer (s : State) (a : Nat) (v : W32) : (s.setReg a v).cer = s.cer := rfl
@[simp] theorem setReg_men (s : State) (a : Nat) (v : W32) : (s.setReg a v).men = s.men := rfl
@[simp] theorem setReg_vio (s : State) (a : Nat) (v : W32) : (s.setReg a v).vio = s.vio := rfl
@[simp] theorem setReg_intc (s : State) (a : Nat) (v : W32) : (s.setReg a v).intc = s.intc := rfl
@[simp] theorem setReg_lines (s : State) (a : Nat) (v : W32) : (s.setReg a v).lines = s.lines := rfl
@[simp] theorem setReg_nvs (s : State) (a : Nat) (v : W32) : (s.setReg a v).nvs = s.nvs := rfl
@[simp] theorem setReg_hk (s : State) (a : Nat) (v : W32) : (s.setReg a v).hk = s.hk := rfl
@[simp] theorem setReg_sca (s : State) (a : Nat) (v : W32) : (s.setReg a v).sca = s.sca := rfl
@[simp] theorem setReg_lastFence (s : State) (a : Nat) (v : W32) : (s.setReg a v).lastFence = s.lastFence := rfl
@[simp] theorem setReg_arb (s : State) (a : Nat) (v : W32) : (s.setReg a v).arb = s.arb := rfl
@[simp] theorem setReg_rdata (s : State) (a : Nat) (v : W32) : (s.setReg a v).rdata = s.rdata := rfl
@[simp] theorem setReg_pending (s : State) (a : Nat) (v : W32) : (s.setReg a v).pending = s.pending := rfl

@[simp] theorem setRaster_regs (s : State) (r : Nat) (x : RasterSt) : (s.setRaster r x).regs = s.regs := rfl
@[simp] theorem setRaster_now (s : State) (r : Nat) (x : RasterSt) : (s.setRaster r x).now = s.now := rfl
@[simp] theorem setRaster_wall (s : State) (r : Nat) (x : RasterSt) : (s.setRaster r x).wall = s.wall := rfl
@[simp] theorem setRaster_variantM (s : State) (r : Nat) (x : RasterSt) : (s.setRaster r x).variantM = s.variantM := rfl
@[simp] theorem setRaster_freeCtr (s : State) (r : Nat) (x : RasterSt) : (s.setRaster r x).freeCtr = s.freeCtr := rfl
@[simp] theorem setRaster_hold (s : State) (r : Nat) (x : RasterSt) : (s.setRaster r x).hold = s.hold := rfl
@[simp] theorem setRaster_rlatch (s : State) (r : Nat) (x : RasterSt) : (s.setRaster r x).rlatch = s.rlatch := rfl
@[simp] theorem setRaster_wlatch (s : State) (r : Nat) (x : RasterSt) : (s.setRaster r x).wlatch = s.wlatch := rfl
@[simp] theorem setRaster_rasters (s : State) (r : Nat) (x : RasterSt) : (s.setRaster r x).rasters = Map.set (fun _ => {}) s.rasters r x := rfl
@[simp] theorem setRaster_fsync (s : State) (r : Nat) (x : RasterSt) : (s.setRaster r x).fsync = s.fsync := rfl
@[simp] theorem setRaster_cmps (s : State) (r : Nat) (x : RasterSt) : (s.setRaster r x).cmps = s.cmps := rfl
@[simp] theorem setRaster_cores (s : State) (r : Nat) (x : RasterSt) : (s.setRaster r x).cores = s.cores := rfl
@[simp] theorem setRaster_imem (s : State) (r : Nat) (x : RasterSt) : (s.setRaster r x).imem = s.imem := rfl
@[simp] theorem setRaster_dmem (s : State) (r : Nat) (x : RasterSt) : (s.setRaster r x).dmem = s.dmem := rfl
@[simp] theorem setRaster_dram (s : State) (r : Nat) (x : RasterSt) : (s.setRaster r x).dram = s.dram := rfl
@[simp] theorem setRaster_band (s : State) (r : Nat) (x : RasterSt) : (s.setRaster r x).band = s.band := rfl
@[simp] theorem setRaster_ports (s : State) (r : Nat) (x : RasterSt) : (s.setRaster r x).ports = s.ports := rfl
@[simp] theorem setRaster_streams (s : State) (r : Nat) (x : RasterSt) : (s.setRaster r x).streams = s.streams := rfl
@[simp] theorem setRaster_replay (s : State) (r : Nat) (x : RasterSt) : (s.setRaster r x).replay = s.replay := rfl
@[simp] theorem setRaster_coefAct (s : State) (r : Nat) (x : RasterSt) : (s.setRaster r x).coefAct = s.coefAct := rfl
@[simp] theorem setRaster_coefShadow (s : State) (r : Nat) (x : RasterSt) : (s.setRaster r x).coefShadow = s.coefShadow := rfl
@[simp] theorem setRaster_coefArm (s : State) (r : Nat) (x : RasterSt) : (s.setRaster r x).coefArm = s.coefArm := rfl
@[simp] theorem setRaster_tblRef (s : State) (r : Nat) (x : RasterSt) : (s.setRaster r x).tblRef = s.tblRef := rfl
@[simp] theorem setRaster_progRef (s : State) (r : Nat) (x : RasterSt) : (s.setRaster r x).progRef = s.progRef := rfl
@[simp] theorem setRaster_kat (s : State) (r : Nat) (x : RasterSt) : (s.setRaster r x).kat = s.kat := rfl
@[simp] theorem setRaster_pairs (s : State) (r : Nat) (x : RasterSt) : (s.setRaster r x).pairs = s.pairs := rfl
@[simp] theorem setRaster_chans (s : State) (r : Nat) (x : RasterSt) : (s.setRaster r x).chans = s.chans := rfl
@[simp] theorem setRaster_csu (s : State) (r : Nat) (x : RasterSt) : (s.setRaster r x).csu = s.csu := rfl
@[simp] theorem setRaster_marks (s : State) (r : Nat) (x : RasterSt) : (s.setRaster r x).marks = s.marks := rfl
@[simp] theorem setRaster_mem (s : State) (r : Nat) (x : RasterSt) : (s.setRaster r x).mem = s.mem := rfl
@[simp] theorem setRaster_sio (s : State) (r : Nat) (x : RasterSt) : (s.setRaster r x).sio = s.sio := rfl
@[simp] theorem setRaster_ipl (s : State) (r : Nat) (x : RasterSt) : (s.setRaster r x).ipl = s.ipl := rfl
@[simp] theorem setRaster_cer (s : State) (r : Nat) (x : RasterSt) : (s.setRaster r x).cer = s.cer := rfl
@[simp] theorem setRaster_men (s : State) (r : Nat) (x : RasterSt) : (s.setRaster r x).men = s.men := rfl
@[simp] theorem setRaster_vio (s : State) (r : Nat) (x : RasterSt) : (s.setRaster r x).vio = s.vio := rfl
@[simp] theorem setRaster_intc (s : State) (r : Nat) (x : RasterSt) : (s.setRaster r x).intc = s.intc := rfl
@[simp] theorem setRaster_lines (s : State) (r : Nat) (x : RasterSt) : (s.setRaster r x).lines = s.lines := rfl
@[simp] theorem setRaster_nvs (s : State) (r : Nat) (x : RasterSt) : (s.setRaster r x).nvs = s.nvs := rfl
@[simp] theorem setRaster_hk (s : State) (r : Nat) (x : RasterSt) : (s.setRaster r x).hk = s.hk := rfl
@[simp] theorem setRaster_sca (s : State) (r : Nat) (x : RasterSt) : (s.setRaster r x).sca = s.sca := rfl
@[simp] theorem setRaster_lastFence (s : State) (r : Nat) (x : RasterSt) : (s.setRaster r x).lastFence = s.lastFence := rfl
@[simp] theorem setRaster_arb (s : State) (r : Nat) (x : RasterSt) : (s.setRaster r x).arb = s.arb := rfl
@[simp] theorem setRaster_rdata (s : State) (r : Nat) (x : RasterSt) : (s.setRaster r x).rdata = s.rdata := rfl
@[simp] theorem setRaster_pending (s : State) (r : Nat) (x : RasterSt) : (s.setRaster r x).pending = s.pending := rfl

@[simp] theorem setCmp_regs (s : State) (n : Nat) (x : CmpSt) : (s.setCmp n x).regs = s.regs := rfl
@[simp] theorem setCmp_now (s : State) (n : Nat) (x : CmpSt) : (s.setCmp n x).now = s.now := rfl
@[simp] theorem setCmp_wall (s : State) (n : Nat) (x : CmpSt) : (s.setCmp n x).wall = s.wall := rfl
@[simp] theorem setCmp_variantM (s : State) (n : Nat) (x : CmpSt) : (s.setCmp n x).variantM = s.variantM := rfl
@[simp] theorem setCmp_freeCtr (s : State) (n : Nat) (x : CmpSt) : (s.setCmp n x).freeCtr = s.freeCtr := rfl
@[simp] theorem setCmp_hold (s : State) (n : Nat) (x : CmpSt) : (s.setCmp n x).hold = s.hold := rfl
@[simp] theorem setCmp_rlatch (s : State) (n : Nat) (x : CmpSt) : (s.setCmp n x).rlatch = s.rlatch := rfl
@[simp] theorem setCmp_wlatch (s : State) (n : Nat) (x : CmpSt) : (s.setCmp n x).wlatch = s.wlatch := rfl
@[simp] theorem setCmp_rasters (s : State) (n : Nat) (x : CmpSt) : (s.setCmp n x).rasters = s.rasters := rfl
@[simp] theorem setCmp_fsync (s : State) (n : Nat) (x : CmpSt) : (s.setCmp n x).fsync = s.fsync := rfl
@[simp] theorem setCmp_cmps (s : State) (n : Nat) (x : CmpSt) : (s.setCmp n x).cmps = Map.set (fun _ => {}) s.cmps n x := rfl
@[simp] theorem setCmp_cores (s : State) (n : Nat) (x : CmpSt) : (s.setCmp n x).cores = s.cores := rfl
@[simp] theorem setCmp_imem (s : State) (n : Nat) (x : CmpSt) : (s.setCmp n x).imem = s.imem := rfl
@[simp] theorem setCmp_dmem (s : State) (n : Nat) (x : CmpSt) : (s.setCmp n x).dmem = s.dmem := rfl
@[simp] theorem setCmp_dram (s : State) (n : Nat) (x : CmpSt) : (s.setCmp n x).dram = s.dram := rfl
@[simp] theorem setCmp_band (s : State) (n : Nat) (x : CmpSt) : (s.setCmp n x).band = s.band := rfl
@[simp] theorem setCmp_ports (s : State) (n : Nat) (x : CmpSt) : (s.setCmp n x).ports = s.ports := rfl
@[simp] theorem setCmp_streams (s : State) (n : Nat) (x : CmpSt) : (s.setCmp n x).streams = s.streams := rfl
@[simp] theorem setCmp_replay (s : State) (n : Nat) (x : CmpSt) : (s.setCmp n x).replay = s.replay := rfl
@[simp] theorem setCmp_coefAct (s : State) (n : Nat) (x : CmpSt) : (s.setCmp n x).coefAct = s.coefAct := rfl
@[simp] theorem setCmp_coefShadow (s : State) (n : Nat) (x : CmpSt) : (s.setCmp n x).coefShadow = s.coefShadow := rfl
@[simp] theorem setCmp_coefArm (s : State) (n : Nat) (x : CmpSt) : (s.setCmp n x).coefArm = s.coefArm := rfl
@[simp] theorem setCmp_tblRef (s : State) (n : Nat) (x : CmpSt) : (s.setCmp n x).tblRef = s.tblRef := rfl
@[simp] theorem setCmp_progRef (s : State) (n : Nat) (x : CmpSt) : (s.setCmp n x).progRef = s.progRef := rfl
@[simp] theorem setCmp_kat (s : State) (n : Nat) (x : CmpSt) : (s.setCmp n x).kat = s.kat := rfl
@[simp] theorem setCmp_pairs (s : State) (n : Nat) (x : CmpSt) : (s.setCmp n x).pairs = s.pairs := rfl
@[simp] theorem setCmp_chans (s : State) (n : Nat) (x : CmpSt) : (s.setCmp n x).chans = s.chans := rfl
@[simp] theorem setCmp_csu (s : State) (n : Nat) (x : CmpSt) : (s.setCmp n x).csu = s.csu := rfl
@[simp] theorem setCmp_marks (s : State) (n : Nat) (x : CmpSt) : (s.setCmp n x).marks = s.marks := rfl
@[simp] theorem setCmp_mem (s : State) (n : Nat) (x : CmpSt) : (s.setCmp n x).mem = s.mem := rfl
@[simp] theorem setCmp_sio (s : State) (n : Nat) (x : CmpSt) : (s.setCmp n x).sio = s.sio := rfl
@[simp] theorem setCmp_ipl (s : State) (n : Nat) (x : CmpSt) : (s.setCmp n x).ipl = s.ipl := rfl
@[simp] theorem setCmp_cer (s : State) (n : Nat) (x : CmpSt) : (s.setCmp n x).cer = s.cer := rfl
@[simp] theorem setCmp_men (s : State) (n : Nat) (x : CmpSt) : (s.setCmp n x).men = s.men := rfl
@[simp] theorem setCmp_vio (s : State) (n : Nat) (x : CmpSt) : (s.setCmp n x).vio = s.vio := rfl
@[simp] theorem setCmp_intc (s : State) (n : Nat) (x : CmpSt) : (s.setCmp n x).intc = s.intc := rfl
@[simp] theorem setCmp_lines (s : State) (n : Nat) (x : CmpSt) : (s.setCmp n x).lines = s.lines := rfl
@[simp] theorem setCmp_nvs (s : State) (n : Nat) (x : CmpSt) : (s.setCmp n x).nvs = s.nvs := rfl
@[simp] theorem setCmp_hk (s : State) (n : Nat) (x : CmpSt) : (s.setCmp n x).hk = s.hk := rfl
@[simp] theorem setCmp_sca (s : State) (n : Nat) (x : CmpSt) : (s.setCmp n x).sca = s.sca := rfl
@[simp] theorem setCmp_lastFence (s : State) (n : Nat) (x : CmpSt) : (s.setCmp n x).lastFence = s.lastFence := rfl
@[simp] theorem setCmp_arb (s : State) (n : Nat) (x : CmpSt) : (s.setCmp n x).arb = s.arb := rfl
@[simp] theorem setCmp_rdata (s : State) (n : Nat) (x : CmpSt) : (s.setCmp n x).rdata = s.rdata := rfl
@[simp] theorem setCmp_pending (s : State) (n : Nat) (x : CmpSt) : (s.setCmp n x).pending = s.pending := rfl

@[simp] theorem setCore_regs (s : State) (k : Nat) (x : CoreSt) : (s.setCore k x).regs = s.regs := rfl
@[simp] theorem setCore_now (s : State) (k : Nat) (x : CoreSt) : (s.setCore k x).now = s.now := rfl
@[simp] theorem setCore_wall (s : State) (k : Nat) (x : CoreSt) : (s.setCore k x).wall = s.wall := rfl
@[simp] theorem setCore_variantM (s : State) (k : Nat) (x : CoreSt) : (s.setCore k x).variantM = s.variantM := rfl
@[simp] theorem setCore_freeCtr (s : State) (k : Nat) (x : CoreSt) : (s.setCore k x).freeCtr = s.freeCtr := rfl
@[simp] theorem setCore_hold (s : State) (k : Nat) (x : CoreSt) : (s.setCore k x).hold = s.hold := rfl
@[simp] theorem setCore_rlatch (s : State) (k : Nat) (x : CoreSt) : (s.setCore k x).rlatch = s.rlatch := rfl
@[simp] theorem setCore_wlatch (s : State) (k : Nat) (x : CoreSt) : (s.setCore k x).wlatch = s.wlatch := rfl
@[simp] theorem setCore_rasters (s : State) (k : Nat) (x : CoreSt) : (s.setCore k x).rasters = s.rasters := rfl
@[simp] theorem setCore_fsync (s : State) (k : Nat) (x : CoreSt) : (s.setCore k x).fsync = s.fsync := rfl
@[simp] theorem setCore_cmps (s : State) (k : Nat) (x : CoreSt) : (s.setCore k x).cmps = s.cmps := rfl
@[simp] theorem setCore_cores (s : State) (k : Nat) (x : CoreSt) : (s.setCore k x).cores = Map.set (fun _ => {}) s.cores k x := rfl
@[simp] theorem setCore_imem (s : State) (k : Nat) (x : CoreSt) : (s.setCore k x).imem = s.imem := rfl
@[simp] theorem setCore_dmem (s : State) (k : Nat) (x : CoreSt) : (s.setCore k x).dmem = s.dmem := rfl
@[simp] theorem setCore_dram (s : State) (k : Nat) (x : CoreSt) : (s.setCore k x).dram = s.dram := rfl
@[simp] theorem setCore_band (s : State) (k : Nat) (x : CoreSt) : (s.setCore k x).band = s.band := rfl
@[simp] theorem setCore_ports (s : State) (k : Nat) (x : CoreSt) : (s.setCore k x).ports = s.ports := rfl
@[simp] theorem setCore_streams (s : State) (k : Nat) (x : CoreSt) : (s.setCore k x).streams = s.streams := rfl
@[simp] theorem setCore_replay (s : State) (k : Nat) (x : CoreSt) : (s.setCore k x).replay = s.replay := rfl
@[simp] theorem setCore_coefAct (s : State) (k : Nat) (x : CoreSt) : (s.setCore k x).coefAct = s.coefAct := rfl
@[simp] theorem setCore_coefShadow (s : State) (k : Nat) (x : CoreSt) : (s.setCore k x).coefShadow = s.coefShadow := rfl
@[simp] theorem setCore_coefArm (s : State) (k : Nat) (x : CoreSt) : (s.setCore k x).coefArm = s.coefArm := rfl
@[simp] theorem setCore_tblRef (s : State) (k : Nat) (x : CoreSt) : (s.setCore k x).tblRef = s.tblRef := rfl
@[simp] theorem setCore_progRef (s : State) (k : Nat) (x : CoreSt) : (s.setCore k x).progRef = s.progRef := rfl
@[simp] theorem setCore_kat (s : State) (k : Nat) (x : CoreSt) : (s.setCore k x).kat = s.kat := rfl
@[simp] theorem setCore_pairs (s : State) (k : Nat) (x : CoreSt) : (s.setCore k x).pairs = s.pairs := rfl
@[simp] theorem setCore_chans (s : State) (k : Nat) (x : CoreSt) : (s.setCore k x).chans = s.chans := rfl
@[simp] theorem setCore_csu (s : State) (k : Nat) (x : CoreSt) : (s.setCore k x).csu = s.csu := rfl
@[simp] theorem setCore_marks (s : State) (k : Nat) (x : CoreSt) : (s.setCore k x).marks = s.marks := rfl
@[simp] theorem setCore_mem (s : State) (k : Nat) (x : CoreSt) : (s.setCore k x).mem = s.mem := rfl
@[simp] theorem setCore_sio (s : State) (k : Nat) (x : CoreSt) : (s.setCore k x).sio = s.sio := rfl
@[simp] theorem setCore_ipl (s : State) (k : Nat) (x : CoreSt) : (s.setCore k x).ipl = s.ipl := rfl
@[simp] theorem setCore_cer (s : State) (k : Nat) (x : CoreSt) : (s.setCore k x).cer = s.cer := rfl
@[simp] theorem setCore_men (s : State) (k : Nat) (x : CoreSt) : (s.setCore k x).men = s.men := rfl
@[simp] theorem setCore_vio (s : State) (k : Nat) (x : CoreSt) : (s.setCore k x).vio = s.vio := rfl
@[simp] theorem setCore_intc (s : State) (k : Nat) (x : CoreSt) : (s.setCore k x).intc = s.intc := rfl
@[simp] theorem setCore_lines (s : State) (k : Nat) (x : CoreSt) : (s.setCore k x).lines = s.lines := rfl
@[simp] theorem setCore_nvs (s : State) (k : Nat) (x : CoreSt) : (s.setCore k x).nvs = s.nvs := rfl
@[simp] theorem setCore_hk (s : State) (k : Nat) (x : CoreSt) : (s.setCore k x).hk = s.hk := rfl
@[simp] theorem setCore_sca (s : State) (k : Nat) (x : CoreSt) : (s.setCore k x).sca = s.sca := rfl
@[simp] theorem setCore_lastFence (s : State) (k : Nat) (x : CoreSt) : (s.setCore k x).lastFence = s.lastFence := rfl
@[simp] theorem setCore_arb (s : State) (k : Nat) (x : CoreSt) : (s.setCore k x).arb = s.arb := rfl
@[simp] theorem setCore_rdata (s : State) (k : Nat) (x : CoreSt) : (s.setCore k x).rdata = s.rdata := rfl
@[simp] theorem setCore_pending (s : State) (k : Nat) (x : CoreSt) : (s.setCore k x).pending = s.pending := rfl

@[simp] theorem setPort_regs (s : State) (p : Nat) (x : PortSt) : (s.setPort p x).regs = s.regs := rfl
@[simp] theorem setPort_now (s : State) (p : Nat) (x : PortSt) : (s.setPort p x).now = s.now := rfl
@[simp] theorem setPort_wall (s : State) (p : Nat) (x : PortSt) : (s.setPort p x).wall = s.wall := rfl
@[simp] theorem setPort_variantM (s : State) (p : Nat) (x : PortSt) : (s.setPort p x).variantM = s.variantM := rfl
@[simp] theorem setPort_freeCtr (s : State) (p : Nat) (x : PortSt) : (s.setPort p x).freeCtr = s.freeCtr := rfl
@[simp] theorem setPort_hold (s : State) (p : Nat) (x : PortSt) : (s.setPort p x).hold = s.hold := rfl
@[simp] theorem setPort_rlatch (s : State) (p : Nat) (x : PortSt) : (s.setPort p x).rlatch = s.rlatch := rfl
@[simp] theorem setPort_wlatch (s : State) (p : Nat) (x : PortSt) : (s.setPort p x).wlatch = s.wlatch := rfl
@[simp] theorem setPort_rasters (s : State) (p : Nat) (x : PortSt) : (s.setPort p x).rasters = s.rasters := rfl
@[simp] theorem setPort_fsync (s : State) (p : Nat) (x : PortSt) : (s.setPort p x).fsync = s.fsync := rfl
@[simp] theorem setPort_cmps (s : State) (p : Nat) (x : PortSt) : (s.setPort p x).cmps = s.cmps := rfl
@[simp] theorem setPort_cores (s : State) (p : Nat) (x : PortSt) : (s.setPort p x).cores = s.cores := rfl
@[simp] theorem setPort_imem (s : State) (p : Nat) (x : PortSt) : (s.setPort p x).imem = s.imem := rfl
@[simp] theorem setPort_dmem (s : State) (p : Nat) (x : PortSt) : (s.setPort p x).dmem = s.dmem := rfl
@[simp] theorem setPort_dram (s : State) (p : Nat) (x : PortSt) : (s.setPort p x).dram = s.dram := rfl
@[simp] theorem setPort_band (s : State) (p : Nat) (x : PortSt) : (s.setPort p x).band = s.band := rfl
@[simp] theorem setPort_ports (s : State) (p : Nat) (x : PortSt) : (s.setPort p x).ports = Map.set (fun _ => {}) s.ports p x := rfl
@[simp] theorem setPort_streams (s : State) (p : Nat) (x : PortSt) : (s.setPort p x).streams = s.streams := rfl
@[simp] theorem setPort_replay (s : State) (p : Nat) (x : PortSt) : (s.setPort p x).replay = s.replay := rfl
@[simp] theorem setPort_coefAct (s : State) (p : Nat) (x : PortSt) : (s.setPort p x).coefAct = s.coefAct := rfl
@[simp] theorem setPort_coefShadow (s : State) (p : Nat) (x : PortSt) : (s.setPort p x).coefShadow = s.coefShadow := rfl
@[simp] theorem setPort_coefArm (s : State) (p : Nat) (x : PortSt) : (s.setPort p x).coefArm = s.coefArm := rfl
@[simp] theorem setPort_tblRef (s : State) (p : Nat) (x : PortSt) : (s.setPort p x).tblRef = s.tblRef := rfl
@[simp] theorem setPort_progRef (s : State) (p : Nat) (x : PortSt) : (s.setPort p x).progRef = s.progRef := rfl
@[simp] theorem setPort_kat (s : State) (p : Nat) (x : PortSt) : (s.setPort p x).kat = s.kat := rfl
@[simp] theorem setPort_pairs (s : State) (p : Nat) (x : PortSt) : (s.setPort p x).pairs = s.pairs := rfl
@[simp] theorem setPort_chans (s : State) (p : Nat) (x : PortSt) : (s.setPort p x).chans = s.chans := rfl
@[simp] theorem setPort_csu (s : State) (p : Nat) (x : PortSt) : (s.setPort p x).csu = s.csu := rfl
@[simp] theorem setPort_marks (s : State) (p : Nat) (x : PortSt) : (s.setPort p x).marks = s.marks := rfl
@[simp] theorem setPort_mem (s : State) (p : Nat) (x : PortSt) : (s.setPort p x).mem = s.mem := rfl
@[simp] theorem setPort_sio (s : State) (p : Nat) (x : PortSt) : (s.setPort p x).sio = s.sio := rfl
@[simp] theorem setPort_ipl (s : State) (p : Nat) (x : PortSt) : (s.setPort p x).ipl = s.ipl := rfl
@[simp] theorem setPort_cer (s : State) (p : Nat) (x : PortSt) : (s.setPort p x).cer = s.cer := rfl
@[simp] theorem setPort_men (s : State) (p : Nat) (x : PortSt) : (s.setPort p x).men = s.men := rfl
@[simp] theorem setPort_vio (s : State) (p : Nat) (x : PortSt) : (s.setPort p x).vio = s.vio := rfl
@[simp] theorem setPort_intc (s : State) (p : Nat) (x : PortSt) : (s.setPort p x).intc = s.intc := rfl
@[simp] theorem setPort_lines (s : State) (p : Nat) (x : PortSt) : (s.setPort p x).lines = s.lines := rfl
@[simp] theorem setPort_nvs (s : State) (p : Nat) (x : PortSt) : (s.setPort p x).nvs = s.nvs := rfl
@[simp] theorem setPort_hk (s : State) (p : Nat) (x : PortSt) : (s.setPort p x).hk = s.hk := rfl
@[simp] theorem setPort_sca (s : State) (p : Nat) (x : PortSt) : (s.setPort p x).sca = s.sca := rfl
@[simp] theorem setPort_lastFence (s : State) (p : Nat) (x : PortSt) : (s.setPort p x).lastFence = s.lastFence := rfl
@[simp] theorem setPort_arb (s : State) (p : Nat) (x : PortSt) : (s.setPort p x).arb = s.arb := rfl
@[simp] theorem setPort_rdata (s : State) (p : Nat) (x : PortSt) : (s.setPort p x).rdata = s.rdata := rfl
@[simp] theorem setPort_pending (s : State) (p : Nat) (x : PortSt) : (s.setPort p x).pending = s.pending := rfl

@[simp] theorem setStream_regs (s : State) (p : Nat) (x : StreamSt) : (s.setStream p x).regs = s.regs := rfl
@[simp] theorem setStream_now (s : State) (p : Nat) (x : StreamSt) : (s.setStream p x).now = s.now := rfl
@[simp] theorem setStream_wall (s : State) (p : Nat) (x : StreamSt) : (s.setStream p x).wall = s.wall := rfl
@[simp] theorem setStream_variantM (s : State) (p : Nat) (x : StreamSt) : (s.setStream p x).variantM = s.variantM := rfl
@[simp] theorem setStream_freeCtr (s : State) (p : Nat) (x : StreamSt) : (s.setStream p x).freeCtr = s.freeCtr := rfl
@[simp] theorem setStream_hold (s : State) (p : Nat) (x : StreamSt) : (s.setStream p x).hold = s.hold := rfl
@[simp] theorem setStream_rlatch (s : State) (p : Nat) (x : StreamSt) : (s.setStream p x).rlatch = s.rlatch := rfl
@[simp] theorem setStream_wlatch (s : State) (p : Nat) (x : StreamSt) : (s.setStream p x).wlatch = s.wlatch := rfl
@[simp] theorem setStream_rasters (s : State) (p : Nat) (x : StreamSt) : (s.setStream p x).rasters = s.rasters := rfl
@[simp] theorem setStream_fsync (s : State) (p : Nat) (x : StreamSt) : (s.setStream p x).fsync = s.fsync := rfl
@[simp] theorem setStream_cmps (s : State) (p : Nat) (x : StreamSt) : (s.setStream p x).cmps = s.cmps := rfl
@[simp] theorem setStream_cores (s : State) (p : Nat) (x : StreamSt) : (s.setStream p x).cores = s.cores := rfl
@[simp] theorem setStream_imem (s : State) (p : Nat) (x : StreamSt) : (s.setStream p x).imem = s.imem := rfl
@[simp] theorem setStream_dmem (s : State) (p : Nat) (x : StreamSt) : (s.setStream p x).dmem = s.dmem := rfl
@[simp] theorem setStream_dram (s : State) (p : Nat) (x : StreamSt) : (s.setStream p x).dram = s.dram := rfl
@[simp] theorem setStream_band (s : State) (p : Nat) (x : StreamSt) : (s.setStream p x).band = s.band := rfl
@[simp] theorem setStream_ports (s : State) (p : Nat) (x : StreamSt) : (s.setStream p x).ports = s.ports := rfl
@[simp] theorem setStream_streams (s : State) (p : Nat) (x : StreamSt) : (s.setStream p x).streams = Map.set (fun _ => {}) s.streams p x := rfl
@[simp] theorem setStream_replay (s : State) (p : Nat) (x : StreamSt) : (s.setStream p x).replay = s.replay := rfl
@[simp] theorem setStream_coefAct (s : State) (p : Nat) (x : StreamSt) : (s.setStream p x).coefAct = s.coefAct := rfl
@[simp] theorem setStream_coefShadow (s : State) (p : Nat) (x : StreamSt) : (s.setStream p x).coefShadow = s.coefShadow := rfl
@[simp] theorem setStream_coefArm (s : State) (p : Nat) (x : StreamSt) : (s.setStream p x).coefArm = s.coefArm := rfl
@[simp] theorem setStream_tblRef (s : State) (p : Nat) (x : StreamSt) : (s.setStream p x).tblRef = s.tblRef := rfl
@[simp] theorem setStream_progRef (s : State) (p : Nat) (x : StreamSt) : (s.setStream p x).progRef = s.progRef := rfl
@[simp] theorem setStream_kat (s : State) (p : Nat) (x : StreamSt) : (s.setStream p x).kat = s.kat := rfl
@[simp] theorem setStream_pairs (s : State) (p : Nat) (x : StreamSt) : (s.setStream p x).pairs = s.pairs := rfl
@[simp] theorem setStream_chans (s : State) (p : Nat) (x : StreamSt) : (s.setStream p x).chans = s.chans := rfl
@[simp] theorem setStream_csu (s : State) (p : Nat) (x : StreamSt) : (s.setStream p x).csu = s.csu := rfl
@[simp] theorem setStream_marks (s : State) (p : Nat) (x : StreamSt) : (s.setStream p x).marks = s.marks := rfl
@[simp] theorem setStream_mem (s : State) (p : Nat) (x : StreamSt) : (s.setStream p x).mem = s.mem := rfl
@[simp] theorem setStream_sio (s : State) (p : Nat) (x : StreamSt) : (s.setStream p x).sio = s.sio := rfl
@[simp] theorem setStream_ipl (s : State) (p : Nat) (x : StreamSt) : (s.setStream p x).ipl = s.ipl := rfl
@[simp] theorem setStream_cer (s : State) (p : Nat) (x : StreamSt) : (s.setStream p x).cer = s.cer := rfl
@[simp] theorem setStream_men (s : State) (p : Nat) (x : StreamSt) : (s.setStream p x).men = s.men := rfl
@[simp] theorem setStream_vio (s : State) (p : Nat) (x : StreamSt) : (s.setStream p x).vio = s.vio := rfl
@[simp] theorem setStream_intc (s : State) (p : Nat) (x : StreamSt) : (s.setStream p x).intc = s.intc := rfl
@[simp] theorem setStream_lines (s : State) (p : Nat) (x : StreamSt) : (s.setStream p x).lines = s.lines := rfl
@[simp] theorem setStream_nvs (s : State) (p : Nat) (x : StreamSt) : (s.setStream p x).nvs = s.nvs := rfl
@[simp] theorem setStream_hk (s : State) (p : Nat) (x : StreamSt) : (s.setStream p x).hk = s.hk := rfl
@[simp] theorem setStream_sca (s : State) (p : Nat) (x : StreamSt) : (s.setStream p x).sca = s.sca := rfl
@[simp] theorem setStream_lastFence (s : State) (p : Nat) (x : StreamSt) : (s.setStream p x).lastFence = s.lastFence := rfl
@[simp] theorem setStream_arb (s : State) (p : Nat) (x : StreamSt) : (s.setStream p x).arb = s.arb := rfl
@[simp] theorem setStream_rdata (s : State) (p : Nat) (x : StreamSt) : (s.setStream p x).rdata = s.rdata := rfl
@[simp] theorem setStream_pending (s : State) (p : Nat) (x : StreamSt) : (s.setStream p x).pending = s.pending := rfl

@[simp] theorem setCsu_regs (s : State) (p : Nat) (x : CsuSt) : (s.setCsu p x).regs = s.regs := rfl
@[simp] theorem setCsu_now (s : State) (p : Nat) (x : CsuSt) : (s.setCsu p x).now = s.now := rfl
@[simp] theorem setCsu_wall (s : State) (p : Nat) (x : CsuSt) : (s.setCsu p x).wall = s.wall := rfl
@[simp] theorem setCsu_variantM (s : State) (p : Nat) (x : CsuSt) : (s.setCsu p x).variantM = s.variantM := rfl
@[simp] theorem setCsu_freeCtr (s : State) (p : Nat) (x : CsuSt) : (s.setCsu p x).freeCtr = s.freeCtr := rfl
@[simp] theorem setCsu_hold (s : State) (p : Nat) (x : CsuSt) : (s.setCsu p x).hold = s.hold := rfl
@[simp] theorem setCsu_rlatch (s : State) (p : Nat) (x : CsuSt) : (s.setCsu p x).rlatch = s.rlatch := rfl
@[simp] theorem setCsu_wlatch (s : State) (p : Nat) (x : CsuSt) : (s.setCsu p x).wlatch = s.wlatch := rfl
@[simp] theorem setCsu_rasters (s : State) (p : Nat) (x : CsuSt) : (s.setCsu p x).rasters = s.rasters := rfl
@[simp] theorem setCsu_fsync (s : State) (p : Nat) (x : CsuSt) : (s.setCsu p x).fsync = s.fsync := rfl
@[simp] theorem setCsu_cmps (s : State) (p : Nat) (x : CsuSt) : (s.setCsu p x).cmps = s.cmps := rfl
@[simp] theorem setCsu_cores (s : State) (p : Nat) (x : CsuSt) : (s.setCsu p x).cores = s.cores := rfl
@[simp] theorem setCsu_imem (s : State) (p : Nat) (x : CsuSt) : (s.setCsu p x).imem = s.imem := rfl
@[simp] theorem setCsu_dmem (s : State) (p : Nat) (x : CsuSt) : (s.setCsu p x).dmem = s.dmem := rfl
@[simp] theorem setCsu_dram (s : State) (p : Nat) (x : CsuSt) : (s.setCsu p x).dram = s.dram := rfl
@[simp] theorem setCsu_band (s : State) (p : Nat) (x : CsuSt) : (s.setCsu p x).band = s.band := rfl
@[simp] theorem setCsu_ports (s : State) (p : Nat) (x : CsuSt) : (s.setCsu p x).ports = s.ports := rfl
@[simp] theorem setCsu_streams (s : State) (p : Nat) (x : CsuSt) : (s.setCsu p x).streams = s.streams := rfl
@[simp] theorem setCsu_replay (s : State) (p : Nat) (x : CsuSt) : (s.setCsu p x).replay = s.replay := rfl
@[simp] theorem setCsu_coefAct (s : State) (p : Nat) (x : CsuSt) : (s.setCsu p x).coefAct = s.coefAct := rfl
@[simp] theorem setCsu_coefShadow (s : State) (p : Nat) (x : CsuSt) : (s.setCsu p x).coefShadow = s.coefShadow := rfl
@[simp] theorem setCsu_coefArm (s : State) (p : Nat) (x : CsuSt) : (s.setCsu p x).coefArm = s.coefArm := rfl
@[simp] theorem setCsu_tblRef (s : State) (p : Nat) (x : CsuSt) : (s.setCsu p x).tblRef = s.tblRef := rfl
@[simp] theorem setCsu_progRef (s : State) (p : Nat) (x : CsuSt) : (s.setCsu p x).progRef = s.progRef := rfl
@[simp] theorem setCsu_kat (s : State) (p : Nat) (x : CsuSt) : (s.setCsu p x).kat = s.kat := rfl
@[simp] theorem setCsu_pairs (s : State) (p : Nat) (x : CsuSt) : (s.setCsu p x).pairs = s.pairs := rfl
@[simp] theorem setCsu_chans (s : State) (p : Nat) (x : CsuSt) : (s.setCsu p x).chans = s.chans := rfl
@[simp] theorem setCsu_csu (s : State) (p : Nat) (x : CsuSt) : (s.setCsu p x).csu = Map.set (fun _ => {}) s.csu p x := rfl
@[simp] theorem setCsu_marks (s : State) (p : Nat) (x : CsuSt) : (s.setCsu p x).marks = s.marks := rfl
@[simp] theorem setCsu_mem (s : State) (p : Nat) (x : CsuSt) : (s.setCsu p x).mem = s.mem := rfl
@[simp] theorem setCsu_sio (s : State) (p : Nat) (x : CsuSt) : (s.setCsu p x).sio = s.sio := rfl
@[simp] theorem setCsu_ipl (s : State) (p : Nat) (x : CsuSt) : (s.setCsu p x).ipl = s.ipl := rfl
@[simp] theorem setCsu_cer (s : State) (p : Nat) (x : CsuSt) : (s.setCsu p x).cer = s.cer := rfl
@[simp] theorem setCsu_men (s : State) (p : Nat) (x : CsuSt) : (s.setCsu p x).men = s.men := rfl
@[simp] theorem setCsu_vio (s : State) (p : Nat) (x : CsuSt) : (s.setCsu p x).vio = s.vio := rfl
@[simp] theorem setCsu_intc (s : State) (p : Nat) (x : CsuSt) : (s.setCsu p x).intc = s.intc := rfl
@[simp] theorem setCsu_lines (s : State) (p : Nat) (x : CsuSt) : (s.setCsu p x).lines = s.lines := rfl
@[simp] theorem setCsu_nvs (s : State) (p : Nat) (x : CsuSt) : (s.setCsu p x).nvs = s.nvs := rfl
@[simp] theorem setCsu_hk (s : State) (p : Nat) (x : CsuSt) : (s.setCsu p x).hk = s.hk := rfl
@[simp] theorem setCsu_sca (s : State) (p : Nat) (x : CsuSt) : (s.setCsu p x).sca = s.sca := rfl
@[simp] theorem setCsu_lastFence (s : State) (p : Nat) (x : CsuSt) : (s.setCsu p x).lastFence = s.lastFence := rfl
@[simp] theorem setCsu_arb (s : State) (p : Nat) (x : CsuSt) : (s.setCsu p x).arb = s.arb := rfl
@[simp] theorem setCsu_rdata (s : State) (p : Nat) (x : CsuSt) : (s.setCsu p x).rdata = s.rdata := rfl
@[simp] theorem setCsu_pending (s : State) (p : Nat) (x : CsuSt) : (s.setCsu p x).pending = s.pending := rfl

@[simp] theorem setMarks_regs (s : State) (k m : Nat) : (s.setMarks k m).regs = s.regs := rfl
@[simp] theorem setMarks_now (s : State) (k m : Nat) : (s.setMarks k m).now = s.now := rfl
@[simp] theorem setMarks_wall (s : State) (k m : Nat) : (s.setMarks k m).wall = s.wall := rfl
@[simp] theorem setMarks_variantM (s : State) (k m : Nat) : (s.setMarks k m).variantM = s.variantM := rfl
@[simp] theorem setMarks_freeCtr (s : State) (k m : Nat) : (s.setMarks k m).freeCtr = s.freeCtr := rfl
@[simp] theorem setMarks_hold (s : State) (k m : Nat) : (s.setMarks k m).hold = s.hold := rfl
@[simp] theorem setMarks_rlatch (s : State) (k m : Nat) : (s.setMarks k m).rlatch = s.rlatch := rfl
@[simp] theorem setMarks_wlatch (s : State) (k m : Nat) : (s.setMarks k m).wlatch = s.wlatch := rfl
@[simp] theorem setMarks_rasters (s : State) (k m : Nat) : (s.setMarks k m).rasters = s.rasters := rfl
@[simp] theorem setMarks_fsync (s : State) (k m : Nat) : (s.setMarks k m).fsync = s.fsync := rfl
@[simp] theorem setMarks_cmps (s : State) (k m : Nat) : (s.setMarks k m).cmps = s.cmps := rfl
@[simp] theorem setMarks_cores (s : State) (k m : Nat) : (s.setMarks k m).cores = s.cores := rfl
@[simp] theorem setMarks_imem (s : State) (k m : Nat) : (s.setMarks k m).imem = s.imem := rfl
@[simp] theorem setMarks_dmem (s : State) (k m : Nat) : (s.setMarks k m).dmem = s.dmem := rfl
@[simp] theorem setMarks_dram (s : State) (k m : Nat) : (s.setMarks k m).dram = s.dram := rfl
@[simp] theorem setMarks_band (s : State) (k m : Nat) : (s.setMarks k m).band = s.band := rfl
@[simp] theorem setMarks_ports (s : State) (k m : Nat) : (s.setMarks k m).ports = s.ports := rfl
@[simp] theorem setMarks_streams (s : State) (k m : Nat) : (s.setMarks k m).streams = s.streams := rfl
@[simp] theorem setMarks_replay (s : State) (k m : Nat) : (s.setMarks k m).replay = s.replay := rfl
@[simp] theorem setMarks_coefAct (s : State) (k m : Nat) : (s.setMarks k m).coefAct = s.coefAct := rfl
@[simp] theorem setMarks_coefShadow (s : State) (k m : Nat) : (s.setMarks k m).coefShadow = s.coefShadow := rfl
@[simp] theorem setMarks_coefArm (s : State) (k m : Nat) : (s.setMarks k m).coefArm = s.coefArm := rfl
@[simp] theorem setMarks_tblRef (s : State) (k m : Nat) : (s.setMarks k m).tblRef = s.tblRef := rfl
@[simp] theorem setMarks_progRef (s : State) (k m : Nat) : (s.setMarks k m).progRef = s.progRef := rfl
@[simp] theorem setMarks_kat (s : State) (k m : Nat) : (s.setMarks k m).kat = s.kat := rfl
@[simp] theorem setMarks_pairs (s : State) (k m : Nat) : (s.setMarks k m).pairs = s.pairs := rfl
@[simp] theorem setMarks_chans (s : State) (k m : Nat) : (s.setMarks k m).chans = s.chans := rfl
@[simp] theorem setMarks_csu (s : State) (k m : Nat) : (s.setMarks k m).csu = s.csu := rfl
@[simp] theorem setMarks_marks (s : State) (k m : Nat) : (s.setMarks k m).marks = Map.set (fun _ => 0) s.marks k m := rfl
@[simp] theorem setMarks_mem (s : State) (k m : Nat) : (s.setMarks k m).mem = s.mem := rfl
@[simp] theorem setMarks_sio (s : State) (k m : Nat) : (s.setMarks k m).sio = s.sio := rfl
@[simp] theorem setMarks_ipl (s : State) (k m : Nat) : (s.setMarks k m).ipl = s.ipl := rfl
@[simp] theorem setMarks_cer (s : State) (k m : Nat) : (s.setMarks k m).cer = s.cer := rfl
@[simp] theorem setMarks_men (s : State) (k m : Nat) : (s.setMarks k m).men = s.men := rfl
@[simp] theorem setMarks_vio (s : State) (k m : Nat) : (s.setMarks k m).vio = s.vio := rfl
@[simp] theorem setMarks_intc (s : State) (k m : Nat) : (s.setMarks k m).intc = s.intc := rfl
@[simp] theorem setMarks_lines (s : State) (k m : Nat) : (s.setMarks k m).lines = s.lines := rfl
@[simp] theorem setMarks_nvs (s : State) (k m : Nat) : (s.setMarks k m).nvs = s.nvs := rfl
@[simp] theorem setMarks_hk (s : State) (k m : Nat) : (s.setMarks k m).hk = s.hk := rfl
@[simp] theorem setMarks_sca (s : State) (k m : Nat) : (s.setMarks k m).sca = s.sca := rfl
@[simp] theorem setMarks_lastFence (s : State) (k m : Nat) : (s.setMarks k m).lastFence = s.lastFence := rfl
@[simp] theorem setMarks_arb (s : State) (k m : Nat) : (s.setMarks k m).arb = s.arb := rfl
@[simp] theorem setMarks_rdata (s : State) (k m : Nat) : (s.setMarks k m).rdata = s.rdata := rfl
@[simp] theorem setMarks_pending (s : State) (k m : Nat) : (s.setMarks k m).pending = s.pending := rfl

@[simp] theorem drawn_regs (s : State) : (s.drawn).regs = s.regs := rfl
@[simp] theorem drawn_now (s : State) : (s.drawn).now = s.now := rfl
@[simp] theorem drawn_wall (s : State) : (s.drawn).wall = s.wall := rfl
@[simp] theorem drawn_variantM (s : State) : (s.drawn).variantM = s.variantM := rfl
@[simp] theorem drawn_freeCtr (s : State) : (s.drawn).freeCtr = s.freeCtr + 1 := rfl
@[simp] theorem drawn_hold (s : State) : (s.drawn).hold = s.hold := rfl
@[simp] theorem drawn_rlatch (s : State) : (s.drawn).rlatch = s.rlatch := rfl
@[simp] theorem drawn_wlatch (s : State) : (s.drawn).wlatch = s.wlatch := rfl
@[simp] theorem drawn_rasters (s : State) : (s.drawn).rasters = s.rasters := rfl
@[simp] theorem drawn_fsync (s : State) : (s.drawn).fsync = s.fsync := rfl
@[simp] theorem drawn_cmps (s : State) : (s.drawn).cmps = s.cmps := rfl
@[simp] theorem drawn_cores (s : State) : (s.drawn).cores = s.cores := rfl
@[simp] theorem drawn_imem (s : State) : (s.drawn).imem = s.imem := rfl
@[simp] theorem drawn_dmem (s : State) : (s.drawn).dmem = s.dmem := rfl
@[simp] theorem drawn_dram (s : State) : (s.drawn).dram = s.dram := rfl
@[simp] theorem drawn_band (s : State) : (s.drawn).band = s.band := rfl
@[simp] theorem drawn_ports (s : State) : (s.drawn).ports = s.ports := rfl
@[simp] theorem drawn_streams (s : State) : (s.drawn).streams = s.streams := rfl
@[simp] theorem drawn_replay (s : State) : (s.drawn).replay = s.replay := rfl
@[simp] theorem drawn_coefAct (s : State) : (s.drawn).coefAct = s.coefAct := rfl
@[simp] theorem drawn_coefShadow (s : State) : (s.drawn).coefShadow = s.coefShadow := rfl
@[simp] theorem drawn_coefArm (s : State) : (s.drawn).coefArm = s.coefArm := rfl
@[simp] theorem drawn_tblRef (s : State) : (s.drawn).tblRef = s.tblRef := rfl
@[simp] theorem drawn_progRef (s : State) : (s.drawn).progRef = s.progRef := rfl
@[simp] theorem drawn_kat (s : State) : (s.drawn).kat = s.kat := rfl
@[simp] theorem drawn_pairs (s : State) : (s.drawn).pairs = s.pairs := rfl
@[simp] theorem drawn_chans (s : State) : (s.drawn).chans = s.chans := rfl
@[simp] theorem drawn_csu (s : State) : (s.drawn).csu = s.csu := rfl
@[simp] theorem drawn_marks (s : State) : (s.drawn).marks = s.marks := rfl
@[simp] theorem drawn_mem (s : State) : (s.drawn).mem = s.mem := rfl
@[simp] theorem drawn_sio (s : State) : (s.drawn).sio = s.sio := rfl
@[simp] theorem drawn_ipl (s : State) : (s.drawn).ipl = s.ipl := rfl
@[simp] theorem drawn_cer (s : State) : (s.drawn).cer = s.cer := rfl
@[simp] theorem drawn_men (s : State) : (s.drawn).men = s.men := rfl
@[simp] theorem drawn_vio (s : State) : (s.drawn).vio = s.vio := rfl
@[simp] theorem drawn_intc (s : State) : (s.drawn).intc = s.intc := rfl
@[simp] theorem drawn_lines (s : State) : (s.drawn).lines = s.lines := rfl
@[simp] theorem drawn_nvs (s : State) : (s.drawn).nvs = s.nvs := rfl
@[simp] theorem drawn_hk (s : State) : (s.drawn).hk = s.hk := rfl
@[simp] theorem drawn_sca (s : State) : (s.drawn).sca = s.sca := rfl
@[simp] theorem drawn_lastFence (s : State) : (s.drawn).lastFence = s.lastFence := rfl
@[simp] theorem drawn_arb (s : State) : (s.drawn).arb = s.arb := rfl
@[simp] theorem drawn_rdata (s : State) : (s.drawn).rdata = s.rdata := rfl
@[simp] theorem drawn_pending (s : State) : (s.drawn).pending = s.pending := rfl

@[simp] theorem modMen_regs (s : State) (f : MenSt → MenSt) : (s.modMen f).regs = s.regs := rfl
@[simp] theorem modMen_now (s : State) (f : MenSt → MenSt) : (s.modMen f).now = s.now := rfl
@[simp] theorem modMen_wall (s : State) (f : MenSt → MenSt) : (s.modMen f).wall = s.wall := rfl
@[simp] theorem modMen_variantM (s : State) (f : MenSt → MenSt) : (s.modMen f).variantM = s.variantM := rfl
@[simp] theorem modMen_freeCtr (s : State) (f : MenSt → MenSt) : (s.modMen f).freeCtr = s.freeCtr := rfl
@[simp] theorem modMen_hold (s : State) (f : MenSt → MenSt) : (s.modMen f).hold = s.hold := rfl
@[simp] theorem modMen_rlatch (s : State) (f : MenSt → MenSt) : (s.modMen f).rlatch = s.rlatch := rfl
@[simp] theorem modMen_wlatch (s : State) (f : MenSt → MenSt) : (s.modMen f).wlatch = s.wlatch := rfl
@[simp] theorem modMen_rasters (s : State) (f : MenSt → MenSt) : (s.modMen f).rasters = s.rasters := rfl
@[simp] theorem modMen_fsync (s : State) (f : MenSt → MenSt) : (s.modMen f).fsync = s.fsync := rfl
@[simp] theorem modMen_cmps (s : State) (f : MenSt → MenSt) : (s.modMen f).cmps = s.cmps := rfl
@[simp] theorem modMen_cores (s : State) (f : MenSt → MenSt) : (s.modMen f).cores = s.cores := rfl
@[simp] theorem modMen_imem (s : State) (f : MenSt → MenSt) : (s.modMen f).imem = s.imem := rfl
@[simp] theorem modMen_dmem (s : State) (f : MenSt → MenSt) : (s.modMen f).dmem = s.dmem := rfl
@[simp] theorem modMen_dram (s : State) (f : MenSt → MenSt) : (s.modMen f).dram = s.dram := rfl
@[simp] theorem modMen_band (s : State) (f : MenSt → MenSt) : (s.modMen f).band = s.band := rfl
@[simp] theorem modMen_ports (s : State) (f : MenSt → MenSt) : (s.modMen f).ports = s.ports := rfl
@[simp] theorem modMen_streams (s : State) (f : MenSt → MenSt) : (s.modMen f).streams = s.streams := rfl
@[simp] theorem modMen_replay (s : State) (f : MenSt → MenSt) : (s.modMen f).replay = s.replay := rfl
@[simp] theorem modMen_coefAct (s : State) (f : MenSt → MenSt) : (s.modMen f).coefAct = s.coefAct := rfl
@[simp] theorem modMen_coefShadow (s : State) (f : MenSt → MenSt) : (s.modMen f).coefShadow = s.coefShadow := rfl
@[simp] theorem modMen_coefArm (s : State) (f : MenSt → MenSt) : (s.modMen f).coefArm = s.coefArm := rfl
@[simp] theorem modMen_tblRef (s : State) (f : MenSt → MenSt) : (s.modMen f).tblRef = s.tblRef := rfl
@[simp] theorem modMen_progRef (s : State) (f : MenSt → MenSt) : (s.modMen f).progRef = s.progRef := rfl
@[simp] theorem modMen_kat (s : State) (f : MenSt → MenSt) : (s.modMen f).kat = s.kat := rfl
@[simp] theorem modMen_pairs (s : State) (f : MenSt → MenSt) : (s.modMen f).pairs = s.pairs := rfl
@[simp] theorem modMen_chans (s : State) (f : MenSt → MenSt) : (s.modMen f).chans = s.chans := rfl
@[simp] theorem modMen_csu (s : State) (f : MenSt → MenSt) : (s.modMen f).csu = s.csu := rfl
@[simp] theorem modMen_marks (s : State) (f : MenSt → MenSt) : (s.modMen f).marks = s.marks := rfl
@[simp] theorem modMen_mem (s : State) (f : MenSt → MenSt) : (s.modMen f).mem = s.mem := rfl
@[simp] theorem modMen_sio (s : State) (f : MenSt → MenSt) : (s.modMen f).sio = s.sio := rfl
@[simp] theorem modMen_ipl (s : State) (f : MenSt → MenSt) : (s.modMen f).ipl = s.ipl := rfl
@[simp] theorem modMen_cer (s : State) (f : MenSt → MenSt) : (s.modMen f).cer = s.cer := rfl
@[simp] theorem modMen_men (s : State) (f : MenSt → MenSt) : (s.modMen f).men = f s.men := rfl
@[simp] theorem modMen_vio (s : State) (f : MenSt → MenSt) : (s.modMen f).vio = s.vio := rfl
@[simp] theorem modMen_intc (s : State) (f : MenSt → MenSt) : (s.modMen f).intc = s.intc := rfl
@[simp] theorem modMen_lines (s : State) (f : MenSt → MenSt) : (s.modMen f).lines = s.lines := rfl
@[simp] theorem modMen_nvs (s : State) (f : MenSt → MenSt) : (s.modMen f).nvs = s.nvs := rfl
@[simp] theorem modMen_hk (s : State) (f : MenSt → MenSt) : (s.modMen f).hk = s.hk := rfl
@[simp] theorem modMen_sca (s : State) (f : MenSt → MenSt) : (s.modMen f).sca = s.sca := rfl
@[simp] theorem modMen_lastFence (s : State) (f : MenSt → MenSt) : (s.modMen f).lastFence = s.lastFence := rfl
@[simp] theorem modMen_arb (s : State) (f : MenSt → MenSt) : (s.modMen f).arb = s.arb := rfl
@[simp] theorem modMen_rdata (s : State) (f : MenSt → MenSt) : (s.modMen f).rdata = s.rdata := rfl
@[simp] theorem modMen_pending (s : State) (f : MenSt → MenSt) : (s.modMen f).pending = s.pending := rfl

@[simp] theorem modSio_regs (s : State) (f : SioSt → SioSt) : (s.modSio f).regs = s.regs := rfl
@[simp] theorem modSio_now (s : State) (f : SioSt → SioSt) : (s.modSio f).now = s.now := rfl
@[simp] theorem modSio_wall (s : State) (f : SioSt → SioSt) : (s.modSio f).wall = s.wall := rfl
@[simp] theorem modSio_variantM (s : State) (f : SioSt → SioSt) : (s.modSio f).variantM = s.variantM := rfl
@[simp] theorem modSio_freeCtr (s : State) (f : SioSt → SioSt) : (s.modSio f).freeCtr = s.freeCtr := rfl
@[simp] theorem modSio_hold (s : State) (f : SioSt → SioSt) : (s.modSio f).hold = s.hold := rfl
@[simp] theorem modSio_rlatch (s : State) (f : SioSt → SioSt) : (s.modSio f).rlatch = s.rlatch := rfl
@[simp] theorem modSio_wlatch (s : State) (f : SioSt → SioSt) : (s.modSio f).wlatch = s.wlatch := rfl
@[simp] theorem modSio_rasters (s : State) (f : SioSt → SioSt) : (s.modSio f).rasters = s.rasters := rfl
@[simp] theorem modSio_fsync (s : State) (f : SioSt → SioSt) : (s.modSio f).fsync = s.fsync := rfl
@[simp] theorem modSio_cmps (s : State) (f : SioSt → SioSt) : (s.modSio f).cmps = s.cmps := rfl
@[simp] theorem modSio_cores (s : State) (f : SioSt → SioSt) : (s.modSio f).cores = s.cores := rfl
@[simp] theorem modSio_imem (s : State) (f : SioSt → SioSt) : (s.modSio f).imem = s.imem := rfl
@[simp] theorem modSio_dmem (s : State) (f : SioSt → SioSt) : (s.modSio f).dmem = s.dmem := rfl
@[simp] theorem modSio_dram (s : State) (f : SioSt → SioSt) : (s.modSio f).dram = s.dram := rfl
@[simp] theorem modSio_band (s : State) (f : SioSt → SioSt) : (s.modSio f).band = s.band := rfl
@[simp] theorem modSio_ports (s : State) (f : SioSt → SioSt) : (s.modSio f).ports = s.ports := rfl
@[simp] theorem modSio_streams (s : State) (f : SioSt → SioSt) : (s.modSio f).streams = s.streams := rfl
@[simp] theorem modSio_replay (s : State) (f : SioSt → SioSt) : (s.modSio f).replay = s.replay := rfl
@[simp] theorem modSio_coefAct (s : State) (f : SioSt → SioSt) : (s.modSio f).coefAct = s.coefAct := rfl
@[simp] theorem modSio_coefShadow (s : State) (f : SioSt → SioSt) : (s.modSio f).coefShadow = s.coefShadow := rfl
@[simp] theorem modSio_coefArm (s : State) (f : SioSt → SioSt) : (s.modSio f).coefArm = s.coefArm := rfl
@[simp] theorem modSio_tblRef (s : State) (f : SioSt → SioSt) : (s.modSio f).tblRef = s.tblRef := rfl
@[simp] theorem modSio_progRef (s : State) (f : SioSt → SioSt) : (s.modSio f).progRef = s.progRef := rfl
@[simp] theorem modSio_kat (s : State) (f : SioSt → SioSt) : (s.modSio f).kat = s.kat := rfl
@[simp] theorem modSio_pairs (s : State) (f : SioSt → SioSt) : (s.modSio f).pairs = s.pairs := rfl
@[simp] theorem modSio_chans (s : State) (f : SioSt → SioSt) : (s.modSio f).chans = s.chans := rfl
@[simp] theorem modSio_csu (s : State) (f : SioSt → SioSt) : (s.modSio f).csu = s.csu := rfl
@[simp] theorem modSio_marks (s : State) (f : SioSt → SioSt) : (s.modSio f).marks = s.marks := rfl
@[simp] theorem modSio_mem (s : State) (f : SioSt → SioSt) : (s.modSio f).mem = s.mem := rfl
@[simp] theorem modSio_sio (s : State) (f : SioSt → SioSt) : (s.modSio f).sio = f s.sio := rfl
@[simp] theorem modSio_ipl (s : State) (f : SioSt → SioSt) : (s.modSio f).ipl = s.ipl := rfl
@[simp] theorem modSio_cer (s : State) (f : SioSt → SioSt) : (s.modSio f).cer = s.cer := rfl
@[simp] theorem modSio_men (s : State) (f : SioSt → SioSt) : (s.modSio f).men = s.men := rfl
@[simp] theorem modSio_vio (s : State) (f : SioSt → SioSt) : (s.modSio f).vio = s.vio := rfl
@[simp] theorem modSio_intc (s : State) (f : SioSt → SioSt) : (s.modSio f).intc = s.intc := rfl
@[simp] theorem modSio_lines (s : State) (f : SioSt → SioSt) : (s.modSio f).lines = s.lines := rfl
@[simp] theorem modSio_nvs (s : State) (f : SioSt → SioSt) : (s.modSio f).nvs = s.nvs := rfl
@[simp] theorem modSio_hk (s : State) (f : SioSt → SioSt) : (s.modSio f).hk = s.hk := rfl
@[simp] theorem modSio_sca (s : State) (f : SioSt → SioSt) : (s.modSio f).sca = s.sca := rfl
@[simp] theorem modSio_lastFence (s : State) (f : SioSt → SioSt) : (s.modSio f).lastFence = s.lastFence := rfl
@[simp] theorem modSio_arb (s : State) (f : SioSt → SioSt) : (s.modSio f).arb = s.arb := rfl
@[simp] theorem modSio_rdata (s : State) (f : SioSt → SioSt) : (s.modSio f).rdata = s.rdata := rfl
@[simp] theorem modSio_pending (s : State) (f : SioSt → SioSt) : (s.modSio f).pending = s.pending := rfl

@[simp] theorem modNvs_regs (s : State) (f : NvsSt → NvsSt) : (s.modNvs f).regs = s.regs := rfl
@[simp] theorem modNvs_now (s : State) (f : NvsSt → NvsSt) : (s.modNvs f).now = s.now := rfl
@[simp] theorem modNvs_wall (s : State) (f : NvsSt → NvsSt) : (s.modNvs f).wall = s.wall := rfl
@[simp] theorem modNvs_variantM (s : State) (f : NvsSt → NvsSt) : (s.modNvs f).variantM = s.variantM := rfl
@[simp] theorem modNvs_freeCtr (s : State) (f : NvsSt → NvsSt) : (s.modNvs f).freeCtr = s.freeCtr := rfl
@[simp] theorem modNvs_hold (s : State) (f : NvsSt → NvsSt) : (s.modNvs f).hold = s.hold := rfl
@[simp] theorem modNvs_rlatch (s : State) (f : NvsSt → NvsSt) : (s.modNvs f).rlatch = s.rlatch := rfl
@[simp] theorem modNvs_wlatch (s : State) (f : NvsSt → NvsSt) : (s.modNvs f).wlatch = s.wlatch := rfl
@[simp] theorem modNvs_rasters (s : State) (f : NvsSt → NvsSt) : (s.modNvs f).rasters = s.rasters := rfl
@[simp] theorem modNvs_fsync (s : State) (f : NvsSt → NvsSt) : (s.modNvs f).fsync = s.fsync := rfl
@[simp] theorem modNvs_cmps (s : State) (f : NvsSt → NvsSt) : (s.modNvs f).cmps = s.cmps := rfl
@[simp] theorem modNvs_cores (s : State) (f : NvsSt → NvsSt) : (s.modNvs f).cores = s.cores := rfl
@[simp] theorem modNvs_imem (s : State) (f : NvsSt → NvsSt) : (s.modNvs f).imem = s.imem := rfl
@[simp] theorem modNvs_dmem (s : State) (f : NvsSt → NvsSt) : (s.modNvs f).dmem = s.dmem := rfl
@[simp] theorem modNvs_dram (s : State) (f : NvsSt → NvsSt) : (s.modNvs f).dram = s.dram := rfl
@[simp] theorem modNvs_band (s : State) (f : NvsSt → NvsSt) : (s.modNvs f).band = s.band := rfl
@[simp] theorem modNvs_ports (s : State) (f : NvsSt → NvsSt) : (s.modNvs f).ports = s.ports := rfl
@[simp] theorem modNvs_streams (s : State) (f : NvsSt → NvsSt) : (s.modNvs f).streams = s.streams := rfl
@[simp] theorem modNvs_replay (s : State) (f : NvsSt → NvsSt) : (s.modNvs f).replay = s.replay := rfl
@[simp] theorem modNvs_coefAct (s : State) (f : NvsSt → NvsSt) : (s.modNvs f).coefAct = s.coefAct := rfl
@[simp] theorem modNvs_coefShadow (s : State) (f : NvsSt → NvsSt) : (s.modNvs f).coefShadow = s.coefShadow := rfl
@[simp] theorem modNvs_coefArm (s : State) (f : NvsSt → NvsSt) : (s.modNvs f).coefArm = s.coefArm := rfl
@[simp] theorem modNvs_tblRef (s : State) (f : NvsSt → NvsSt) : (s.modNvs f).tblRef = s.tblRef := rfl
@[simp] theorem modNvs_progRef (s : State) (f : NvsSt → NvsSt) : (s.modNvs f).progRef = s.progRef := rfl
@[simp] theorem modNvs_kat (s : State) (f : NvsSt → NvsSt) : (s.modNvs f).kat = s.kat := rfl
@[simp] theorem modNvs_pairs (s : State) (f : NvsSt → NvsSt) : (s.modNvs f).pairs = s.pairs := rfl
@[simp] theorem modNvs_chans (s : State) (f : NvsSt → NvsSt) : (s.modNvs f).chans = s.chans := rfl
@[simp] theorem modNvs_csu (s : State) (f : NvsSt → NvsSt) : (s.modNvs f).csu = s.csu := rfl
@[simp] theorem modNvs_marks (s : State) (f : NvsSt → NvsSt) : (s.modNvs f).marks = s.marks := rfl
@[simp] theorem modNvs_mem (s : State) (f : NvsSt → NvsSt) : (s.modNvs f).mem = s.mem := rfl
@[simp] theorem modNvs_sio (s : State) (f : NvsSt → NvsSt) : (s.modNvs f).sio = s.sio := rfl
@[simp] theorem modNvs_ipl (s : State) (f : NvsSt → NvsSt) : (s.modNvs f).ipl = s.ipl := rfl
@[simp] theorem modNvs_cer (s : State) (f : NvsSt → NvsSt) : (s.modNvs f).cer = s.cer := rfl
@[simp] theorem modNvs_men (s : State) (f : NvsSt → NvsSt) : (s.modNvs f).men = s.men := rfl
@[simp] theorem modNvs_vio (s : State) (f : NvsSt → NvsSt) : (s.modNvs f).vio = s.vio := rfl
@[simp] theorem modNvs_intc (s : State) (f : NvsSt → NvsSt) : (s.modNvs f).intc = s.intc := rfl
@[simp] theorem modNvs_lines (s : State) (f : NvsSt → NvsSt) : (s.modNvs f).lines = s.lines := rfl
@[simp] theorem modNvs_nvs (s : State) (f : NvsSt → NvsSt) : (s.modNvs f).nvs = f s.nvs := rfl
@[simp] theorem modNvs_hk (s : State) (f : NvsSt → NvsSt) : (s.modNvs f).hk = s.hk := rfl
@[simp] theorem modNvs_sca (s : State) (f : NvsSt → NvsSt) : (s.modNvs f).sca = s.sca := rfl
@[simp] theorem modNvs_lastFence (s : State) (f : NvsSt → NvsSt) : (s.modNvs f).lastFence = s.lastFence := rfl
@[simp] theorem modNvs_arb (s : State) (f : NvsSt → NvsSt) : (s.modNvs f).arb = s.arb := rfl
@[simp] theorem modNvs_rdata (s : State) (f : NvsSt → NvsSt) : (s.modNvs f).rdata = s.rdata := rfl
@[simp] theorem modNvs_pending (s : State) (f : NvsSt → NvsSt) : (s.modNvs f).pending = s.pending := rfl

@[simp] theorem modHk_regs (s : State) (f : HkSt → HkSt) : (s.modHk f).regs = s.regs := rfl
@[simp] theorem modHk_now (s : State) (f : HkSt → HkSt) : (s.modHk f).now = s.now := rfl
@[simp] theorem modHk_wall (s : State) (f : HkSt → HkSt) : (s.modHk f).wall = s.wall := rfl
@[simp] theorem modHk_variantM (s : State) (f : HkSt → HkSt) : (s.modHk f).variantM = s.variantM := rfl
@[simp] theorem modHk_freeCtr (s : State) (f : HkSt → HkSt) : (s.modHk f).freeCtr = s.freeCtr := rfl
@[simp] theorem modHk_hold (s : State) (f : HkSt → HkSt) : (s.modHk f).hold = s.hold := rfl
@[simp] theorem modHk_rlatch (s : State) (f : HkSt → HkSt) : (s.modHk f).rlatch = s.rlatch := rfl
@[simp] theorem modHk_wlatch (s : State) (f : HkSt → HkSt) : (s.modHk f).wlatch = s.wlatch := rfl
@[simp] theorem modHk_rasters (s : State) (f : HkSt → HkSt) : (s.modHk f).rasters = s.rasters := rfl
@[simp] theorem modHk_fsync (s : State) (f : HkSt → HkSt) : (s.modHk f).fsync = s.fsync := rfl
@[simp] theorem modHk_cmps (s : State) (f : HkSt → HkSt) : (s.modHk f).cmps = s.cmps := rfl
@[simp] theorem modHk_cores (s : State) (f : HkSt → HkSt) : (s.modHk f).cores = s.cores := rfl
@[simp] theorem modHk_imem (s : State) (f : HkSt → HkSt) : (s.modHk f).imem = s.imem := rfl
@[simp] theorem modHk_dmem (s : State) (f : HkSt → HkSt) : (s.modHk f).dmem = s.dmem := rfl
@[simp] theorem modHk_dram (s : State) (f : HkSt → HkSt) : (s.modHk f).dram = s.dram := rfl
@[simp] theorem modHk_band (s : State) (f : HkSt → HkSt) : (s.modHk f).band = s.band := rfl
@[simp] theorem modHk_ports (s : State) (f : HkSt → HkSt) : (s.modHk f).ports = s.ports := rfl
@[simp] theorem modHk_streams (s : State) (f : HkSt → HkSt) : (s.modHk f).streams = s.streams := rfl
@[simp] theorem modHk_replay (s : State) (f : HkSt → HkSt) : (s.modHk f).replay = s.replay := rfl
@[simp] theorem modHk_coefAct (s : State) (f : HkSt → HkSt) : (s.modHk f).coefAct = s.coefAct := rfl
@[simp] theorem modHk_coefShadow (s : State) (f : HkSt → HkSt) : (s.modHk f).coefShadow = s.coefShadow := rfl
@[simp] theorem modHk_coefArm (s : State) (f : HkSt → HkSt) : (s.modHk f).coefArm = s.coefArm := rfl
@[simp] theorem modHk_tblRef (s : State) (f : HkSt → HkSt) : (s.modHk f).tblRef = s.tblRef := rfl
@[simp] theorem modHk_progRef (s : State) (f : HkSt → HkSt) : (s.modHk f).progRef = s.progRef := rfl
@[simp] theorem modHk_kat (s : State) (f : HkSt → HkSt) : (s.modHk f).kat = s.kat := rfl
@[simp] theorem modHk_pairs (s : State) (f : HkSt → HkSt) : (s.modHk f).pairs = s.pairs := rfl
@[simp] theorem modHk_chans (s : State) (f : HkSt → HkSt) : (s.modHk f).chans = s.chans := rfl
@[simp] theorem modHk_csu (s : State) (f : HkSt → HkSt) : (s.modHk f).csu = s.csu := rfl
@[simp] theorem modHk_marks (s : State) (f : HkSt → HkSt) : (s.modHk f).marks = s.marks := rfl
@[simp] theorem modHk_mem (s : State) (f : HkSt → HkSt) : (s.modHk f).mem = s.mem := rfl
@[simp] theorem modHk_sio (s : State) (f : HkSt → HkSt) : (s.modHk f).sio = s.sio := rfl
@[simp] theorem modHk_ipl (s : State) (f : HkSt → HkSt) : (s.modHk f).ipl = s.ipl := rfl
@[simp] theorem modHk_cer (s : State) (f : HkSt → HkSt) : (s.modHk f).cer = s.cer := rfl
@[simp] theorem modHk_men (s : State) (f : HkSt → HkSt) : (s.modHk f).men = s.men := rfl
@[simp] theorem modHk_vio (s : State) (f : HkSt → HkSt) : (s.modHk f).vio = s.vio := rfl
@[simp] theorem modHk_intc (s : State) (f : HkSt → HkSt) : (s.modHk f).intc = s.intc := rfl
@[simp] theorem modHk_lines (s : State) (f : HkSt → HkSt) : (s.modHk f).lines = s.lines := rfl
@[simp] theorem modHk_nvs (s : State) (f : HkSt → HkSt) : (s.modHk f).nvs = s.nvs := rfl
@[simp] theorem modHk_hk (s : State) (f : HkSt → HkSt) : (s.modHk f).hk = f s.hk := rfl
@[simp] theorem modHk_sca (s : State) (f : HkSt → HkSt) : (s.modHk f).sca = s.sca := rfl
@[simp] theorem modHk_lastFence (s : State) (f : HkSt → HkSt) : (s.modHk f).lastFence = s.lastFence := rfl
@[simp] theorem modHk_arb (s : State) (f : HkSt → HkSt) : (s.modHk f).arb = s.arb := rfl
@[simp] theorem modHk_rdata (s : State) (f : HkSt → HkSt) : (s.modHk f).rdata = s.rdata := rfl
@[simp] theorem modHk_pending (s : State) (f : HkSt → HkSt) : (s.modHk f).pending = s.pending := rfl

@[simp] theorem modSca_regs (s : State) (f : ScaSt → ScaSt) : (s.modSca f).regs = s.regs := rfl
@[simp] theorem modSca_now (s : State) (f : ScaSt → ScaSt) : (s.modSca f).now = s.now := rfl
@[simp] theorem modSca_wall (s : State) (f : ScaSt → ScaSt) : (s.modSca f).wall = s.wall := rfl
@[simp] theorem modSca_variantM (s : State) (f : ScaSt → ScaSt) : (s.modSca f).variantM = s.variantM := rfl
@[simp] theorem modSca_freeCtr (s : State) (f : ScaSt → ScaSt) : (s.modSca f).freeCtr = s.freeCtr := rfl
@[simp] theorem modSca_hold (s : State) (f : ScaSt → ScaSt) : (s.modSca f).hold = s.hold := rfl
@[simp] theorem modSca_rlatch (s : State) (f : ScaSt → ScaSt) : (s.modSca f).rlatch = s.rlatch := rfl
@[simp] theorem modSca_wlatch (s : State) (f : ScaSt → ScaSt) : (s.modSca f).wlatch = s.wlatch := rfl
@[simp] theorem modSca_rasters (s : State) (f : ScaSt → ScaSt) : (s.modSca f).rasters = s.rasters := rfl
@[simp] theorem modSca_fsync (s : State) (f : ScaSt → ScaSt) : (s.modSca f).fsync = s.fsync := rfl
@[simp] theorem modSca_cmps (s : State) (f : ScaSt → ScaSt) : (s.modSca f).cmps = s.cmps := rfl
@[simp] theorem modSca_cores (s : State) (f : ScaSt → ScaSt) : (s.modSca f).cores = s.cores := rfl
@[simp] theorem modSca_imem (s : State) (f : ScaSt → ScaSt) : (s.modSca f).imem = s.imem := rfl
@[simp] theorem modSca_dmem (s : State) (f : ScaSt → ScaSt) : (s.modSca f).dmem = s.dmem := rfl
@[simp] theorem modSca_dram (s : State) (f : ScaSt → ScaSt) : (s.modSca f).dram = s.dram := rfl
@[simp] theorem modSca_band (s : State) (f : ScaSt → ScaSt) : (s.modSca f).band = s.band := rfl
@[simp] theorem modSca_ports (s : State) (f : ScaSt → ScaSt) : (s.modSca f).ports = s.ports := rfl
@[simp] theorem modSca_streams (s : State) (f : ScaSt → ScaSt) : (s.modSca f).streams = s.streams := rfl
@[simp] theorem modSca_replay (s : State) (f : ScaSt → ScaSt) : (s.modSca f).replay = s.replay := rfl
@[simp] theorem modSca_coefAct (s : State) (f : ScaSt → ScaSt) : (s.modSca f).coefAct = s.coefAct := rfl
@[simp] theorem modSca_coefShadow (s : State) (f : ScaSt → ScaSt) : (s.modSca f).coefShadow = s.coefShadow := rfl
@[simp] theorem modSca_coefArm (s : State) (f : ScaSt → ScaSt) : (s.modSca f).coefArm = s.coefArm := rfl
@[simp] theorem modSca_tblRef (s : State) (f : ScaSt → ScaSt) : (s.modSca f).tblRef = s.tblRef := rfl
@[simp] theorem modSca_progRef (s : State) (f : ScaSt → ScaSt) : (s.modSca f).progRef = s.progRef := rfl
@[simp] theorem modSca_kat (s : State) (f : ScaSt → ScaSt) : (s.modSca f).kat = s.kat := rfl
@[simp] theorem modSca_pairs (s : State) (f : ScaSt → ScaSt) : (s.modSca f).pairs = s.pairs := rfl
@[simp] theorem modSca_chans (s : State) (f : ScaSt → ScaSt) : (s.modSca f).chans = s.chans := rfl
@[simp] theorem modSca_csu (s : State) (f : ScaSt → ScaSt) : (s.modSca f).csu = s.csu := rfl
@[simp] theorem modSca_marks (s : State) (f : ScaSt → ScaSt) : (s.modSca f).marks = s.marks := rfl
@[simp] theorem modSca_mem (s : State) (f : ScaSt → ScaSt) : (s.modSca f).mem = s.mem := rfl
@[simp] theorem modSca_sio (s : State) (f : ScaSt → ScaSt) : (s.modSca f).sio = s.sio := rfl
@[simp] theorem modSca_ipl (s : State) (f : ScaSt → ScaSt) : (s.modSca f).ipl = s.ipl := rfl
@[simp] theorem modSca_cer (s : State) (f : ScaSt → ScaSt) : (s.modSca f).cer = s.cer := rfl
@[simp] theorem modSca_men (s : State) (f : ScaSt → ScaSt) : (s.modSca f).men = s.men := rfl
@[simp] theorem modSca_vio (s : State) (f : ScaSt → ScaSt) : (s.modSca f).vio = s.vio := rfl
@[simp] theorem modSca_intc (s : State) (f : ScaSt → ScaSt) : (s.modSca f).intc = s.intc := rfl
@[simp] theorem modSca_lines (s : State) (f : ScaSt → ScaSt) : (s.modSca f).lines = s.lines := rfl
@[simp] theorem modSca_nvs (s : State) (f : ScaSt → ScaSt) : (s.modSca f).nvs = s.nvs := rfl
@[simp] theorem modSca_hk (s : State) (f : ScaSt → ScaSt) : (s.modSca f).hk = s.hk := rfl
@[simp] theorem modSca_sca (s : State) (f : ScaSt → ScaSt) : (s.modSca f).sca = f s.sca := rfl
@[simp] theorem modSca_lastFence (s : State) (f : ScaSt → ScaSt) : (s.modSca f).lastFence = s.lastFence := rfl
@[simp] theorem modSca_arb (s : State) (f : ScaSt → ScaSt) : (s.modSca f).arb = s.arb := rfl
@[simp] theorem modSca_rdata (s : State) (f : ScaSt → ScaSt) : (s.modSca f).rdata = s.rdata := rfl
@[simp] theorem modSca_pending (s : State) (f : ScaSt → ScaSt) : (s.modSca f).pending = s.pending := rfl

end Sys2Proof.Machine.State
end

