-- ==== Sys2Proof/Laws/Regs.lean ====
section
/-! SUPPORT. Laws/Regs.lean: registers, fields and indexed kinds: a read after a write of the same place, and of another. -/

namespace Sys2Proof.Machine.State

@[simp] theorem reg_setReg_same (s : State) (a : Nat) (v : W32) : (s.setReg a v).reg a = v := by
  simp [reg, setReg]

theorem reg_setReg_other (s : State) {a b : Nat} (v : W32) (h : b ≠ a) : (s.setReg a v).reg b = s.reg b := by
  simp only [reg, setReg, Map.get_set_other regReset s.regs v h]

theorem get_put_same (s : State) (f : Field) (v : Nat) (h : f.lo ≤ f.hi) (h32 : f.hi < 32) : (s.put f v).get f = v % 2 ^ (f.hi - f.lo + 1) := by
  simp [get, put, bitsOf_withBits_same _ v h h32]

/-- A field of another register. -/
theorem get_put_reg (s : State) (f g : Field) (v : Nat) (h : g.addr ≠ f.addr) : (s.put f v).get g = s.get g := by
  simp only [get, put, reg_setReg_other s _ h]

/-- Another field of the same register. -/
theorem get_put_field (s : State) (f g : Field) (v : Nat) (ha : g.addr = f.addr) (h : f.lo ≤ f.hi) (h32 : f.hi < 32) (hg : g.lo ≤ g.hi)
    (hd : f.hi < g.lo ∨ g.hi < f.lo) : (s.put f v).get g = s.get g := by
  simp only [get, put, ha, reg_setReg_same, bitsOf_withBits_other _ v g.hi g.lo h h32 hg hd]

theorem reg_put_other (s : State) (f : Field) (v : Nat) {b : Nat} (h : b ≠ f.addr) : (s.put f v).reg b = s.reg b := reg_setReg_other s _ h

@[simp] theorem core_setCore_same (s : State) (k : Nat) (x : CoreSt) : (s.setCore k x).core k = x := by
  simp [core, setCore]

theorem core_setCore_other (s : State) {k j : Nat} (x : CoreSt) (h : j ≠ k) : (s.setCore k x).core j = s.core j := by
  simp only [core, setCore, Map.get_set_other _ _ x h]

@[simp] theorem core_modCore_same (s : State) (k : Nat) (f : CoreSt → CoreSt) : (s.modCore k f).core k = f (s.core k) := by
  simp [modCore]

theorem core_modCore_other (s : State) {k j : Nat} (f : CoreSt → CoreSt) (h : j ≠ k) : (s.modCore k f).core j = s.core j :=
  core_setCore_other s _ h

@[simp] theorem raster_setRaster_same (s : State) (r : Nat) (x : RasterSt) : (s.setRaster r x).raster r = x := by
  simp [raster, setRaster]

theorem raster_setRaster_other (s : State) {r q : Nat} (x : RasterSt) (h : q ≠ r) : (s.setRaster r x).raster q = s.raster q := by
  simp only [raster, setRaster, Map.get_set_other _ _ x h]

@[simp] theorem raster_modRaster_same (s : State) (r : Nat) (f : RasterSt → RasterSt) : (s.modRaster r f).raster r = f (s.raster r) := by
  simp [modRaster]

@[simp] theorem port_setPort_same (s : State) (p : Nat) (x : PortSt) : (s.setPort p x).port p = x := by
  simp [port, setPort]

theorem port_setPort_other (s : State) {p q : Nat} (x : PortSt) (h : q ≠ p) : (s.setPort p x).port q = s.port q := by
  simp only [port, setPort, Map.get_set_other _ _ x h]

@[simp] theorem port_modPort_same (s : State) (p : Nat) (f : PortSt → PortSt) : (s.modPort p f).port p = f (s.port p) := by
  simp [modPort]

@[simp] theorem cmp_setCmp_same (s : State) (n : Nat) (x : CmpSt) : (s.setCmp n x).cmp n = x := by
  simp [cmp, setCmp]

/-- Every register update of the named operations leaves the registers in canonical form. -/
theorem setReg_wf (s : State) (a : Nat) (v : W32) (h : Map.wf regReset s.regs = true) : Map.wf regReset (s.setReg a v).regs = true :=
  Map.wf_set regReset s.regs a v h

/-- The clock never moves back, and moving it changes nothing but the clock and the elapsed time. -/
theorem advanceTo_spec (s : State) (t : Nat) :
    (s.advanceTo t).now = max s.now t ∧ s.wall ≤ (s.advanceTo t).wall ∧
    s.advanceTo t = { s with now := (s.advanceTo t).now, wall := (s.advanceTo t).wall } := by
  unfold advanceTo
  split
  · exact ⟨by omega, Nat.le_refl _, rfl⟩
  · exact ⟨by simp; omega, by simp, rfl⟩

end Sys2Proof.Machine.State
end

