-- ==== Sys2Proof/Laws/Settle.lean ====
section
/-! SUPPORT. Laws/Settle.lean: what follows every command touches only the lines and the controller's records of sources in service, and every meaning ends so. -/

namespace Sys2Proof.Machine

namespace State

/-- Settling changes nothing but the lines and the controller's own records. -/
theorem settle_frame (s : State) : s.settle = { s with intc := s.settle.intc, lines := s.settle.lines } := by
  unfold settle driveLines watch latchSubst
  split <;> rfl

@[simp] theorem settle_regs (s : State) : s.settle.regs = s.regs := by rw [settle_frame]
@[simp] theorem settle_reg (s : State) (a : Nat) : s.settle.reg a = s.reg a := by simp [reg]
@[simp] theorem settle_get (s : State) (f : Field) : s.settle.get f = s.get f := by simp [get]
@[simp] theorem settle_bit (s : State) (f : Field) (i : Nat) : s.settle.bit f i = s.bit f i := by simp [bit]
@[simp] theorem settle_num (s : State) (a : Nat) : s.settle.num a = s.num a := by simp [num]
@[simp] theorem settle_now (s : State) : s.settle.now = s.now := by rw [settle_frame]
@[simp] theorem settle_hold (s : State) : s.settle.hold = s.hold := by rw [settle_frame]
@[simp] theorem settle_pending (s : State) : s.settle.pending = s.pending := by rw [settle_frame]
@[simp] theorem settle_cores (s : State) : s.settle.cores = s.cores := by rw [settle_frame]
@[simp] theorem settle_core (s : State) (k : Nat) : s.settle.core k = s.core k := by simp [core]
@[simp] theorem settle_rasters (s : State) : s.settle.rasters = s.rasters := by rw [settle_frame]
@[simp] theorem settle_raster (s : State) (r : Nat) : s.settle.raster r = s.raster r := by simp [raster]
@[simp] theorem settle_cmps (s : State) : s.settle.cmps = s.cmps := by rw [settle_frame]
@[simp] theorem settle_ports (s : State) : s.settle.ports = s.ports := by rw [settle_frame]
@[simp] theorem settle_port (s : State) (p : Nat) : s.settle.port p = s.port p := by simp [port]
@[simp] theorem settle_imem (s : State) : s.settle.imem = s.imem := by rw [settle_frame]
@[simp] theorem settle_dmem (s : State) : s.settle.dmem = s.dmem := by rw [settle_frame]
@[simp] theorem settle_dram (s : State) : s.settle.dram = s.dram := by rw [settle_frame]
@[simp] theorem settle_band (s : State) : s.settle.band = s.band := by rw [settle_frame]
@[simp] theorem settle_sio (s : State) : s.settle.sio = s.sio := by rw [settle_frame]
@[simp] theorem settle_men (s : State) : s.settle.men = s.men := by rw [settle_frame]
@[simp] theorem settle_nvs (s : State) : s.settle.nvs = s.nvs := by rw [settle_frame]
@[simp] theorem settle_hk (s : State) : s.settle.hk = s.hk := by rw [settle_frame]
@[simp] theorem settle_mem (s : State) : s.settle.mem = s.mem := by rw [settle_frame]
@[simp] theorem settle_rdata (s : State) : s.settle.rdata = s.rdata := by rw [settle_frame]
@[simp] theorem settle_pairs (s : State) : s.settle.pairs = s.pairs := by rw [settle_frame]
@[simp] theorem settle_fsync (s : State) : s.settle.fsync = s.fsync := by rw [settle_frame]
@[simp] theorem settle_ipl (s : State) : s.settle.ipl = s.ipl := by rw [settle_frame]
@[simp] theorem settle_cer (s : State) : s.settle.cer = s.cer := by rw [settle_frame]
@[simp] theorem settle_vio (s : State) : s.settle.vio = s.vio := by rw [settle_frame]
@[simp] theorem settle_sca (s : State) : s.settle.sca = s.sca := by rw [settle_frame]
@[simp] theorem settle_csu (s : State) : s.settle.csu = s.csu := by rw [settle_frame]

/-- With no shutdown decided the outputs are left alone. -/
theorem guardOutputs_none (s : State) (h : s.hk.shdn = none) : s.guardOutputs = s := by
  simp [guardOutputs, h]

/-- What hashes read while the clock moves shows in the lines alone. -/
theorem readOn_frame (s t : State) : s.readOn t = { t with lines := (s.readOn t).lines } := rfl

@[simp] theorem readOn_regs (s t : State) : (s.readOn t).regs = t.regs := rfl
@[simp] theorem readOn_reg (s t : State) (a : Nat) : (s.readOn t).reg a = t.reg a := rfl
@[simp] theorem readOn_now (s t : State) : (s.readOn t).now = t.now := rfl
@[simp] theorem readOn_hold (s t : State) : (s.readOn t).hold = t.hold := rfl
@[simp] theorem readOn_pending (s t : State) : (s.readOn t).pending = t.pending := rfl
@[simp] theorem readOn_core (s t : State) (k : Nat) : (s.readOn t).core k = t.core k := rfl
@[simp] theorem readOn_raster (s t : State) (r : Nat) : (s.readOn t).raster r = t.raster r := rfl
@[simp] theorem readOn_port (s t : State) (p : Nat) : (s.readOn t).port p = t.port p := rfl
@[simp] theorem readOn_dmem (s t : State) : (s.readOn t).dmem = t.dmem := rfl
@[simp] theorem readOn_dram (s t : State) : (s.readOn t).dram = t.dram := rfl
@[simp] theorem readOn_band (s t : State) : (s.readOn t).band = t.band := rfl
@[simp] theorem readOn_hk (s t : State) : (s.readOn t).hk = t.hk := rfl
@[simp] theorem readOn_men (s t : State) : (s.readOn t).men = t.men := rfl
@[simp] theorem readOn_mem (s t : State) : (s.readOn t).mem = t.mem := rfl
@[simp] theorem readOn_sio (s t : State) : (s.readOn t).sio = t.sio := rfl
@[simp] theorem readOn_nvs (s t : State) : (s.readOn t).nvs = t.nvs := rfl

end State

/-- Every command's meaning is a next state, settled and guarded. -/
theorem exec_commit (i : Instr) (s : State) : ∃ t, exec i s = commit t := by
  cases i <;> exact ⟨_, rfl⟩

/-- A command never faults and is never refused. -/
theorem exec_next (i : Instr) (s : State) : ∃ t, exec i s = .next t := by
  obtain ⟨t, h⟩ := exec_commit i s
  exact ⟨_, h⟩

end Sys2Proof.Machine
end

