-- ==== Sys2Proof/Laws/Exec.lean ====
section
/-! SUPPORT. Laws/Exec.lean: register and clock updates touch nothing else; what a bit, a field or a counter holds after them; and from a command to the state
it answers. -/

namespace Sys2Proof.Machine

namespace State

/-! ## Updates of registers and of the clock leave every other part -/

@[simp] theorem put_now (s : State) (f : Field) (v : Nat) : (s.put f v).now = s.now := rfl
@[simp] theorem setNum_now (s : State) (a v : Nat) : (s.setNum a v).now = s.now := rfl
@[simp] theorem setBit_now (s : State) (f : Field) (i : Nat) : (s.setBit f i).now = s.now := by unfold setBit; split <;> rfl
@[simp] theorem clrBit_now (s : State) (f : Field) (i : Nat) : (s.clrBit f i).now = s.now := by unfold clrBit; split <;> rfl
@[simp] theorem wrBit_now (s : State) (f : Field) (i : Nat) (b : Bool) : (s.wrBit f i b).now = s.now := by cases b <;> simp [wrBit]
@[simp] theorem bump_now (s : State) (f : Field) : (s.bump f).now = s.now := rfl
@[simp] theorem put_wall (s : State) (f : Field) (v : Nat) : (s.put f v).wall = s.wall := rfl
@[simp] theorem setNum_wall (s : State) (a v : Nat) : (s.setNum a v).wall = s.wall := rfl
@[simp] theorem setBit_wall (s : State) (f : Field) (i : Nat) : (s.setBit f i).wall = s.wall := by unfold setBit; split <;> rfl
@[simp] theorem clrBit_wall (s : State) (f : Field) (i : Nat) : (s.clrBit f i).wall = s.wall := by unfold clrBit; split <;> rfl
@[simp] theorem wrBit_wall (s : State) (f : Field) (i : Nat) (b : Bool) : (s.wrBit f i b).wall = s.wall := by cases b <;> simp [wrBit]
@[simp] theorem bump_wall (s : State) (f : Field) : (s.bump f).wall = s.wall := rfl
@[simp] theorem put_variantM (s : State) (f : Field) (v : Nat) : (s.put f v).variantM = s.variantM := rfl
@[simp] theorem setNum_variantM (s : State) (a v : Nat) : (s.setNum a v).variantM = s.variantM := rfl
@[simp] theorem setBit_variantM (s : State) (f : Field) (i : Nat) : (s.setBit f i).variantM = s.variantM := by unfold setBit; split <;> rfl
@[simp] theorem clrBit_variantM (s : State) (f : Field) (i : Nat) : (s.clrBit f i).variantM = s.variantM := by unfold clrBit; split <;> rfl
@[simp] theorem wrBit_variantM (s : State) (f : Field) (i : Nat) (b : Bool) : (s.wrBit f i b).variantM = s.variantM := by cases b <;> simp [wrBit]
@[simp] theorem bump_variantM (s : State) (f : Field) : (s.bump f).variantM = s.variantM := rfl
@[simp] theorem put_freeCtr (s : State) (f : Field) (v : Nat) : (s.put f v).freeCtr = s.freeCtr := rfl
@[simp] theorem setNum_freeCtr (s : State) (a v : Nat) : (s.setNum a v).freeCtr = s.freeCtr := rfl
@[simp] theorem setBit_freeCtr (s : State) (f : Field) (i : Nat) : (s.setBit f i).freeCtr = s.freeCtr := by unfold setBit; split <;> rfl
@[simp] theorem clrBit_freeCtr (s : State) (f : Field) (i : Nat) : (s.clrBit f i).freeCtr = s.freeCtr := by unfold clrBit; split <;> rfl
@[simp] theorem wrBit_freeCtr (s : State) (f : Field) (i : Nat) (b : Bool) : (s.wrBit f i b).freeCtr = s.freeCtr := by cases b <;> simp [wrBit]
@[simp] theorem bump_freeCtr (s : State) (f : Field) : (s.bump f).freeCtr = s.freeCtr := rfl
@[simp] theorem put_hold (s : State) (f : Field) (v : Nat) : (s.put f v).hold = s.hold := rfl
@[simp] theorem setNum_hold (s : State) (a v : Nat) : (s.setNum a v).hold = s.hold := rfl
@[simp] theorem setBit_hold (s : State) (f : Field) (i : Nat) : (s.setBit f i).hold = s.hold := by unfold setBit; split <;> rfl
@[simp] theorem clrBit_hold (s : State) (f : Field) (i : Nat) : (s.clrBit f i).hold = s.hold := by unfold clrBit; split <;> rfl
@[simp] theorem wrBit_hold (s : State) (f : Field) (i : Nat) (b : Bool) : (s.wrBit f i b).hold = s.hold := by cases b <;> simp [wrBit]
@[simp] theorem bump_hold (s : State) (f : Field) : (s.bump f).hold = s.hold := rfl
@[simp] theorem put_rlatch (s : State) (f : Field) (v : Nat) : (s.put f v).rlatch = s.rlatch := rfl
@[simp] theorem setNum_rlatch (s : State) (a v : Nat) : (s.setNum a v).rlatch = s.rlatch := rfl
@[simp] theorem setBit_rlatch (s : State) (f : Field) (i : Nat) : (s.setBit f i).rlatch = s.rlatch := by unfold setBit; split <;> rfl
@[simp] theorem clrBit_rlatch (s : State) (f : Field) (i : Nat) : (s.clrBit f i).rlatch = s.rlatch := by unfold clrBit; split <;> rfl
@[simp] theorem wrBit_rlatch (s : State) (f : Field) (i : Nat) (b : Bool) : (s.wrBit f i b).rlatch = s.rlatch := by cases b <;> simp [wrBit]
@[simp] theorem bump_rlatch (s : State) (f : Field) : (s.bump f).rlatch = s.rlatch := rfl
@[simp] theorem put_wlatch (s : State) (f : Field) (v : Nat) : (s.put f v).wlatch = s.wlatch := rfl
@[simp] theorem setNum_wlatch (s : State) (a v : Nat) : (s.setNum a v).wlatch = s.wlatch := rfl
@[simp] theorem setBit_wlatch (s : State) (f : Field) (i : Nat) : (s.setBit f i).wlatch = s.wlatch := by unfold setBit; split <;> rfl
@[simp] theorem clrBit_wlatch (s : State) (f : Field) (i : Nat) : (s.clrBit f i).wlatch = s.wlatch := by unfold clrBit; split <;> rfl
@[simp] theorem wrBit_wlatch (s : State) (f : Field) (i : Nat) (b : Bool) : (s.wrBit f i b).wlatch = s.wlatch := by cases b <;> simp [wrBit]
@[simp] theorem bump_wlatch (s : State) (f : Field) : (s.bump f).wlatch = s.wlatch := rfl
@[simp] theorem put_rasters (s : State) (f : Field) (v : Nat) : (s.put f v).rasters = s.rasters := rfl
@[simp] theorem setNum_rasters (s : State) (a v : Nat) : (s.setNum a v).rasters = s.rasters := rfl
@[simp] theorem setBit_rasters (s : State) (f : Field) (i : Nat) : (s.setBit f i).rasters = s.rasters := by unfold setBit; split <;> rfl
@[simp] theorem clrBit_rasters (s : State) (f : Field) (i : Nat) : (s.clrBit f i).rasters = s.rasters := by unfold clrBit; split <;> rfl
@[simp] theorem wrBit_rasters (s : State) (f : Field) (i : Nat) (b : Bool) : (s.wrBit f i b).rasters = s.rasters := by cases b <;> simp [wrBit]
@[simp] theorem bump_rasters (s : State) (f : Field) : (s.bump f).rasters = s.rasters := rfl
@[simp] theorem put_fsync (s : State) (f : Field) (v : Nat) : (s.put f v).fsync = s.fsync := rfl
@[simp] theorem setNum_fsync (s : State) (a v : Nat) : (s.setNum a v).fsync = s.fsync := rfl
@[simp] theorem setBit_fsync (s : State) (f : Field) (i : Nat) : (s.setBit f i).fsync = s.fsync := by unfold setBit; split <;> rfl
@[simp] theorem clrBit_fsync (s : State) (f : Field) (i : Nat) : (s.clrBit f i).fsync = s.fsync := by unfold clrBit; split <;> rfl
@[simp] theorem wrBit_fsync (s : State) (f : Field) (i : Nat) (b : Bool) : (s.wrBit f i b).fsync = s.fsync := by cases b <;> simp [wrBit]
@[simp] theorem bump_fsync (s : State) (f : Field) : (s.bump f).fsync = s.fsync := rfl
@[simp] theorem put_cmps (s : State) (f : Field) (v : Nat) : (s.put f v).cmps = s.cmps := rfl
@[simp] theorem setNum_cmps (s : State) (a v : Nat) : (s.setNum a v).cmps = s.cmps := rfl
@[simp] theorem setBit_cmps (s : State) (f : Field) (i : Nat) : (s.setBit f i).cmps = s.cmps := by unfold setBit; split <;> rfl
@[simp] theorem clrBit_cmps (s : State) (f : Field) (i : Nat) : (s.clrBit f i).cmps = s.cmps := by unfold clrBit; split <;> rfl
@[simp] theorem wrBit_cmps (s : State) (f : Field) (i : Nat) (b : Bool) : (s.wrBit f i b).cmps = s.cmps := by cases b <;> simp [wrBit]
@[simp] theorem bump_cmps (s : State) (f : Field) : (s.bump f).cmps = s.cmps := rfl
@[simp] theorem put_cores (s : State) (f : Field) (v : Nat) : (s.put f v).cores = s.cores := rfl
@[simp] theorem setNum_cores (s : State) (a v : Nat) : (s.setNum a v).cores = s.cores := rfl
@[simp] theorem setBit_cores (s : State) (f : Field) (i : Nat) : (s.setBit f i).cores = s.cores := by unfold setBit; split <;> rfl
@[simp] theorem clrBit_cores (s : State) (f : Field) (i : Nat) : (s.clrBit f i).cores = s.cores := by unfold clrBit; split <;> rfl
@[simp] theorem wrBit_cores (s : State) (f : Field) (i : Nat) (b : Bool) : (s.wrBit f i b).cores = s.cores := by cases b <;> simp [wrBit]
@[simp] theorem bump_cores (s : State) (f : Field) : (s.bump f).cores = s.cores := rfl
@[simp] theorem put_imem (s : State) (f : Field) (v : Nat) : (s.put f v).imem = s.imem := rfl
@[simp] theorem setNum_imem (s : State) (a v : Nat) : (s.setNum a v).imem = s.imem := rfl
@[simp] theorem setBit_imem (s : State) (f : Field) (i : Nat) : (s.setBit f i).imem = s.imem := by unfold setBit; split <;> rfl
@[simp] theorem clrBit_imem (s : State) (f : Field) (i : Nat) : (s.clrBit f i).imem = s.imem := by unfold clrBit; split <;> rfl
@[simp] theorem wrBit_imem (s : State) (f : Field) (i : Nat) (b : Bool) : (s.wrBit f i b).imem = s.imem := by cases b <;> simp [wrBit]
@[simp] theorem bump_imem (s : State) (f : Field) : (s.bump f).imem = s.imem := rfl
@[simp] theorem put_dmem (s : State) (f : Field) (v : Nat) : (s.put f v).dmem = s.dmem := rfl
@[simp] theorem setNum_dmem (s : State) (a v : Nat) : (s.setNum a v).dmem = s.dmem := rfl
@[simp] theorem setBit_dmem (s : State) (f : Field) (i : Nat) : (s.setBit f i).dmem = s.dmem := by unfold setBit; split <;> rfl
@[simp] theorem clrBit_dmem (s : State) (f : Field) (i : Nat) : (s.clrBit f i).dmem = s.dmem := by unfold clrBit; split <;> rfl
@[simp] theorem wrBit_dmem (s : State) (f : Field) (i : Nat) (b : Bool) : (s.wrBit f i b).dmem = s.dmem := by cases b <;> simp [wrBit]
@[simp] theorem bump_dmem (s : State) (f : Field) : (s.bump f).dmem = s.dmem := rfl
@[simp] theorem put_dram (s : State) (f : Field) (v : Nat) : (s.put f v).dram = s.dram := rfl
@[simp] theorem setNum_dram (s : State) (a v : Nat) : (s.setNum a v).dram = s.dram := rfl
@[simp] theorem setBit_dram (s : State) (f : Field) (i : Nat) : (s.setBit f i).dram = s.dram := by unfold setBit; split <;> rfl
@[simp] theorem clrBit_dram (s : State) (f : Field) (i : Nat) : (s.clrBit f i).dram = s.dram := by unfold clrBit; split <;> rfl
@[simp] theorem wrBit_dram (s : State) (f : Field) (i : Nat) (b : Bool) : (s.wrBit f i b).dram = s.dram := by cases b <;> simp [wrBit]
@[simp] theorem bump_dram (s : State) (f : Field) : (s.bump f).dram = s.dram := rfl
@[simp] theorem put_band (s : State) (f : Field) (v : Nat) : (s.put f v).band = s.band := rfl
@[simp] theorem setNum_band (s : State) (a v : Nat) : (s.setNum a v).band = s.band := rfl
@[simp] theorem setBit_band (s : State) (f : Field) (i : Nat) : (s.setBit f i).band = s.band := by unfold setBit; split <;> rfl
@[simp] theorem clrBit_band (s : State) (f : Field) (i : Nat) : (s.clrBit f i).band = s.band := by unfold clrBit; split <;> rfl
@[simp] theorem wrBit_band (s : State) (f : Field) (i : Nat) (b : Bool) : (s.wrBit f i b).band = s.band := by cases b <;> simp [wrBit]
@[simp] theorem bump_band (s : State) (f : Field) : (s.bump f).band = s.band := rfl
@[simp] theorem put_ports (s : State) (f : Field) (v : Nat) : (s.put f v).ports = s.ports := rfl
@[simp] theorem setNum_ports (s : State) (a v : Nat) : (s.setNum a v).ports = s.ports := rfl
@[simp] theorem setBit_ports (s : State) (f : Field) (i : Nat) : (s.setBit f i).ports = s.ports := by unfold setBit; split <;> rfl
@[simp] theorem clrBit_ports (s : State) (f : Field) (i : Nat) : (s.clrBit f i).ports = s.ports := by unfold clrBit; split <;> rfl
@[simp] theorem wrBit_ports (s : State) (f : Field) (i : Nat) (b : Bool) : (s.wrBit f i b).ports = s.ports := by cases b <;> simp [wrBit]
@[simp] theorem bump_ports (s : State) (f : Field) : (s.bump f).ports = s.ports := rfl
@[simp] theorem put_streams (s : State) (f : Field) (v : Nat) : (s.put f v).streams = s.streams := rfl
@[simp] theorem setNum_streams (s : State) (a v : Nat) : (s.setNum a v).streams = s.streams := rfl
@[simp] theorem setBit_streams (s : State) (f : Field) (i : Nat) : (s.setBit f i).streams = s.streams := by unfold setBit; split <;> rfl
@[simp] theorem clrBit_streams (s : State) (f : Field) (i : Nat) : (s.clrBit f i).streams = s.streams := by unfold clrBit; split <;> rfl
@[simp] theorem wrBit_streams (s : State) (f : Field) (i : Nat) (b : Bool) : (s.wrBit f i b).streams = s.streams := by cases b <;> simp [wrBit]
@[simp] theorem bump_streams (s : State) (f : Field) : (s.bump f).streams = s.streams := rfl
@[simp] theorem put_replay (s : State) (f : Field) (v : Nat) : (s.put f v).replay = s.replay := rfl
@[simp] theorem setNum_replay (s : State) (a v : Nat) : (s.setNum a v).replay = s.replay := rfl
@[simp] theorem setBit_replay (s : State) (f : Field) (i : Nat) : (s.setBit f i).replay = s.replay := by unfold setBit; split <;> rfl
@[simp] theorem clrBit_replay (s : State) (f : Field) (i : Nat) : (s.clrBit f i).replay = s.replay := by unfold clrBit; split <;> rfl
@[simp] theorem wrBit_replay (s : State) (f : Field) (i : Nat) (b : Bool) : (s.wrBit f i b).replay = s.replay := by cases b <;> simp [wrBit]
@[simp] theorem bump_replay (s : State) (f : Field) : (s.bump f).replay = s.replay := rfl
@[simp] theorem put_coefAct (s : State) (f : Field) (v : Nat) : (s.put f v).coefAct = s.coefAct := rfl
@[simp] theorem setNum_coefAct (s : State) (a v : Nat) : (s.setNum a v).coefAct = s.coefAct := rfl
@[simp] theorem setBit_coefAct (s : State) (f : Field) (i : Nat) : (s.setBit f i).coefAct = s.coefAct := by unfold setBit; split <;> rfl
@[simp] theorem clrBit_coefAct (s : State) (f : Field) (i : Nat) : (s.clrBit f i).coefAct = s.coefAct := by unfold clrBit; split <;> rfl
@[simp] theorem wrBit_coefAct (s : State) (f : Field) (i : Nat) (b : Bool) : (s.wrBit f i b).coefAct = s.coefAct := by cases b <;> simp [wrBit]
@[simp] theorem bump_coefAct (s : State) (f : Field) : (s.bump f).coefAct = s.coefAct := rfl
@[simp] theorem put_coefShadow (s : State) (f : Field) (v : Nat) : (s.put f v).coefShadow = s.coefShadow := rfl
@[simp] theorem setNum_coefShadow (s : State) (a v : Nat) : (s.setNum a v).coefShadow = s.coefShadow := rfl
@[simp] theorem setBit_coefShadow (s : State) (f : Field) (i : Nat) : (s.setBit f i).coefShadow = s.coefShadow := by unfold setBit; split <;> rfl
@[simp] theorem clrBit_coefShadow (s : State) (f : Field) (i : Nat) : (s.clrBit f i).coefShadow = s.coefShadow := by unfold clrBit; split <;> rfl
@[simp] theorem wrBit_coefShadow (s : State) (f : Field) (i : Nat) (b : Bool) : (s.wrBit f i b).coefShadow = s.coefShadow := by cases b <;> simp [wrBit]
@[simp] theorem bump_coefShadow (s : State) (f : Field) : (s.bump f).coefShadow = s.coefShadow := rfl
@[simp] theorem put_coefArm (s : State) (f : Field) (v : Nat) : (s.put f v).coefArm = s.coefArm := rfl
@[simp] theorem setNum_coefArm (s : State) (a v : Nat) : (s.setNum a v).coefArm = s.coefArm := rfl
@[simp] theorem setBit_coefArm (s : State) (f : Field) (i : Nat) : (s.setBit f i).coefArm = s.coefArm := by unfold setBit; split <;> rfl
@[simp] theorem clrBit_coefArm (s : State) (f : Field) (i : Nat) : (s.clrBit f i).coefArm = s.coefArm := by unfold clrBit; split <;> rfl
@[simp] theorem wrBit_coefArm (s : State) (f : Field) (i : Nat) (b : Bool) : (s.wrBit f i b).coefArm = s.coefArm := by cases b <;> simp [wrBit]
@[simp] theorem bump_coefArm (s : State) (f : Field) : (s.bump f).coefArm = s.coefArm := rfl
@[simp] theorem put_tblRef (s : State) (f : Field) (v : Nat) : (s.put f v).tblRef = s.tblRef := rfl
@[simp] theorem setNum_tblRef (s : State) (a v : Nat) : (s.setNum a v).tblRef = s.tblRef := rfl
@[simp] theorem setBit_tblRef (s : State) (f : Field) (i : Nat) : (s.setBit f i).tblRef = s.tblRef := by unfold setBit; split <;> rfl
@[simp] theorem clrBit_tblRef (s : State) (f : Field) (i : Nat) : (s.clrBit f i).tblRef = s.tblRef := by unfold clrBit; split <;> rfl
@[simp] theorem wrBit_tblRef (s : State) (f : Field) (i : Nat) (b : Bool) : (s.wrBit f i b).tblRef = s.tblRef := by cases b <;> simp [wrBit]
@[simp] theorem bump_tblRef (s : State) (f : Field) : (s.bump f).tblRef = s.tblRef := rfl
@[simp] theorem put_progRef (s : State) (f : Field) (v : Nat) : (s.put f v).progRef = s.progRef := rfl
@[simp] theorem setNum_progRef (s : State) (a v : Nat) : (s.setNum a v).progRef = s.progRef := rfl
@[simp] theorem setBit_progRef (s : State) (f : Field) (i : Nat) : (s.setBit f i).progRef = s.progRef := by unfold setBit; split <;> rfl
@[simp] theorem clrBit_progRef (s : State) (f : Field) (i : Nat) : (s.clrBit f i).progRef = s.progRef := by unfold clrBit; split <;> rfl
@[simp] theorem wrBit_progRef (s : State) (f : Field) (i : Nat) (b : Bool) : (s.wrBit f i b).progRef = s.progRef := by cases b <;> simp [wrBit]
@[simp] theorem bump_progRef (s : State) (f : Field) : (s.bump f).progRef = s.progRef := rfl
@[simp] theorem put_kat (s : State) (f : Field) (v : Nat) : (s.put f v).kat = s.kat := rfl
@[simp] theorem setNum_kat (s : State) (a v : Nat) : (s.setNum a v).kat = s.kat := rfl
@[simp] theorem setBit_kat (s : State) (f : Field) (i : Nat) : (s.setBit f i).kat = s.kat := by unfold setBit; split <;> rfl
@[simp] theorem clrBit_kat (s : State) (f : Field) (i : Nat) : (s.clrBit f i).kat = s.kat := by unfold clrBit; split <;> rfl
@[simp] theorem wrBit_kat (s : State) (f : Field) (i : Nat) (b : Bool) : (s.wrBit f i b).kat = s.kat := by cases b <;> simp [wrBit]
@[simp] theorem bump_kat (s : State) (f : Field) : (s.bump f).kat = s.kat := rfl
@[simp] theorem put_pairs (s : State) (f : Field) (v : Nat) : (s.put f v).pairs = s.pairs := rfl
@[simp] theorem setNum_pairs (s : State) (a v : Nat) : (s.setNum a v).pairs = s.pairs := rfl
@[simp] theorem setBit_pairs (s : State) (f : Field) (i : Nat) : (s.setBit f i).pairs = s.pairs := by unfold setBit; split <;> rfl
@[simp] theorem clrBit_pairs (s : State) (f : Field) (i : Nat) : (s.clrBit f i).pairs = s.pairs := by unfold clrBit; split <;> rfl
@[simp] theorem wrBit_pairs (s : State) (f : Field) (i : Nat) (b : Bool) : (s.wrBit f i b).pairs = s.pairs := by cases b <;> simp [wrBit]
@[simp] theorem bump_pairs (s : State) (f : Field) : (s.bump f).pairs = s.pairs := rfl
@[simp] theorem put_chans (s : State) (f : Field) (v : Nat) : (s.put f v).chans = s.chans := rfl
@[simp] theorem setNum_chans (s : State) (a v : Nat) : (s.setNum a v).chans = s.chans := rfl
@[simp] theorem setBit_chans (s : State) (f : Field) (i : Nat) : (s.setBit f i).chans = s.chans := by unfold setBit; split <;> rfl
@[simp] theorem clrBit_chans (s : State) (f : Field) (i : Nat) : (s.clrBit f i).chans = s.chans := by unfold clrBit; split <;> rfl
@[simp] theorem wrBit_chans (s : State) (f : Field) (i : Nat) (b : Bool) : (s.wrBit f i b).chans = s.chans := by cases b <;> simp [wrBit]
@[simp] theorem bump_chans (s : State) (f : Field) : (s.bump f).chans = s.chans := rfl
@[simp] theorem put_csu (s : State) (f : Field) (v : Nat) : (s.put f v).csu = s.csu := rfl
@[simp] theorem setNum_csu (s : State) (a v : Nat) : (s.setNum a v).csu = s.csu := rfl
@[simp] theorem setBit_csu (s : State) (f : Field) (i : Nat) : (s.setBit f i).csu = s.csu := by unfold setBit; split <;> rfl
@[simp] theorem clrBit_csu (s : State) (f : Field) (i : Nat) : (s.clrBit f i).csu = s.csu := by unfold clrBit; split <;> rfl
@[simp] theorem wrBit_csu (s : State) (f : Field) (i : Nat) (b : Bool) : (s.wrBit f i b).csu = s.csu := by cases b <;> simp [wrBit]
@[simp] theorem bump_csu (s : State) (f : Field) : (s.bump f).csu = s.csu := rfl
@[simp] theorem put_marks (s : State) (f : Field) (v : Nat) : (s.put f v).marks = s.marks := rfl
@[simp] theorem setNum_marks (s : State) (a v : Nat) : (s.setNum a v).marks = s.marks := rfl
@[simp] theorem setBit_marks (s : State) (f : Field) (i : Nat) : (s.setBit f i).marks = s.marks := by unfold setBit; split <;> rfl
@[simp] theorem clrBit_marks (s : State) (f : Field) (i : Nat) : (s.clrBit f i).marks = s.marks := by unfold clrBit; split <;> rfl
@[simp] theorem wrBit_marks (s : State) (f : Field) (i : Nat) (b : Bool) : (s.wrBit f i b).marks = s.marks := by cases b <;> simp [wrBit]
@[simp] theorem bump_marks (s : State) (f : Field) : (s.bump f).marks = s.marks := rfl
@[simp] theorem put_mem (s : State) (f : Field) (v : Nat) : (s.put f v).mem = s.mem := rfl
@[simp] theorem setNum_mem (s : State) (a v : Nat) : (s.setNum a v).mem = s.mem := rfl
@[simp] theorem setBit_mem (s : State) (f : Field) (i : Nat) : (s.setBit f i).mem = s.mem := by unfold setBit; split <;> rfl
@[simp] theorem clrBit_mem (s : State) (f : Field) (i : Nat) : (s.clrBit f i).mem = s.mem := by unfold clrBit; split <;> rfl
@[simp] theorem wrBit_mem (s : State) (f : Field) (i : Nat) (b : Bool) : (s.wrBit f i b).mem = s.mem := by cases b <;> simp [wrBit]
@[simp] theorem bump_mem (s : State) (f : Field) : (s.bump f).mem = s.mem := rfl
@[simp] theorem put_sio (s : State) (f : Field) (v : Nat) : (s.put f v).sio = s.sio := rfl
@[simp] theorem setNum_sio (s : State) (a v : Nat) : (s.setNum a v).sio = s.sio := rfl
@[simp] theorem setBit_sio (s : State) (f : Field) (i : Nat) : (s.setBit f i).sio = s.sio := by unfold setBit; split <;> rfl
@[simp] theorem clrBit_sio (s : State) (f : Field) (i : Nat) : (s.clrBit f i).sio = s.sio := by unfold clrBit; split <;> rfl
@[simp] theorem wrBit_sio (s : State) (f : Field) (i : Nat) (b : Bool) : (s.wrBit f i b).sio = s.sio := by cases b <;> simp [wrBit]
@[simp] theorem bump_sio (s : State) (f : Field) : (s.bump f).sio = s.sio := rfl
@[simp] theorem put_ipl (s : State) (f : Field) (v : Nat) : (s.put f v).ipl = s.ipl := rfl
@[simp] theorem setNum_ipl (s : State) (a v : Nat) : (s.setNum a v).ipl = s.ipl := rfl
@[simp] theorem setBit_ipl (s : State) (f : Field) (i : Nat) : (s.setBit f i).ipl = s.ipl := by unfold setBit; split <;> rfl
@[simp] theorem clrBit_ipl (s : State) (f : Field) (i : Nat) : (s.clrBit f i).ipl = s.ipl := by unfold clrBit; split <;> rfl
@[simp] theorem wrBit_ipl (s : State) (f : Field) (i : Nat) (b : Bool) : (s.wrBit f i b).ipl = s.ipl := by cases b <;> simp [wrBit]
@[simp] theorem bump_ipl (s : State) (f : Field) : (s.bump f).ipl = s.ipl := rfl
@[simp] theorem put_cer (s : State) (f : Field) (v : Nat) : (s.put f v).cer = s.cer := rfl
@[simp] theorem setNum_cer (s : State) (a v : Nat) : (s.setNum a v).cer = s.cer := rfl
@[simp] theorem setBit_cer (s : State) (f : Field) (i : Nat) : (s.setBit f i).cer = s.cer := by unfold setBit; split <;> rfl
@[simp] theorem clrBit_cer (s : State) (f : Field) (i : Nat) : (s.clrBit f i).cer = s.cer := by unfold clrBit; split <;> rfl
@[simp] theorem wrBit_cer (s : State) (f : Field) (i : Nat) (b : Bool) : (s.wrBit f i b).cer = s.cer := by cases b <;> simp [wrBit]
@[simp] theorem bump_cer (s : State) (f : Field) : (s.bump f).cer = s.cer := rfl
@[simp] theorem put_men (s : State) (f : Field) (v : Nat) : (s.put f v).men = s.men := rfl
@[simp] theorem setNum_men (s : State) (a v : Nat) : (s.setNum a v).men = s.men := rfl
@[simp] theorem setBit_men (s : State) (f : Field) (i : Nat) : (s.setBit f i).men = s.men := by unfold setBit; split <;> rfl
@[simp] theorem clrBit_men (s : State) (f : Field) (i : Nat) : (s.clrBit f i).men = s.men := by unfold clrBit; split <;> rfl
@[simp] theorem wrBit_men (s : State) (f : Field) (i : Nat) (b : Bool) : (s.wrBit f i b).men = s.men := by cases b <;> simp [wrBit]
@[simp] theorem bump_men (s : State) (f : Field) : (s.bump f).men = s.men := rfl
@[simp] theorem put_vio (s : State) (f : Field) (v : Nat) : (s.put f v).vio = s.vio := rfl
@[simp] theorem setNum_vio (s : State) (a v : Nat) : (s.setNum a v).vio = s.vio := rfl
@[simp] theorem setBit_vio (s : State) (f : Field) (i : Nat) : (s.setBit f i).vio = s.vio := by unfold setBit; split <;> rfl
@[simp] theorem clrBit_vio (s : State) (f : Field) (i : Nat) : (s.clrBit f i).vio = s.vio := by unfold clrBit; split <;> rfl
@[simp] theorem wrBit_vio (s : State) (f : Field) (i : Nat) (b : Bool) : (s.wrBit f i b).vio = s.vio := by cases b <;> simp [wrBit]
@[simp] theorem bump_vio (s : State) (f : Field) : (s.bump f).vio = s.vio := rfl
@[simp] theorem put_intc (s : State) (f : Field) (v : Nat) : (s.put f v).intc = s.intc := rfl
@[simp] theorem setNum_intc (s : State) (a v : Nat) : (s.setNum a v).intc = s.intc := rfl
@[simp] theorem setBit_intc (s : State) (f : Field) (i : Nat) : (s.setBit f i).intc = s.intc := by unfold setBit; split <;> rfl
@[simp] theorem clrBit_intc (s : State) (f : Field) (i : Nat) : (s.clrBit f i).intc = s.intc := by unfold clrBit; split <;> rfl
@[simp] theorem wrBit_intc (s : State) (f : Field) (i : Nat) (b : Bool) : (s.wrBit f i b).intc = s.intc := by cases b <;> simp [wrBit]
@[simp] theorem bump_intc (s : State) (f : Field) : (s.bump f).intc = s.intc := rfl
@[simp] theorem put_lines (s : State) (f : Field) (v : Nat) : (s.put f v).lines = s.lines := rfl
@[simp] theorem setNum_lines (s : State) (a v : Nat) : (s.setNum a v).lines = s.lines := rfl
@[simp] theorem setBit_lines (s : State) (f : Field) (i : Nat) : (s.setBit f i).lines = s.lines := by unfold setBit; split <;> rfl
@[simp] theorem clrBit_lines (s : State) (f : Field) (i : Nat) : (s.clrBit f i).lines = s.lines := by unfold clrBit; split <;> rfl
@[simp] theorem wrBit_lines (s : State) (f : Field) (i : Nat) (b : Bool) : (s.wrBit f i b).lines = s.lines := by cases b <;> simp [wrBit]
@[simp] theorem bump_lines (s : State) (f : Field) : (s.bump f).lines = s.lines := rfl
@[simp] theorem put_nvs (s : State) (f : Field) (v : Nat) : (s.put f v).nvs = s.nvs := rfl
@[simp] theorem setNum_nvs (s : State) (a v : Nat) : (s.setNum a v).nvs = s.nvs := rfl
@[simp] theorem setBit_nvs (s : State) (f : Field) (i : Nat) : (s.setBit f i).nvs = s.nvs := by unfold setBit; split <;> rfl
@[simp] theorem clrBit_nvs (s : State) (f : Field) (i : Nat) : (s.clrBit f i).nvs = s.nvs := by unfold clrBit; split <;> rfl
@[simp] theorem wrBit_nvs (s : State) (f : Field) (i : Nat) (b : Bool) : (s.wrBit f i b).nvs = s.nvs := by cases b <;> simp [wrBit]
@[simp] theorem bump_nvs (s : State) (f : Field) : (s.bump f).nvs = s.nvs := rfl
@[simp] theorem put_hk (s : State) (f : Field) (v : Nat) : (s.put f v).hk = s.hk := rfl
@[simp] theorem setNum_hk (s : State) (a v : Nat) : (s.setNum a v).hk = s.hk := rfl
@[simp] theorem setBit_hk (s : State) (f : Field) (i : Nat) : (s.setBit f i).hk = s.hk := by unfold setBit; split <;> rfl
@[simp] theorem clrBit_hk (s : State) (f : Field) (i : Nat) : (s.clrBit f i).hk = s.hk := by unfold clrBit; split <;> rfl
@[simp] theorem wrBit_hk (s : State) (f : Field) (i : Nat) (b : Bool) : (s.wrBit f i b).hk = s.hk := by cases b <;> simp [wrBit]
@[simp] theorem bump_hk (s : State) (f : Field) : (s.bump f).hk = s.hk := rfl
@[simp] theorem put_sca (s : State) (f : Field) (v : Nat) : (s.put f v).sca = s.sca := rfl
@[simp] theorem setNum_sca (s : State) (a v : Nat) : (s.setNum a v).sca = s.sca := rfl
@[simp] theorem setBit_sca (s : State) (f : Field) (i : Nat) : (s.setBit f i).sca = s.sca := by unfold setBit; split <;> rfl
@[simp] theorem clrBit_sca (s : State) (f : Field) (i : Nat) : (s.clrBit f i).sca = s.sca := by unfold clrBit; split <;> rfl
@[simp] theorem wrBit_sca (s : State) (f : Field) (i : Nat) (b : Bool) : (s.wrBit f i b).sca = s.sca := by cases b <;> simp [wrBit]
@[simp] theorem bump_sca (s : State) (f : Field) : (s.bump f).sca = s.sca := rfl
@[simp] theorem put_lastFence (s : State) (f : Field) (v : Nat) : (s.put f v).lastFence = s.lastFence := rfl
@[simp] theorem put_arb (s : State) (f : Field) (v : Nat) : (s.put f v).arb = s.arb := rfl
@[simp] theorem setNum_lastFence (s : State) (a v : Nat) : (s.setNum a v).lastFence = s.lastFence := rfl
@[simp] theorem setNum_arb (s : State) (a v : Nat) : (s.setNum a v).arb = s.arb := rfl
@[simp] theorem setBit_lastFence (s : State) (f : Field) (i : Nat) : (s.setBit f i).lastFence = s.lastFence := by unfold setBit; split <;> rfl
@[simp] theorem setBit_arb (s : State) (f : Field) (i : Nat) : (s.setBit f i).arb = s.arb := by unfold setBit; split <;> rfl
@[simp] theorem clrBit_lastFence (s : State) (f : Field) (i : Nat) : (s.clrBit f i).lastFence = s.lastFence := by unfold clrBit; split <;> rfl
@[simp] theorem clrBit_arb (s : State) (f : Field) (i : Nat) : (s.clrBit f i).arb = s.arb := by unfold clrBit; split <;> rfl
@[simp] theorem wrBit_lastFence (s : State) (f : Field) (i : Nat) (b : Bool) : (s.wrBit f i b).lastFence = s.lastFence := by cases b <;> simp [wrBit]
@[simp] theorem wrBit_arb (s : State) (f : Field) (i : Nat) (b : Bool) : (s.wrBit f i b).arb = s.arb := by cases b <;> simp [wrBit]
@[simp] theorem bump_lastFence (s : State) (f : Field) : (s.bump f).lastFence = s.lastFence := rfl
@[simp] theorem bump_arb (s : State) (f : Field) : (s.bump f).arb = s.arb := rfl
@[simp] theorem put_rdata (s : State) (f : Field) (v : Nat) : (s.put f v).rdata = s.rdata := rfl
@[simp] theorem setNum_rdata (s : State) (a v : Nat) : (s.setNum a v).rdata = s.rdata := rfl
@[simp] theorem setBit_rdata (s : State) (f : Field) (i : Nat) : (s.setBit f i).rdata = s.rdata := by unfold setBit; split <;> rfl
@[simp] theorem clrBit_rdata (s : State) (f : Field) (i : Nat) : (s.clrBit f i).rdata = s.rdata := by unfold clrBit; split <;> rfl
@[simp] theorem wrBit_rdata (s : State) (f : Field) (i : Nat) (b : Bool) : (s.wrBit f i b).rdata = s.rdata := by cases b <;> simp [wrBit]
@[simp] theorem bump_rdata (s : State) (f : Field) : (s.bump f).rdata = s.rdata := rfl
@[simp] theorem put_pending (s : State) (f : Field) (v : Nat) : (s.put f v).pending = s.pending := rfl
@[simp] theorem setNum_pending (s : State) (a v : Nat) : (s.setNum a v).pending = s.pending := rfl
@[simp] theorem setBit_pending (s : State) (f : Field) (i : Nat) : (s.setBit f i).pending = s.pending := by unfold setBit; split <;> rfl
@[simp] theorem clrBit_pending (s : State) (f : Field) (i : Nat) : (s.clrBit f i).pending = s.pending := by unfold clrBit; split <;> rfl
@[simp] theorem wrBit_pending (s : State) (f : Field) (i : Nat) (b : Bool) : (s.wrBit f i b).pending = s.pending := by cases b <;> simp [wrBit]
@[simp] theorem bump_pending (s : State) (f : Field) : (s.bump f).pending = s.pending := rfl
@[simp] theorem advanceTo_regs (s : State) (t : Nat) : (s.advanceTo t).regs = s.regs := by unfold advanceTo; split <;> rfl
@[simp] theorem advanceTo_variantM (s : State) (t : Nat) : (s.advanceTo t).variantM = s.variantM := by unfold advanceTo; split <;> rfl
@[simp] theorem advanceTo_freeCtr (s : State) (t : Nat) : (s.advanceTo t).freeCtr = s.freeCtr := by unfold advanceTo; split <;> rfl
@[simp] theorem advanceTo_hold (s : State) (t : Nat) : (s.advanceTo t).hold = s.hold := by unfold advanceTo; split <;> rfl
@[simp] theorem advanceTo_rlatch (s : State) (t : Nat) : (s.advanceTo t).rlatch = s.rlatch := by unfold advanceTo; split <;> rfl
@[simp] theorem advanceTo_wlatch (s : State) (t : Nat) : (s.advanceTo t).wlatch = s.wlatch := by unfold advanceTo; split <;> rfl
@[simp] theorem advanceTo_rasters (s : State) (t : Nat) : (s.advanceTo t).rasters = s.rasters := by unfold advanceTo; split <;> rfl
@[simp] theorem advanceTo_fsync (s : State) (t : Nat) : (s.advanceTo t).fsync = s.fsync := by unfold advanceTo; split <;> rfl
@[simp] theorem advanceTo_cmps (s : State) (t : Nat) : (s.advanceTo t).cmps = s.cmps := by unfold advanceTo; split <;> rfl
@[simp] theorem advanceTo_cores (s : State) (t : Nat) : (s.advanceTo t).cores = s.cores := by unfold advanceTo; split <;> rfl
@[simp] theorem advanceTo_imem (s : State) (t : Nat) : (s.advanceTo t).imem = s.imem := by unfold advanceTo; split <;> rfl
@[simp] theorem advanceTo_dmem (s : State) (t : Nat) : (s.advanceTo t).dmem = s.dmem := by unfold advanceTo; split <;> rfl
@[simp] theorem advanceTo_dram (s : State) (t : Nat) : (s.advanceTo t).dram = s.dram := by unfold advanceTo; split <;> rfl
@[simp] theorem advanceTo_band (s : State) (t : Nat) : (s.advanceTo t).band = s.band := by unfold advanceTo; split <;> rfl
@[simp] theorem advanceTo_ports (s : State) (t : Nat) : (s.advanceTo t).ports = s.ports := by unfold advanceTo; split <;> rfl
@[simp] theorem advanceTo_streams (s : State) (t : Nat) : (s.advanceTo t).streams = s.streams := by unfold advanceTo; split <;> rfl
@[simp] theorem advanceTo_replay (s : State) (t : Nat) : (s.advanceTo t).replay = s.replay := by unfold advanceTo; split <;> rfl
@[simp] theorem advanceTo_coefAct (s : State) (t : Nat) : (s.advanceTo t).coefAct = s.coefAct := by unfold advanceTo; split <;> rfl
@[simp] theorem advanceTo_coefShadow (s : State) (t : Nat) : (s.advanceTo t).coefShadow = s.coefShadow := by unfold advanceTo; split <;> rfl
@[simp] theorem advanceTo_coefArm (s : State) (t : Nat) : (s.advanceTo t).coefArm = s.coefArm := by unfold advanceTo; split <;> rfl
@[simp] theorem advanceTo_tblRef (s : State) (t : Nat) : (s.advanceTo t).tblRef = s.tblRef := by unfold advanceTo; split <;> rfl
@[simp] theorem advanceTo_progRef (s : State) (t : Nat) : (s.advanceTo t).progRef = s.progRef := by unfold advanceTo; split <;> rfl
@[simp] theorem advanceTo_kat (s : State) (t : Nat) : (s.advanceTo t).kat = s.kat := by unfold advanceTo; split <;> rfl
@[simp] theorem advanceTo_pairs (s : State) (t : Nat) : (s.advanceTo t).pairs = s.pairs := by unfold advanceTo; split <;> rfl
@[simp] theorem advanceTo_chans (s : State) (t : Nat) : (s.advanceTo t).chans = s.chans := by unfold advanceTo; split <;> rfl
@[simp] theorem advanceTo_csu (s : State) (t : Nat) : (s.advanceTo t).csu = s.csu := by unfold advanceTo; split <;> rfl
@[simp] theorem advanceTo_marks (s : State) (t : Nat) : (s.advanceTo t).marks = s.marks := by unfold advanceTo; split <;> rfl
@[simp] theorem advanceTo_mem (s : State) (t : Nat) : (s.advanceTo t).mem = s.mem := by unfold advanceTo; split <;> rfl
@[simp] theorem advanceTo_sio (s : State) (t : Nat) : (s.advanceTo t).sio = s.sio := by unfold advanceTo; split <;> rfl
@[simp] theorem advanceTo_ipl (s : State) (t : Nat) : (s.advanceTo t).ipl = s.ipl := by unfold advanceTo; split <;> rfl
@[simp] theorem advanceTo_cer (s : State) (t : Nat) : (s.advanceTo t).cer = s.cer := by unfold advanceTo; split <;> rfl
@[simp] theorem advanceTo_men (s : State) (t : Nat) : (s.advanceTo t).men = s.men := by unfold advanceTo; split <;> rfl
@[simp] theorem advanceTo_vio (s : State) (t : Nat) : (s.advanceTo t).vio = s.vio := by unfold advanceTo; split <;> rfl
@[simp] theorem advanceTo_intc (s : State) (t : Nat) : (s.advanceTo t).intc = s.intc := by unfold advanceTo; split <;> rfl
@[simp] theorem advanceTo_lines (s : State) (t : Nat) : (s.advanceTo t).lines = s.lines := by unfold advanceTo; split <;> rfl
@[simp] theorem advanceTo_nvs (s : State) (t : Nat) : (s.advanceTo t).nvs = s.nvs := by unfold advanceTo; split <;> rfl
@[simp] theorem advanceTo_hk (s : State) (t : Nat) : (s.advanceTo t).hk = s.hk := by unfold advanceTo; split <;> rfl
@[simp] theorem advanceTo_sca (s : State) (t : Nat) : (s.advanceTo t).sca = s.sca := by unfold advanceTo; split <;> rfl
@[simp] theorem advanceTo_lastFence (s : State) (t : Nat) : (s.advanceTo t).lastFence = s.lastFence := by unfold advanceTo; split <;> rfl
@[simp] theorem advanceTo_arb (s : State) (t : Nat) : (s.advanceTo t).arb = s.arb := by unfold advanceTo; split <;> rfl
@[simp] theorem advanceTo_rdata (s : State) (t : Nat) : (s.advanceTo t).rdata = s.rdata := by unfold advanceTo; split <;> rfl
@[simp] theorem advanceTo_pending (s : State) (t : Nat) : (s.advanceTo t).pending = s.pending := by unfold advanceTo; split <;> rfl
@[simp] theorem advanceTo_now (s : State) (t : Nat) : (s.advanceTo t).now = max s.now t := (s.advanceTo_spec t).1

/-! ## Registers after an update of one field -/

theorem reg_setNum_other (s : State) {a b : Nat} (v : Nat) (h : b ≠ a) : (s.setNum a v).reg b = s.reg b := reg_setReg_other s _ h
theorem reg_setBit_other (s : State) (f : Field) (i : Nat) {b : Nat} (h : b ≠ f.addr) : (s.setBit f i).reg b = s.reg b := by
  unfold setBit; split <;> simp [reg_put_other, h]
theorem reg_clrBit_other (s : State) (f : Field) (i : Nat) {b : Nat} (h : b ≠ f.addr) : (s.clrBit f i).reg b = s.reg b := by
  unfold clrBit; split <;> simp [reg_put_other, h]
theorem reg_wrBit_other (s : State) (f : Field) (i : Nat) (c : Bool) {b : Nat} (h : b ≠ f.addr) : (s.wrBit f i c).reg b = s.reg b := by
  cases c <;> simp [wrBit, reg_setBit_other, reg_clrBit_other, h]
theorem reg_bump_other (s : State) (f : Field) {b : Nat} (h : b ≠ f.addr) : (s.bump f).reg b = s.reg b := reg_put_other s f _ h

theorem num_setNum_same (s : State) (a v : Nat) : (s.setNum a v).num a = v % 2 ^ 32 := by simp [num, setNum]

/-- A field reads as what its register's bits hold. -/
theorem get_eq_of_reg {s t : State} {f : Field} (h : t.reg f.addr = s.reg f.addr) : t.get f = s.get f := by simp [get, h]
theorem bit_eq_of_reg {s t : State} {f : Field} (i : Nat) (h : t.reg f.addr = s.reg f.addr) : t.bit f i = s.bit f i := by unfold bit; rw [get_eq_of_reg h]
theorem num_eq_of_reg {s t : State} {a : Nat} (h : t.reg a = s.reg a) : t.num a = s.num a := by simp [num, h]
theorem reg_eq_of_regs {s t : State} (h : t.regs = s.regs) (a : Nat) : t.reg a = s.reg a := by simp [reg, h]

theorem get_lt (s : State) (f : Field) : s.get f < 2 ^ (f.hi - f.lo + 1) := bitsOf_lt _ _ _

/-- A set bit reads 1, and the field's other bits stay. -/
theorem bit_setBit_same (s : State) (f : Field) (i : Nat) (h : f.lo ≤ f.hi) (h32 : f.hi < 32) (hi : f.lo + i ≤ f.hi) : (s.setBit f i).bit f i = true := by
  unfold setBit
  split
  · assumption
  · rename_i hb
    have hlt := s.get_lt f
    have hb' : s.get f / 2 ^ i % 2 = 0 := by
      simp only [bit, decide_eq_true_eq] at hb; omega
    have hq : s.get f + 2 ^ i < 2 ^ (f.hi - f.lo + 1) := by
      have e : 2 ^ (f.hi - f.lo + 1) = 2 ^ (i + 1) * 2 ^ (f.hi - f.lo - i) := by rw [← Nat.pow_add]; congr 1; omega
      have hp : 0 < 2 ^ i := Nat.pos_of_ne_zero (by simp)
      have hdiv : s.get f / 2 ^ (i + 1) < 2 ^ (f.hi - f.lo - i) := by
        rw [Nat.div_lt_iff_lt_mul (by positivity)]; rw [e] at hlt; rw [Nat.mul_comm]; exact hlt
      have h1 : s.get f = 2 ^ (i + 1) * (s.get f / 2 ^ (i + 1)) + s.get f % 2 ^ (i + 1) := (Nat.div_add_mod _ _).symm
      have h2 : s.get f % 2 ^ (i + 1) < 2 ^ i := by
        have h4 : s.get f % 2 ^ (i + 1) = s.get f % 2 ^ i + 2 ^ i * (s.get f / 2 ^ i % 2) := Nat.mod_pow_succ
        rw [h4, hb']; simpa using Nat.mod_lt _ hp
      rw [e]
      have h3 : 2 ^ (i + 1) * (s.get f / 2 ^ (i + 1) + 1) ≤ 2 ^ (i + 1) * 2 ^ (f.hi - f.lo - i) := Nat.mul_le_mul_left _ hdiv
      rw [Nat.mul_add, Nat.mul_one] at h3
      have h5 : 2 ^ (i + 1) = 2 ^ i + 2 ^ i := by rw [Nat.pow_succ]; omega
      omega
    simp only [bit, get_put_same s f _ h h32, Nat.mod_eq_of_lt hq, decide_eq_true_eq]
    rw [Nat.add_div_right _ (by positivity)]
    omega

/-- A cleared bit reads 0. -/
theorem bit_clrBit_same (s : State) (f : Field) (i : Nat) (h : f.lo ≤ f.hi) (h32 : f.hi < 32) : (s.clrBit f i).bit f i = false := by
  unfold clrBit
  split
  · rename_i hb
    have hb' : s.get f / 2 ^ i % 2 = 1 := by simpa [bit] using hb
    have hle : 2 ^ i ≤ s.get f := by
      rcases Nat.lt_or_ge (s.get f) (2 ^ i) with hl | hl
      · rw [Nat.div_eq_of_lt hl] at hb'; simp at hb'
      · exact hl
    have hlt := s.get_lt f
    have hm : (s.get f - 2 ^ i) % 2 ^ (f.hi - f.lo + 1) = s.get f - 2 ^ i := Nat.mod_eq_of_lt (Nat.lt_of_le_of_lt (Nat.sub_le _ _) hlt)
    simp only [bit, get_put_same s f _ h h32, hm, decide_eq_false_iff_not]
    have e : (s.get f - 2 ^ i + 2 ^ i) / 2 ^ i = (s.get f - 2 ^ i) / 2 ^ i + 1 := Nat.add_div_right _ (by positivity)
    rw [Nat.sub_add_cancel hle] at e
    omega
  · rename_i hb
    simpa using hb

/-- A counter counts up and saturates (R36). -/
theorem get_bump_same (s : State) (f : Field) (h : f.lo ≤ f.hi) (h32 : f.hi < 32) :
    (s.bump f).get f = min (2 ^ (f.hi - f.lo + 1) - 1) (s.get f + 1) := by
  have hp : 0 < 2 ^ (f.hi - f.lo + 1) := Nat.pos_of_ne_zero (by simp)
  have e : sat (2 ^ (f.hi - f.lo + 1) - 1) (s.get f + 1) = min (2 ^ (f.hi - f.lo + 1) - 1) (s.get f + 1) := by
    unfold sat; split <;> omega
  rw [bump, get_put_same s f _ h h32, e]
  exact Nat.mod_eq_of_lt (by omega)

/-! ## The outputs of a decided shutdown -/

/-- `t` differs from `s` at most in registers, ports, pairs and channels of the shutter drive, and the video ports. -/
def Outputs (s t : State) : Prop := t = { s with regs := t.regs, ports := t.ports, pairs := t.pairs, vio := t.vio }

theorem Outputs.refl (s : State) : Outputs s s := rfl
theorem Outputs.trans {s t u : State} (h : Outputs s t) (k : Outputs t u) : Outputs s u := by
  unfold Outputs at *
  conv_lhs => rw [k, h]
theorem outputs_put (s : State) (f : Field) (v : Nat) : Outputs s (s.put f v) := rfl
theorem outputs_setBit (s : State) (f : Field) (i : Nat) : Outputs s (s.setBit f i) := by unfold setBit; split <;> rfl
theorem outputs_clrBit (s : State) (f : Field) (i : Nat) : Outputs s (s.clrBit f i) := by unfold clrBit; split <;> rfl
theorem outputs_setPort (s : State) (p : Nat) (x : PortSt) : Outputs s (s.setPort p x) := rfl
theorem outputs_setPair (s : State) (n : Nat) (x : PairSt) : Outputs s (s.setPair n x) := rfl
theorem outputs_foldl {α : Type} (g : State → α → State) (h : ∀ s x, Outputs s (g s x)) : ∀ (l : List α) (s : State), Outputs s (l.foldl g s)
  | [], s => Outputs.refl s
  | x :: l, s => (h s x).trans (outputs_foldl g h l (g s x))

theorem outputs_txDown (s : State) (t : Nat) : Outputs s (s.txDown t) :=
  (((outputs_clrBit _ _ _).trans (outputs_clrBit _ _ _)).trans (outputs_clrBit _ _ _)).trans (outputs_put _ _ _)

theorem outputs_sdrStop (s : State) : Outputs s s.sdrStop :=
  (outputs_foldl _ (fun s _ => (((outputs_setPair s _ _).trans (outputs_clrBit _ _ _)).trans (outputs_clrBit _ _ _)).trans (outputs_clrBit _ _ _)) _ s).trans
    (outputs_foldl _ (fun s _ => outputs_clrBit s _ _) _ _)

theorem outputs_safeOutputs (s : State) : Outputs s s.safeOutputs := by
  refine Outputs.trans (outputs_foldl _ (fun s p => ?_) _ s) (((outputs_sdrStop _).trans (outputs_txDown _ _)).trans (outputs_txDown _ _))
  exact (((((((outputs_put s _ _).trans (outputs_put _ _ _)).trans (outputs_clrBit _ _ _)).trans (outputs_clrBit _ _ _)).trans (outputs_clrBit _ _ _)).trans
    (outputs_clrBit _ _ _)).trans (outputs_put _ _ _)).trans (outputs_setPort _ _ _)

theorem outputs_guardOutputs (s : State) : Outputs s s.guardOutputs := by
  unfold guardOutputs
  split
  · exact outputs_safeOutputs s
  · exact Outputs.refl s

@[simp] theorem guardOutputs_now (s : State) : s.guardOutputs.now = s.now := by rw [show s.guardOutputs = _ from outputs_guardOutputs s]
@[simp] theorem guardOutputs_wall (s : State) : s.guardOutputs.wall = s.wall := by rw [show s.guardOutputs = _ from outputs_guardOutputs s]
@[simp] theorem guardOutputs_variantM (s : State) : s.guardOutputs.variantM = s.variantM := by rw [show s.guardOutputs = _ from outputs_guardOutputs s]
@[simp] theorem guardOutputs_freeCtr (s : State) : s.guardOutputs.freeCtr = s.freeCtr := by rw [show s.guardOutputs = _ from outputs_guardOutputs s]
@[simp] theorem guardOutputs_hold (s : State) : s.guardOutputs.hold = s.hold := by rw [show s.guardOutputs = _ from outputs_guardOutputs s]
@[simp] theorem guardOutputs_rlatch (s : State) : s.guardOutputs.rlatch = s.rlatch := by rw [show s.guardOutputs = _ from outputs_guardOutputs s]
@[simp] theorem guardOutputs_wlatch (s : State) : s.guardOutputs.wlatch = s.wlatch := by rw [show s.guardOutputs = _ from outputs_guardOutputs s]
@[simp] theorem guardOutputs_rasters (s : State) : s.guardOutputs.rasters = s.rasters := by rw [show s.guardOutputs = _ from outputs_guardOutputs s]
@[simp] theorem guardOutputs_fsync (s : State) : s.guardOutputs.fsync = s.fsync := by rw [show s.guardOutputs = _ from outputs_guardOutputs s]
@[simp] theorem guardOutputs_cmps (s : State) : s.guardOutputs.cmps = s.cmps := by rw [show s.guardOutputs = _ from outputs_guardOutputs s]
@[simp] theorem guardOutputs_cores (s : State) : s.guardOutputs.cores = s.cores := by rw [show s.guardOutputs = _ from outputs_guardOutputs s]
@[simp] theorem guardOutputs_imem (s : State) : s.guardOutputs.imem = s.imem := by rw [show s.guardOutputs = _ from outputs_guardOutputs s]
@[simp] theorem guardOutputs_dmem (s : State) : s.guardOutputs.dmem = s.dmem := by rw [show s.guardOutputs = _ from outputs_guardOutputs s]
@[simp] theorem guardOutputs_dram (s : State) : s.guardOutputs.dram = s.dram := by rw [show s.guardOutputs = _ from outputs_guardOutputs s]
@[simp] theorem guardOutputs_band (s : State) : s.guardOutputs.band = s.band := by rw [show s.guardOutputs = _ from outputs_guardOutputs s]
@[simp] theorem guardOutputs_streams (s : State) : s.guardOutputs.streams = s.streams := by rw [show s.guardOutputs = _ from outputs_guardOutputs s]
@[simp] theorem guardOutputs_replay (s : State) : s.guardOutputs.replay = s.replay := by rw [show s.guardOutputs = _ from outputs_guardOutputs s]
@[simp] theorem guardOutputs_coefAct (s : State) : s.guardOutputs.coefAct = s.coefAct := by rw [show s.guardOutputs = _ from outputs_guardOutputs s]
@[simp] theorem guardOutputs_coefShadow (s : State) : s.guardOutputs.coefShadow = s.coefShadow := by rw [show s.guardOutputs = _ from outputs_guardOutputs s]
@[simp] theorem guardOutputs_coefArm (s : State) : s.guardOutputs.coefArm = s.coefArm := by rw [show s.guardOutputs = _ from outputs_guardOutputs s]
@[simp] theorem guardOutputs_tblRef (s : State) : s.guardOutputs.tblRef = s.tblRef := by rw [show s.guardOutputs = _ from outputs_guardOutputs s]
@[simp] theorem guardOutputs_progRef (s : State) : s.guardOutputs.progRef = s.progRef := by rw [show s.guardOutputs = _ from outputs_guardOutputs s]
@[simp] theorem guardOutputs_kat (s : State) : s.guardOutputs.kat = s.kat := by rw [show s.guardOutputs = _ from outputs_guardOutputs s]
@[simp] theorem guardOutputs_chans (s : State) : s.guardOutputs.chans = s.chans := by rw [show s.guardOutputs = _ from outputs_guardOutputs s]
@[simp] theorem guardOutputs_csu (s : State) : s.guardOutputs.csu = s.csu := by rw [show s.guardOutputs = _ from outputs_guardOutputs s]
@[simp] theorem guardOutputs_marks (s : State) : s.guardOutputs.marks = s.marks := by rw [show s.guardOutputs = _ from outputs_guardOutputs s]
@[simp] theorem guardOutputs_mem (s : State) : s.guardOutputs.mem = s.mem := by rw [show s.guardOutputs = _ from outputs_guardOutputs s]
@[simp] theorem guardOutputs_sio (s : State) : s.guardOutputs.sio = s.sio := by rw [show s.guardOutputs = _ from outputs_guardOutputs s]
@[simp] theorem guardOutputs_ipl (s : State) : s.guardOutputs.ipl = s.ipl := by rw [show s.guardOutputs = _ from outputs_guardOutputs s]
@[simp] theorem guardOutputs_cer (s : State) : s.guardOutputs.cer = s.cer := by rw [show s.guardOutputs = _ from outputs_guardOutputs s]
@[simp] theorem guardOutputs_men (s : State) : s.guardOutputs.men = s.men := by rw [show s.guardOutputs = _ from outputs_guardOutputs s]
@[simp] theorem guardOutputs_intc (s : State) : s.guardOutputs.intc = s.intc := by rw [show s.guardOutputs = _ from outputs_guardOutputs s]
@[simp] theorem guardOutputs_lines (s : State) : s.guardOutputs.lines = s.lines := by rw [show s.guardOutputs = _ from outputs_guardOutputs s]
@[simp] theorem guardOutputs_nvs (s : State) : s.guardOutputs.nvs = s.nvs := by rw [show s.guardOutputs = _ from outputs_guardOutputs s]
@[simp] theorem guardOutputs_hk (s : State) : s.guardOutputs.hk = s.hk := by rw [show s.guardOutputs = _ from outputs_guardOutputs s]
@[simp] theorem guardOutputs_sca (s : State) : s.guardOutputs.sca = s.sca := by rw [show s.guardOutputs = _ from outputs_guardOutputs s]
@[simp] theorem guardOutputs_lastFence (s : State) : s.guardOutputs.lastFence = s.lastFence := by rw [show s.guardOutputs = _ from outputs_guardOutputs s]
@[simp] theorem guardOutputs_arb (s : State) : s.guardOutputs.arb = s.arb := by rw [show s.guardOutputs = _ from outputs_guardOutputs s]
@[simp] theorem guardOutputs_rdata (s : State) : s.guardOutputs.rdata = s.rdata := by rw [show s.guardOutputs = _ from outputs_guardOutputs s]
@[simp] theorem guardOutputs_pending (s : State) : s.guardOutputs.pending = s.pending := by rw [show s.guardOutputs = _ from outputs_guardOutputs s]

end State

/-! ## From a command to the state it answers -/

open State

theorem act_running {s : State} (f : State → State) (h : s.hold = .none) : act s f = commit (s.readOn (f s)) := by simp [act, running, h]

theorem commit_quiet {t : State} (h : t.hk.shdn = none) : commit t = .next t.settle := by simp [commit, guardOutputs_none t h]

/-- What holds of the settled effect holds of the answered state. -/
theorem gives_of_commit {i : Instr} {s t : State} {P : State → Prop} (h : exec i s = commit t) (hp : P t.guardOutputs.settle) : Gives i s P :=
  ⟨_, h, hp⟩

theorem gives_of_quiet {i : Instr} {s t : State} {P : State → Prop} (h : exec i s = commit t) (hq : t.hk.shdn = none) (hp : P t.settle) : Gives i s P :=
  ⟨_, h.trans (commit_quiet hq), hp⟩

end Sys2Proof.Machine
end

