-- ==== Sys2Proof/Laws/Bus.lean ====
section
/-! SUPPORT. Laws/Bus.lean: what an access does before it reaches its register, and what an owner's write comes to. -/

namespace Sys2Proof.Machine

open R

namespace State

/-- `t` differs from `s` at most by what flushing a held half word may change: DRAM, the memory system's own records and its error registers, and by INTC's records. -/
def Accessed (s t : State) : Prop :=
  t = { s with regs := t.regs, dram := t.dram, mem := t.mem, intc := t.intc } ∧ ∀ a, a < 0xC000 ∨ 0xC038 ≤ a → t.reg a = s.reg a

theorem Accessed.refl (s : State) : Accessed s s := ⟨rfl, fun _ _ => rfl⟩
theorem Accessed.trans {s t u : State} (h : Accessed s t) (k : Accessed t u) : Accessed s u := by
  refine ⟨?_, fun a ha => (k.2 a ha).trans (h.2 a ha)⟩
  conv_lhs => rw [k.1, h.1]

theorem accessed_put (s : State) (f : Field) (v : Nat) (h : 0xC000 ≤ f.addr ∧ f.addr < 0xC038) : Accessed s (s.put f v) :=
  ⟨rfl, fun a ha => s.reg_put_other f v (by omega)⟩
theorem accessed_setNum (s : State) (a v : Nat) (h : 0xC000 ≤ a ∧ a < 0xC038) : Accessed s (s.setNum a v) :=
  ⟨rfl, fun b hb => s.reg_setNum_other v (by omega)⟩
theorem accessed_bump (s : State) (f : Field) (h : 0xC000 ≤ f.addr ∧ f.addr < 0xC038) : Accessed s (s.bump f) := accessed_put s f _ h
theorem accessed_setBit (s : State) (f : Field) (i : Nat) (h : 0xC000 ≤ f.addr ∧ f.addr < 0xC038) : Accessed s (s.setBit f i) := by
  unfold setBit; split
  · exact Accessed.refl s
  · exact accessed_put s f _ h

theorem accessed_noteError (s : State) (bs ue : Bool) (a req syn : Nat) : Accessed s (s.noteError bs ue a req syn) := by
  unfold noteError
  have e1 : Accessed s (if ue then (if bs then s.bump MEM_UE_CNT_band else s.bump MEM_UE_CNT_dram)
      else (if bs then s.bump MEM_CE_CNT_band else s.bump MEM_CE_CNT_dram)) := by
    split <;> split <;> exact accessed_bump _ _ (by decide)
  have e2 : ∀ t : State, Accessed t (if !ue then t.setBit MEM_EVT_ce else if bs then t.setBit MEM_EVT_bs_ue else t.setBit MEM_EVT_ue) := by
    intro t; split
    · exact accessed_setBit _ _ _ (by decide)
    · split <;> exact accessed_setBit _ _ _ (by decide)
  have e3 := e1.trans (e2 _)
  simp only []
  split
  · exact e3.trans (((accessed_setNum _ _ _ (by decide)).trans (accessed_setNum _ _ _ (by decide))).trans (accessed_setNum _ _ _ (by decide)))
  · exact e3

theorem accessed_setErr (s : State) (w : Nat) (e : Option WordErr) : Accessed s (s.setErr w e) := ⟨rfl, fun _ _ => rfl⟩
theorem accessed_setHeld (s : State) (pc : Nat) (h : Option (Nat × W32)) : Accessed s (s.setHeld pc h) := ⟨rfl, fun _ _ => rfl⟩
theorem accessed_putBytes (s : State) (a : Nat) (l : List Byte) : Accessed s (s.putBytes false a l) := ⟨rfl, fun _ _ => rfl⟩

theorem accessed_moveParty (s : State) (bs : Bool) (n : Nat) : Accessed s (s.moveParty bs n) := by
  unfold moveParty; split
  · exact Accessed.refl s
  · exact ⟨rfl, fun _ _ => rfl⟩

theorem accessed_eccRead (s : State) (bs : Bool) (a req : Nat) (fix : Bool) : Accessed s (s.eccRead bs a req fix).1 := by
  unfold eccRead
  split
  · exact Accessed.refl s
  · dsimp only
    split
    · exact accessed_noteError _ _ _ _ _ _
    · split
      · exact (accessed_noteError _ _ _ _ _ _).trans (accessed_setErr _ _ _)
      · exact accessed_noteError _ _ _ _ _ _

theorem accessed_injectInto (s : State) (bs : Bool) (a : Nat) : Accessed s (s.injectInto bs a) := by
  unfold injectInto
  split
  · split
    · exact ⟨rfl, fun _ _ => rfl⟩
    · exact Accessed.refl s
  · exact Accessed.refl s

theorem accessed_storeHalf (s : State) (a req : Nat) (v : W32) : Accessed s (s.storeHalf false a req v) := by
  unfold storeHalf
  simp only []
  split
  · exact ((accessed_eccRead _ _ _ _ _).trans (accessed_putBytes _ _ _)).trans (accessed_moveParty _ _ _)
  · exact ((((accessed_eccRead _ _ _ _ _).trans (accessed_putBytes _ _ _)).trans (accessed_moveParty _ _ _)).trans (accessed_setErr _ _ _)).trans
      (accessed_injectInto _ _ _)

theorem accessed_flushHeld (s : State) (pc : Nat) : Accessed s (s.flushHeld pc) := by
  unfold flushHeld
  split
  · exact Accessed.refl s
  · simp only []
    split
    · exact (accessed_setHeld _ _ _).trans (accessed_storeHalf _ _ _ _)
    · exact accessed_setHeld _ _ _

/-- An access counts for INTC alone. -/
theorem blockAccess_frame (s : State) (sup : Bool) (a : Nat) : s.blockAccess sup a = { s with intc := (s.blockAccess sup a).intc } := by
  unfold blockAccess
  split
  · rfl
  · rfl

theorem accessed_beginAccess (s : State) (pc a : Nat) (w : Bool) : Accessed s (s.beginAccess pc a w) := by
  unfold beginAccess
  have e1 : Accessed s (if w && (0x20_0000 ≤ a && a < 0x40_0000) && s.owns pc a then s else s.flushHeld pc) := by
    split
    · exact Accessed.refl s
    · exact accessed_flushHeld s pc
  dsimp only
  generalize (if w && (0x20_0000 ≤ a && a < 0x40_0000) && s.owns pc a then s else s.flushHeld pc) = t at e1
  split
  · refine e1.trans ⟨?_, fun b _ => ?_⟩
    · conv_lhs => rw [blockAccess_frame]
      rw [blockAccess_frame]
    · rw [blockAccess_frame]; rfl
  · exact e1

/-- With no half word held an access changes INTC's records alone. -/
theorem beginAccess_quiet (s : State) (pc a : Nat) (w : Bool) (h : s.heldHalf pc = none) :
    s.beginAccess pc a w = { s with intc := (s.beginAccess pc a w).intc } := by
  have e : s.flushHeld pc = s := by simp [flushHeld, h]
  unfold beginAccess
  simp only [e, ite_self]
  split
  · exact blockAccess_frame s _ a
  · rfl

@[simp] theorem beginAccess_now (s : State) (pc a : Nat) (w : Bool) : (s.beginAccess pc a w).now = s.now := by rw [(accessed_beginAccess s pc a w).1]
@[simp] theorem beginAccess_wall (s : State) (pc a : Nat) (w : Bool) : (s.beginAccess pc a w).wall = s.wall := by rw [(accessed_beginAccess s pc a w).1]
@[simp] theorem beginAccess_variantM (s : State) (pc a : Nat) (w : Bool) : (s.beginAccess pc a w).variantM = s.variantM := by rw [(accessed_beginAccess s pc a w).1]
@[simp] theorem beginAccess_freeCtr (s : State) (pc a : Nat) (w : Bool) : (s.beginAccess pc a w).freeCtr = s.freeCtr := by rw [(accessed_beginAccess s pc a w).1]
@[simp] theorem beginAccess_hold (s : State) (pc a : Nat) (w : Bool) : (s.beginAccess pc a w).hold = s.hold := by rw [(accessed_beginAccess s pc a w).1]
@[simp] theorem beginAccess_rlatch (s : State) (pc a : Nat) (w : Bool) : (s.beginAccess pc a w).rlatch = s.rlatch := by rw [(accessed_beginAccess s pc a w).1]
@[simp] theorem beginAccess_wlatch (s : State) (pc a : Nat) (w : Bool) : (s.beginAccess pc a w).wlatch = s.wlatch := by rw [(accessed_beginAccess s pc a w).1]
@[simp] theorem beginAccess_rasters (s : State) (pc a : Nat) (w : Bool) : (s.beginAccess pc a w).rasters = s.rasters := by rw [(accessed_beginAccess s pc a w).1]
@[simp] theorem beginAccess_fsync (s : State) (pc a : Nat) (w : Bool) : (s.beginAccess pc a w).fsync = s.fsync := by rw [(accessed_beginAccess s pc a w).1]
@[simp] theorem beginAccess_cmps (s : State) (pc a : Nat) (w : Bool) : (s.beginAccess pc a w).cmps = s.cmps := by rw [(accessed_beginAccess s pc a w).1]
@[simp] theorem beginAccess_cores (s : State) (pc a : Nat) (w : Bool) : (s.beginAccess pc a w).cores = s.cores := by rw [(accessed_beginAccess s pc a w).1]
@[simp] theorem beginAccess_imem (s : State) (pc a : Nat) (w : Bool) : (s.beginAccess pc a w).imem = s.imem := by rw [(accessed_beginAccess s pc a w).1]
@[simp] theorem beginAccess_dmem (s : State) (pc a : Nat) (w : Bool) : (s.beginAccess pc a w).dmem = s.dmem := by rw [(accessed_beginAccess s pc a w).1]
@[simp] theorem beginAccess_band (s : State) (pc a : Nat) (w : Bool) : (s.beginAccess pc a w).band = s.band := by rw [(accessed_beginAccess s pc a w).1]
@[simp] theorem beginAccess_ports (s : State) (pc a : Nat) (w : Bool) : (s.beginAccess pc a w).ports = s.ports := by rw [(accessed_beginAccess s pc a w).1]
@[simp] theorem beginAccess_streams (s : State) (pc a : Nat) (w : Bool) : (s.beginAccess pc a w).streams = s.streams := by rw [(accessed_beginAccess s pc a w).1]
@[simp] theorem beginAccess_replay (s : State) (pc a : Nat) (w : Bool) : (s.beginAccess pc a w).replay = s.replay := by rw [(accessed_beginAccess s pc a w).1]
@[simp] theorem beginAccess_coefAct (s : State) (pc a : Nat) (w : Bool) : (s.beginAccess pc a w).coefAct = s.coefAct := by rw [(accessed_beginAccess s pc a w).1]
@[simp] theorem beginAccess_coefShadow (s : State) (pc a : Nat) (w : Bool) : (s.beginAccess pc a w).coefShadow = s.coefShadow := by rw [(accessed_beginAccess s pc a w).1]
@[simp] theorem beginAccess_coefArm (s : State) (pc a : Nat) (w : Bool) : (s.beginAccess pc a w).coefArm = s.coefArm := by rw [(accessed_beginAccess s pc a w).1]
@[simp] theorem beginAccess_tblRef (s : State) (pc a : Nat) (w : Bool) : (s.beginAccess pc a w).tblRef = s.tblRef := by rw [(accessed_beginAccess s pc a w).1]
@[simp] theorem beginAccess_progRef (s : State) (pc a : Nat) (w : Bool) : (s.beginAccess pc a w).progRef = s.progRef := by rw [(accessed_beginAccess s pc a w).1]
@[simp] theorem beginAccess_kat (s : State) (pc a : Nat) (w : Bool) : (s.beginAccess pc a w).kat = s.kat := by rw [(accessed_beginAccess s pc a w).1]
@[simp] theorem beginAccess_pairs (s : State) (pc a : Nat) (w : Bool) : (s.beginAccess pc a w).pairs = s.pairs := by rw [(accessed_beginAccess s pc a w).1]
@[simp] theorem beginAccess_chans (s : State) (pc a : Nat) (w : Bool) : (s.beginAccess pc a w).chans = s.chans := by rw [(accessed_beginAccess s pc a w).1]
@[simp] theorem beginAccess_csu (s : State) (pc a : Nat) (w : Bool) : (s.beginAccess pc a w).csu = s.csu := by rw [(accessed_beginAccess s pc a w).1]
@[simp] theorem beginAccess_marks (s : State) (pc a : Nat) (w : Bool) : (s.beginAccess pc a w).marks = s.marks := by rw [(accessed_beginAccess s pc a w).1]
@[simp] theorem beginAccess_sio (s : State) (pc a : Nat) (w : Bool) : (s.beginAccess pc a w).sio = s.sio := by rw [(accessed_beginAccess s pc a w).1]
@[simp] theorem beginAccess_ipl (s : State) (pc a : Nat) (w : Bool) : (s.beginAccess pc a w).ipl = s.ipl := by rw [(accessed_beginAccess s pc a w).1]
@[simp] theorem beginAccess_cer (s : State) (pc a : Nat) (w : Bool) : (s.beginAccess pc a w).cer = s.cer := by rw [(accessed_beginAccess s pc a w).1]
@[simp] theorem beginAccess_men (s : State) (pc a : Nat) (w : Bool) : (s.beginAccess pc a w).men = s.men := by rw [(accessed_beginAccess s pc a w).1]
@[simp] theorem beginAccess_vio (s : State) (pc a : Nat) (w : Bool) : (s.beginAccess pc a w).vio = s.vio := by rw [(accessed_beginAccess s pc a w).1]
@[simp] theorem beginAccess_lines (s : State) (pc a : Nat) (w : Bool) : (s.beginAccess pc a w).lines = s.lines := by rw [(accessed_beginAccess s pc a w).1]
@[simp] theorem beginAccess_nvs (s : State) (pc a : Nat) (w : Bool) : (s.beginAccess pc a w).nvs = s.nvs := by rw [(accessed_beginAccess s pc a w).1]
@[simp] theorem beginAccess_hk (s : State) (pc a : Nat) (w : Bool) : (s.beginAccess pc a w).hk = s.hk := by rw [(accessed_beginAccess s pc a w).1]
@[simp] theorem beginAccess_sca (s : State) (pc a : Nat) (w : Bool) : (s.beginAccess pc a w).sca = s.sca := by rw [(accessed_beginAccess s pc a w).1]
@[simp] theorem beginAccess_lastFence (s : State) (pc a : Nat) (w : Bool) : (s.beginAccess pc a w).lastFence = s.lastFence := by rw [(accessed_beginAccess s pc a w).1]
@[simp] theorem beginAccess_arb (s : State) (pc a : Nat) (w : Bool) : (s.beginAccess pc a w).arb = s.arb := by rw [(accessed_beginAccess s pc a w).1]
@[simp] theorem beginAccess_rdata (s : State) (pc a : Nat) (w : Bool) : (s.beginAccess pc a w).rdata = s.rdata := by rw [(accessed_beginAccess s pc a w).1]
@[simp] theorem beginAccess_pending (s : State) (pc a : Nat) (w : Bool) : (s.beginAccess pc a w).pending = s.pending := by rw [(accessed_beginAccess s pc a w).1]

theorem beginAccess_reg (s : State) (pc a : Nat) (w : Bool) {b : Nat} (h : b < 0xC000 ∨ 0xC038 ≤ b) : (s.beginAccess pc a w).reg b = s.reg b :=
  (accessed_beginAccess s pc a w).2 b h
theorem beginAccess_get (s : State) (pc a : Nat) (w : Bool) {f : Field} (h : f.addr < 0xC000 ∨ 0xC038 ≤ f.addr) : (s.beginAccess pc a w).get f = s.get f :=
  get_eq_of_reg (beginAccess_reg s pc a w h)
theorem beginAccess_bit (s : State) (pc a : Nat) (w : Bool) {f : Field} (i : Nat) (h : f.addr < 0xC000 ∨ 0xC038 ≤ f.addr) :
    (s.beginAccess pc a w).bit f i = s.bit f i := bit_eq_of_reg i (beginAccess_reg s pc a w h)
theorem beginAccess_num (s : State) (pc a : Nat) (w : Bool) {b : Nat} (h : b < 0xC000 ∨ 0xC038 ≤ b) : (s.beginAccess pc a w).num b = s.num b :=
  num_eq_of_reg (beginAccess_reg s pc a w h)
@[simp] theorem beginAccess_frozen (s : State) (pc a : Nat) (w : Bool) : (s.beginAccess pc a w).frozen = s.frozen := by
  simp [frozen, beginAccess_get s pc a w (f := MEN_STAT_seal) (by decide)]

theorem ite_lt32 {c : Prop} [Decidable c] {x y : Option Nat} (hx : c → ∀ g, x = some g → g < 32) (hy : ¬ c → ∀ g, y = some g → g < 32) :
    ∀ g, (if c then x else y) = some g → g < 32 := by
  intro g h
  by_cases hc : c
  · rw [if_pos hc] at h; exact hx hc g h
  · rw [if_neg hc] at h; exact hy hc g h

/-- There are 32 ownership groups. -/
theorem groupOf_lt {a : Nat} : ∀ g, groupOf a = some g → g < 32 := by
  unfold groupOf
  repeat' refine ite_lt32 (fun _ g h => ?_) (fun _ => ?_)
  all_goals first | (intro g h; injection h with h; omega) | (injection h with h; omega) | (injection h; done)

@[simp] theorem beginAccess_owns (s : State) (pc a : Nat) (w : Bool) (q b : Nat) : (s.beginAccess pc a w).owns q b = s.owns q b := by
  unfold owns
  split
  · rename_i g hg
    have := groupOf_lt g hg
    rw [beginAccess_num s _ _ _ (Or.inl (by simp only [PSC_OWN]; omega))]
  · rfl

/-- A register that the seal does not freeze as a whole, and that is no lane's control register. -/
def plainReg (a : Nat) : Bool :=
  decide (wordAddr a = a) && !(decide (PSC_OWN 0 ≤ a) && decide (a ≤ PSC_OWN 31)) && !(decide (CER_S_CFG 0 ≤ a) && decide (a < 0xB300) && decide ((a - CER_S_CFG 0) % 0x20 = 0)) &&
    (match findRow a with | some r => r.rws == 0 || !r.ctrs.isEmpty | none => true) && !laneCtl a

theorem sealedReg_plain (s : State) {a : Nat} (h : plainReg a = true) : s.sealedReg a = false := by
  simp only [plainReg, Bool.and_eq_true, Bool.not_eq_true', Bool.and_eq_false_iff, decide_eq_false_iff_not] at h
  obtain ⟨⟨⟨⟨_, h1⟩, h2⟩, h3⟩, _⟩ := h
  have e1 : ¬ (PSC_OWN 0 ≤ a ∧ a ≤ PSC_OWN 31) := by
    rcases h1 with h1 | h1 <;> simp_all
  have e2 : ¬ (CER_S_CFG 0 ≤ a ∧ a < 0xB300 ∧ (a - CER_S_CFG 0) % 0x20 = 0) := by
    rintro ⟨q1, q2, q3⟩
    rcases h2 with (h2 | h2) | h2 <;> exact h2 (by assumption)
  unfold sealedReg
  rw [if_neg e1, if_neg e2]
  cases hr : findRow a with
  | some r =>
    simp only [hr, Bool.or_eq_true, beq_iff_eq, Bool.not_eq_true'] at h3
    rcases h3 with h3 | h3 <;> simp [h3]
  | none => rfl

/-- The owner's write of such a register is its block's write, whatever the seal. -/
theorem busWrite_plain (s : State) (who : Party) {a : Nat} (v : W32) (h : plainReg a = true) (ho : s.owns who.code a = true) :
    s.busWrite who a v = (s.beginAccess who.code a true).blockWrite who.code a v := by
  have hw : wordAddr a = a := by
    simp only [plainReg, Bool.and_eq_true, decide_eq_true_eq] at h
    exact h.1.1.1.1
  have hl : laneCtl a = false := by
    simp only [plainReg, Bool.and_eq_true, Bool.not_eq_true'] at h
    exact h.2
  have ho' : (s.beginAccess who.code a true).owns who.code a = true := by rw [beginAccess_owns]; exact ho
  have hs := sealedReg_plain (s.beginAccess who.code a true) h
  simp [busWrite, hw, ho', ownerWrite, hs, hl]

/-- Nobody but the owner of a group, and MET in its private space, changes anything by a write (R18). -/
theorem busWrite_denied (s : State) (who : Party) (addr : Nat) (v : W32) (ho : s.owns who.code (wordAddr addr) = false)
    (hm : who = .met → metNvs (wordAddr addr) = none) : s.busWrite who addr v = s.beginAccess who.code (wordAddr addr) true := by
  by_cases h : who = .met
  · simp [busWrite, ho, hm h]
  · simp [busWrite, ho, h]

end State
end Sys2Proof.Machine
end

