-- ==== Sys2Proof/Laws/Follows.lean ====
section
/-! SUPPORT. Laws/Follows.lean: what settles after a command that leaves the interrupt controller and the lines to themselves. -/

namespace Sys2Proof.Machine

namespace State

@[simp] theorem driveLines_groupLevels (s : State) (g : Nat) : s.driveLines.groupLevels g = s.groupLevels g := rfl
@[simp] theorem driveLines_claimable (s : State) (t n : Nat) : s.driveLines.claimable t n = s.claimable t n := by
  simp only [claimable, enabledAt, pendingAt, swPending, srcLevel, driveLines_groupLevels]
  rfl
@[simp] theorem driveLines_requesting (s : State) (t : Nat) : s.driveLines.requesting t = s.requesting t := by
  have e : s.driveLines.claimable t = s.claimable t := funext (driveLines_claimable s t)
  simp only [requesting, e]
  rfl
@[simp] theorem driveLines_malarmLevels (s : State) : s.driveLines.malarmLevels = s.malarmLevels := rfl

/-- The pins and requests of a settled state are those that it decides. -/
theorem settled_settle (s : State) : Settled s.settle := by
  unfold settle
  generalize s.latchSubst.watch = u
  exact ⟨(driveLines_requesting u 1).symm, (driveLines_requesting u 2).symm, (driveLines_requesting u 3).symm, (driveLines_malarmLevels u).symm⟩

@[simp] theorem settle_hs (s : State) : s.settle.lines.hs = s.settle.hsLevels := rfl

@[simp] theorem settle_holdoffs (s : State) : s.settle.intc.hold = s.intc.hold := by
  unfold settle driveLines watch latchSubst watchServed
  split <;> rfl

/-- The watch of R403 after a command. -/
theorem serving_settle (s : State) (n : Nat) :
    s.settle.serving n = (s.serving n).map (fun v => { v with fell := v.fell || (!v.accessed && !s.settle.pendingAt v.target n) }) := by
  have e : s.settle.intc = s.latchSubst.watchServed s.intc := by unfold settle driveLines watch latchSubst; split <;> rfl
  have p : ∀ a b, s.settle.pendingAt a b = s.latchSubst.pendingAt a b := fun _ _ => rfl
  simp only [serving, e, watchServed, p]
  rw [Map.get_map (fun _ => none) (fun _ => none) _
    (fun k o => o.map (fun v => { v with fell := v.fell || (!v.accessed && !s.latchSubst.pendingAt v.target k) })) ?_ (fun _ => rfl) n s.intc.serv]
  rintro ⟨k, o⟩
  cases o <;> rfl

@[simp] theorem settle_startCycle (s : State) : s.settle.lines.startCycle = s.lines.startCycle := by unfold settle driveLines watch latchSubst; split <;> rfl
@[simp] theorem settle_startable (s : State) : s.settle.lines.startable = s.lines.startable := by unfold settle driveLines watch latchSubst; split <;> rfl
@[simp] theorem settle_hashes (s : State) : s.settle.lines.hashes = s.lines.hashes := by unfold settle driveLines watch latchSubst; split <;> rfl

/-- The latch of R49 while no reset holds the part. -/
theorem settle_subst (s : State) (h : s.hold = .none) :
    s.settle.lines.subst = s.settle.substKeys ∧ s.settle.lines.substEvt = (s.lines.substEvt || s.settle.substKeys.any (fun k => !s.lines.subst.contains k)) := by
  have r : s.running = true := by simp [running, h]
  have e : s.settle.substKeys = s.substKeys := by unfold settle driveLines watch latchSubst watchServed; rw [if_pos r]; rfl
  rw [e]
  unfold settle driveLines watch latchSubst
  rw [if_pos r]
  exact ⟨rfl, rfl⟩

/-- The latch of R49 while a reset holds the part. -/
theorem settle_subst_held (s : State) (h : s.hold ≠ .none) : s.settle.lines.subst = s.lines.subst ∧ s.settle.lines.substEvt = s.lines.substEvt := by
  have r : s.running = false := by simp [running, h]
  unfold settle driveLines watch latchSubst
  rw [r]
  exact ⟨rfl, rfl⟩

/-- What hashes read while the clock moves leaves those in progress in progress. -/
theorem readOn_hashes (s t : State) (k : Nat) :
    (Map.get (fun _ => none) (s.readOn t).lines.hashes k).map HashRun.start = (Map.get (fun _ => none) t.lines.hashes k).map HashRun.start := by
  simp only [readOn, readHashes, beginCycle]
  rw [Map.get_map (fun _ => none) (fun _ => none) _ (fun k o => match o with
    | none => none
    | some r =>
      if Map.get (fun _ => none) s.lines.hashes k = some r then
        some { r with got := r.got ++ ((s.hashSource k t.now r).1.drop r.got.length).take ((s.hashSource k t.now r).2 - r.got.length) }
      else some r) ?_ (fun _ => rfl) k t.lines.hashes]
  · cases Map.get (fun _ => none) t.lines.hashes k with
    | none => rfl
    | some r => dsimp only; split <;> rfl
  · rintro ⟨k, o⟩
    cases o with
    | none => rfl
    | some r => dsimp only; split <;> rfl

end State

open State

/-- A command that leaves the interrupt controller and the lines to themselves. -/
theorem follows_settle {s t : State} (hi : t.intc = s.intc) (hl : t.lines = s.lines) : Follows s (s.readOn t).settle := by
  have hs : ∀ n, (s.readOn t).serving n = s.serving n := fun n => by show Map.get _ t.intc.serv n = _; rw [hi]; rfl
  refine ⟨by rw [settle_holdoffs]; show t.intc.hold = _; rw [hi], settled_settle _, settle_hs _, fun n => ?_, fun n u v hu hv => ?_, fun h => ?_, fun h => ?_, fun h => ?_,
    fun k => ?_⟩
  · rw [serving_settle, hs, Option.map_map]; rfl
  · rw [serving_settle, hs, hu] at hv
    cases hv
    exact ⟨id, rfl⟩
  · have e := settle_subst (s.readOn t) (by rw [← settle_hold]; exact h)
    refine ⟨e.1, e.2.trans ?_⟩
    show (t.lines.substEvt || _) = _
    rw [hl]
    show (_ || List.any _ (fun k => !t.lines.subst.contains k)) = _
    rw [hl]
  · have e := settle_subst_held (s.readOn t) (by rw [← settle_hold]; exact h)
    refine ⟨e.1.trans ?_, e.2.trans ?_⟩
    · show t.lines.subst = _; rw [hl]
    · show t.lines.substEvt = _; rw [hl]
  · rw [settle_now] at h
    have b : (t.now / 4 == s.now / 4) = true := by simpa using h
    rw [settle_startCycle, settle_startable]
    simp [readOn, readHashes, beginCycle, b, hl]
  · simp only [Lines.hashOf]; rw [settle_hashes, readOn_hashes, hl]

end Sys2Proof.Machine
end

