-- ==== Sys2Proof/Laws/Memory.lean ====
section
/-! SUPPORT. Laws/Memory.lean: what the memory operations write, what they leave, and that they keep the canonical form. -/

namespace Sys2Proof.Machine

@[simp] theorem Memory.byte_setByte_same (m : List Host.Cell) (a : Nat) (b : Byte) : Memory.byte (Memory.setByte m a b) a = b :=
  Map.get_set_same memDefault m a b

theorem Memory.byte_setByte_other (m : List Host.Cell) {a c : Nat} (b : Byte) (h : c ≠ a) : Memory.byte (Memory.setByte m a b) c = Memory.byte m c :=
  Map.get_set_other memDefault m b h

theorem Memory.setByte_wf (m : List Host.Cell) (a : Nat) (b : Byte) (h : Memory.wf m = true) : Memory.wf (Memory.setByte m a b) = true :=
  Map.wf_set memDefault m a b h

theorem Memory.setBytes_wf (l : List Byte) : ∀ (m : List Host.Cell) (a : Nat), Memory.wf m = true → Memory.wf (Memory.setBytes m a l) = true := by
  induction l with
  | nil => intro m a h; exact h
  | cons b r ih => intro m a h; exact ih _ _ (Memory.setByte_wf m a b h)

theorem Memory.setNum_wf (m : List Host.Cell) (a k v : Nat) (h : Memory.wf m = true) : Memory.wf (Memory.setNum m a k v) = true :=
  Memory.setBytes_wf _ m a h

theorem Memory.filter_wf (m : List Host.Cell) (q : Host.Cell → Bool) (h : Memory.wf m = true) : Memory.wf (m.filter q) = true :=
  Map.wf_filter memDefault q m h

/-- A write of bytes leaves every byte outside them. -/
theorem Memory.byte_setBytes_outside (l : List Byte) : ∀ (m : List Host.Cell) (a c : Nat), (c < a ∨ a + l.length ≤ c) →
    Memory.byte (Memory.setBytes m a l) c = Memory.byte m c := by
  induction l with
  | nil => intro m a c _; rfl
  | cons b r ih =>
    intro m a c h
    simp only [List.length_cons] at h
    simp only [Memory.setBytes]
    rw [ih _ (a + 1) c (by omega), Memory.byte_setByte_other m b (by omega)]

/-- A write of bytes puts each at its place. -/
theorem Memory.byte_setBytes_inside (l : List Byte) : ∀ (m : List Host.Cell) (a i : Nat) (b : Byte), l[i]? = some b →
    Memory.byte (Memory.setBytes m a l) (a + i) = b := by
  induction l with
  | nil => intro m a i b h; simp at h
  | cons x r ih =>
    intro m a i b h
    cases i with
    | zero =>
      simp only [List.getElem?_cons_zero, Option.some.injEq] at h
      simp only [Memory.setBytes, Nat.add_zero]
      rw [Memory.byte_setBytes_outside r _ (a + 1) a (by omega), Memory.byte_setByte_same, h]
    | succ j =>
      simp only [List.getElem?_cons_succ] at h
      have := ih (Memory.setByte m a x) (a + 1) j b h
      simp only [Memory.setBytes]
      rw [← this]
      congr 1
      omega

@[simp] theorem leBytes_length (k n : Nat) : (leBytes k n).length = k := by
  induction k generalizing n with
  | zero => rfl
  | succ k ih => simp [leBytes, ih]

theorem Memory.byte_setNum_outside (m : List Host.Cell) (a k v c : Nat) (h : c < a ∨ a + k ≤ c) : Memory.byte (Memory.setNum m a k v) c = Memory.byte m c :=
  Memory.byte_setBytes_outside _ m a c (by simpa using h)

/-- A number written is the number read. -/
theorem Memory.bytes_setBytes (l : List Byte) : ∀ (m : List Host.Cell) (a : Nat), Memory.bytes (Memory.setBytes m a l) a l.length = l := by
  induction l with
  | nil => intro m a; rfl
  | cons b r ih =>
    intro m a
    have hb := Memory.byte_setBytes_inside (b :: r) m a 0 b rfl
    simp only [Nat.add_zero] at hb
    simp only [List.length_cons, Memory.bytes, hb]
    exact congrArg (b :: ·) (ih _ (a + 1))

theorem ofLe_leBytes (k n : Nat) : ofLe (leBytes k n) = n % 256 ^ k := by
  induction k generalizing n with
  | zero => simp [leBytes, ofLe, Nat.mod_one]
  | succ k ih =>
    simp only [leBytes, ofLe, ih, BitVec.toNat_ofNat]
    have h : n % 256 ^ (k + 1) = n % 256 + 256 * (n / 256 % 256 ^ k) := by
      rw [Nat.pow_succ, Nat.mul_comm (256 ^ k) 256, Nat.mod_mul]
    rw [h]

theorem Memory.num_setNum (m : List Host.Cell) (a k v : Nat) : Memory.num (Memory.setNum m a k v) a k = v % 256 ^ k := by
  have h := Memory.bytes_setBytes (leBytes k v) m a
  rw [leBytes_length] at h
  rw [Memory.num, Memory.setNum, h, ofLe_leBytes]

/-- The memories at reset are in canonical form. -/
theorem reset_memory_wf : Memory.wf State.reset.dram = true ∧ Memory.wf State.reset.band = true ∧ Memory.wf State.reset.imem = true ∧
    Memory.wf State.reset.dmem = true ∧ Memory.wf State.reset.nvs.arr = true := by decide

end Sys2Proof.Machine
end

