-- ==== Sys2Proof/Laws/PerInstr.lean ====
section
/-! SUPPORT. Laws/PerInstr.lean: a fact about each command's encoding, one lemma per constructor. -/

namespace Sys2Proof.Laws

/-- The word of a well-formed Pulon instruction names an opcode that its core may execute; any other command has no word. -/
def Runs.Statement (i : Instr) : Prop := ∀ k w, encodePulon i = some (k, w) → WellFormed i = true → coreMay k (pwOp w) = true

theorem pwOp_encR (op : Nat) (d a b : RegNo) (f : Bool) (h : op < 64) : pwOp (encR op d a b f) = op := by
  have := d.isLt; have := a.isLt; have := b.isLt
  cases f <;> simp only [pwOp, encR, BitVec.toNat_ofNat, Bool.false_eq_true, if_true, if_false] <;> omega

theorem pwOp_encI (op : Nat) (d a : RegNo) (f : Bool) (i : Nat) (h : op < 64) (hi : i < 65536) : pwOp (encI op d a f i) = op := by
  have := d.isLt; have := a.isLt
  cases f <;> simp only [pwOp, encI, BitVec.toNat_ofNat, Bool.false_eq_true, if_true, if_false] <;> omega

theorem pwOp_encB (op : Nat) (c : BitVec 4) (o : BitVec 22) (h : op < 64) : pwOp (encB op c o) = op := by
  have := c.isLt; have := o.isLt
  simp only [pwOp, encB, BitVec.toNat_ofNat]; omega

theorem pwOp_encL (op : Nat) (x y : LocNo) (a b : RegNo) (u : BitVec 2) (i : Nat) (h : op < 64) (hi : i < 4096) : pwOp (encL op x y a b u i) = op := by
  have := x.isLt; have := y.isLt; have := a.isLt; have := b.isLt; have := u.isLt
  simp only [pwOp, encL, BitVec.toNat_ofNat]; omega

theorem pwOp_encE (op : Nat) (y : LocNo) (l : Bool) (soff : BitVec 11) (m : Nat) (h : op < 64) (hm : m < 4096) : pwOp (encE op y l soff m) = op := by
  have := y.isLt; have := soff.isLt
  cases l <;> simp only [pwOp, encE, BitVec.toNat_ofNat, Bool.false_eq_true, if_true, if_false] <;> omega

theorem pwOp_encP (op : Nat) (d a : RegNo) (len : BitVec 5) (q rx : Bool) (h : op < 64) : pwOp (encP op d a len q rx) = op := by
  have := d.isLt; have := a.isLt; have := len.isLt
  cases q <;> cases rx <;> simp only [pwOp, encP, BitVec.toNat_ofNat, Bool.false_eq_true, if_true, if_false] <;> omega

theorem Runs.registerWrite (who : Party) (addr : Addr) (v : W32) : Runs.Statement (.registerWrite who addr v) := fun _ _ h _ => by cases h
theorem Runs.ownershipWrite (who : Party) (n : Fin 32) (v : W32) : Runs.Statement (.ownershipWrite who n v) := fun _ _ h _ => by cases h
theorem Runs.auditCommit : Runs.Statement (.auditCommit) := fun _ _ h _ => by cases h
theorem Runs.rasterLineStart (r : Raster) : Runs.Statement (.rasterLineStart r) := fun _ _ h _ => by cases h
theorem Runs.rasterFrameStart (r : Raster) : Runs.Statement (.rasterFrameStart r) := fun _ _ h _ => by cases h
theorem Runs.rasterRun (who : Party) (r : Raster) (arm : Bool) : Runs.Statement (.rasterRun who r arm) := fun _ _ h _ => by cases h
theorem Runs.rasterStop (who : Party) (r : Raster) (arm : Bool) : Runs.Statement (.rasterStop who r arm) := fun _ _ h _ => by cases h
theorem Runs.lockWrite (who : Party) (r : Raster) (v : W32) : Runs.Statement (.lockWrite who r v) := fun _ _ h _ => by cases h
theorem Runs.lockLineEnd (r : Raster) : Runs.Statement (.lockLineEnd r) := fun _ _ h _ => by cases h
theorem Runs.acquireRestart (r : Raster) : Runs.Statement (.acquireRestart r) := fun _ _ h _ => by cases h
theorem Runs.fsyncEdge (high : Bool) : Runs.Statement (.fsyncEdge high) := fun _ _ h _ => by cases h
theorem Runs.fsyncPulseAccept : Runs.Statement (.fsyncPulseAccept) := fun _ _ h _ => by cases h
theorem Runs.fsyncPulseReject : Runs.Statement (.fsyncPulseReject) := fun _ _ h _ => by cases h
theorem Runs.fsyncCfgWrite (who : Party) (v : W32) : Runs.Statement (.fsyncCfgWrite who v) := fun _ _ h _ => by cases h
theorem Runs.fsyncOutputPulse : Runs.Statement (.fsyncOutputPulse) := fun _ _ h _ => by cases h
theorem Runs.fsyncOutputEnd : Runs.Statement (.fsyncOutputEnd) := fun _ _ h _ => by cases h
theorem Runs.cmpCommit (who : Party) (n : Fin 8) (v : W32) : Runs.Statement (.cmpCommit who n v) := fun _ _ h _ => by cases h
theorem Runs.cmpCtlWrite (who : Party) (n : Fin 8) (v : W32) : Runs.Statement (.cmpCtlWrite who n v) := fun _ _ h _ => by cases h
theorem Runs.cmpFire (n : Fin 8) : Runs.Statement (.cmpFire n) := fun _ _ h _ => by cases h
theorem Runs.cmpPulseEnd (n : Fin 8) : Runs.Statement (.cmpPulseEnd n) := fun _ _ h _ => by cases h
theorem Runs.add (k : Core) (d a b : RegNo) (f : Bool) : Runs.Statement (.add k d a b f) := fun j w e f => by
  cases e; rw [pwOp_encR _ _ _ _ _ (by decide)]; cases k <;> first | rfl | cases f
theorem Runs.sub (k : Core) (d a b : RegNo) (f : Bool) : Runs.Statement (.sub k d a b f) := fun j w e f => by
  cases e; rw [pwOp_encR _ _ _ _ _ (by decide)]; cases k <;> first | rfl | cases f
theorem Runs.andw (k : Core) (d a b : RegNo) (f : Bool) : Runs.Statement (.andw k d a b f) := fun j w e f => by
  cases e; rw [pwOp_encR _ _ _ _ _ (by decide)]; cases k <;> first | rfl | cases f
theorem Runs.orw (k : Core) (d a b : RegNo) (f : Bool) : Runs.Statement (.orw k d a b f) := fun j w e f => by
  cases e; rw [pwOp_encR _ _ _ _ _ (by decide)]; cases k <;> first | rfl | cases f
theorem Runs.xorw (k : Core) (d a b : RegNo) (f : Bool) : Runs.Statement (.xorw k d a b f) := fun j w e f => by
  cases e; rw [pwOp_encR _ _ _ _ _ (by decide)]; cases k <;> first | rfl | cases f
theorem Runs.shl (k : Core) (d a b : RegNo) (f : Bool) : Runs.Statement (.shl k d a b f) := fun j w e f => by
  cases e; rw [pwOp_encR _ _ _ _ _ (by decide)]; cases k <;> first | rfl | cases f
theorem Runs.shr (k : Core) (d a b : RegNo) (f : Bool) : Runs.Statement (.shr k d a b f) := fun j w e f => by
  cases e; rw [pwOp_encR _ _ _ _ _ (by decide)]; cases k <;> first | rfl | cases f
theorem Runs.sar (k : Core) (d a b : RegNo) (f : Bool) : Runs.Statement (.sar k d a b f) := fun j w e f => by
  cases e; rw [pwOp_encR _ _ _ _ _ (by decide)]; cases k <;> first | rfl | cases f
theorem Runs.mul (k : Core) (d a b : RegNo) (f : Bool) : Runs.Statement (.mul k d a b f) := fun j w e f => by
  cases e; rw [pwOp_encR _ _ _ _ _ (by decide)]; cases k <;> first | rfl | cases f
theorem Runs.addi (k : Core) (d a : RegNo) (f : Bool) (imm : BitVec 16) : Runs.Statement (.addi k d a f imm) := fun j w e f => by
  cases e; rw [pwOp_encI _ _ _ _ _ (by decide) (Nat.lt_of_lt_of_le imm.isLt (by decide))]; cases k <;> first | rfl | cases f
theorem Runs.subi (k : Core) (d a : RegNo) (f : Bool) (imm : BitVec 16) : Runs.Statement (.subi k d a f imm) := fun j w e f => by
  cases e; rw [pwOp_encI _ _ _ _ _ (by decide) (Nat.lt_of_lt_of_le imm.isLt (by decide))]; cases k <;> first | rfl | cases f
theorem Runs.andi (k : Core) (d a : RegNo) (f : Bool) (imm : BitVec 16) : Runs.Statement (.andi k d a f imm) := fun j w e f => by
  cases e; rw [pwOp_encI _ _ _ _ _ (by decide) (Nat.lt_of_lt_of_le imm.isLt (by decide))]; cases k <;> first | rfl | cases f
theorem Runs.ori (k : Core) (d a : RegNo) (f : Bool) (imm : BitVec 16) : Runs.Statement (.ori k d a f imm) := fun j w e f => by
  cases e; rw [pwOp_encI _ _ _ _ _ (by decide) (Nat.lt_of_lt_of_le imm.isLt (by decide))]; cases k <;> first | rfl | cases f
theorem Runs.xori (k : Core) (d a : RegNo) (f : Bool) (imm : BitVec 16) : Runs.Statement (.xori k d a f imm) := fun j w e f => by
  cases e; rw [pwOp_encI _ _ _ _ _ (by decide) (Nat.lt_of_lt_of_le imm.isLt (by decide))]; cases k <;> first | rfl | cases f
theorem Runs.shli (k : Core) (d a : RegNo) (f : Bool) (imm : BitVec 16) : Runs.Statement (.shli k d a f imm) := fun j w e f => by
  cases e; rw [pwOp_encI _ _ _ _ _ (by decide) (Nat.lt_of_lt_of_le imm.isLt (by decide))]; cases k <;> first | rfl | cases f
theorem Runs.shri (k : Core) (d a : RegNo) (f : Bool) (imm : BitVec 16) : Runs.Statement (.shri k d a f imm) := fun j w e f => by
  cases e; rw [pwOp_encI _ _ _ _ _ (by decide) (Nat.lt_of_lt_of_le imm.isLt (by decide))]; cases k <;> first | rfl | cases f
theorem Runs.sari (k : Core) (d a : RegNo) (f : Bool) (imm : BitVec 16) : Runs.Statement (.sari k d a f imm) := fun j w e f => by
  cases e; rw [pwOp_encI _ _ _ _ _ (by decide) (Nat.lt_of_lt_of_le imm.isLt (by decide))]; cases k <;> first | rfl | cases f
theorem Runs.movh (k : Core) (d a : RegNo) (f : Bool) (imm : BitVec 16) : Runs.Statement (.movh k d a f imm) := fun j w e f => by
  cases e; rw [pwOp_encI _ _ _ _ _ (by decide) (Nat.lt_of_lt_of_le imm.isLt (by decide))]; cases k <;> first | rfl | cases f
theorem Runs.ldw (k : Core) (d a : RegNo) (imm : BitVec 16) : Runs.Statement (.ldw k d a imm) := fun j w e f => by
  cases e; rw [pwOp_encI _ _ _ _ _ (by decide) (Nat.lt_of_lt_of_le imm.isLt (by decide))]; cases k <;> first | rfl | cases f
theorem Runs.ldh (k : Core) (d a : RegNo) (imm : BitVec 16) : Runs.Statement (.ldh k d a imm) := fun j w e f => by
  cases e; rw [pwOp_encI _ _ _ _ _ (by decide) (Nat.lt_of_lt_of_le imm.isLt (by decide))]; cases k <;> first | rfl | cases f
theorem Runs.ldb (k : Core) (d a : RegNo) (imm : BitVec 16) : Runs.Statement (.ldb k d a imm) := fun j w e f => by
  cases e; rw [pwOp_encI _ _ _ _ _ (by decide) (Nat.lt_of_lt_of_le imm.isLt (by decide))]; cases k <;> first | rfl | cases f
theorem Runs.stw (k : Core) (d a : RegNo) (imm : BitVec 16) : Runs.Statement (.stw k d a imm) := fun j w e f => by
  cases e; rw [pwOp_encI _ _ _ _ _ (by decide) (Nat.lt_of_lt_of_le imm.isLt (by decide))]; cases k <;> first | rfl | cases f
theorem Runs.sth (k : Core) (d a : RegNo) (imm : BitVec 16) : Runs.Statement (.sth k d a imm) := fun j w e f => by
  cases e; rw [pwOp_encI _ _ _ _ _ (by decide) (Nat.lt_of_lt_of_le imm.isLt (by decide))]; cases k <;> first | rfl | cases f
theorem Runs.stb (k : Core) (d a : RegNo) (imm : BitVec 16) : Runs.Statement (.stb k d a imm) := fun j w e f => by
  cases e; rw [pwOp_encI _ _ _ _ _ (by decide) (Nat.lt_of_lt_of_le imm.isLt (by decide))]; cases k <;> first | rfl | cases f
theorem Runs.ldl (k : Core) (x : LocNo) (a : RegNo) (imm : BitVec 16) : Runs.Statement (.ldl k x a imm) := fun j w e f => by
  cases e; rw [pwOp_encI _ _ _ _ _ (by decide) (Nat.lt_of_lt_of_le imm.isLt (by decide))]; cases k <;> first | rfl | cases f
theorem Runs.stl (k : Core) (x : LocNo) (a : RegNo) (imm : BitVec 16) : Runs.Statement (.stl k x a imm) := fun j w e f => by
  cases e; rw [pwOp_encI _ _ _ _ _ (by decide) (Nat.lt_of_lt_of_le imm.isLt (by decide))]; cases k <;> first | rfl | cases f
theorem Runs.br (k : Core) (c : BitVec 4) (off : BitVec 22) : Runs.Statement (.br k c off) := fun j w e f => by
  cases e; rw [pwOp_encB _ _ _ (by decide)]; cases k <;> first | rfl | cases f
theorem Runs.call (k : Core) (off : BitVec 22) : Runs.Statement (.call k off) := fun j w e f => by
  cases e; rw [pwOp_encB _ _ _ (by decide)]; cases k <;> first | rfl | cases f
theorem Runs.jr (k : Core) (a : RegNo) : Runs.Statement (.jr k a) := fun j w e f => by
  cases e; rw [pwOp_encR _ _ _ _ _ (by decide)]; cases k <;> first | rfl | cases f
theorem Runs.callr (k : Core) (a : RegNo) : Runs.Statement (.callr k a) := fun j w e f => by
  cases e; rw [pwOp_encR _ _ _ _ _ (by decide)]; cases k <;> first | rfl | cases f
theorem Runs.dbnz (k : Core) (d : RegNo) (off : BitVec 22) : Runs.Statement (.dbnz k d off) := fun j w e f => by
  cases e; rw [pwOp_encB _ _ _ (by decide)]; cases k <;> first | rfl | cases f
theorem Runs.iret (k : Core) : Runs.Statement (.iret k) := fun j w e f => by
  cases e; rw [pwOp_encB _ _ _ (by decide)]; cases k <;> first | rfl | cases f
theorem Runs.mfs (k : Core) (d : RegNo) (sr : BitVec 4) : Runs.Statement (.mfs k d sr) := fun j w e f => by
  cases e; rw [pwOp_encI _ _ _ _ _ (by decide) (Nat.lt_of_lt_of_le sr.isLt (by decide))]; cases k <;> first | rfl | cases f
theorem Runs.mts (k : Core) (sr : BitVec 4) (a : RegNo) : Runs.Statement (.mts k sr a) := fun j w e f => by
  cases e; rw [pwOp_encI _ _ _ _ _ (by decide) (Nat.lt_of_lt_of_le sr.isLt (by decide))]; cases k <;> first | rfl | cases f
theorem Runs.lnow (k : Core) (x : LocNo) (r : BitVec 3) : Runs.Statement (.lnow k x r) := fun j w e f => by
  cases e; rw [pwOp_encL _ _ _ _ _ _ _ (by decide) (Nat.lt_of_lt_of_le r.isLt (by decide))]; cases k <;> first | rfl | cases f
theorem Runs.lset (k : Core) (x : LocNo) (a b : RegNo) : Runs.Statement (.lset k x a b) := fun j w e f => by
  cases e; rw [pwOp_encL _ _ _ _ _ _ _ (by decide) (by decide)]; cases k <;> first | rfl | cases f
theorem Runs.lget (k : Core) (a : RegNo) (y : LocNo) (h : Bool) : Runs.Statement (.lget k a y h) := fun j w e f => by
  cases e; rw [pwOp_encL _ _ _ _ _ _ _ (by decide) (by cases h <;> decide)]; cases k <;> first | rfl | cases f
theorem Runs.lins (k : Core) (x y : LocNo) (u : BitVec 2) (b : RegNo) : Runs.Statement (.lins k x y u b) := fun j w e f => by
  cases e; rw [pwOp_encL _ _ _ _ _ _ _ (by decide) (by decide)]; cases k <;> first | rfl | cases f
theorem Runs.ladv (k : Core) (x y : LocNo) (u : BitVec 2) (imm : BitVec 12) : Runs.Statement (.ladv k x y u imm) := fun j w e f => by
  cases e; rw [pwOp_encL _ _ _ _ _ _ _ (by decide) (Nat.lt_of_lt_of_le imm.isLt (by decide))]; cases k <;> first | rfl | cases f
theorem Runs.wait (k : Core) (y : LocNo) : Runs.Statement (.wait k y) := fun j w e f => by
  cases e; rw [pwOp_encL _ _ _ _ _ _ _ (by decide) (by decide)]; cases k <;> first | rfl | cases f
theorem Runs.waitResume (k : Core) : Runs.Statement (.waitResume k) := fun _ _ h _ => by cases h
theorem Runs.edge (k : Core) (y : LocNo) (soff : BitVec 11) (m : RegNo) (lvl : Bool) : Runs.Statement (.edge k y soff m lvl) := fun j w e f => by
  cases e; rw [pwOp_encE _ _ _ _ _ (by decide) (Nat.lt_of_lt_of_le m.isLt (by decide))]; cases k <;> first | rfl | cases f
theorem Runs.edgei (k : Core) (y : LocNo) (soff : BitVec 11) (m : BitVec 12) (lvl : Bool) : Runs.Statement (.edgei k y soff m lvl) := fun j w e f => by
  cases e; rw [pwOp_encE _ _ _ _ _ (by decide) (Nat.lt_of_lt_of_le m.isLt (by decide))]; cases k <;> first | rfl | cases f
theorem Runs.strb (k : Core) (y : LocNo) (soff : BitVec 11) (sw : BitVec 12) : Runs.Statement (.strb k y soff sw) := fun j w e f => by
  cases e; rw [pwOp_encE _ _ _ _ _ (by decide) (Nat.lt_of_lt_of_le sw.isLt (by decide))]; cases k <;> first | rfl | cases f
theorem Runs.ppx (k : Core) (a : RegNo) (len : BitVec 5) (q rx : Bool) : Runs.Statement (.ppx k a len q rx) := fun j w e f => by
  cases e; rw [pwOp_encP _ _ _ _ _ _ (by decide)]; cases k <;> first | rfl | cases f
theorem Runs.pps (k : Core) (d : RegNo) : Runs.Statement (.pps k d) := fun j w e f => by
  cases e; rw [pwOp_encP _ _ _ _ _ _ (by decide)]; cases k <;> first | rfl | cases f
theorem Runs.gsel (k : Core) (m : RegNo) (lvl : Bool) : Runs.Statement (.gsel k m lvl) := fun j w e f => by
  cases e; rw [pwOp_encI _ _ _ _ _ (by decide) (by decide)]; cases k <;> first | rfl | cases f
theorem Runs.gseli (k : Core) (pin : BitVec 5) (lvl : Bool) : Runs.Statement (.gseli k pin lvl) := fun j w e f => by
  cases e; rw [pwOp_encI _ _ _ _ _ (by decide) (Nat.lt_of_lt_of_le pin.isLt (by decide))]; cases k <;> first | rfl | cases f
theorem Runs.claim (k : Core) (n : BitVec 5) : Runs.Statement (.claim k n) := fun j w e f => by
  cases e; rw [pwOp_encI _ _ _ _ _ (by decide) (Nat.lt_of_lt_of_le n.isLt (by decide))]; cases k <;> first | rfl | cases f
theorem Runs.free (k : Core) (n : BitVec 5) : Runs.Statement (.free k n) := fun j w e f => by
  cases e; rw [pwOp_encI _ _ _ _ _ (by decide) (Nat.lt_of_lt_of_le n.isLt (by decide))]; cases k <;> first | rfl | cases f
theorem Runs.sig (k : Core) (c : BitVec 3) : Runs.Statement (.sig k c) := fun j w e f => by
  cases e; rw [pwOp_encI _ _ _ _ _ (by decide) (Nat.lt_of_lt_of_le c.isLt (by decide))]; cases k <;> first | rfl | cases f
theorem Runs.fence (k : Core) (cls : BitVec 4) (r : Bool) (a : RegNo) (n : BitVec 16) : Runs.Statement (.fence k cls r a n) := fun j w e f => by
  cases e; rw [pwOp_encI _ _ _ _ _ (by decide) (Nat.lt_of_lt_of_le n.isLt (by decide))]; cases k <;> first | rfl | cases f
theorem Runs.flift (k : Core) (cls : BitVec 4) (r : Bool) (a : RegNo) (n : BitVec 16) : Runs.Statement (.flift k cls r a n) := fun j w e f => by
  cases e; rw [pwOp_encI _ _ _ _ _ (by decide) (Nat.lt_of_lt_of_le n.isLt (by decide))]; cases k <;> first | rfl | cases f
theorem Runs.supInterruptEntry (k : Core) : Runs.Statement (.supInterruptEntry k) := fun _ _ h _ => by cases h
theorem Runs.edgeEntryFire (k : Core) : Runs.Statement (.edgeEntryFire k) := fun _ _ h _ => by cases h
theorem Runs.strobeSample (p : Port) (lanes : List LaneInput) : Runs.Statement (.strobeSample p lanes) := fun _ _ h _ => by cases h
theorem Runs.sqStartCommand (who : Party) (q : Port) : Runs.Statement (.sqStartCommand who q) := fun _ _ h _ => by cases h
theorem Runs.sqCheckCommand (who : Party) (q : Port) : Runs.Statement (.sqCheckCommand who q) := fun _ _ h _ => by cases h
theorem Runs.sqHaltCommand (who : Party) (q : Port) : Runs.Statement (.sqHaltCommand who q) := fun _ _ h _ => by cases h
theorem Runs.sqFlushCommand (who : Party) (q : Port) : Runs.Statement (.sqFlushCommand who q) := fun _ _ h _ => by cases h
theorem Runs.hashComplete (q : Port) : Runs.Statement (.hashComplete q) := fun _ _ h _ => by cases h
theorem Runs.sqWatchdogExpiry (q : Port) : Runs.Statement (.sqWatchdogExpiry q) := fun _ _ h _ => by cases h
theorem Runs.supWdKick (who : Party) (v : W32) : Runs.Statement (.supWdKick who v) := fun _ _ h _ => by cases h
theorem Runs.supWdCfgWrite (who : Party) (v : W32) : Runs.Statement (.supWdCfgWrite who v) := fun _ _ h _ => by cases h
theorem Runs.supWatchdogFirstStage : Runs.Statement (.supWatchdogFirstStage) := fun _ _ h _ => by cases h
theorem Runs.supWatchdogReset : Runs.Statement (.supWatchdogReset) := fun _ _ h _ => by cases h
theorem Runs.forcedRelease (who : Party) (v : W32) : Runs.Statement (.forcedRelease who v) := fun _ _ h _ => by cases h
theorem Runs.romMapClear (who : Party) : Runs.Statement (.romMapClear who) := fun _ _ h _ => by cases h
theorem Runs.powerUpRequest (who : Party) (p : Port) : Runs.Statement (.powerUpRequest who p) := fun _ _ h _ => by cases h
theorem Runs.powerDownRequest (who : Party) (p : Port) : Runs.Statement (.powerDownRequest who p) := fun _ _ h _ => by cases h
theorem Runs.pwrUpStart (p : Port) : Runs.Statement (.pwrUpStart p) := fun _ _ h _ => by cases h
theorem Runs.pwrPenOn (p : Port) : Runs.Statement (.pwrPenOn p) := fun _ _ h _ => by cases h
theorem Runs.pwrSettleEnd (p : Port) : Runs.Statement (.pwrSettleEnd p) := fun _ _ h _ => by cases h
theorem Runs.pwrBiasRampStep (p : Port) : Runs.Statement (.pwrBiasRampStep p) := fun _ _ h _ => by cases h
theorem Runs.pwrDownStart (p : Port) : Runs.Statement (.pwrDownStart p) := fun _ _ h _ => by cases h
theorem Runs.pwrPenOff (p : Port) : Runs.Statement (.pwrPenOff p) := fun _ _ h _ => by cases h
theorem Runs.pwrVcmOff (p : Port) : Runs.Statement (.pwrVcmOff p) := fun _ _ h _ => by cases h
theorem Runs.faultInputFence (p : Port) (low : Nat) : Runs.Statement (.faultInputFence p low) := fun _ _ h _ => by cases h
theorem Runs.pixelResultReceive (p : Port) : Runs.Statement (.pixelResultReceive p) := fun _ _ h _ => by cases h
theorem Runs.rowClose (p : Port) (cap : List LaneCapture) : Runs.Statement (.rowClose p cap) := fun _ _ h _ => by cases h
theorem Runs.errorInjection (who : Party) (v : W32) : Runs.Statement (.errorInjection who v) := fun _ _ h _ => by cases h
theorem Runs.selfTestRequest (who : Party) (v : W32) : Runs.Statement (.selfTestRequest who v) := fun _ _ h _ => by cases h
theorem Runs.pixelCorrect (p : Port) (f : Fetch) : Runs.Statement (.pixelCorrect p f) := fun _ _ h _ => by cases h
theorem Runs.pixelInterpolate (t : PixelTurn) : Runs.Statement (.pixelInterpolate t) := fun _ _ h _ => by cases h
theorem Runs.tableCheckStart (who : Party) (p : Port) : Runs.Statement (.tableCheckStart who p) := fun _ _ h _ => by cases h
theorem Runs.tableCheckComplete (p : Port) : Runs.Statement (.tableCheckComplete p) := fun _ _ h _ => by cases h
theorem Runs.radDataWrite (who : Party) (v : W32) : Runs.Statement (.radDataWrite who v) := fun _ _ h _ => by cases h
theorem Runs.replayRequest (who : Party) (v : W32) : Runs.Statement (.replayRequest who v) := fun _ _ h _ => by cases h
theorem Runs.replayPixel : Runs.Statement (.replayPixel) := fun _ _ h _ => by cases h
theorem Runs.replayComplete : Runs.Statement (.replayComplete) := fun _ _ h _ => by cases h
theorem Runs.katInject (p : Port) (vec : List KatItem) : Runs.Statement (.katInject p vec) := fun _ _ h _ => by cases h
theorem Runs.katResult (p : Port) : Runs.Statement (.katResult p) := fun _ _ h _ => by cases h
theorem Runs.ffNow (who : Party) (p : Port) : Runs.Statement (.ffNow who p) := fun _ _ h _ => by cases h
theorem Runs.ffMoveTimeout (p : Port) : Runs.Statement (.ffMoveTimeout p) := fun _ _ h _ => by cases h
theorem Runs.ffAverageFrame (p : Port) : Runs.Statement (.ffAverageFrame p) := fun _ _ h _ => by cases h
theorem Runs.ffComposeEnd (p : Port) : Runs.Statement (.ffComposeEnd p) := fun _ _ h _ => by cases h
theorem Runs.shutOk (who : Party) (p : Port) : Runs.Statement (.shutOk who p) := fun _ _ h _ => by cases h
theorem Runs.statsSample (p : Port) : Runs.Statement (.statsSample p) := fun _ _ h _ => by cases h
theorem Runs.statsClr (who : Party) (p : Port) : Runs.Statement (.statsClr who p) := fun _ _ h _ => by cases h
theorem Runs.compose (who : Party) (p : Port) : Runs.Statement (.compose who p) := fun _ _ h _ => by cases h
theorem Runs.statsComposeEnd (p : Port) : Runs.Statement (.statsComposeEnd p) := fun _ _ h _ => by cases h
theorem Runs.wedgeArm (who : Party) (p : Port) : Runs.Statement (.wedgeArm who p) := fun _ _ h _ => by cases h
theorem Runs.sealLowDecided : Runs.Statement (.sealLowDecided) := fun _ _ h _ => by cases h
theorem Runs.sealHighDecided : Runs.Statement (.sealHighDecided) := fun _ _ h _ => by cases h
theorem Runs.identityComplete : Runs.Statement (.identityComplete) := fun _ _ h _ => by cases h
theorem Runs.requestBlockPoll (slow : Bool) : Runs.Statement (.requestBlockPoll slow) := fun _ _ h _ => by cases h
theorem Runs.requestFinalStatus : Runs.Statement (.requestFinalStatus) := fun _ _ h _ => by cases h
theorem Runs.readDigest (seq : W32) : Runs.Statement (.readDigest seq) := fun _ _ h _ => by cases h
theorem Runs.readPubkey (seq : W32) : Runs.Statement (.readPubkey seq) := fun _ _ h _ => by cases h
theorem Runs.readAudit (seq : W32) (pay : List (BitVec 8)) : Runs.Statement (.readAudit seq pay) := fun _ _ h _ => by cases h
theorem Runs.setTime (seq : W32) (pay : List (BitVec 8)) : Runs.Statement (.setTime seq pay) := fun _ _ h _ => by cases h
theorem Runs.setTimeSigned (seq : W32) (pay : List (BitVec 8)) : Runs.Statement (.setTimeSigned seq pay) := fun _ _ h _ => by cases h
theorem Runs.replayRecord (seq : W32) (pay : List (BitVec 8)) : Runs.Statement (.replayRecord seq pay) := fun _ _ h _ => by cases h
theorem Runs.retryKat (seq : W32) (pay : List (BitVec 8)) : Runs.Statement (.retryKat seq pay) := fun _ _ h _ => by cases h
theorem Runs.liftFence (seq : W32) (pay : List (BitVec 8)) : Runs.Statement (.liftFence seq pay) := fun _ _ h _ => by cases h
theorem Runs.writeZone (seq : W32) (pay : List (BitVec 8)) : Runs.Statement (.writeZone seq pay) := fun _ _ h _ => by cases h
theorem Runs.writeMask (seq : W32) (pay : List (BitVec 8)) : Runs.Statement (.writeMask seq pay) := fun _ _ h _ => by cases h
theorem Runs.writeCurve (seq : W32) (pay : List (BitVec 8)) : Runs.Statement (.writeCurve seq pay) := fun _ _ h _ => by cases h
theorem Runs.installProgRef (seq : W32) (pay : List (BitVec 8)) : Runs.Statement (.installProgRef seq pay) := fun _ _ h _ => by cases h
theorem Runs.installTableRef (seq : W32) (pay : List (BitVec 8)) : Runs.Statement (.installTableRef seq pay) := fun _ _ h _ => by cases h
theorem Runs.setEvidential (seq : W32) (pay : List (BitVec 8)) : Runs.Statement (.setEvidential seq pay) := fun _ _ h _ => by cases h
theorem Runs.setRecords (seq : W32) (pay : List (BitVec 8)) : Runs.Statement (.setRecords seq pay) := fun _ _ h _ => by cases h
theorem Runs.setTimeKey (seq : W32) (pay : List (BitVec 8)) : Runs.Statement (.setTimeKey seq pay) := fun _ _ h _ => by cases h
theorem Runs.generateKey (seq : W32) : Runs.Statement (.generateKey seq) := fun _ _ h _ => by cases h
theorem Runs.firmwareUpdate (seq : W32) (pay : List (BitVec 8)) : Runs.Statement (.firmwareUpdate seq pay) := fun _ _ h _ => by cases h
theorem Runs.zoneConfirmation (p : Port) : Runs.Statement (.zoneConfirmation p) := fun _ _ h _ => by cases h
theorem Runs.recordSigned : Runs.Statement (.recordSigned) := fun _ _ h _ => by cases h
theorem Runs.timeVerifyExpiry : Runs.Statement (.timeVerifyExpiry) := fun _ _ h _ => by cases h
theorem Runs.menEvtRead (who : Party) : Runs.Statement (.menEvtRead who) := fun _ _ h _ => by cases h
theorem Runs.enclaveWatchdogExpiry : Runs.Statement (.enclaveWatchdogExpiry) := fun _ _ h _ => by cases h
theorem Runs.metBootComplete (fwOk testOk : Bool) (bad : List W32) : Runs.Statement (.metBootComplete fwOk testOk bad) := fun _ _ h _ => by cases h
theorem Runs.facetEnableWrite (who : Party) (f : Fin 6) (v : W32) : Runs.Statement (.facetEnableWrite who f v) := fun _ _ h _ => by cases h
theorem Runs.bandEnd : Runs.Statement (.bandEnd) := fun _ _ h _ => by cases h
theorem Runs.frameUrgent (f : Fin 6) : Runs.Statement (.frameUrgent f) := fun _ _ h _ => by cases h
theorem Runs.tableSync (who : Party) (f : Fin 6) : Runs.Statement (.tableSync who f) := fun _ _ h _ => by cases h
theorem Runs.tableSyncComplete (f : Fin 6) : Runs.Statement (.tableSyncComplete f) := fun _ _ h _ => by cases h
theorem Runs.histClr (who : Party) (f : Fin 6) : Runs.Statement (.histClr who f) := fun _ _ h _ => by cases h
theorem Runs.tileCode (k : Fin 2) : Runs.Statement (.tileCode k) := fun _ _ h _ => by cases h
theorem Runs.tileVerify (k : Fin 2) (upset : Bool) : Runs.Statement (.tileVerify k upset) := fun _ _ h _ => by cases h
theorem Runs.recFreeze (who : Party) (x : Fin 4) : Runs.Statement (.recFreeze who x) := fun _ _ h _ => by cases h
theorem Runs.recExport (who : Party) (x : Fin 4) : Runs.Statement (.recExport who x) := fun _ _ h _ => by cases h
theorem Runs.recRelease (who : Party) (x : Fin 4) : Runs.Statement (.recRelease who x) := fun _ _ h _ => by cases h
theorem Runs.tableLoadStart (who : Party) : Runs.Statement (.tableLoadStart who) := fun _ _ h _ => by cases h
theorem Runs.tableLoadEnd : Runs.Statement (.tableLoadEnd) := fun _ _ h _ => by cases h
theorem Runs.dramBurstGrant (ch : Fin 4) (pend : List DramReq) : Runs.Statement (.dramBurstGrant ch pend) := fun _ _ h _ => by cases h
theorem Runs.starveTimeout (c : Fin 4) : Runs.Statement (.starveTimeout c) := fun _ _ h _ => by cases h
theorem Runs.memInitStart (who : Party) : Runs.Statement (.memInitStart who) := fun _ _ h _ => by cases h
theorem Runs.memInitDone : Runs.Statement (.memInitDone) := fun _ _ h _ => by cases h
theorem Runs.scrubRow (ups : List (Nat × Bool)) : Runs.Statement (.scrubRow ups) := fun _ _ h _ => by cases h
theorem Runs.dramTempRead (hot : Bool) : Runs.Statement (.dramTempRead hot) := fun _ _ h _ => by cases h
theorem Runs.memInject (who : Party) (v : W32) : Runs.Statement (.memInject who v) := fun _ _ h _ => by cases h
theorem Runs.windowWrite (who : Party) (addr : Addr) (v : W32) : Runs.Statement (.windowWrite who addr v) := fun _ _ h _ => by cases h
theorem Runs.windowFlushTimeout (who : Party) : Runs.Statement (.windowFlushTimeout who) := fun _ _ h _ => by cases h
theorem Runs.dmaStart (who : Party) (d : Fin 2) : Runs.Statement (.dmaStart who d) := fun _ _ h _ => by cases h
theorem Runs.dmaStop (who : Party) (d : Fin 2) : Runs.Statement (.dmaStop who d) := fun _ _ h _ => by cases h
theorem Runs.dmaDescriptorEnd (d : Fin 2) (bursts : Nat) : Runs.Statement (.dmaDescriptorEnd d bursts) := fun _ _ h _ => by cases h
theorem Runs.registerFrame (bytes : List (BitVec 8)) : Runs.Statement (.registerFrame bytes) := fun _ _ h _ => by cases h
theorem Runs.registerFrameDone : Runs.Statement (.registerFrameDone) := fun _ _ h _ => by cases h
theorem Runs.rawWordUnit (mosi : W32) (u : RawUnit) : Runs.Statement (.rawWordUnit mosi u) := fun _ _ h _ => by cases h
theorem Runs.hportRxdRead (who : Party) : Runs.Statement (.hportRxdRead who) := fun _ _ h _ => by cases h
theorem Runs.hportTxdWrite (who : Party) (v : W32) : Runs.Statement (.hportTxdWrite who v) := fun _ _ h _ => by cases h
theorem Runs.hportDoorbellWrite (who : Party) (v : W32) : Runs.Statement (.hportDoorbellWrite who v) := fun _ _ h _ => by cases h
theorem Runs.txFlush (who : Party) : Runs.Statement (.txFlush who) := fun _ _ h _ => by cases h
theorem Runs.rxFlush (who : Party) : Runs.Statement (.rxFlush who) := fun _ _ h _ => by cases h
theorem Runs.pportUnitComplete (bits : Option W32) : Runs.Statement (.pportUnitComplete bits) := fun _ _ h _ => by cases h
theorem Runs.bulkStart (who : Party) (v : W32) : Runs.Statement (.bulkStart who v) := fun _ _ h _ => by cases h
theorem Runs.bulkStop (who : Party) (data : List (BitVec 8)) : Runs.Statement (.bulkStop who data) := fun _ _ h _ => by cases h
theorem Runs.bulkDone (data : List (BitVec 8)) : Runs.Statement (.bulkDone data) := fun _ _ h _ => by cases h
theorem Runs.gpioEdge (n : Fin 32) (drive : Option Bool) : Runs.Statement (.gpioEdge n drive) := fun _ _ h _ => by cases h
theorem Runs.txLinkUp (t : Fin 2) : Runs.Statement (.txLinkUp t) := fun _ _ h _ => by cases h
theorem Runs.txDeskew (t : Fin 2) : Runs.Statement (.txDeskew t) := fun _ _ h _ => by cases h
theorem Runs.vioPacketBoundary (t : Fin 2) : Runs.Statement (.vioPacketBoundary t) := fun _ _ h _ => by cases h
theorem Runs.rxFrameStart (r : Fin 2) (vc : Fin 4) (dsk : Bool) : Runs.Statement (.rxFrameStart r vc dsk) := fun _ _ h _ => by cases h
theorem Runs.rxLongPacket (r : Fin 2) (vc : Fin 4) (dt : BitVec 8) (hdrOk crcOk : Bool) (body : List (BitVec 8)) : Runs.Statement (.rxLongPacket r vc dt hdrOk crcOk body) := fun _ _ h _ => by cases h
theorem Runs.rxFrameEnd (r : Fin 2) (vc : Fin 4) : Runs.Statement (.rxFrameEnd r vc) := fun _ _ h _ => by cases h
theorem Runs.rxMissedCount (r : Fin 2) : Runs.Statement (.rxMissedCount r) := fun _ _ h _ => by cases h
theorem Runs.intcClaim (who : Party) (t : Fin 3) : Runs.Statement (.intcClaim who t) := fun _ _ h _ => by cases h
theorem Runs.intcClaimPeek (who : Party) (t : Fin 3) : Runs.Statement (.intcClaimPeek who t) := fun _ _ h _ => by cases h
theorem Runs.intcComplete (who : Party) (t : Fin 3) (v : W32) : Runs.Statement (.intcComplete who t v) := fun _ _ h _ => by cases h
theorem Runs.intcSet (who : Party) (t : Fin 3) (n : Fin 4) (v : W32) : Runs.Statement (.intcSet who t n v) := fun _ _ h _ => by cases h
theorem Runs.intcClr (who : Party) (t : Fin 3) (n : Fin 4) (v : W32) : Runs.Statement (.intcClr who t n v) := fun _ _ h _ => by cases h
theorem Runs.holdoffExpiry (t : Fin 3) (g : Fin 16) : Runs.Statement (.holdoffExpiry t g) := fun _ _ h _ => by cases h
theorem Runs.program (who : Party) (page : BitVec 11) : Runs.Statement (.program who page) := fun _ _ h _ => by cases h
theorem Runs.group (who : Party) (page : BitVec 11) (group : BitVec 8) : Runs.Statement (.group who page group) := fun _ _ h _ => by cases h
theorem Runs.erase (who : Party) (page : BitVec 11) : Runs.Statement (.erase who page) := fun _ _ h _ => by cases h
theorem Runs.incr (who : Party) (page : BitVec 11) (slot : BitVec 2) : Runs.Statement (.incr who page slot) := fun _ _ h _ => by cases h
theorem Runs.cread (who : Party) (page : BitVec 11) (slot : BitVec 2) : Runs.Statement (.cread who page slot) := fun _ _ h _ => by cases h
theorem Runs.cfmt (who : Party) (page : BitVec 11) : Runs.Statement (.cfmt who page) := fun _ _ h _ => by cases h
theorem Runs.resolve (who : Party) : Runs.Statement (.resolve who) := fun _ _ h _ => by cases h
theorem Runs.resolveDone (met : Bool) : Runs.Statement (.resolveDone met) := fun _ _ h _ => by cases h
theorem Runs.nvsWriteStart : Runs.Statement (.nvsWriteStart) := fun _ _ h _ => by cases h
theorem Runs.nvsWriteDone (ok : Bool) (t : Nat) : Runs.Statement (.nvsWriteDone ok t) := fun _ _ h _ => by cases h
theorem Runs.nvsRetry : Runs.Statement (.nvsRetry) := fun _ _ h _ => by cases h
theorem Runs.nvsWindowRead (who : Party) (off : BitVec 11) (err : Option Bool) : Runs.Statement (.nvsWindowRead who off err) := fun _ _ h _ => by cases h
theorem Runs.nvsRecallDone : Runs.Statement (.nvsRecallDone) := fun _ _ h _ => by cases h
theorem Runs.nvsHoldRelease : Runs.Statement (.nvsHoldRelease) := fun _ _ h _ => by cases h
theorem Runs.hkRoundStart : Runs.Statement (.hkRoundStart) := fun _ _ h _ => by cases h
theorem Runs.hkConversionEnd (x : Option (Int × Nat)) : Runs.Statement (.hkConversionEnd x) := fun _ _ h _ => by cases h
theorem Runs.hkOpenWireCheck (uv : Int) : Runs.Statement (.hkOpenWireCheck uv) := fun _ _ h _ => by cases h
theorem Runs.hkUrgent (who : Party) (v : W32) : Runs.Statement (.hkUrgent who v) := fun _ _ h _ => by cases h
theorem Runs.hkUrgentDone (x : Option (Int × Nat)) : Runs.Statement (.hkUrgentDone x) := fun _ _ h _ => by cases h
theorem Runs.throttleForceWrite (who : Party) (v : W32) : Runs.Statement (.throttleForceWrite who v) := fun _ _ h _ => by cases h
theorem Runs.throttleGraceExpiry : Runs.Statement (.throttleGraceExpiry) := fun _ _ h _ => by cases h
theorem Runs.dieTrip : Runs.Statement (.dieTrip) := fun _ _ h _ => by cases h
theorem Runs.thermalResetEntry (limit : Bool) : Runs.Statement (.thermalResetEntry limit) := fun _ _ h _ => by cases h
theorem Runs.thermalResetRelease (boot : BitVec 3) : Runs.Statement (.thermalResetRelease boot) := fun _ _ h _ => by cases h
theorem Runs.shutterTrigger (who : Party) (v : W32) : Runs.Statement (.shutterTrigger who v) := fun _ _ h _ => by cases h
theorem Runs.phaseEnd (n : Fin 4) : Runs.Statement (.phaseEnd n) := fun _ _ h _ => by cases h
theorem Runs.pwmPeriod (n : Fin 4) : Runs.Statement (.pwmPeriod n) := fun _ _ h _ => by cases h
theorem Runs.currentSample (c : Fin 8) (uv : Int) : Runs.Statement (.currentSample c uv) := fun _ _ h _ => by cases h
theorem Runs.onTimeLimit (c : Fin 8) : Runs.Statement (.onTimeLimit c) := fun _ _ h _ => by cases h
theorem Runs.triggerDeadline (n : Fin 4) : Runs.Statement (.triggerDeadline n) := fun _ _ h _ => by cases h
theorem Runs.waitingProfileStart (n : Fin 4) : Runs.Statement (.waitingProfileStart n) := fun _ _ h _ => by cases h
theorem Runs.supplyWarning (rail : Fin 4) (steps : Nat) : Runs.Statement (.supplyWarning rail steps) := fun _ _ h _ => by cases h
theorem Runs.supplyRecover (rail : Fin 4) : Runs.Statement (.supplyRecover rail) := fun _ _ h _ => by cases h
theorem Runs.dipEnd : Runs.Statement (.dipEnd) := fun _ _ h _ => by cases h
theorem Runs.supplyReset : Runs.Statement (.supplyReset) := fun _ _ h _ => by cases h
theorem Runs.powerOnReset : Runs.Statement (.powerOnReset) := fun _ _ h _ => by cases h
theorem Runs.porstRelease (boot : BitVec 3) : Runs.Statement (.porstRelease boot) := fun _ _ h _ => by cases h
theorem Runs.systemResetPin : Runs.Statement (.systemResetPin) := fun _ _ h _ => by cases h
theorem Runs.systemResetRequest (who : Party) (key : BitVec 16) (sup : Bool) : Runs.Statement (.systemResetRequest who key sup) := fun _ _ h _ => by cases h
theorem Runs.supResetRequest (who : Party) (key : BitVec 16) : Runs.Statement (.supResetRequest who key) := fun _ _ h _ => by cases h
theorem Runs.pll0Loss : Runs.Statement (.pll0Loss) := fun _ _ h _ => by cases h
theorem Runs.pllLoss (pll2 : Bool) : Runs.Statement (.pllLoss pll2) := fun _ _ h _ => by cases h
theorem Runs.avsWrite (who : Party) (v : W32) : Runs.Statement (.avsWrite who v) := fun _ _ h _ => by cases h
theorem Runs.avsApply : Runs.Statement (.avsApply) := fun _ _ h _ => by cases h
theorem Runs.agePassStart (w : Option Party) : Runs.Statement (.agePassStart w) := fun _ _ h _ => by cases h
theorem Runs.agePassEnd (deg : List Int) : Runs.Statement (.agePassEnd deg) := fun _ _ h _ => by cases h
theorem Runs.clockReduce (who : Party) (v : W32) : Runs.Statement (.clockReduce who v) := fun _ _ h _ => by cases h
theorem Runs.clockRampEnd : Runs.Statement (.clockRampEnd) := fun _ _ h _ => by cases h
theorem Runs.illegalInstruction (k : Core) : Runs.Statement (.illegalInstruction k) := fun _ _ h _ => by cases h
theorem Runs.pllRelock (pll2 : Bool) : Runs.Statement (.pllRelock pll2) := fun _ _ h _ => by cases h
theorem Runs.dramRetrainDone : Runs.Statement (.dramRetrainDone) := fun _ _ h _ => by cases h
theorem Runs.systemResetEnd : Runs.Statement (.systemResetEnd) := fun _ _ h _ => by cases h
theorem Runs.supplyResetRelease (boot : BitVec 3) : Runs.Statement (.supplyResetRelease boot) := fun _ _ h _ => by cases h

end Sys2Proof.Laws
end

