-- ==== Sys2Proof/Laws/Pulon.lean ====
section
/-! SUPPORT. Laws/Pulon.lean: what every Pulon instruction has in common, for an instruction that its core issues: the state at its last tick, and what is left to
show of its own effect. -/

namespace Sys2Proof.Machine

namespace State

/-- An issued instruction never ends before the clock. -/
theorem issueTick_end (s : State) (k : Nat) {n : Nat} (h : 0 < n) : s.now ≤ s.issueTick k n + 4 * n - 1 := by simp only [issueTick]; omega

/-- The clock of an issued instruction stands at its last tick. -/
theorem issued_now (s : State) (k : Core) {n : Nat} (h : 0 < n) : (s.issued k n).now = s.issueTick k.idx n + 4 * n - 1 := by
  have := s.issueTick_end k.idx h
  simp only [issued, setCore, advanceTo]
  split
  · omega
  · rfl

@[simp] theorem issued_core (s : State) (k : Core) (n : Nat) : (s.issued k n).core k.idx = s.movedCore k n := core_setCore_same _ _ _
theorem issued_core_other (s : State) (k : Core) (n : Nat) {j : Nat} (h : j ≠ k.idx) : (s.issued k n).core j = s.core j := by
  rw [issued, core_setCore_other _ _ h]; simp [core]

/-- Issuing changes the core and the time alone. -/
theorem issued_frame (s : State) (k : Core) (n : Nat) :
    s.issued k n = { s with cores := (s.issued k n).cores, now := (s.issued k n).now, wall := (s.issued k n).wall } := by
  simp only [issued, setCore, advanceTo]
  split <;> rfl

theorem issued_reg (s : State) (k : Core) (n a : Nat) : (s.issued k n).reg a = s.reg a := by rw [issued_frame]; rfl
theorem issued_dmem (s : State) (k : Core) (n : Nat) : (s.issued k n).dmem = s.dmem := by rw [issued_frame]
theorem issued_intc (s : State) (k : Core) (n : Nat) : (s.issued k n).intc = s.intc := by rw [issued_frame]
theorem issued_lines (s : State) (k : Core) (n : Nat) : (s.issued k n).lines = s.lines := by rw [issued_frame]
theorem issued_hk (s : State) (k : Core) (n : Nat) : (s.issued k n).hk = s.hk := by rw [issued_frame]
theorem issued_rasters (s : State) (k : Core) (n : Nat) : (s.issued k n).rasters = s.rasters := by rw [issued_frame]

@[simp] theorem issued_rd (s : State) (k : Core) (n : Nat) (r : RegNo) : (s.issued k n).rd k.idx r = s.rd k.idx r := by
  simp only [rd, issued_core, movedCore]
@[simp] theorem issued_loc (s : State) (k : Core) (n : Nat) (x : LocNo) : (s.issued k n).loc k.idx x = s.loc k.idx x := by
  simp only [loc, issued_core, movedCore]
@[simp] theorem issued_effAddr (s : State) (k : Core) (n : Nat) (a : RegNo) (imm : BitVec 16) : (s.issued k n).effAddr k.idx a imm = s.effAddr k.idx a imm := by
  simp only [effAddr, issued_rd]

/-- An overrun depends on the PC and on the memory's size. -/
theorem overrunCheck_in (s : State) {k : Nat} (h : (s.core k).pc ≠ imemWords k) : s.overrunCheck k = s := by simp [overrunCheck, h]

/-- No halt waits for the end of the instruction. -/
theorem haltAfter_none (s : State) {k : Nat} (h : (s.core k).halting = false) : s.haltAfter k = s := by simp [haltAfter, h]

theorem wr_modCore (s : State) (k : Nat) (d : RegNo) (v : W32) : s.wr k d v = if d = 0#4 then s else s.modCore k (fun x => x.putW d v) := by
  unfold wr CoreSt.putW
  split
  · rfl
  · rfl

/-- A state that differs from `s` in its cores and the time, once settled. -/
theorem settle_cores_frame {s u : State} (h : u = { s with cores := u.cores, now := u.now, wall := u.wall, lines := u.lines }) :
    u.settle = { s with cores := u.settle.cores, now := u.settle.now, wall := u.settle.wall, intc := u.settle.intc, lines := u.settle.lines } := by
  rw [settle_frame u]
  generalize u.settle.intc = a
  generalize u.settle.lines = b
  conv_lhs => rw [h]

/-- A state that differs from `s` in its cores and the time, once hashes have read on. -/
theorem readOn_cores_frame {s t : State} (h : t = { s with cores := t.cores, now := t.now, wall := t.wall }) :
    s.readOn t = { s with cores := (s.readOn t).cores, now := (s.readOn t).now, wall := (s.readOn t).wall, lines := (s.readOn t).lines } := by
  rw [readOn_frame]
  generalize (s.readOn t).lines = a
  conv_lhs => rw [h]

/-- An issued instruction's state after its own effect. -/
theorem pulon_issues {k : Core} {i : Instr} {s : State} (h : Issues k i s) (n : Nat) (eff : Nat → State → State) :
    s.pulon k i n eff = s.readOn (((eff (s.issueTick k.idx n) (s.issued k n)).overrunCheck k.idx).haltAfter k.idx) := by
  obtain ⟨h1, h2, -, -, -⟩ := h
  simp only [pulon, h1, h2, Bool.and_self, if_true, issue, issued, modCore]
  congr 3
  simp [movedCore, core]

end State

open State

/-- An instruction whose effect only changes its core. -/
theorem retires_of {k : Core} {i : Instr} {n : Nat} {s : State} {eff : Nat → State → State} {f : CoreSt → CoreSt} (h : Issues k i s) (hn : 0 < n)
    (he : exec i s = commit (s.pulon k i n eff)) (hf : eff (s.issueTick k.idx n) (s.issued k n) = (s.issued k n).setCore k.idx (f (s.movedCore k n)))
    (hp : (f (s.movedCore k n)).pc ≠ imemWords k.idx)
    (hq : (f (s.movedCore k n)).halting = false) : Retires k i n s f := by
  have e1 : ((s.issued k n).setCore k.idx (f (s.movedCore k n))).overrunCheck k.idx = (s.issued k n).setCore k.idx (f (s.movedCore k n)) := by
    apply overrunCheck_in
    rw [core_setCore_same]
    exact hp
  have e3 : ((s.issued k n).setCore k.idx (f (s.movedCore k n))).haltAfter k.idx = (s.issued k n).setCore k.idx (f (s.movedCore k n)) := by
    apply haltAfter_none
    rw [core_setCore_same]
    exact hq
  have e2 : s.pulon k i n eff = s.readOn ((s.issued k n).setCore k.idx (f (s.movedCore k n))) := by rw [pulon_issues h, hf, e1, e3]
  have hs : (s.readOn ((s.issued k n).setCore k.idx (f (s.movedCore k n)))).hk.shdn = none := by
    show (s.issued k n).hk.shdn = none
    rw [issued_hk]; exact h.2.2.2.1
  have hw : Follows s (s.readOn ((s.issued k n).setCore k.idx (f (s.movedCore k n)))).settle :=
    follows_settle (t := (s.issued k n).setCore k.idx (f (s.movedCore k n))) (issued_intc s k n) (issued_lines s k n)
  refine ⟨(s.readOn ((s.issued k n).setCore k.idx (f (s.movedCore k n)))).settle, by rw [he, e2, commit, guardOutputs_none _ hs], ⟨?_, hw, fun j hj => ?_⟩, ?_, ?_⟩
  · apply settle_cores_frame
    apply readOn_cores_frame
    simp only [setCore]
    conv_lhs => rw [issued_frame]
  · rw [settle_core, readOn_core, core_setCore_other _ _ hj, issued_core_other _ _ _ hj]
  · rw [settle_now, readOn_now]; exact issued_now s k hn
  · rw [settle_core, readOn_core, core_setCore_same]

end Sys2Proof.Machine
end

