-- ==== Sys2Proof/Tests/Slice0.lean ====
section
/-! SUPPORT. Tests/Slice0.lean: the model's own tests, on small states: ill-formed terms refused, words written out from the encodings of the spec, worked values of the
spec, and for each statement a state that meets what each of its clauses asks for. -/

namespace Sys2Proof.Tests

open Sys2Proof Sys2Proof.Machine Sys2Proof.Machine.R

/-! ## Helpers -/

/-- The part out of reset, nothing else changed. -/
def up : State := { State.reset with hold := .none }

/-- Fields set in a state. -/
def State.sets (s : State) (l : List (Field × Nat)) : State := l.foldl (fun s e => s.put e.1 e.2) s

/-- The part out of reset with fields set. -/
def st (l : List (Field × Nat)) : State := State.sets up l

/-- The owner of register `a`'s group. -/
def owned (who : Party) (a : Nat) (s : State) : State :=
  match groupOf a with
  | some g => s.setNum (PSC_OWN g) who.code
  | none => s

/-- Core `k` running with the word `w` at its PC. -/
def withWord (k : Core) (w : W32) (s : State) : State :=
  let s := { s with imem := Memory.setNum s.imem (coreBase k.idx) 4 w.toNat }
  match k with
  | .sup => (s.clrBit PSC_SUP_STAT_halted).clrBit PSC_SUP_STAT_rom
  | .met => s
  | _ => s.put (PSC_SQ_STAT_state k.idx) 2

/-- The core that executes an instruction, with its word at its PC. -/
def loaded (i : Instr) (s : State) : State :=
  match encodePulon i with
  | some e => withWord e.1 e.2 s
  | none => s

/-- A field after a command. -/
def after (i : Instr) (s : State) (f : State → Nat) : Option Nat :=
  match exec i s with
  | .next t => some (f t)
  | _ => none

/-- Raster `r` running in its first frame, in line `line`, which began at tick `at_`. -/
def running (r line at_ : Nat) (s : State) : State := s.setRaster r { running := true, line := line, lineAt := at_ }

/-- A core's registers. -/
def regsOf (k : Core) (w : List (Nat × W32)) (l : List (Nat × W64)) (s : State) : State := s.modCore k.idx (fun x => { x with w := w, l := l })

/-! ## Ill-formed terms are refused -/

theorem test_wf_reset_event : WellFormed .powerOnReset = true := by decide
theorem test_wf_iret_on_sq : WellFormed (.iret .sqb) = false := by decide
theorem test_wf_lnow_raster_five : WellFormed (.lnow .sqa 0#2 5#3) = false := by decide
theorem test_wf_edge_on_met : WellFormed (.edge .met 0#2 0#11 1#4 true) = false ∧ WellFormed (.edgei .met 0#2 0#11 1#12 true) = false := by decide
theorem test_wf_strb_on_sup : WellFormed (.strb .sup 0#2 0#11 0#12) = false := by decide
theorem test_wf_ppx_length : WellFormed (.ppx .sup 0#4 2#5 false false) = false ∧ WellFormed (.ppx .sup 0#4 3#5 false false) = true ∧
    WellFormed (.ppx .met 0#4 7#5 false false) = false := by decide
theorem test_wf_no_met_units : WellFormed (.pps .met 0#4) = false ∧ WellFormed (.gsel .met 0#4 true) = false ∧ WellFormed (.gseli .met 0#5 true) = false ∧
    WellFormed (.claim .met 0#5) = false ∧ WellFormed (.free .met 0#5) = false := by decide
theorem test_wf_fence_on_sq : WellFormed (.fence .sqa 0#4 false 0#4 0#16) = false ∧ WellFormed (.flift .sqa 0#4 false 0#4 0#16) = false := by decide
theorem test_wf_lane_count : WellFormed (.strobeSample 0 (List.replicate 33 .openWire)) = false ∧ WellFormed (.strobeSample 0 (List.replicate 32 .openWire)) = true := by decide
theorem test_wf_capture_count : WellFormed (.rowClose 0 (List.replicate 33 ⟨[], [], [], []⟩)) = false := by decide
theorem test_wf_kat_vector : WellFormed (.katInject 0 [⟨0, 0, 0, 0, 3, false, false, false, false, false, 0#64, 0, 0, 0, []⟩]) = false ∧
    WellFormed (.katInject 0 [⟨0, 0, 0, 0, 2, false, false, false, false, false, 0#64, 0, 0, 0, []⟩]) = true := by decide
set_option maxRecDepth 4000 in
theorem test_wf_payload : WellFormed (.readAudit 1#32 (List.replicate 249 0#8)) = false ∧ WellFormed (.readAudit 1#32 (List.replicate 248 0#8)) = true := by decide
theorem test_wf_burst : WellFormed (.dramBurstGrant 0 [⟨3, 0#4, 32, false, [], []⟩]) = false ∧ WellFormed (.dramBurstGrant 0 [⟨3, 0#4, 64, false, [], [(8, true)]⟩]) = false ∧
    WellFormed (.dramBurstGrant 0 [⟨0, 0#4, 64, false, [], []⟩]) = false ∧ WellFormed (.dramBurstGrant 0 [⟨3, 0#4, 64, false, [1#8], []⟩]) = false ∧
    WellFormed (.dramBurstGrant 0 [⟨3, 0#4, 64, true, [1#8], [(7, true)]⟩]) = true := by decide
theorem test_wf_window : WellFormed (.windowWrite .host 0x1FFFFC#24 0#32) = false ∧ WellFormed (.windowWrite .host 0x200000#24 0#32) = true ∧
    WellFormed (.windowWrite .host 0x400000#24 0#32) = false := by decide
theorem test_wf_ageing : WellFormed (.agePassEnd []) = false := by decide

/-! ## Words written out from the encodings of the spec (R106, R110) -/

/-- Format R: opcode, d, a, b, f, and 13 zero bits. -/
theorem test_word_add : decodePulon .sqa (0b000000#6 ++ 1#4 ++ 2#4 ++ 3#4 ++ 1#1 ++ 0#13) = some (.add .sqa 1#4 2#4 3#4 true) := by decide
/-- Format I: opcode, d, a, f, one zero bit, imm16. -/
theorem test_word_ldw : decodePulon .sup (0b010010#6 ++ 5#4 ++ 15#4 ++ 0#1 ++ 0#1 ++ 0xFFF8#16) = some (.ldw .sup 5#4 15#4 0xFFF8#16) := by decide
/-- Format B: opcode, c or d, 22-bit offset. -/
theorem test_word_br : decodePulon .sqb (0b011010#6 ++ 1#4 ++ 4#22) = some (.br .sqb 1#4 4#22) := by decide
/-- Format L: opcode, x, y, a, b, u, imm12. -/
theorem test_word_ladv : decodePulon .sqa (0b100110#6 ++ 1#2 ++ 1#2 ++ 0#4 ++ 0#4 ++ 1#2 ++ 2#12) = some (.ladv .sqa 1#2 1#2 1#2 2#12) := by decide
/-- Format E: opcode, y, level, soff, mask. -/
theorem test_word_edgei : decodePulon .sqa 0xA4810003#32 = some (.edgei .sqa 0#2 16#11 3#12 true) := by decide
/-- Reserved bits are ignored (R107). -/
theorem test_word_reserved : decodePulon .sqa (0b000000#6 ++ 1#4 ++ 2#4 ++ 3#4 ++ 1#1 ++ 1#13) = some (.add .sqa 1#4 2#4 3#4 true) := by decide
/-- A word that no instruction has, and one that the core may not execute (R108). -/
theorem test_word_illegal : decodePulon .sup 0xFFFFFFFF#32 = none ∧ decodePulon .sqa (0b011111#6 ++ 0#4 ++ 0#22) = none := by decide
theorem test_no_table_word : decodeTableWord 32 0 = none := by decide

/-! ## Pulon statements: states that meet what they ask for -/

theorem witness_StepRunsFrontCommand : ({ State.reset with pending := [.powerOnReset] } : State).pending = Instr.powerOnReset :: [] := by decide
theorem witness_EmptyQueueTicks : ∀ h ∈ [Hold.none, .system, .porst], let s : State := { up with hold := h };
    s.pending = [] ∧ s.hk.shdn = none := by decide
theorem witness_EncodedInstructionDecodes : encodePulon (.edgei .sqa 0#2 16#11 3#12 true) = some (.sqa, 0xA4810003#32) ∧
    WellFormed (.edgei .sqa 0#2 16#11 3#12 true) = true := by decide
/-- 0 − 1 with flags: a borrow, negative. -/
theorem witness_AluResults : aluTable (loaded (.subi .sqa 1#4 0#4 true 1#16) up) (.subi .sqa 1#4 0#4 true 1#16) = some (.sqa, 1#4, true, 0xFFFFFFFF#32, some false, some false) ∧
    Issues .sqa (.subi .sqa 1#4 0#4 true 1#16) (loaded (.subi .sqa 1#4 0#4 true 1#16) up) := ⟨by rfl, by decide⟩
/-- The last own byte, the first address after it, and an address of neither kind. -/
theorem witness_OwnMemory : (∀ i ∈ [Instr.ldw .sqa 1#4 0#4 8191#16, .ldh .sqa 1#4 0#4 8191#16, .ldb .sqa 1#4 0#4 8191#16, .ldl .sqa 1#2 0#4 8191#16, .stw .sqa 1#4 0#4 8191#16,
      .sth .sqa 1#4 0#4 8191#16, .stb .sqa 1#4 0#4 8191#16, .stl .sqa 1#2 0#4 8191#16, .ldw .sqa 1#4 0#4 8192#16, .ldh .sqa 1#4 0#4 8192#16, .ldb .sqa 1#4 0#4 8192#16,
      .ldl .sqa 1#2 0#4 8192#16, .stw .sqa 1#4 0#4 8192#16, .stl .sqa 1#2 0#4 0#16], Issues .sqa i (loaded i up)) ∧
    (8191 : Int) = (((0#32).toInt + (8191#16).toInt) % 2 ^ 32) ∧ (8192 : Int) = (((0#32).toInt + (8192#16).toInt) % 2 ^ 32) ∧ 8191 < dmemBytes 0 ∧ dmemBytes 0 ≤ 8192 ∧
    inHost 8192 = false ∧ (loaded (.stl .sqa 1#2 0#4 0#16) up).constLen 0 ≤ 0 ∧
    0 / 8 * 8 < ((loaded (.stl .sqa 1#2 0#4 0#16) up).put (PSC_SQ_CONST_len 0) 8).constLen 0 := by decide
/-- The address of RTB_A_LINE_LEN, which every core may read, and of a group that no SQ core may read or write. -/
theorem witness_HostSpaceAccesses :
    (∀ i ∈ [Instr.ldw .sqa 1#4 2#4 0#16, .ldh .sqa 1#4 2#4 0#16, .ldb .sqa 1#4 2#4 0#16, .sth .sqa 1#4 2#4 0#16, .stb .sqa 1#4 2#4 0#16, .stw .sqa 1#4 2#4 0#16],
      ∀ h ∈ [RTB_LINE_LEN 0, SCA_ID], let s := regsOf .sqa [(2, BitVec.ofNat 32 (0x1000_0000 + h))] [] (loaded i up);
        Issues .sqa i s ∧ inHost (0x1000_0000 + h) = true ∧ s.heldHalf Core.sqa.party.code = none ∧
        ((0x1000_0000 + h : Nat) : Int) = ((s.rd 0 2#4).toInt + (0#16).toInt) % 2 ^ 32) ∧
    mayRead 4 (RTB_LINE_LEN 0) = true ∧ State.isUpper (RTB_LINE_LEN 0) = false ∧ State.upperWords (RTB_LINE_LEN 0) = [] ∧ mayRead 4 SCA_ID = false ∧ up.owns 4 (RTB_LINE_LEN 0) = false ∧ up.ipl.chosen = none ∧
    (let i := Instr.stw .sup 1#4 2#4 0#16;
      let s := regsOf .sup [(2, BitVec.ofNat 32 (0x1000_0000 + GPIO_OUT))] [] (loaded i (owned .sup GPIO_OUT up));
      Issues .sup i s ∧ inHost (0x1000_0000 + GPIO_OUT) = true ∧ wordAddr (0x1000_0000 + GPIO_OUT - 0x1000_0000) = GPIO_OUT ∧ s.heldHalf Core.sup.party.code = none ∧ s.owns Core.sup.party.code GPIO_OUT = true ∧
        ((0x1000_0000 + GPIO_OUT : Nat) : Int) = ((s.rd 4 2#4).toInt + (0#16).toInt) % 2 ^ 32) := by decide
/-- Condition 15 is never taken, condition 0 always; DBNZ with 5 and with 1. -/
theorem witness_BranchesGo : (∀ i ∈ [Instr.br .sqa 15#4 5#22, .br .sqa 0#4 5#22, .call .sqa 5#22, .dbnz .sqa 1#4 5#22, .jr .sqa 1#4, .callr .sqa 1#4],
      Issues .sqa i (regsOf .sqa [(1, 5#32)] [] (loaded i up)) ∧ Issues .sqa i (regsOf .sqa [(1, 1#32)] [] (loaded i up))) ∧
    ((6 : Nat) : Int) = ((loaded (.call .sqa 5#22) up).core 0).pc + 1 + (5#22).toInt ∧ 6 < imemWords 0 := by decide
/-- A branch to before the first instruction, and a jump past the last. -/
theorem witness_BranchOverruns : (∀ k ∈ [Core.sup, .sqb], ∀ i ∈ [Instr.br k 0#4 (BitVec.ofInt 22 (-2)), .br k 2#4 (BitVec.ofInt 22 (-2)), .call k (BitVec.ofInt 22 (-2)), .dbnz k 1#4 (BitVec.ofInt 22 (-2)), .jr k 1#4, .callr k 1#4],
      let s := regsOf k [(1, 32768#32)] [] (loaded i up);
      Issues k i s ∧ (s.core k.idx).pc + 1 + (BitVec.ofInt 22 (-2)).toInt < 0 ∧ imemWords k.idx ≤ (s.rd k.idx 1#4).toNat ∧ (s.rd k.idx 1#4).toNat ≠ 1 ∧ s.bit PSC_SUP_STAT_in_fault = false ∧
      s.get PSC_SUP_VEC_fvec ≠ imemWords 4 ∧ (s.stream k.idx).writing = false) := by decide
theorem witness_LociAndSpecialRegisters : (∀ i ∈ [Instr.lnow .sqa 1#2 0#3, .lset .sqa 1#2 1#4 2#4, .lget .sqa 1#4 1#2 true, .lins .sqa 1#2 2#2 3#2 1#4, .mfs .sqa 1#4 5#4,
      .mts .sqa 0#4 1#4], Issues .sqa i (loaded i up)) ∧ Issues .sup (.mts .sup 4#4 1#4) (loaded (.mts .sup 4#4 1#4) up) := by decide
theorem witness_IretReturns : ∀ k ∈ [Core.sup, .met], let s := loaded (.iret k) up;
    Issues k (.iret k) s ∧ (s.core k.idx).epc ≠ imemWords k.idx := by decide
theorem witness_LadvFollowsPseudocode : Issues .sqa (.ladv .sqa 1#2 1#2 1#2 2#12) (loaded (.ladv .sqa 1#2 1#2 1#2 2#12) up) := by decide
/-- The present locus is reached, the next line is not, and a target of the running line is due. -/
theorem witness_WaitAndResume : (let s := running 0 3 0 (regsOf .sqa [] [(1, packLocus 0 0 3 0 0), (2, packLocus 0 0 4 0 0)] (loaded (.wait .sqa 1#2) up));
      Issues .sqa (.wait .sqa 1#2) s ∧ ∀ j, j < 8 → ordLocus (s.loc 0 1#2) ((s.raster 0).posAt (s.issueTick 0 2 + j)) ≠ .gt) ∧
    (let s := running 0 3 0 (regsOf .sqa [] [(1, packLocus 0 0 3 0 0), (2, packLocus 0 0 4 0 0)] (loaded (.wait .sqa 2#2) up));
      Issues .sqa (.wait .sqa 2#2) s ∧ unreachable (s.loc 0 2#2) = false ∧ locRaster (s.loc 0 2#2) = 0 ∧
        ∀ j, j < 8 → ordLocus (s.loc 0 2#2) ((s.raster 0).posAt (s.issueTick 0 2 + j)) = .gt) ∧
    (let s := running 0 3 0 (up.modCore 0 (fun x => { x with waiting := some (packLocus 0 0 3 5 7) }));
      (s.core 0).waiting = some (packLocus 0 0 3 5 7) ∧ s.dueTick (packLocus 0 0 3 5 7) = some 487 ∧ Normal s ∧ (s.core 0).pc + 1 < imemWords 0) := by decide
/-- An edge entry for the running line is late, one for the next line is not, and a queue of 64 is full. -/
theorem witness_EntriesCommit : (∀ l ∈ [3, 4], ∀ q ∈ [[], List.replicate 64 (⟨.edge, 0#64, 0#32, true⟩ : QEntry)],
      let i := Instr.edgei .sqa 1#2 0#11 3#12 true;
      let s := (running 0 3 0 (regsOf .sqa [] [(1, packLocus 0 0 l 0 0)] (loaded i up))).modCore 0 (fun x => { x with queue := q });
      edgeEntry s i = some (.sqa, ⟨.edge, packLocus 0 0 l 0 0, 3#32, true⟩) ∧ Issues .sqa i s ∧
      ordLocus (packLocus 0 0 l 0 0) ((s.raster 0).posAt (s.issueTick 0 2 + 7)) = (if l = 4 then .gt else .lt)) ∧
    unreachable (packLocus 0 0 4 0 0) = false ∧ locRaster (packLocus 0 0 4 0 0) = 0 := by decide
/-- Semaphore 31 free, held by the core, held by another, and claimed in the same cycle by a core before or behind. -/
theorem witness_SemaphoresAndSignals : (∀ i ∈ [Instr.claim .sqb 31#5, .free .sqb 31#5], ∀ h ∈ [0, 13, 14], let s := loaded i (up.setNum (PSC_SEM 31) h);
      Issues .sqb i s ∧ s.num (PSC_SEM 31) = h ∧ (Map.get (fun _ => ({} : SemOps)) s.arb.sems 31).cycle ≠ s.issueTick 1 2 / 4 + 1) ∧
    (∀ j ∈ [0, 4], let o : SemOps := { cycle := 1, start := 0, claims := [j], frees := [] };
      let s := loaded (.claim .sqb 31#5) { up.setNum (PSC_SEM 31) (8 + coreCode j) with arb := { up.arb with sems := [(31, o)] } };
      Issues .sqb (.claim .sqb 31#5) s ∧ s.issueTick 1 2 / 4 + 1 = 1 ∧ Map.get (fun _ => ({} : SemOps)) s.arb.sems 31 = o) ∧
    ∀ k ∈ [Core.sqa, .sup, .met], Issues k (.sig k 7#3) (loaded (.sig k 7#3) up) := by decide
/-- The port disabled, idle, and held by a unit of the same cycle; a quad unit of 6 bits in two clocks. -/
theorem witness_PportAndSelectPins : (∀ e ∈ [0, 1], let s := loaded (.ppx .sqa 1#4 7#5 false true) (st [(PPORT_CFG_en, e)]);
      Issues .sqa (.ppx .sqa 1#4 7#5 false true) s ∧ s.bit PPORT_CFG_en = decide (e = 1) ∧ s.sio.ppUnit = none ∧ s.sio.bulk = none) ∧
    (let u : PpUnit := { core := 4, bits := 6, quad := true, rx := true, tx := 0#32, clocks := 2, edgeAt := 23, cycle := 1 };
      let s := loaded (.ppx .sqa 1#4 7#5 false true) { st [(PPORT_CFG_en, 1)] with sio := { up.sio with ppUnit := some u } };
      Issues .sqa (.ppx .sqa 1#4 7#5 false true) s ∧ s.issueTick 0 2 / 4 + 1 = u.cycle ∧ u.clocks = (u.bits + 3) / 4 ∧ s.sio.bulk = none ∧ Normal s) ∧
    (∀ i ∈ [Instr.pps .sup 1#4, .gsel .sup 1#4 true, .gseli .sup 31#5 true], Issues .sup i (loaded i up)) := by decide
/-- The last index of each class, unfenced and fenced, the first outside it, and a unit that MET may not name. -/
theorem witness_FencesAndLifts : (∀ e ∈ [(0, 127, ⟨LCA_FENCED 3, 31, 0⟩, 2 ^ 31), (1, 3, PSC_SQ_STAT_state 3, 3), (2, 5, IPL_F_STAT_fenced 5, 1), (3, 1, CER_STAT_coder, 2), (4, 7, SDR_FENCED_channels, 128),
      (5, 23, HKT_FENCED_inputs, 2 ^ 23), (7, 1, VIO_RX_STAT_fenced 1, 1)], ∀ on ∈ [true, false], let cls : BitVec 4 := BitVec.ofNat 4 e.1
      let n : BitVec 16 := BitVec.ofNat 16 e.2.1
      ∀ i ∈ [Instr.fence .sup cls false 0#4 n, .flift .sup cls false 0#4 n], let s := loaded i (st [(e.2.2.1, if on then e.2.2.2 else 0), (MEN_STAT_seal, 0)]);
        Issues .sup i s ∧ s.unitFenced e.1 e.2.1 = on ∧ s.lastFence = none ∧ s.arb.lift = none ∧ (s.port 3).liftWait = 0 ∧ s.frozen = false ∧ s.causeHeld e.1 e.2.1 = false ∧
        (s.stream 3).writing = false) := by decide
/-- A page, indices outside their class, a unit that MET may not name, and a fence that meets a lift. -/
theorem witness_FencesAndLifts_outside : (let i := Instr.fence .sup 6#4 false 0#4 2047#16;
      let s := loaded i up;
      Issues .sup i s ∧ s.arb.lift = none ∧ s.isRetired 2047 = false) ∧
    (∀ i ∈ [Instr.fence .sup 0#4 false 0#4 128#16, .flift .sup 0#4 false 0#4 128#16, .flift .sup 6#4 false 0#4 0#16], Issues .sup i (loaded i up)) ∧
    Issues .met (.fence .met 2#4 false 0#4 0#16) (loaded (.fence .met 2#4 false 0#4 0#16) up) ∧
    (let l : LiftRec := { cls := 3, i := 1, cycle := 1, core := 5, regs := [], kat := false };
      let s := loaded (.fence .sup 3#4 false 0#4 1#16) { up with arb := { up.arb with lift := some l } };
      Issues .sup (.fence .sup 3#4 false 0#4 1#16) s ∧ l.cycle = s.issueTick 4 2 / 4 + 1 ∧ l.core ≠ 4) := by decide
/-- A port that SUP fenced in the same cycle, and units whose causes hold. -/
theorem witness_FencesAndLifts_held : (let s := loaded (.fence .met 1#4 false 0#4 3#16) { st [(PSC_SQ_STAT_state 3, 3), (PSC_SQ_CAUSE_cause 3, 4)] with lastFence := some (1, 3, 1), arb := { up.arb with fresh := true } };
      Issues .met (.fence .met 1#4 false 0#4 3#16) s ∧ s.sqState 3 = 3 ∧ s.get (PSC_SQ_CAUSE_cause 3) = 4 ∧ s.issueTick 5 2 / 4 + 1 = 1 ∧ s.arb.lift = none) ∧
    (∀ e ∈ [(0, 127, ⟨LCA_FENCED 3, 31, 0⟩, 2 ^ 31, LCA_LANE_CTL_st_fail 127, 1), (5, 23, HKT_FENCED_inputs, 2 ^ 23, HKT_OPEN_inputs, 2 ^ 23)],
      let i := Instr.flift .sup (BitVec.ofNat 4 e.1) false 0#4 (BitVec.ofNat 16 e.2.1);
      let s := loaded i (st [(e.2.2.1, e.2.2.2.1), (e.2.2.2.2.1, e.2.2.2.2.2), (MEN_STAT_seal, 0)]);
      Issues .sup i s ∧ s.unitFenced e.1 e.2.1 = true ∧ s.causeHeld e.1 e.2.1 = true) ∧
    (let s := loaded (.flift .sup 1#4 false 0#4 3#16) ((st [(PSC_SQ_STAT_state 3, 3), (PSC_SQ_CAUSE_cause 3, 6), (FPP_FLT_CFG_en 3, 1), (MEN_STAT_seal, 0)]).modPort 3 (fun x => { x with fltLow := true }));
      Issues .sup (.flift .sup 1#4 false 0#4 3#16) s ∧ s.unitFenced 1 3 = true ∧ s.portCauseHeld 3 = true) := by decide
/-- A software-pending source that target S enables, a signal of MET, and words that are no instruction. -/
theorem witness_CoreTraps : (let s := ((st [(⟨INTC_ENA 2 0, 31, 0⟩, 1), (⟨INTC_SWP 2 0, 31, 0⟩, 1), (PSC_SUP_STAT_halted, 0)]).modCore 4 (fun x => { x with ie := true })).settle;
      0 % 4 = 0 ∧ max s.now (s.core 4).readyAt = 0 ∧ Normal s ∧ Settled s ∧ s.lines.sup = true ∧ s.bit PSC_SUP_STAT_halted = false ∧ (s.core 4).ie = true) ∧
    (let s := { up with men := { up.men with sig := 1 } }.modCore 5 (fun x => { x with ie := true });
      max s.now (s.core 5).readyAt = 0 ∧ Normal s ∧ s.variantM = true ∧ s.men.sig ≠ 0 ∧ (s.core 5).ie = true) ∧
    (∀ k ∈ [Core.sup, .sqd], let s := withWord k 0xFFFFFFFF#32 up;
      s.executing k = true ∧ s.bit PSC_SUP_STAT_rom = decide (k ≠ .sup) ∧ decodePulon k (s.fetchWord k.idx (s.core k.idx).pc) = none ∧ s.bit PSC_SUP_STAT_in_fault = false ∧ s.hk.shdn = none ∧
      (s.stream 3).writing = false) ∧ up.executing .met = true := by decide
/-- Two entries for the same output due first together, behind one that is due later. -/
theorem witness_EntriesFire : let e : QEntry := ⟨.edge, packLocus 0 0 3 5 7, 3#32, true⟩;
    let f : QEntry := ⟨.strobe, packLocus 0 0 3 6 7, 3#32, false⟩;
    let g : QEntry := ⟨.edge, packLocus 0 0 3 5 7, 2#32, false⟩;
    let s := running 0 3 0 (up.modCore 0 (fun x => { x with queue := [f, e, g] }));
    Normal s ∧ (s.core 0).queue = [f, e, g] ∧ s.dueTick e.target = some 487 ∧ s.dueTick g.target = some 487 ∧ s.dueTick f.target = some 583 := by decide
/-! ## Register and raster statements: states that meet what they ask for -/

theorem witness_NonOwnerWriteIgnored : writeTarget (.registerWrite .sqa (BitVec.ofNat 24 GPIO_OUT) 1#32) = some (.sqa, GPIO_OUT) ∧ up.owns Party.sqa.code GPIO_OUT = false ∧
    up.heldHalf Party.sqa.code = none ∧ Normal up := by decide
theorem witness_OwnerWriteTakesEffect : ∀ a ∈ [PSC_SUP_ENTRY, PSC_SUP_VEC, PSC_SQ_ENTRY 0, PSC_SQ_WDOG 3, GPIO_OUT, LCA_PAR_CFG, CER_VER_CFG, HKT_CH_LO 5, RTB_LOCK_DLY 1],
    Writes (owned .host a up) .host a := by decide
theorem witness_ClearingWrites : ∀ a ∈ [SCA_EVT, PSC_EVT, FPP_EVT 0, LCA_EVT, PCE_EVT, CSU_EVT, IPL_EVT0, IPL_EVT1, CER_EVT0, CER_EVT1, CER_EVT2, NVS_EVT, HKT_EVT, SDR_EVT, SIO_EVT,
    GPIO_EVT, VIO_EVT, (PSC_SQ_CNT_late 0).addr, (PSC_SQ_CNT_full 2).addr, PSC_SUP_CNT_late.addr], Writes (owned .host a up) .host a := by decide
/-- The seal is closed at reset, and of two audit entries one is due. -/
theorem witness_SealedWritesAndAudit : (∀ a ∈ [CSU_GATE 0, CSU_FF_CFG 1, PCE_WEDGE_CFG, FPP_FLT_CFG 2], Writes (owned .host a up) .host a ∧ up.frozen = true) ∧
    (let s := { up with men := { up.men with frames := 1, opens := [⟨4, 4, CSU_GATE 0, 0, 1, 1, 0⟩, ⟨4, 4, CSU_GATE 1, 0, 1, 1, 1⟩] } };
      s.hold = .none ∧ s.hk.shdn = none ∧ (s.men.opens.filter (fun e => decide (e.frame < s.men.frames))).length = 1) := by decide
theorem witness_OwnershipChanges : ∀ n ∈ [0, 4, 16, 31], Writes (owned .sup (PSC_OWN n) up) .sup (PSC_OWN n) := by decide

def lineState : State := running 0 3 0 up
/-- Raster A in its last line, free-running, to go on. -/
def lastLineState : State := running 0 1249 0 (st [(RTB_CTL_run 0, 1)])
theorem witness_LinesAndFramesStart : (Normal lineState ∧ (lineState.raster 0).running = true ∧ (lineState.raster 0).line + 1 < (lineState.raster 0).frameLines ∧
      (lineState.raster 0).cutAt = none) ∧
    (let x := lastLineState.raster 0;
      Normal lastLineState ∧ x.running = true ∧ x.frameLines ≤ x.line + 1 ∧ x.cutAt = none ∧ x.src = 7 ∧ x.lockState = 0 ∧ x.lockPending = false ∧
      lastLineState.bit (RTB_CTL_run 0) = true) := by decide

/-- A stopped raster with no lock source, and one that follows FSYNC. -/
def stoppedState : State := owned .sup (RTB_CTL 0) up
def followingState : State := stoppedState.setRaster 0 { lock := 0x2205#32, lockState := 1 }
theorem witness_RastersRunAndStop : Writes stoppedState .sup (RTB_CTL 0) ∧ Writes stoppedState .sup (RTB_CTL 4) ∧ Writes followingState .sup (RTB_CTL 0) ∧
    (stoppedState.raster 0).running = false ∧ (stoppedState.raster 0).holding = false ∧ (stoppedState.raster 0).src = 7 ∧ (stoppedState.raster 0).lockState = 0 ∧
    (followingState.raster 0).running = false ∧ (followingState.raster 0).holding = false ∧ (followingState.raster 0).src ≠ 7 := by decide

/-- Raster A locked to FSYNC with a window of 2 slots, in its last line of 24,000 ticks, with an alignment moment at `a`. -/
def lockedState (a : List Nat) : State := up.setRaster 0 { running := true, line := 1249, lock := 0x2205#32, lockState := 2, aligns := a }
/-- Raster A acquiring by restart. -/
def restartState : State := (st [(RTB_CTL_run 0, 1)]).setRaster 0 { running := true, line := 5, lock := 0x2205#32, lockState := 1, aligns := [700], acqAt := 10 }
theorem witness_LocksFollow : (∀ s ∈ [stoppedState, stoppedState.setRaster 0 { running := true }], Writes s .sup (RTB_LOCK 0) ∧ s.get (RTB_LOCK_src 1) = 7) ∧
    bitsOf (0x2205#32) 2 0 = 5 ∧ bitsOf (0x2201#32) 2 0 = 1 ∧ bitsOf (0x2205#32) 11 8 ≠ 0 ∧ bitsOf (0x2200#32) 2 0 = 0 ∧
    (∀ l ∈ [[23807], [23808], [24192], [24193], []], let s := lockedState l;
      let x := s.raster 0;
      Normal s ∧ x.running = true ∧ x.frameLines ≤ x.line + 1 ∧ (x.sinceAlign + 1) % (x.ratio + 1) = 0 ∧ x.lockState = 2 ∧ x.cutAt = none ∧
      x.lineAt + 96 * x.lineLen - 96 * min x.window (x.lineLen - 8) = 23808 ∧ x.lineAt + 96 * x.lineLen + 96 * min x.window (65535 - x.lineLen) = 24192) ∧
    (let x := restartState.raster 0;
      Normal restartState ∧ x.running = true ∧ x.holding = false ∧ x.lockState = 1 ∧ x.acq = 0 ∧ x.src = 5 ∧ x.lockPending = false ∧ restartState.bit (RTB_CTL_run 0) = true ∧
      x.aligns = 700 :: [] ∧ x.acqAt < 700 ∧ restartState.now ≤ 700 ∧ x.lineEnd ≠ 700) := by decide

/-- FSYNC at its active level (pol 0: low) with an edge at tick 10, and fallen again. -/
def fsyncState (fell : Option Nat) (high : Bool) : State := { st [(RTB_FSYNC_CFG_dir, 0), (RTB_FSYNC_CFG_pol, 0), (RTB_FSYNC_CFG_min_width, 1)] with
  fsync := { high := high, edgeAt := some 10, fellAt := fell, lastAt := some 1 } }
/-- FSYNC as an output on raster A's running line, idle and active. -/
def fsyncOutState (o : Option Nat) : State := { running 0 3 0 (owned .sup RTB_FSYNC_CFG (st [(RTB_FSYNC_CFG_dir, 1), (RTB_FSYNC_CFG_out_raster, 0), (RTB_FSYNC_CFG_out_line, 3),
  (RTB_FSYNC_CFG_width, 4)])) with fsync := { outAt := o, outExt := 0 } }
theorem witness_FrameSync : (∀ s ∈ [fsyncState none false, fsyncState none true, fsyncState (some 105) true], Normal s ∧ s.bit RTB_FSYNC_CFG_dir = false ∧
      s.bit RTB_FSYNC_CFG_pol = false ∧ s.fsync.edgeAt = some 10) ∧ (fsyncState (some 105) true).fsync.fellAt = some 105 ∧ 105 < 10 + 96 * (fsyncState none true).get RTB_FSYNC_CFG_min_width ∧
    (∀ s ∈ [fsyncOutState none, fsyncOutState (some 0)], Normal s ∧ Writes s .sup RTB_FSYNC_CFG ∧ s.bit RTB_FSYNC_CFG_dir = true ∧ (s.raster 0).running = true ∧
      (s.raster 0).line = s.get RTB_FSYNC_CFG_out_line ∧ s.now ≤ (s.raster 0).lineAt + 12 ∧ s.get RTB_FSYNC_CFG_width < (s.raster 0).slots ∧
      s.get RTB_FSYNC_CFG_out_raster = 0 ∧ bitsOf (0x102#32) RTB_FSYNC_CFG_pol.hi RTB_FSYNC_CFG_pol.lo ≠ s.get RTB_FSYNC_CFG_pol) := by decide

/-- Comparator 7 enabled in one-shot mode on a locus of the running line, and its pulse. -/
def cmpState : State := { (running 0 3 0 (owned .sup (RTB_CMP_LO 7) (st [(RTB_CMP_CTL_en 7, 1), (RTB_CMP_CTL_width 7, 2)]))).setCmp 7
  { target := packLocus 0 0 3 5 7, pulses := [⟨487, 0, 2, 0⟩] } with wlatch := [(latchKeyOf .sup (RTB_CMP_HI 7), 0#32)] }
where latchKeyOf (who : Party) (a : Nat) : Nat := State.latchKey who.code a
theorem witness_ComparatorsCommitAndFire : (Writes cmpState .sup (RTB_CMP_LO 7) ∧ cmpState.writtenWord Party.sup.code (RTB_CMP_HI 7) = some 0#32 ∧
      cmpState.bit (RTB_CMP_CTL_en 7) = true ∧ cmpState.get (RTB_CMP_CTL_mode 7) = 0 ∧ ordLocus 0#64 ((cmpState.raster 0).posAt cmpState.now) = .lt) ∧
    (Writes (owned .sup (RTB_CMP_CTL 7) (up.setCmp 7 { target := 7#64 <<< 61 })) .sup (RTB_CMP_CTL 7) ∧ up.bit (RTB_CMP_CTL_en 7) = false ∧ unreachable (7#64 <<< 61) = true) ∧
    (cmpState.dueTick (cmpState.cmp 7).target = some 487 ∧ cmpState.now ≤ 487 ∧ (cmpState.cmp 7).modeFrom ≤ cmpState.now) ∧
    ((cmpState.cmp 7).pulses = [⟨487, 0, 2, 0⟩] ∧ (cmpState.raster 0).running = true ∧
      (cmpState.raster 0).lineAt + 96 * (cmpState.raster 0).slots ≤ (cmpState.raster 0).lineEnd) := by decide

/-! ## Sequencer statements -/

/-- SQ core D in a state of R83. -/
def sqState (x : Nat) : State := owned .sup (PSC_SQ_CTL 3) (st [(PSC_SQ_STAT_state 3, x), (PSC_SQ_STAT_hashing 3, 1)])
theorem witness_SqCommandsAndHashes : ∀ x ∈ [0, 1, 2, 3], Writes (sqState x) .sup (PSC_SQ_CTL 3) ∧ (sqState x).sqState 3 = x ∧ (sqState x).bit (PSC_SQ_STAT_hashing 3) = true := by
  decide

/-- Both watchdogs at their limits, SUP's before and after its first stage. -/
def wdState (first : Bool) : State := ((owned .sup PSC_SUP_WD_CFG (st [(PSC_SQ_STAT_state 3, 2), (PSC_SQ_WDOG_limit 3, 7), (PSC_SUP_WD_CFG_limit, 9)])).modCore 3
  (fun x => { x with wdCnt := 7 })).modCore 4 (fun x => { x with wdCnt := 9, wdFirst := first })
/-- A fenced SQ core that holds semaphore 31 and runs a PPORT unit. -/
def fencedSqState : State := { owned .sup PSC_FORCE (st [(PSC_SQ_STAT_state 3, 3), (PSC_SEM_busy 31, 1), (PSC_SEM_holder 31, 7)]) with
  sio := { up.sio with ppUnit := some { core := 3, bits := 8, quad := false, rx := false, tx := 0#32 } } }
theorem witness_WatchdogsAndReleases : (∀ b ∈ [false, true], let s := wdState b;
      Normal s ∧ s.sqState 3 = 2 ∧ s.get (PSC_SQ_WDOG_limit 3) ≠ 0 ∧ s.get (PSC_SQ_WDOG_limit 3) ≤ (s.core 3).wdCnt ∧ (s.stream 3).writing = false ∧
      s.get PSC_SUP_WD_CFG_limit ≠ 0 ∧ s.get PSC_SUP_WD_CFG_limit ≤ (s.core 4).wdCnt ∧ (s.core 4).wdFirst = b ∧ Writes s .sup PSC_SUP_WD_CFG ∧ Writes s .sup PSC_SUP_WD_KICK) ∧
    (Writes fencedSqState .sup PSC_FORCE ∧ fencedSqState.sqState 3 = 3 ∧ fencedSqState.bit (PSC_SEM_busy 31) = true ∧ fencedSqState.get (PSC_SEM_holder 31) = 4 + 3) ∧
    (Writes (owned .sup PSC_FORCE (st [(PSC_SEM_busy 31, 1)])) .sup PSC_FORCE ∧ up.sqState 3 ≠ 3) ∧
    (Writes (owned .sup PSC_SUP_CTL up) .sup PSC_SUP_CTL ∧ (owned .sup PSC_SUP_CTL up).bit PSC_SUP_CTL_rom_map = true) := by decide

/-! ## Reset and supply statements -/

theorem witness_Resets : (∀ h ∈ [Hold.porst, .supply, .clock], ({ State.reset with hold := h } : State).hold ∈ [Hold.porst, .supply, .clock] ∧
      ({ State.reset with hold := h } : State).hk.shdn = none) ∧
    (∀ h ∈ [Hold.none, .system, .thermal], ({ State.reset with hold := h } : State).hold ∈ [Hold.none, .system, .thermal]) ∧
    ({ State.reset with hold := .system } : State).hold = .system ∧ Writes (owned .sup SCA_RST_CTL up) .sup SCA_RST_CTL := by decide

/-- A dip with two rails below their warning levels. -/
def dipState : State := st [(SCA_STAT_rail_warn, 3), (SCA_STAT_warn, 1), (SCA_STAT_dip, 1)]
def avsState : State := { owned .sup SCA_AVS (st [(SCA_AVS_mode, 1), (SCA_AVS_code, 4), (SCA_CLK_STAT_ramping, 1)]) with sca := { up.sca with avsWait := true, ageWait := true } }
theorem witness_SuppliesClocksAndAgeing : (Normal dipState ∧ dipState.bit SCA_STAT_rail_warn 1 = true ∧ dipState.get SCA_STAT_rail_warn ≠ 2 ^ 1 ∧
      (st [(SCA_STAT_rail_warn, 2), (SCA_STAT_warn, 1)]).get SCA_STAT_rail_warn = 2 ^ 1) ∧
    ((st [(SCA_STAT_dip, 1)]).bit SCA_STAT_dip = true ∧ (st [(SCA_STAT_dip, 1)]).bit SCA_STAT_warn = false ∧ Normal (st [(SCA_STAT_dip, 1)])) ∧
    (Writes avsState .sup SCA_AVS ∧ bitsOf (0x20A#32) 3 0 ≤ 10 ∧ bitsOf (0x20A#32) 9 8 = 2 ∧ bitsOf (0x104#32) 9 8 = 1 ∧ avsState.bit SCA_STAT_warn = false ∧
      avsState.get SCA_AVS_mode = 1 ∧ avsState.sca.avsWait = true ∧ Writes avsState .sup SCA_CLK_CTL ∧ avsState.sca.slow = false ∧ avsState.bit SCA_CLK_STAT_ramping = true) ∧
    (Writes avsState .sup SCA_AGE_CTL ∧ avsState.bit SCA_STAT_age_busy = false ∧ avsState.sca.ageWait = true ∧ avsState.bit SCA_STAT_dip = false ∧
      (st [(SCA_STAT_age_busy, 1)]).bit SCA_STAT_age_busy = true) := by decide

/-! ## Port and lane statements -/

/-- Port D in power state `pwr` with its request bit `req`, bias code `code` and hidden part `x`. -/
def pwrState (pwr req code : Nat) (x : PortSt) : State :=
  (owned .sup (FPP_PWR 3) (st [(FPP_STAT_pwr 3, pwr), (FPP_PWR_req 3, req), (FPP_BIAS_ACT_code 3, code)])).setPort 3 x
/-- One state for each step of the sequence, in the order of R138 and R139. -/
def pwrStates : List State := [pwrState 0 1 0 { reqPending := true, pwrLines := 1 }, pwrState 1 1 0 { vcm := true, pwrLines := 25 }, pwrState 1 1 0 { vcm := true, pen := true, pwrLines := 625 },
  pwrState 1 1 64 { vcm := true, pen := true, settled := true, bias := 129, pwrLines := 1 }, pwrState 1 1 64 { vcm := true, pen := true, settled := true, bias := 128, pwrLines := 1 },
  pwrState 2 0 64 { reqPending := true, pwrLines := 1 }, pwrState 3 0 64 { pen := true, pwrLines := 1 }, pwrState 3 0 0 { pen := true, zeroed := true, pwrLines := 255 }, pwrState 3 0 0 { penDone := true, pwrLines := 25 }]
theorem witness_PowerSequence : (∀ s ∈ pwrStates, Normal s ∧ Writes s .sup (FPP_PWR 3) ∧ 16 * s.get (FPP_PWR_CFG_ramp_step 3) = 64 ∧ s.get (FPP_PWR_CFG_vcm_lines 3) = 25 ∧
      s.get (FPP_PWR_SETTLE_settle_lines 3) = 625 ∧ s.get (FPP_PWR_CFG_off_lines 3) ≤ 255 ∧ s.now = (s.raster 4).lineAt ∧ 1 ≤ (s.port 3).pwrLines) ∧
    (pwrStates.map (fun s => s.get (FPP_STAT_pwr 3))) = [0, 1, 1, 1, 1, 2, 3, 3, 3] ∧ (pwrStates.map (fun s => s.get (FPP_BIAS_ACT_code 3))) = [0, 0, 0, 64, 64, 64, 64, 0, 0] ∧
    (∀ c ∈ [(0, 0), (2, 1), (1, 1), (3, 0)], let s := pwrState c.1 c.2 0 {};
      Writes s .sup (FPP_PWR 3) ∧ s.get (FPP_STAT_pwr 3) = c.1 ∧ s.bit (FPP_PWR_req 3) = decide (c.2 = 1)) := by decide

def faultState : State := { (st [(FPP_STAT_pwr 3, 2)]).setPort 3 { pen := true, settled := true } with now := 960 }
/-- Port D with one sample of kind `k` to come. -/
def strobeState (k : Nat) : State := running 3 5 0 (up.setPort 3 { runs := [⟨k, 1, 249, 95, 0, 0⟩] })
theorem witness_FaultInputsAndStrobes : (Normal faultState ∧ (faultState.port 3).pen = true ∧ (faultState.port 3).settled = true ∧ faultState.bit (FPP_FLT_CFG_en 3) = true ∧
      faultState.get (FPP_FLT_CFG_filter 3) ≤ 8 ∧ faultState.sqState 3 ≠ 3 ∧ (faultState.pos 4).tick = 0 ∧ (faultState.port 3).fltFrom + 96 * (8 - 1) ≤ faultState.now ∧ faultState.get (FPP_STAT_pwr 3) ≠ 0 ∧ (faultState.stream 3).writing = false ∧ (faultState.put (PSC_SQ_STAT_state 3) 3).sqState 3 = 3) ∧
    (∀ k ∈ [0, 2], let s := strobeState k;
      Normal s ∧ (s.raster 3).running = true ∧ (s.port 3).runs = [⟨k, 1, 249, 95, 0, 0⟩] ∧ s.bit (modeAct 3) 3 = false ∧ 249 < (s.raster 3).slots ∧ s.bit (modeAct 3) 0 = true ∧
      s.get (modeAct 3) / 2 % 4 = 1) := by decide

/-- A result of lane 31 with tag `t` and parity bit `q` for its S count. -/
def pixRes (t : Nat) (q : Bool) : PixRes := ⟨100, 31, 0, 0, t, 1, false, false, false, 7, 0, q, parityBit 20 0, 0x80000000#32⟩
def resultState (t : Nat) (q : Bool) : State := owned .sup LCA_INJ (up.setPort 3 { results := [pixRes t q] })
theorem witness_ResultsReceived : ∀ t ∈ [0, 1], ∀ q ∈ [false, true], let s := resultState t q;
    Normal s ∧ (s.port 3).results = pixRes t q :: [] ∧ (pixRes t q).lane < 32 ∧ s.laneFenced 3 31 = false ∧ (s.port 3).inj = none ∧ (s.port 3).suspended = false ∧
    (s.port 3).rows % 16 = 0 ∧ parityBit 20 7 = true ∧ Writes s .sup LCA_INJ ∧ ((s.modPort 3 (fun x => { x with inj := some (31, true, false) })).port 3).inj = some ((pixRes t q).lane, true, false) := by decide

def selfTestState (pwr : Nat) : State := (owned .sup LCA_ST_CTL (st [(FPP_STAT_pwr 3, pwr)])).setPort 3 { selfTest := some { judge := true } }
theorem witness_SelfTests : ∀ p ∈ [0, 2], let s := selfTestState p;
    Writes s .sup LCA_ST_CTL ∧ s.bit LCA_ST_STAT_busy 3 = false ∧ s.get (FPP_STAT_pwr 3) = p ∧ s.bit (FPP_CTL_live 3) = false ∧
    16 * 2 ^ s.get LCA_ST_CFG_samples + 32 ≤ (s.raster (s.counted 3)).lineLen ∧ (s.port 3).selfTest = some { judge := true } ∧ s.bit (FPP_STAT_delivering 3) = false := by decide
/-- A capture of 32 lanes with 16 samples of each step each; in legacy mode 16 lanes and 20-bit codes. -/
theorem witness_SelfTestCaptures : (let s := st [(LCA_ST_CFG_samples, 0)];
      s.captureOk 3 (List.replicate 32 (let l := List.replicate 16 65535; ⟨l, l, l, l⟩)) = true ∧
      (s.setBit (modeAct 0) 3).captureOk 0 (List.replicate 16 (let l := List.replicate 16 1048575; ⟨l, l, l, l⟩)) = true) := by decide

/-! ## Correction statements -/

/-- Trained and filled DRAM of 14 × 32 MiB. -/
def dramState (s : State) : State := State.sets s [(MEM_STAT_trained, 1), (MEM_STAT_init_done, 1), (MEM_STAT_data_size, 14)]
/-- The spec's example: with four channels address 10,553,920 lies on channel 1, in row unit 1,472 of that channel, 832 bytes on, and its check byte 1,896 bytes on (R332). -/
theorem test_dram_place : up.bit MEM_DRAM_CFG_ch4 = true ∧ up.dramPlace 10553920 = ⟨1, 1472, 832⟩ ∧ up.checkPlace 10553920 = ⟨1, 1472, 1896⟩ := by decide
/-- Port A, 8 by 2 pixels, with the last accepted result of row 1 waiting and no table active, and with one active. -/
def pixelState (a : Nat) : State := (dramState (st [(PCE_TBL_STAT_active 0, a), (PCE_TBL_ACT_LEN_active 0, 1)])).setPort 0
  { width := 8, height := 2, rows := 1, intake := [⟨100, 7, 0, 1, 1, 1, false, false, false, 33950, 0, false, false, 0x80000000#32⟩] }
/-- Port A with pixel 3 of row 1 missing, its neighbours usable and absent. -/
def interpState (n : List (Nat × PixOut)) : State := (dramState up).setPort 0 { width := 8, height := 2, rows := 1, interp := [(1, 3, 16)], pix := n }
/-- Neighbours with a bad bit or not. -/
def neighbours (x y : Nat) : List (Nat × PixOut) := [(4098, ⟨3, 40, x, x⟩), (4100, ⟨4, 50, y, y⟩)]
theorem witness_PixelsCorrected : (∀ a ∈ [0, 1], let s := pixelState a;
      Normal s ∧ (s.port 0).intake.length = 1 ∧ (s.stream 0).wedge = none ∧ (s.port 0).rows < s.rowsDue 0 ∧ 0 < (s.port 0).height ∧ 7 < (s.port 0).width ∧ s.bit (PCE_TBL_STAT_active 0) = decide (a = 1) ∧
      s.poisoned (s.get (PCE_TBL_ACT_BASE_active 0) * 4096 + 8 * 15) = false ∧ 15 < (s.slotPlace 0 (s.curSlot 0)).2 ∧ s.dramOk = true ∧
      s.slotBase 0 (s.curSlot 0) + s.planeOff 0 (s.curSlot 0) 3 + 15 < s.dataBytes) ∧
    (∀ n ∈ [neighbours 0 0, neighbours 0 1, neighbours 1 0, neighbours 1 1, []], let s := interpState n;
      Normal s ∧ (s.port 0).interp = [(1, 3, 16)] ∧ s.bit (PCE_TBL_STAT_active 0) = false ∧ (s.port 0).rows < s.rowsDue 0 ∧ 1 < (s.port 0).height ∧ 3 + 1 < (s.port 0).width ∧
      11 < (s.slotPlace 0 (s.curSlot 0)).2 ∧ s.dramOk = true ∧ s.slotBase 0 (s.curSlot 0) + s.planeOff 0 (s.curSlot 0) 3 + 11 < s.dataBytes) ∧
    (neighbours 0 1).find? (fun e => e.1 == 1 * 4096 + (3 - 1)) = some (4098, ⟨3, 40, 0, 0⟩) ∧ (neighbours 0 1).find? (fun e => e.1 == 1 * 4096 + (3 + 1)) = some (4100, ⟨4, 50, 1, 1⟩) := by decide

def tableState (m : Bool) : State := { owned .sup (PCE_TBL_CTL 0) (st [(PCE_TBL_STAT_checking 0, 1), (PCE_RAD_SEL_port, 3), (PCE_RAD_SEL_seg, 63), (PCE_RAD_SEL_coef, 3)]) with variantM := m }
theorem witness_TablesAndCoefficients : ∀ m ∈ [false, true], let s := tableState m;
    Writes s .sup (PCE_TBL_CTL 0) ∧ s.bit (PCE_TBL_STAT_checking 0) = true ∧ Writes s .sup PCE_RAD_DATA ∧ s.variantM = m := by decide

/-- Slot 15 of port A held with a raw plane, and a replay of port A's 8 by 2 pixels at pixel `n`. -/
def replayState (b : Bool) (n : Nat) : State := { ((owned .sup PCE_RPL_CTL (dramState (st [(⟨PCE_HOLD 0, 15, 0⟩, 2 ^ 15)]))).setStream 0 { rawSlots := 2 ^ 15 }).setPort 0 { width := 8, height := 2 } with
  replay := { running := b, port := 0, src := 15, dst := 1, next := n, rows := 2, fpaT := 0 } }
/-- A result with equal counts and the neutral word: the count is the pedestal's reset value and the code is 0, as no coefficient is set. -/
def katItem (c : Nat) : KatItem := { row := 0, col := 0, s := 0, b := 0, mode := 1, legacy := false, missing := false, clip := false, tw := BitVec.ofNat 64 neutralWord.toNat, cnt := c, code := 0, flags := 0, hits := [] }
/-- Port A with a vector in hand that answers as expected, or not, and with a first mismatch behind it. -/
def katState (l : List KatItem) (again : Option (List KatItem)) (due : Bool) : State := { (st [(FPP_CTL_live 0, 1)]).modStream 0 (fun x => { x with katAt := some 100 }) with
  kat := if l = [] then [] else [(0, l)]
  men := { up.men with up := true, facets := [(0, { again := again, katDue := due, katDone := !due })] } }
theorem witness_ReplaysAndKnownAnswers : (let s := replayState false 0;
      Writes s .sup PCE_RPL_CTL ∧ s.bit ⟨PCE_HOLD 0, 15, 0⟩ 15 = true ∧ (s.stream 0).rawSlots / 2 ^ 15 % 2 = 1 ∧ bitsOf (0x800007C0#32) 9 6 = 15 ∧ bitOf (0x800007C0#32) 31 = true) ∧
    (∀ n ∈ [15, 16], Normal (replayState true n) ∧ (replayState true n).replay.running = true ∧ (replayState true n).replay.next = n) ∧
    ((replayState true 15).port 0).width * 2 = 16 ∧ (replayState true 15).dramOk = true ∧ 15 < ((replayState true 15).slotPlace 0 1).2 ∧
    (replayState true 15).slotBase 0 1 + (replayState true 15).planeOff 0 1 3 + 15 < (replayState true 15).dataBytes ∧
    (∀ l ∈ [[], [katItem 16384], [katItem 0]], ∀ a ∈ [none, some [katItem 0]], ∀ d ∈ [false, true], let s := katState l a d;
      Normal s ∧ s.metUp = true ∧ Map.get (fun _ => []) s.kat 0 = l ∧ (s.facetMen 0).again = a ∧ (s.facetMen 0).katDue = d ∧ (s.facetMen 0).katDone = !d ∧ (s.stream 0).katAt = some 100 ∧ s.bit (FPP_CTL_live 0) = true ∧ (s.port 0).closed = true ∧
      (s.stream 0).writing = false ∧ s.sqState 0 ≠ 3) ∧
    (katState [] none true).katOk 0 ((katState [] none true).windowHits 0) [katItem 16384] = true ∧ (katState [] none true).katOk 0 ((katState [] none true).windowHits 0) [katItem 0] = false := by decide

/-! ## Calibration statements -/

/-- Port C in flat-field state `f` with hidden part `x`. -/
def csuState (f r : Nat) (x : CsuSt) : State := ((owned .sup (CSU_CTL 2) (st [(CSU_STAT_state 2, f), (CSU_STAT_ready 2, r)])).setCsu 2 x).setPort 2 { width := 8, height := 2 }
/-- Port C with its first averaging frame in slot 3 and its target buffer at 16 MiB. -/
def avgState : State := State.sets (dramState (csuState 3 0 { avgSlots := [3] })) [(CSU_TGT_BASE0_target 2, 4096)]
theorem witness_CalibrationRuns_average : ∀ a, avgState.poisoned a = false := fun _ => rfl
theorem witness_CalibrationRuns : (∀ c ∈ [(0, 0), (1, 0), (5, 0), (0, 1)], let s := csuState c.1 c.2 {};
      Writes s .sup (CSU_CTL 2) ∧ s.ffState 2 = c.1 ∧ s.bit (CSU_STAT_ready 2) = decide (c.2 = 1) ∧ (s.stream 2).wedge = none ∧ s.bit (CSU_CTL_arm 2) = false) ∧
    (∀ n ∈ [5, 6], let s := csuState 1 0 { moveFrames := n };
      Normal s ∧ s.ffState 2 = 1 ∧ s.get (CSU_SHT_CFG_move_to 2) = 6 ∧ (s.csuOf 2).moveFrames = n) ∧
    (let s := avgState;
      Normal s ∧ (s.csuOf 2).avgSlots = 3 :: [] ∧ (s.csuOf 2).averaged = 0 ∧ s.dramOk = true ∧ s.slotBase 2 3 + s.planeOff 2 3 0 + 2 * s.pixels 2 ≤ s.tgtBase 2 0 ∧
      s.tgtBase 2 0 + 8 * s.pixels 2 ≤ s.dataBytes) ∧
    ((csuState 4 0 { composing := true }).csuOf 2).composing = true ∧ ((csuState 4 0 { composing := true }).csuOf 2).avgSlots = [] ∧
    (∀ g ∈ [7, 6], let s := csuState 0 0 { sampleDue := true, lastDone := some (1, 8), prevDone := some (0, g) };
      Normal s ∧ (s.csuOf 2).sampleDue = true ∧ (s.csuOf 2).lastDone = some (1, 8) ∧ (s.csuOf 2).prevDone = some (0, g) ∧ State.unsampled (s.marksOf (2 * 16 + 1)) = false ∧
      State.unsampled (s.marksOf (2 * 16)) = false ∧ s.marksOf (2 * 16 + 1) / 2 ^ 14 % 2 = 0 ∧ s.marksOf (2 * 16) / 2 ^ 14 % 2 = 0 ∧ s.ffState 2 = 0) ∧
    ((csuState 0 0 { statComposing := true }).csuOf 2).statComposing = true ∧ ((csuState 0 0 {}).csuOf 2).statComposing = false := by decide

/-! ## Enclave statements -/

/-- Field values `l`, and MET running with hidden part `m`. -/
def metState (l : List (Field × Nat)) (m : MenSt) : State := { st l with men := { m with up := true } }
def sealStates : List State := [metState [(MEN_STAT_seal, 0)] {}, metState [(MEN_STAT_seal, 1)] { staging := [(0, [1#32])] }, metState [(MEN_STAT_seal, 2)] {},
  metState [(MEN_STAT_seal, 1)] { busy := some (1, 1, [], false) }, up, { up with variantM := false }, metState [(MEN_STAT_seal, 0)] { busy := some (1, 0x12, [1#8], true), staging := [(0, [1#32]), (1, [2#32])] }]
theorem witness_SealDecisions : (∀ s ∈ sealStates, Normal s) ∧ sealStates.map (fun s => (s.sealState, s.metUp, s.variantM, s.men.busy.isSome)) =
    [(0, true, true, false), (1, true, true, false), (2, true, true, false), (1, true, true, true), (2, false, true, false), (2, false, false, false), (0, true, true, true)] := by decide

/-- The descriptor of a zone of columns 0–3 and rows 0–1, with threshold 5 and one pixel enough. -/
def zoneBytes : List (BitVec 8) := [0#8, 0#8, 0#8, 0#8, 3#8, 0#8, 1#8, 0#8, 5#8, 0#8, 0#8, 0#8, 1#8, 1#8, 1#8, 128#8, 1#8, 0#8, 0#8] ++ List.replicate 13 0#8
/-- Port A, 8 by 2 pixels, in line `l` of its frame, with a defined zone, whose frame in slot 3 with marks `m` awaits its confirmation. -/
def zoneState (l m : Nat) : State := { ((running 0 l 900 (metState [(PCE_SLOT_last 0, 3), (MEN_STAT_time_verified, 1)] { built := [[1#8, 2#8]], winAct := [(0, zoneBytes)], facets := [(0, { confirm := true })] }))).setPort 0
  { width := 8, height := 2 } with marks := [(3, m)] }
theorem witness_EnclaveEvents : (∀ c ∈ [(0, false, false), (1, false, false), (1, true, false), (1, false, true)], let s := { (st [(NVS_STAT_ready, c.1)]) with men := { up := c.2.1, fwFail := c.2.2 } };
      s.variantM = true ∧ Normal s ∧ s.men.up = c.2.1 ∧ s.men.fwFail = c.2.2 ∧ s.bit NVS_STAT_ready = decide (c.1 = 1)) ∧
    (zoneState 1 0).confirmTick 0 = none ∧ (∀ m ∈ [0, 1, 128, 512], let s := zoneState 2 m;
      Normal s ∧ s.variantM = true ∧ s.bit MEN_STAT_time_verified = true ∧ s.men.built = [1#8, 2#8] :: [] ∧ s.heldHalf Party.sup.code = none ∧ mayRead Party.sup.code MEN_EVT = true ∧
      s.metUp = true ∧ (s.facetMen 0).confirm = true ∧ s.get (PCE_SLOT_last 0) = 3 ∧ (s.facetMen 0).blank = false ∧ s.confirmTick 0 = some 3972 ∧ s.marksOf (0 * 16 + 3) = m ∧ zoneDefined (s.zoneDesc 0 0) = true) := by decide

/-- The enclave as its request finds it: off, busy, served already, sealed, open. -/
def requestStates : List State := [up, metState [] { busy := some (7, 1, [], false) }, metState [(⟨MEN_RSP_SEQ, 31, 0⟩, 9)] {}, metState [(MEN_STAT_seal, 2)] {}, metState [(MEN_STAT_seal, 0)] {}]
theorem witness_RequestsTaken : (∀ s ∈ requestStates, Normal s) ∧ requestStates.map (fun s => (s.metUp, s.men.busy.isSome, s.reg MEN_RSP_SEQ, s.sealState)) =
      [(false, false, 0#32, 2), (true, true, 0#32, 2), (true, false, 9#32, 2), (true, false, 0#32, 2), (true, false, 0#32, 0)] ∧
    (let s := { metState [] {} with band := [(0xBFFF00, 9#8), (0xBFFF04, 1#8)] };
      Memory.num s.band 0xBFFF00 4 = (9#32).toNat ∧ Memory.num s.band 0xBFFF04 4 = 1 ∧ s.men.busy = none ∧ s.reg MEN_RSP_SEQ ≠ 9#32 ∧ s.metUp = true ∧ Normal s) ∧
    (∀ a, State.wordErr { metState [] {} with band := [(0xBFFF00, 9#8), (0xBFFF04, 1#8)] } a = none) ∧
    (metState [] { busy := some (9, 1, [], true) }).men.busy = some ((9#32).toNat, 1, [], true) ∧
    (let s := { metState [] {} with band := [(0xBFFF00, 9#8), (0xBFFF04, 3#8), (0xBFFF06, 2#8)], mem := { errs := [(State.wordNo true 0xBFFF08, some ⟨true, 5⟩)] } };
      s.metUp = true ∧ Normal s ∧ s.reg MEN_RSP_SEQ ≠ 9#32 ∧ Memory.num s.band 0xBFFF00 4 = (9#32).toNat ∧ Memory.num s.band 0xBFFF04 4 = 3 + 2 * 2 ^ 16 ∧
      s.wordErr (State.wordNo true 0xBFFF00) = none ∧ (s.wordErr (State.wordNo true 0xBFFF08)).any (·.ue) = true) := by
  refine ⟨by decide, by decide, by decide, fun _ => rfl, by decide, by decide⟩

/-- What the service requests find: a trail entry, a frame with a raw plane in slot 1 of port A's ring of 4, a key, a port fenced by its known-answer test, and fenced lanes. -/
def serviceState (retry : List (Nat × Option Nat)) : State := { ((metState [(⟨LCA_FENCED 0, 31, 0⟩, 6), (LCA_LANE_CTL_cause 1, 2), (LCA_LANE_CTL_cause 2, 2), (LCA_LANE_CTL_st_fail 2, 1), (PSC_SQ_STAT_state 0, 3), (MEM_STAT_trained, 1), (MEM_STAT_init_done, 1), (MEM_STAT_data_size, 14)]
  { trail := [(3, List.replicate 32 1#8)], pubKey := List.replicate 64 7#8, digest := List.replicate 32 5#8, facets := [(0, { katFence := true })], retryAt := retry, frames := 4000 }).setStream 0
  { outCfg := 4#32 }).setPort 0 { width := 8, height := 2 } with dram := [(4096 + 3 * 4096 + 4096 + 12, 32#8)] }
theorem witness_ServiceRequests : (∀ r ∈ [[], [(0, some 400)], [(0, some 401)]], let s := serviceState r;
      Normal s ∧ s.metUp = true ∧ s.men.busy = none ∧ s.reg MEN_RSP_SEQ ≠ 9#32 ∧ s.men.digest.length = 32 ∧ s.men.pubKey.length = 64 ∧ s.men.frames = 4000 ∧
      (Map.get (fun _ => []) s.men.trail (pf [3#8, 0#8] 0 2)).length = 32 ∧ s.ringSlots 0 = 4 ∧ s.dramNum (s.slotBase 0 1 + 12) 1 / 32 % 2 = 1 ∧ s.recDepth < 512 ∧
      (s.facetMen 0).katFence = true ∧ s.laneFenced (1 / 32) (1 % 32) = true ∧ s.bit (LCA_LANE_CTL_st_fail 1) = false ∧ s.lastFence ≠ some (0, 1, s.pulonCycle) ∧
      s.laneFenced (2 / 32) (2 % 32) = true ∧ s.bit (LCA_LANE_CTL_st_fail 2) = true ∧ s.laneFenced (127 / 32) (127 % 32) = false) ∧
    [Map.get (fun _ => none) (serviceState []).men.retryAt 0, Map.get (fun _ => none) (serviceState [(0, some 400)]).men.retryAt 0, Map.get (fun _ => none) (serviceState [(0, some 401)]).men.retryAt 0] =
      [none, some 400, some 401] ∧ (metState [] {}).men.pubKey = [] ∧
    pf [1#8, 0#8, 0#8, 0#8] 0 2 = 1 ∧ pf [0#8, 0#8, 127#8, 0#8] 0 2 = 0 ∧ pf [0#8, 0#8, 127#8, 0#8] 2 2 = 127 := by decide

/-- The seal open, with the first 201 samples of port A's curve staged, and ready memory. -/
def openState : State := metState [(MEN_STAT_seal, 0), (MEM_STAT_trained, 1), (MEM_STAT_init_done, 1), (MEM_STAT_data_size, 14)] { staging := [(0, List.replicate 201 0#32)] }
def recordConfig : List (BitVec 8) := [1#8, 0#8, 1#8, 0#8, 1#8, 0#8, 1#8, 0#8, 0#8, 0#8, 15#8, 4#8, 0#8, 0#8, 0#8, 0#8] ++ List.replicate 16 0#8
set_option maxRecDepth 4000 in
theorem witness_ParameterRequests : (Normal openState ∧ openState.metUp = true ∧ openState.men.busy = none ∧ openState.reg MEN_RSP_SEQ ≠ 9#32 ∧ openState.sealState = 0) ∧
    zoneValid zoneBytes = true ∧ ([0#8, 63#8, 0#8, 0#8] ++ zoneBytes).length = 36 ∧ pf [3#8, 255#8, 1#8, 0#8] 1 2 = 511 ∧ ([3#8, 255#8, 1#8, 0#8] ++ List.replicate 160 1#8 : List (BitVec 8)).length = 164 ∧
    ([0#8, 0#8, 201#8, 0#8] ++ List.replicate 224 0#8 : List (BitVec 8)).length = 228 ∧ (Map.get (fun _ => []) openState.men.staging 0).length = 201 ∧ pf [0#8, 0#8, 201#8, 0#8] 2 2 = 201 ∧
    (∀ n, n < 16 → openState.get (CER_S_DELTA_delta_act n) = 0) ∧ ((st [(CER_S_DELTA_delta_act 15, 1)]).get (CER_S_DELTA_delta_act 15) ≠ 0) ∧
    recordConfig.length = 32 ∧ pf recordConfig 10 1 < 16 ∧ 4 ≤ pf recordConfig 11 1 ∧ recordConfig.drop 16 = List.replicate 16 0#8 ∧
    openState.dramOk = true ∧ 0xFFFF + 4 ≤ openState.dataBytes := by decide
theorem witness_ParameterRequests_poison : ∀ a, openState.poisoned a = false := fun _ => rfl

/-! ## Image pipeline and compression statements -/

def frameOf (rows : Nat) : FacetFrame := { slot := 1, cnt := 5, w := 8, rows := rows, h := rows }
/-- Facet 5 enabled (or not) with hidden part `x`. -/
def facetState (en : Nat) (l : List (Field × Nat)) (x : FacetSt) : State := (owned .sup (IPL_CTL 5) (st ((IPL_CTL_en 5, en) :: l))).setFacet 5 x
/-- Facet 5 at the end of band `b` of a frame of two bands. -/
def bandState (b : Nat) : State :=
  let s := facetState 1 [] { run := some { frame := frameOf 65, band := b } };
  { s with ipl := { s.ipl with band := some 5, loaded := some 5, cont := true, startAt := 9, endAt := 99 } }
theorem witness_FacetsRun : (∀ c ∈ [(0, 0), (1, 0), (0, 1)], let s := facetState c.1 [(IPL_F_STAT_syncing 5, c.2), (IPL_SCHED_deadline 5, 10 * c.1)] { waiting := [frameOf 8], histValid := true };
      Writes s .sup (IPL_CTL 5) ∧ s.bit (IPL_CTL_en 5) = decide (c.1 = 1) ∧ (s.facet 5).run = none ∧ s.bit (IPL_F_STAT_syncing 5) = decide (c.2 = 1) ∧
      s.get (IPL_SCHED_deadline 5) = 10 * c.1 ∧ s.ipl.band = none ∧ s.ipl.chosen = none) ∧
    (∀ b ∈ [0, 1], let s := bandState b;
      Normal s ∧ s.ipl.band = some (5 : Fin 6).val ∧ (s.facet 5).run = some { frame := frameOf 65, band := b } ∧ s.ipl.loaded = some 5 ∧ s.ipl.cont = true ∧ s.ipl.chosen = none ∧ s.enforced = false ∧
      (State.sets s [(HKT_THR_STAT_state, 2)]).enforced = true ∧ s.now ≤ s.ipl.endAt ∧ s.ipl.startAt < s.ipl.endAt ∧ s.bit (IPL_CTL_en 5) = true ∧
      s.bit (IPL_F_STAT_fenced 5) = false ∧ ∀ g, g < 6 → g ≠ 5 → s.bit (IPL_CTL_en g) = false) ∧ State.bandsOf (frameOf 65) = 2 := by decide

def jobOfTest : CerJob := { id := 4, unit := 3, port := 0, slot := 0, plane := 1, frame := 9, epoch := 0, w := 257, h := 1, rows := some 1, started := true, codable := [0] }
/-- Coder 1 with its first tile of two in hand. -/
def codeState : State := { up with cer := { jobs := [jobOfTest], coders := [(1, { cur := some (4, 0, 0) })] } }
/-- A coded tile of four equal samples, of unit `u`. -/
def tileOfTest (u : Nat) : CodedTile := ⟨4, u, 0, 0, 4, 1, 0, [5, 5, 5, 5], [5, 5, 5, 5], (codeTile 0 [[5, 5, 5, 5]]).1⟩
/-- Coder 1's lane with that tile, and rings of 4 KiB in the data space. -/
def verifyState (u : Nat) : State := { (dramState (st [(CER_S_OUT_SIZE_ring 3, 1), (CER_REC_SIZE_ring 0, 1)])) with cer := { jobs := [{ jobOfTest with unit := u, waiting := 1 }], coders := [(1, { queue := [tileOfTest u] })] } }
theorem witness_TilesCodedAndVerified_code : Normal codeState ∧ (codeState.coder (1 : Fin 2)).cur = some (4, 0, 0) ∧ codeState.jobOf 4 = some jobOfTest ∧
    0 + 1 < (jobOfTest.w + 255) / 256 ∧ min 256 (jobOfTest.w - 256 * 0) = 256 ∧ min 8 (jobOfTest.rows.getD jobOfTest.h - 8 * 0) = 1 := by decide
theorem witness_TilesCodedAndVerified_samples : ∃ rows, codeState.tileSamples jobOfTest 0 0 256 1 = some rows := by
  have all : ∀ {α : Type} (c : α) (l : List Nat), l.mapM (fun _ => some c) = some (l.map (fun _ => c)) := fun c l => by induction l <;> simp_all
  have row : (fun y => (List.range 256).mapM (fun i => codeState.sampleAt jobOfTest (8 * 0 + y) (256 * 0 + i))) = fun _ => some ((List.range 256).map (fun _ => 0)) :=
    funext fun _ => all 0 (List.range 256)
  exact ⟨_, (congrArg (fun f => (List.range 1).mapM f) row).trans (all _ _)⟩
theorem witness_TilesCodedAndVerified : ∀ u ∈ [3, 16], let s := verifyState u;
    Normal s ∧ (s.coder (1 : Fin 2)).queue = tileOfTest u :: [] ∧ (s.jobOf 4).map (fun j => (j.ended, j.unit, j.out)) = some (false, u, []) ∧ s.openJob u = s.jobOf 4 ∧
    s.dramOk = true ∧ s.ringBase u + s.ringSize u ≤ s.dataBytes ∧ 8 + (tileOfTest u).payload.length ≤ s.ringSize u ∧
    decodeTile 0 4 1 (tileOfTest u).payload = [5, 5, 5, 5] ∧ s.bit CER_STAT_coder (1 : Fin 2) = false ∧ (tileOfTest u).payload.length < rawLen 4 1 := by decide

/-- Recorder 2 in state `n` with `r` frame records held. -/
def recState (n : Nat) (r : List RingRec) (l : List (Field × Nat)) : State :=
  let s := owned .sup (CER_REC_CTL 2) (st ((CER_REC_STAT_state 2, n) :: l));
  { s with cer := { rings := [(18, { recs := r, trigAt := 1 })] } }
def loadState (b : Nat) : State := owned .sup CER_LOAD_CTL (st [(CER_LOAD_STAT_busy, b)])
theorem witness_RecordersAndTableLoads : (∀ c ∈ [(1, []), (2, []), (3, []), (3, [⟨0, 4, 7, false⟩]), (0, [])], let s := recState c.1 c.2 [];
      Writes s .sup (CER_REC_CTL 2) ∧ s.recState 2 = c.1 ∧ s.cer.jobs = [] ∧ (s.ring (16 + 2)).recs = c.2 ∧ s.recBoth 2 2 = false) ∧
    (recState 1 [] [(CER_REC_CFG_post 2, 2)]).get (CER_REC_CFG_post 2) ≠ 0 ∧
    (∀ b ∈ [0, 1], Writes (loadState b) .sup CER_LOAD_CTL ∧ (loadState b).bit CER_LOAD_STAT_busy = decide (b = 1)) := by decide
theorem witness_RecordersAndTableLoads_guard : ∀ a, (loadState 0).guarded a = false := fun _ => rfl
/-- A table load of one chunk whose last byte is `b`. -/
def chunkState (b : BitVec 8) : State := { dramState (loadState 1) with dram := [(4095, b)] }
/-- Of two chunks that differ in their check value alone, one at least is wrong. -/
theorem witness_RecordersAndTableLoads_chunk : (chunkState 1#8).badChunk 0 1 = some 0 ∨ (chunkState 2#8).badChunk 0 1 = some 0 := by
  have parts : ∀ f : Nat → BitVec 8, (((List.range 4096).map f).take 4092, ((List.range 4096).map f).drop 4092) = ((List.range 4092).map f, (List.range 4).map (fun i => f (4092 + i))) := by
    intro f
    have h : List.range 4096 = List.range 4092 ++ (List.range 4).map (4092 + ·) := List.range_add (n := 4092) (m := 4)
    rw [h, List.map_append, List.take_left' (by simp), List.drop_left' (by simp), List.map_map]
    rfl
  have one : ∀ p : Nat → Bool, (List.range 1).find? p = if p 0 then some 0 else none := fun p => by cases h : p 0 <;> simp [List.range_succ, h]
  have image : ∀ b : BitVec 8, (chunkState b).imageBytes (0 + 4096 * 0) 4096 = (List.range 4096).map (fun i => Memory.byte [(4095, b)] (0 + i)) := by
    intro b
    refine List.map_congr_left fun i hi => ?_
    have small : i < 4096 := List.mem_range.mp hi
    have extent : (chunkState b).dramExtent = (dramState (loadState 1)).dramExtent := rfl
    have large : 4096 ≤ (dramState (loadState 1)).dramExtent := by decide
    have inside : 0 + 4096 * 0 + i < (chunkState b).dramExtent := by rw [extent]; omega
    exact if_pos (by simp only [Bool.and_eq_true, decide_eq_true_eq]; exact ⟨inside, rfl⟩)
  have chunk : ∀ b : BitVec 8, (chunkState b).badChunk 0 1 =
      if crc32 ((List.range 4092).map (fun i => Memory.byte [(4095, b)] (0 + i))) != ofLe ((List.range 4).map (fun i => Memory.byte [(4095, b)] (0 + (4092 + i)))) then some 0 else none := by
    intro b
    have h := parts (fun i => Memory.byte [(4095, b)] (0 + i))
    simp only [Prod.mk.injEq] at h
    rw [← h.1, ← h.2, ← image b]
    exact one _
  have same : (List.range 4092).map (fun i => Memory.byte [(4095, 1#8)] (0 + i)) = (List.range 4092).map (fun i => Memory.byte [(4095, 2#8)] (0 + i)) := by
    refine List.map_congr_left fun i hi => ?_
    have : i < 4092 := List.mem_range.mp hi
    have ne : ¬ (4095 = i) := by omega
    have at_ : ∀ b : BitVec 8, Memory.byte [(4095, b)] (0 + i) = 0#8 := fun b => by simp [Memory.byte, Map.get, memDefault, ne]
    rw [at_, at_]
  rw [chunk, chunk, same]
  have h1 : ofLe ((List.range 4).map (fun i => Memory.byte [(4095, 1#8)] (0 + (4092 + i)))) = 16777216 := by decide
  have h2 : ofLe ((List.range 4).map (fun i => Memory.byte [(4095, 2#8)] (0 + (4092 + i)))) = 33554432 := by decide
  rw [h1, h2]
  generalize crc32 _ = c
  by_cases h : c = 16777216 <;> simp [h]

/-- Port A's replay of frame 7 done into slot 1, and its recorder in state `n`, with frame 7 or frame 8. -/
def appendState (n f : Nat) : State := { ((dramState (st [(CER_REC_STAT_state 0, n), (CER_REC_CFG_replay_en 0, 1)])).setPort 0 { width := 8, height := 2 }) with
  replay := { running := true, port := 0, src := 15, dst := 1, next := 16, rows := 2, fpaT := 0 }
  dram := [(307200, 7#8)]
  cer := { rings := [(16, { recs := [⟨0, 4, f, false⟩] })] } }
theorem witness_RecordersAndTableLoads_append : ∀ c ∈ [(1, 7), (3, 7), (0, 7), (1, 8)], let s := appendState c.1 c.2;
    Normal s ∧ s.replay.running = true ∧ (s.port s.replay.port).width * s.replay.rows ≤ s.replay.next ∧ s.dramOk = true ∧ s.slotBase 0 1 + 4096 ≤ s.dataBytes ∧ s.cer.jobs = [] ∧
    s.recState 0 = c.1 ∧ s.bit (CER_REC_CFG_replay_en 0) = true ∧ s.dramNum (s.slotBase 0 15) 4 = 7 ∧ ((∃ e ∈ (s.ring 16).recs, e.frame = 7) ↔ c.2 = 7) := by decide

/-! ## Memory statements -/

/-- Memory that answers, with field values `l` and hidden part `m`. -/
def memState (l : List (Field × Nat)) (m : MemSt) : State := { owned .sup MEM_INIT (st ([(MEM_STAT_trained, 1), (MEM_STAT_init_done, 1), (MEM_STAT_data_size, 14)] ++ l)) with mem := m }
theorem witness_MemoryServes_bursts : (∀ s ∈ [memState [(MEM_QOS_g1, 0), (MEM_QOS_g3, 2)] {}],
      Normal s ∧ s.bit MEM_STAT_trained = true ∧ s.dramOk = true ∧ 128 < s.dataBytes ∧ (s.dramPlace 128).channel = (0 : Fin 4).val ∧ (s.dramPlace 128).channel ≠ (2 : Fin 4).val ∧
        (s.dramPlace 7168).channel = (0 : Fin 4).val ∧ s.qosOf 1 ≤ s.granted 0 1 ∧ s.granted 0 3 < s.qosOf 3) ∧ (memState [(MEM_STAT_init_busy, 1)] {}).bit MEM_STAT_init_busy = true := by decide
theorem witness_MemoryServes_scrub : (∀ n ∈ [0, 262143], let s := memState [(MEM_SCRUB_CFG_lines, 4), (MEM_SCRUB_POS_next, n)] { scrubLines := 4 };
      s.get MEM_SCRUB_CFG_lines ≠ 0 ∧ s.get MEM_SCRUB_CFG_lines ≤ s.mem.scrubLines ∧ s.dramOk = true ∧ s.get MEM_SCRUB_POS_next = n ∧ n + 1 < 2 ^ 24 ∧ s.dataBytes / 1792 = 262144) ∧
    16 ≤ (memState [] { tempLines := 16 }).mem.tempLines ∧ (memState [(MEM_STAT_trained, 0)] {}).bit MEM_STAT_trained = false := by decide
theorem witness_MemoryServes_window : (let s := memState [] { held := [(1, some (16, 7#32))] };
      s.heldHalf Party.sup.code = some (16, 7#32) ∧ s.windowOk 16 = true ∧ s.windowOk 20 = true ∧ s.mem.inj = none ∧ s.wordErr (State.wordNo false 16) = none ∧
      s.windowAddr 0x200014 / 4 % 2 = 1 ∧ s.heldHalf Party.sup.code = some (s.windowAddr 0x200014 / 4 * 4 - 4, 7#32)) ∧
    (let s := memState [] {};
      s.owns Party.sup.code 0x200010 = true ∧ s.windowAddr 0x200010 / 4 % 2 = 0 ∧ s.heldHalf Party.sup.code = none ∧ wordAddr (0x200013#24).toNat = 0x200010) := by decide
theorem witness_MemoryServes : ∀ c ∈ [(1, 0, 0), (0, 0, 0), (1, 1, 0), (1, 0, 1)], let s := memState [(MEM_STAT_trained, c.1), (MEM_STAT_init_busy, c.2.1), (MEM_STAT_init_done, c.2.2)] {};
      Writes s .sup MEM_INIT ∧ Writes s .sup MEM_INJ ∧ s.bit MEM_STAT_trained = decide (c.1 = 1) ∧ s.bit MEM_STAT_init_busy = decide (c.2.1 = 1) ∧ s.bit MEM_STAT_init_done = decide (c.2.2 = 1) := by decide

/-- Channel 1 at a fill descriptor of 16 bytes, the last of its chain, or one of length 0. -/
def dmaState (len : BitVec 8) : State := { (owned .sup (MEM_DMA_CTL 1) (memState [(MEM_DMA_STAT_busy 1, 1)] { dmaAt := [(1, 64)] })) with
  band := (if len = 0#8 then [] else [(80, len)]) ++ [(84, 3#8), (88, 0xAB#8)] }
theorem witness_MemoryServes_dma : (∀ l ∈ [0#8, 16#8], let s := dmaState l;
      Normal s ∧ Writes s .sup (MEM_DMA_CTL 1) ∧ s.bit (MEM_DMA_STAT_busy 1) = true ∧ 64 + 32 ≤ bandBytes ∧ Map.get (fun _ => 0) s.mem.dmaAt 1 = 64 ∧ Map.get (fun _ => false) s.mem.dmaStop 1 = false ∧
      Memory.num s.band (64 + 16) 4 = l.toNat ∧ Memory.num s.band (64 + 20) 1 % 4 = 3 ∧ Memory.num s.band (64 + 8) 8 + l.toNat ≤ s.dataBytes ∧ s.dramOk = true) ∧
    (let s := owned .sup (MEM_DMA_CTL 1) (memState [] {});
      Writes s .sup (MEM_DMA_CTL 1) ∧ s.bit (MEM_DMA_STAT_busy 1) = false) := by decide
theorem witness_MemoryServes_dma_memory : (∀ a, (dmaState 16#8).wordErr a = none) ∧ ∀ a, (dmaState 16#8).guarded a = false := ⟨fun _ => rfl, fun _ => rfl⟩

/-! ## Port statements -/

def readFrame : List (BitVec 8) := 0x81#8 :: beBytes 3 GPIO_OUT
def writeFrame : List (BitVec 8) := 0xC1#8 :: beBytes 3 GPIO_OUT ++ beBytes 4 (7#32).toNat
/-- The host owns the pins' registers, and a frame's accesses run or not. -/
def frameState (q : Option Reply) : State := { owned .host GPIO_OUT up with sio := { running := q } }
set_option maxRecDepth 20000 in
theorem witness_HostAndPeripheralPorts_frames : (∀ q ∈ [none, some ⟨16, [3#32], false⟩], let s := frameState q;
      Normal s ∧ s.sio.running = q ∧ s.heldHalf 0 = none ∧ Writes s .host GPIO_OUT) ∧
    crc8 readFrame = (BitVec.ofNat 8 (crc8 readFrame)).toNat ∧ crc8 readFrame ≠ (BitVec.ofNat 8 (crc8 readFrame + 1)).toNat ∧ crc8 writeFrame = (BitVec.ofNat 8 (crc8 writeFrame)).toNat ∧
    (127#8).toNat < 128 ∧ 128 ≤ (128#8).toNat := by decide

/-- The parties' FIFOs, with the raw words enabled, and the peripheral port. -/
def sioState (l : List (Field × Nat)) (x : SioSt) : State := { owned .sup HPORT_DOORBELL (owned .sup HPORT_TXD (st ([(HPORT_CFG_raw_en, 1), (PPORT_CFG_en, 1)] ++ l))) with sio := x }
def wordsOf (n : Nat) : List W32 := List.replicate n 5#32
/-- The 32 bytes of a boot image with no contents beyond its header, entry index 5, whose stated CRC is `d` too great. -/
def bootImage (d : Nat) : List (BitVec 8) :=
  let h := [0x53#8, 0x4B#8, 0x34#8, 0x31#8] ++ List.replicate 8 0#8 ++ leBytes 4 5;
  h ++ leBytes 4 (crc32 h + d) ++ List.replicate 12 0#8
/-- The boot ROM loads from source `b`, with the bytes `l` of the image taken or in the band store. -/
def bootState (b : Nat) (l : List (BitVec 8)) : State := { sioState [] { boot := { src := b, loading := true, data := if b = 3 then l else [] } } with
  band := if b = 3 then [] else (List.range 32).filterMap (fun i => if l.getD i 0#8 = 0#8 then none else some (i, l.getD i 0#8)) }
set_option maxRecDepth 20000 in
theorem witness_HostAndPeripheralPorts_boot : (∀ l ∈ [[], List.replicate 28 0#8, (bootImage 0).take 28, (bootImage 1).take 28], let s := bootState 3 l;
      Normal s ∧ s.bit HPORT_CFG_raw_en = true ∧ s.bootsFrom 3 = true ∧ s.sio.txq = [] ∧ s.sio.rxq = [] ∧ s.get HPORT_CFG_unit = 31 ∧ s.sio.boot.data = l) ∧
    bootHeader (List.replicate 28 0#8 ++ leBytes 4 0) = none ∧
    (∀ d ∈ [0, 1], (bootImage d).take 28 ++ leBytes 4 (0#32).toNat = bootImage d ∧ (bootHeader (bootImage d)).map (fun h => (h.size, h.entry, h.sound (bootImage d))) = some (32, 5, decide (d = 0)) ∧
      (let s := bootState 2 (bootImage d);
        Writes s .sup HPORT_DOORBELL ∧ s.bootsFrom 2 = true ∧ Memory.bytes s.band 0 32 = bootImage d)) := by decide
theorem witness_HostAndPeripheralPorts_words : (∀ c ∈ [(1, 63), (0, 64), (64, 0)], let s := sioState [] { txq := wordsOf c.1, rxq := wordsOf c.2 };
      Normal s ∧ s.bit HPORT_CFG_raw_en = true ∧ s.bootsFrom 2 = false ∧ s.bootsFrom 3 = false ∧ s.sio.txq.length = c.1 ∧ s.sio.rxq.length = c.2 ∧ s.heldHalf Party.sup.code = none ∧ Party.sup.code < 4 ∧
      Writes s .sup HPORT_TXD ∧ Writes s .sup HPORT_DOORBELL ∧ Writes s .sup HPORT_FIFO ∧ Writes s .sup PPORT_BULK_CTL) ∧
    (sioState [(HPORT_CFG_raw_en, 0)] {}).bit HPORT_CFG_raw_en = false := by decide
/-- The bulk engine at work into a 4,096-byte buffer, and its port. -/
def bulkState (b : Option Bool) : State :=
  sioState [(MEM_STAT_trained, 1), (MEM_STAT_init_done, 1), (MEM_STAT_data_size, 14), (PPORT_BULK_LEN_4, 1), (PPORT_BULK_DST_dram, 2)] { bulk := b }
theorem witness_HostAndPeripheralPorts : (∀ b ∈ [none, some true], let s := bulkState b;
      Normal s ∧ s.sio.bulk = b ∧ s.get PPORT_BULK_LEN_4 * 4096 = 4096 ∧ 2 * 4096 + 4096 ≤ s.dataBytes ∧ s.dramOk = true ∧ s.bit PPORT_BULK_STAT_guard = false ∧
      s.bit PPORT_CFG_en = true ∧ s.sio.ppUnit = none ∧ Writes s .sup PPORT_BULK_CTL) ∧
    (∀ e ∈ [0, 3], (st [(GPIO_FUN_edge 7, e)]).get (GPIO_FUN_func 7) = 0 ∧ (st [(GPIO_FUN_edge 7, e)]).get (GPIO_FUN_edge 7) = e ∧ bitOf (st [(GPIO_FUN_edge 7, e)]).sio.seen 7 = true) := by decide
theorem witness_HostAndPeripheralPorts_guard : (∀ a, (bulkState (some true)).guarded a = false) ∧ (List.replicate 4096 0#8 : List (BitVec 8)).length = 4096 := ⟨fun _ => rfl, List.length_replicate⟩

/-- Transmit port 1 enabled, PLL2 locked, link up or not, one stream with a frame in hand. -/
def txState (l : List (Field × Nat)) (x : VioSt) : State := { st ([(VIO_TX_CFG_en 1, 1), (SCA_STAT_lock, 7), (VIO_TX_CFG_deskew 1, 2), (VIO_S_CFG_tx 3, 1), (VIO_S_CFG_en 3, 1)] ++ l) with vio := x }
def txFrame : TxFrame := { kind := 1, index := 4, next := 2, total := 4 }
/-- The states of a transmit port that the statement's clauses meet: link down; calibration due; nothing to send; a frame in hand; a frame to begin. -/
def txStates : List State := [txState [] {}, txState [(VIO_TX_STAT_up 1, 1)] { tx := [(1, { lines := 512 })] }, txState [(VIO_TX_STAT_up 1, 1), (VIO_S_CFG_kind 3, 1), (VIO_S_CFG_index 3, 4)] {},
  txState [(VIO_TX_STAT_up 1, 1)] { streams := [(3, { cur := some txFrame })] }, txState [(VIO_TX_STAT_up 1, 1), (VIO_S_CFG_kind 3, 1), (VIO_S_CFG_index 3, 4)] { done := [(8, 2)] }]
theorem witness_VideoPorts_transmit : (∀ s ∈ txStates, Normal s ∧ s.bit (VIO_TX_CFG_en 1) = true ∧ s.bit SCA_STAT_lock 2 = true ∧ s.get (VIO_TX_CFG_deskew 1) * 256 = 512) ∧
    txStates.map (fun s => (s.bit (VIO_TX_STAT_up 1), (s.txPort 1).lines, s.pickStream 1, (s.txStream 3).cur.isSome, (s.nextUnit 3).isSome)) =
      [(false, 0, none, false, false), (true, 512, none, false, false), (true, 0, none, false, false), (true, 0, some 3, true, false), (true, 0, some 3, false, true)] := by decide

/-- Receive port 0 with facet 4's frames of 4 by 2 samples in a ring of 3 slots. -/
def rxState (l : List (Field × Nat)) (q : RxPort) : State := { dramState (st ([(VIO_RX_CFG_en 0, 1), (VIO_RX_CFG_vc 0, 2), (IPL_FMT_width 4, 4), (IPL_FMT_height 4, 2), (IPL_IN_CFG_slots 4, 3),
  (VIO_RX_FPER_nominal 0, 40), (VIO_RX_CFG_err_limit 0, 0)] ++ l)) with vio := { rx := [(0, q)] } }
set_option maxRecDepth 4000 in
theorem witness_VideoPorts : (∀ c ∈ [(0, 1, 1), (0, 1, 0), (1, 0, 0)], let s := rxState [(VIO_RX_STAT_fenced 0, c.1), (VIO_RX_STAT_in 0, c.2.1), (IPL_FMT_raw12 4, c.2.2)] { slot := 2, line := 1, lines := 40 };
      Normal s ∧ s.bit (VIO_RX_STAT_fenced 0) = decide (c.1 = 1) ∧ s.bit (VIO_RX_CFG_en 0) = true ∧ s.get (VIO_RX_CFG_vc 0) = 2 ∧ s.bit (VIO_RX_STAT_in 0) = decide (c.2.1 = 1) ∧
      (s.rxPort 0).line < s.get (IPL_FMT_height 4) ∧ s.get (VIO_RX_CFG_err_limit 0) = 0 ∧ s.get (VIO_RX_FPER_nominal 0) ≠ 0 ∧ s.get (VIO_RX_FPER_nominal 0) ≤ (s.rxPort 0).lines ∧
      s.bit (IPL_FMT_raw12 4) = decide (c.2.2 = 1) ∧ s.get (IPL_FMT_width 4) = 4 ∧ s.dramOk = true ∧ s.inSlotBase 4 2 + 8 + 8 ≤ s.dataBytes) ∧
    (unpackRaw12 6 [0x12#8, 0x34#8, 0x56#8, 0x78#8, 0x9A#8, 0xBC#8]).length = 4 ∧ (unpackRaw10 5 [0x12#8, 0x34#8, 0x56#8, 0x78#8, 0x9A#8]).length = 4 := by decide

/-! ## Interrupt statements -/

/-- Target 2 (S) with source 32 × 3 + 5 and source 1 enabled and pending by software, or neither; the second in service with level `w`; group 12 in holdoff. -/
def intcState (l : List (Field × Nat)) (v : IntcSt) : State := { owned .sup (INTC_CLAIM 2) (st ([(⟨INTC_ENA 2 3, 31, 0⟩, 32), (⟨INTC_ENA 2 0, 31, 0⟩, 2)] ++ l)) with intc := v }
theorem witness_InterruptsServed : (∀ c ∈ [(0, 0, none), (32, 2, some 101), (0, 2, some 1)], let s := intcState [(⟨INTC_SWP 2 3, 31, 0⟩, c.1), (⟨INTC_SWP 2 0, 31, 0⟩, c.2.1), (⟨INTC_PRIO 2, 25, 24⟩, 1)] {};
      Writes s .sup (INTC_CLAIM 2) ∧ Party.sup.code < 4 ∧ s.bestSource 3 = c.2.2 ∧ s.owns Party.host.code (INTC_CLAIM 2) = false ∧ s.heldHalf Party.host.code = none) ∧
    (∀ t ∈ [3, 1], let s := intcState [] { serv := [(101, some { target := t, level := true, fell := true })], hold := [(3 * 16 + 12, some (0, 4))] };
      Writes s .sup (INTC_COMPLETE 2) ∧ (s.serving ((101#32).toNat % 128)).map (·.target) = some t ∧ s.holdOf 3 12 = some (0, 4)) ∧
    (∀ j ∈ [0, 1], let s := intcState [(INTC_CFG_inject 2, j)] {};
      Writes s .sup (INTC_SET 2 3) ∧ Writes s .sup (INTC_CLR 2 3) ∧ s.bit (INTC_CFG_inject 2) = decide (j = 1)) := by decide

/-! ## Non-volatile store statements -/

/-- The store ready (or not) with hidden part `x`. -/
def nvsState (l : List (Field × Nat)) (x : NvsSt) : State := { owned .sup NVS_CMD (st ([(NVS_STAT_ready, 1)] ++ l)) with nvs := x }
/-- SUP's page 1000 (partition 2), a counter page; a page of partition 1 is MET's. -/
def counterPages : List (Nat × PageMeta) := [(1000, { counter := true })]
theorem witness_NonvolatileStore_commands : (let s := nvsState [] { pages := counterPages };
      Writes s .sup NVS_CMD ∧ Normal s ∧ s.nvsReady = true ∧ s.wrHold = false ∧ s.slotTaken false = false ∧ s.slotTaken true = false ∧ (s.isRetired 1000 = false ∧ s.busyPage ≠ some 1000) ∧
      State.mayWrite false (1000#11).toNat = true ∧ State.mayWrite false (300#11).toNat = false ∧ State.mayWrite true (300#11).toNat = true ∧ State.mayWrite true (1000#11).toNat = false ∧
      (s.pageMeta 1000).counter = true ∧ (s.pageMeta 1001).counter = false) := by decide
def commandOf (op page : Nat) : NvsCmd := ⟨op, page, 3, 0⟩
/-- The engine's states of R413–R415: both slots taken; SUP's alone; attempts of each operation with `f` failures; a retry after `n` lines. -/
def engineState (op f : Nat) (n : Option Nat) : State := nvsState [] { run := some { met := false, cmd := commandOf op 1000, fails := f, retry := n }, wbuf := [(24, 9#8)] }
theorem witness_NonvolatileStore_engine : (let s := nvsState [] { pendM := some (commandOf 2 300), pendS := some (commandOf 3 1000) };
      Normal s ∧ s.nvs.run = none ∧ s.wrHold = false ∧ s.nvsReady = true ∧ s.nvs.pendM = some (commandOf 2 300) ∧ s.isRetired 300 = false) ∧
    (let s := nvsState [] { pendS := some (commandOf 3 1000) }; s.nvs.pendM = none ∧ s.nvs.pendS = some (commandOf 3 1000) ∧ s.isRetired 1000 = false) ∧
    (nvsState [] {}).nvs.pendM = none ∧ (nvsState [] {}).nvs.pendS = none ∧
    (∀ op ∈ [2, 3], ∀ f ∈ [0, 15], let s := engineState op f none;
      Normal s ∧ s.nvs.run = some { met := false, cmd := commandOf op 1000, fails := f, lost := false } ∧ s.nvs.cut = none ∧ s.isRetired 1000 = false) ∧
    0 < up.get NVS_CFG_retries ∧ up.get NVS_CFG_retries ≤ 15 ∧
    (∀ n ∈ [0, 1], (engineState 2 1 (some n)).nvs.run = some { met := false, cmd := commandOf 2 1000, fails := 1, retry := some n }) := by decide

/-- The cells of an empty record with sequence number `seq` in the first groups of the page at `base`. -/
def recordAt (seq base : Nat) : List Host.Cell :=
  let h := [0x5A#8, 0xA5#8, 0#8, 0#8] ++ leBytes 4 seq ++ [0#8, 0#8, 0#8, 0#8];
  let r := h ++ leBytes 4 (crc32 h);
  (List.range 16).filterMap (fun i => if r.getD i 0#8 = 0#8 then none else some (base + i, r.getD i 0#8))
/-- A pair of records in pages 1000 and 1001: neither, one, both. -/
def pairState (m : List Host.Cell) : State := nvsState [(NVS_REC_A_page, 1000), (NVS_REC_B_page, 1001), (NVS_REC_STAT_busy, 1)] { arr := m }
set_option maxRecDepth 20000 in
theorem witness_NonvolatileStore_pairs : (∀ c ∈ [(1, 0xFFFFFFFF), (7, 7)], ((pairState (recordAt c.1 2048000 ++ recordAt c.2 2050048)).recordCopy false 1000 0).map (·.1) = some c.1) ∧ (1 + 2 ^ 32 - 0xFFFFFFFF) % 2 ^ 32 ≠ 2 ^ 31 ∧
    ((pairState (recordAt 1 2048000)).recordCopy false 1000 0).isSome = true ∧ (pairState (recordAt 1 2048000)).recordCopy false 1001 0 = none ∧
    ((pairState (recordAt 1 2050048)).recordCopy false 1001 0).isSome = true ∧ (pairState (recordAt 1 2050048)).recordCopy false 1000 0 = none ∧
    ((pairState (recordAt 1 2048000 ++ recordAt 0xFFFFFFFF 2050048)).recordCopy false 1001 0).map (·.1) = some 0xFFFFFFFF ∧
    (pairState (recordAt 7 2048000 ++ recordAt 7 2050048)).recordCopy false 1000 0 = (pairState (recordAt 7 2048000 ++ recordAt 7 2050048)).recordCopy false 1001 0 := by decide
theorem witness_NonvolatileStore_reads : (let s := nvsState [] { pages := counterPages };
      s.nvsReady = true ∧ (s.pageMeta (1000#11).toNat).counter = true ∧ s.resolveSlot false 1000 1 = some (0, 0) ∧ (s.pageMeta (1001#11).toNat).counter = false) ∧
    (nvsState [] { pages := counterPages, torn := [(1000 * 256 + 64, true), (1000 * 256 + 65, true)] }).resolveSlot false 1000 1 = none ∧
    (∀ c ∈ [(1000, 1001), (1000, 1000), (1000, 1024)], let s := nvsState [(NVS_REC_A_page, c.1), (NVS_REC_B_page, c.2)] {};
      s.nget false NVS_REC_STAT_busy = 0 ∧ s.nget false NVS_REC_A_page = c.1 ∧ s.nget false NVS_REC_B_page = c.2) ∧ partition 1000 = partition 1001 ∧ partition 1000 ≠ partition 1024 ∧
    (pairState []).nget false NVS_REC_STAT_busy = 1 ∧
    (∀ c ∈ [(nvsState [(NVS_RD_PAGE_page, 1000)] {}, true), (nvsState [(NVS_RD_PAGE_page, 300)] {}, false)],
      Normal c.1 ∧ c.1.heldHalf Party.sup.code = none ∧ c.1.pageReads false (c.1.nget false NVS_RD_PAGE_page) = c.2) ∧
    (nvsState [(NVS_STAT_ready, 0)] {}).nvsReady = false ∧
    (∀ c ∈ [(1, 0), (1, 1), (0, 0)], let s := nvsState [(NVS_STAT_wr_hold, c.1), (SCA_STAT_warn, c.2)] {}; Normal s ∧ s.wrHold = decide (c.1 = 1) ∧ s.warned = decide (c.2 = 1)) := by decide

/-! ## Housekeeping and thermal statements -/

def hkState (l : List (Field × Nat)) (x : HkSt) : State := { owned .sup HKT_URGENT (st ([(⟨HKT_ROUND_MASK, 31, 0⟩, 0x8000001)] ++ l)) with hk := x }
theorem witness_HousekeepingRuns : (∀ x ∈ [{}, { lineDue := true }, { lineDue := true, todo := [3] }, { lineDue := true, urgent := some (2, 0#32, 0#32) },
      ({ todo := [27], inRound := [0, 27] } : HkSt), { todo := [4, 27], checking := true }, { urgent := some (27, 0#32, 0#32) }], Normal (hkState [] x)) ∧
    (∀ c ∈ [0, 27], let s := hkState [(HKT_CH_HI_band c, 0)] { todo := [c] };
      s.hk.todo = c :: [] ∧ c < 28 ∧ s.hk.checking = false ∧ s.chanFenced c = false ∧ s.hk.struck = false ∧ s.hk.owRound = false ∧ s.isAbove c = false ∧ s.isBelow c = false) ∧
    (hkState [] { act := [(HKT_CH_CFG 3, 0xFFFFFFFF#32)] }).hkActGet (HKT_CH_CFG_hi_act 3) = 3 ∧
    (∀ c ∈ [0, 19], (hkState [] { todo := [c, 27], checking := true }).hk.checking = true ∧ c < 20) ∧
    (hkState [] { urgent := some (27, 0#32, 0#32) }).hk.urgent = some (27, 0#32, 0#32) ∧
    (∀ x ∈ [{}, { todo := [3] }, ({ urgent := some (2, 0#32, 0#32) } : HkSt)], Writes (hkState [] x) .sup HKT_URGENT) ∧
    bitOf (0x11B#32) 8 = true ∧ (0x11B#32).toNat % 32 = 27 ∧ (0x11C#32).toNat % 32 = 28 := by decide

/-- The throttle in state `n`. -/
def throttleState (n : Nat) (x : HkSt) : State := { owned .sup HKT_THR_CFG (st [(HKT_THR_STAT_state, n), (NVS_STAT_ready, 1)]) with hk := x }
def throttleGrace (f : Nat) (g : Bool) : State := { (st [(HKT_THR_STAT_state, 1), (HKT_THR_CFG_force, f)]) with hk := { graceDue := g } }
def shutdownOf : Shutdown := ⟨1, 255, 0x5F, 0x7D, List.replicate 64 3#8, true⟩
set_option maxRecDepth 4000 in
theorem witness_ThermalProtection : (∀ n ∈ [0, 1, 2], Writes (throttleState n {}) .sup HKT_THR_CFG ∧ (throttleState n {}).get HKT_THR_STAT_state = n ∧
      ∀ c, c < 28 → (throttleState n {}).isAbove c = false ∧ (throttleState n {}).violating c = 0) ∧
    (∀ f ∈ [0, 1], ∀ g ∈ [false, true], let s := throttleGrace f g;
      Normal s ∧ s.get HKT_THR_STAT_state = 1 ∧ s.hk.graceDue = g ∧ s.throttleCond = decide (f = 1)) ∧
    (throttleState 0 {}).hold ≠ .thermal ∧ (throttleState 0 {}).hk.shdn = none ∧
    (let s := throttleState 0 { shdn := some shutdownOf };
      s.hk.shdn = some shutdownOf ∧ s.hold ≠ .thermal ∧ s.nvs.run = none ∧ s.nvsReady = true ∧ s.get NVS_SHDN_PAGE_shutdown = 1023 ∧ s.erasedSlot 1023 = some 0 ∧ shutdownOf.record.length = 64) ∧
    ({ throttleState 0 { shdn := some shutdownOf } with nvs := { run := some { met := true, cmd := commandOf 2 300 } } } : State).nvs.run.isSome = true := by decide

/-! ## Shutter statements -/

def profOf (k : Nat) (lines : Nat) : ProfRun := { prof := k, trig := 4, holder := 1, csu := none, lines := lines }
/-- Pair 3 with hidden part `x`; profile 15 has 2 phases of 10 lines, the first with PWM, detection and a deadline of 5 lines. -/
def sdrState (l : List (Field × Nat)) (x : PairSt) (c : List Nat) (n : Nat) : State := { owned .sup SDR_TRIG (st ([(SDR_PRF_CFG_nphase 15, 2), (SDR_PRF_CFG_unit 15, 0), (SDR_PRF_PH_duration 15 0, 10),
  (SDR_PRF_PH_duration 15 1, 10), (SDR_PRF_PH_mode 15 0, 2), (SDR_PRF_PH_duty 15 0, 128), (SDR_PRF_DRV_pwm_per 15, 2), (SDR_PRF_PH_detect 15 0, 1), (SDR_PRF_CFG_deadline 15, 5), (SDR_CH_CFG_i_max 6, 700)] ++ l)) with
  pairs := [(3, x)]
  chans := [(6, { codes := c, overRun := n })]
  now := 300 }
def runOf (lines : Nat) : PairSt := { run := some (profOf 15 lines), phaseAt := 200, move := .fall, onWall := some 7 }
theorem witness_ShutterDrives_triggers : (∀ x ∈ [{}, runOf 0, { runOf 0 with wait := some (profOf 15 0) }], let s := sdrState [] x [] 0;
      Writes s .sup SDR_TRIG ∧ s.pair 3 = x ∧ s.get (SDR_PRF_CFG_nphase 15) ≠ 0 ∧ s.bit SDR_FENCED_channels (s.profChan 3 15) = false) ∧
    bitsOf (0x8004030F#32) 18 16 = 4 ∧ bitOf (0x8004030F#32) 31 = true ∧ bitsOf (0x8004030F#32) 9 8 = 3 ∧ bitsOf (0x8004030F#32) 3 0 = 15 ∧
    (sdrState [] {} [] 0).get (SDR_PRF_CFG_nphase 14) = 0 ∧ (let s := sdrState [(SDR_FENCED_channels, 64)] {} [] 0; s.bit SDR_FENCED_channels (s.profChan 3 15) = true) := by decide
theorem witness_ShutterDrives : (∀ n ∈ [9, 10], ∀ r ∈ [false, true], let s := sdrState [] { runOf n with releasing := r } [] 0;
      Normal s ∧ (s.pair 3).run = some (profOf 15 n) ∧ s.bit (SDR_PRF_CFG_unit 15) = false ∧ s.phaseLen 3 15 (s.pair 3).phase = 10 ∧ (s.pair 3).releasing = r) ∧
    (∀ a ∈ [200, 204], let s := sdrState [] { runOf 0 with phaseAt := a } [] 0;
      (s.pair 3).run = some (profOf 15 0) ∧ (s.pair 3).releasing = false ∧ s.get (SDR_PRF_PH_mode 15 (s.pair 3).phase) = 2 ∧ 96 * s.get (SDR_PRF_DRV_pwm_per 15) = 192 ∧
      s.get (SDR_PRF_PH_duty 15 (s.pair 3).phase) * 192 / 256 = 96 ∧ (s.now - a) % 192 = 300 - a) ∧
    (let s := sdrState [] (runOf 0) [400, 400, 400] 3;
      (s.chan 6).overRun = 3 ∧ s.get (SDR_CH_CFG_i_max 6) ≤ State.senseCode 200000 ∧ s.bit SDR_FENCED_channels (6 : Fin 8) = false ∧ (s.pair (6 / 2)).run = some (profOf 15 0) ∧
      s.profChan (6 / 2) 15 = 6 ∧ (s.chan 6).codes = [400, 400, 400] ∧ s.bit (SDR_PRF_PH_detect 15 (s.pair (6 / 2)).phase) = true ∧ (s.pair (6 / 2)).move = .fall ∧
      (s.pair (6 / 2)).lo + s.get (SDR_CH_DET_dip_thr 6) ≤ (State.senseCode 200000 + 400 + 400 + 400) / 4 ∧ (s.pair (6 / 2)).onWall = some 7 ∧ (s.pair (6 / 2)).releasing = false) ∧
    (∀ n ∈ [4, 5], ∀ d ∈ [0, 5], let s := sdrState [(SDR_PRF_CFG_deadline 15, d)] { wait := some (profOf 15 n) } [] 0;
      (s.pair 3).wait = some (profOf 15 n) ∧ (profOf 15 n).csu = none ∧ s.get (SDR_PRF_CFG_deadline 15) = d ∧ (s.pair 3).run = none) := by decide

/-! ## Invariant statements -/

/-- A step from a state that nothing settled: the command wakes nothing, and the idle tick comes. -/
theorem witness_StepKeepsInvariants : (∃ t, step { up with pending := [.powerOnReset] } = .next t) ∧ (∃ t, step up = .next t) ∧ Settled State.reset ∧
    ShutdownSafe State.reset := ⟨⟨_, rfl⟩, ⟨_, rfl⟩, by decide, by decide⟩
theorem witness_HeldPartIsQuiet : ∀ h ∈ [Hold.porst, .supply, .clock], ({ up with hold := h } : State).hold = h ∧ ({ up with hold := h } : State).hk.shdn = none ∧
    Instr.hkConversionEnd none ≠ .dieTrip ∧ (∀ b, Instr.hkConversionEnd none ≠ .porstRelease b) ∧ (∀ b, Instr.hkConversionEnd none ≠ .supplyResetRelease b) := by
  decide

/-! ## Worked values of the spec -/

/-- The coefficients of segment 18 in the worked pixel of spec 07. -/
def exampleCoef (seg k : Nat) : Int := if seg = 18 then [2816000, 61440, -1024, 256].getD k 0 else 0
/-- The worked pixel of spec 07: S 33,950 and B 31,000 give t 2,949, count 19,351 and code 11,213. -/
theorem test_worked_pixel : (let v := correctPixel false 1 33950 31000 (BitVec.ofNat 32 (32758 * 65536)) (TableWord.ofNat 0x00000CE9433300B4) ⟨2412, 10, 24, 16384⟩ exampleCoef;
    (v.t, v.cnt, v.code, v.sat)) = (2949, 19351, 11213, false) := by decide
/-- The worked tile of spec 11: four samples coded without loss. -/
theorem test_worked_tile : (codeTile 0 [[11213, 11215, 11210, 11210]]).1 = [0x2B#8, 0xCD#8, 0x48#8, 0x80#8] := by decide
/-- 0 − 0 is 0 and sets C, as no borrow occurs (R110, R111). -/
theorem test_flags : (aluTable (loaded (.subi .sqa 1#4 0#4 true 0#16) up) (.subi .sqa 1#4 0#4 true 0#16)).map (fun e => e.2.2.2) = some (0#32, some true, some false) := by decide

/-! ## More clauses -/

theorem witness_NonOwnerWriteIgnored_met : writeTarget (.registerWrite .met (BitVec.ofNat 24 GPIO_OUT) 1#32) = some (.met, GPIO_OUT) ∧ up.owns Party.met.code GPIO_OUT = false ∧
    metNvs GPIO_OUT = none := by decide
/-- The seal open, on a part with the enclave and on one without. -/
theorem witness_OwnerWriteTakesEffect_sealed : ∀ m ∈ [true, false], ∀ a ∈ [FPP_IDLE 0, FPP_BIAS 3, FPP_PWR_SETTLE 2, PCE_DRIFT_REF 1, CSU_UPD 2, CSU_RESP_REF 0],
    let s : State := { owned .sup a (st [(MEN_STAT_seal, 0)]) with variantM := m };
    Writes s .sup a ∧ s.frozen = false ∧ s.variantM = m ∧ (s.reg a &&& ~~~0xF#32) ||| (5#32 &&& 0xF#32) ≠ s.reg a := by decide
theorem witness_ClearingWrites_more : ∀ a ∈ [RTB_EVT, SCA_RST_CAUSE, MEM_EVT, HKT_WEVT, HKT_REVT, HKT_OEVT, RTB_SLIP_CNT_clamped 4 |>.addr, LCA_STRAY_CNT_stray 1 |>.addr, CSU_CNT_shutter 3 |>.addr,
    CER_S_CNT_vfail 15 |>.addr, SDR_CH_CNT_overcurrent 7 |>.addr, HPORT_CNT_crc.addr, VIO_RX_CNT_hdr 0 |>.addr], Writes (owned .sup a up) .sup a ∧ up.ipl.chosen = none := by decide

/-- SQ core D running, ready or inside an instruction, and at an ADD with a halt that waits. -/
def busyState (r : Nat) : State := { (sqState 2).modCore 3 (fun x => { x with readyAt := r }) with now := 100 }
def haltingState : State := (loaded (.add .sqd 1#4 2#4 3#4 true) (sqState 2)).modCore 3 (fun x => { x with halting := true })
theorem witness_SqCommandsAndHashes_halt : (∀ r ∈ [96, 100], Writes (busyState r) .sup (PSC_SQ_CTL 3) ∧ (busyState r).sqState 3 = 2 ∧
      (((busyState r).core 3).waiting = none ∧ (((busyState r).core 3).readyAt + 3) / 4 * 4 < (busyState r).now ↔ r = 96)) ∧
    (let s := haltingState;
      (aluTable s (.add .sqd 1#4 2#4 3#4 true)).isSome = true ∧ Core.sqd.isSq = true ∧ s.executing .sqd = true ∧ s.fetches .sqd (.add .sqd 1#4 2#4 3#4 true) = true ∧
      (s.core 3).pc + 1 < imemWords 3 ∧ s.hk.shdn = none ∧ (s.core 3).halting = true) := by decide

/-- A hold with requests of other causes, and a reset of the present tick. -/
def heldState (h : Hold) (pin rail pll : Bool) : State := { up with hold := h, sca := { up.sca with pinLow := pin, railLow := rail, pllLow := pll, resetAt := some (up.now, [1]) } }
theorem witness_Resets_held : (∀ c ∈ [(true, false), (false, true), (false, false)], let s := heldState .porst true c.1 c.2;
      s.hold ∈ [Hold.porst, .supply, .clock] ∧ s.hk.shdn = none ∧ s.sca.railLow = c.1 ∧ s.sca.pllLow = c.2 ∧ s.sca.pinLow = true ∧ s.sca.resetAt = some (s.now, [1])) ∧
    (heldState .supply false true false).sca.pinLow = false ∧ (heldState .thermal false false false).hold = .thermal ∧ (0x5A5A#16 : BitVec 16) ≠ 0xA5C3#16 := by decide
theorem witness_SuppliesClocksAndAgeing_held : ({ dipState with hold := .system } : State).hold = .system ∧ dipState.hk.shdn = none ∧
    ({ dipState with hold := .system } : State).bit SCA_STAT_rail_warn 1 = true := by decide

/-- A replay beside a live result that stage 1 takes at tick 100, and memory that must be trained again. -/
def liveReplay : State := (replayState true 15).setPort 0 { width := 8, height := 2, intake := [⟨98, 2, 0, 0, 1, 1, false, false, false, 0, 0, false, false, 0#32⟩] }
def untrained (s : State) : State := { s.clrBit MEM_STAT_trained with mem := { s.mem with retraining := true } }
theorem witness_ReplaysAndKnownAnswers_live : Normal liveReplay ∧ liveReplay.dramWaits = false ∧ liveReplay.replay.running = true ∧ (∃ r ∈ (liveReplay.port 0).intake, 100 = r.at_ + r.lane) ∧
    (let s := replayState true 15;
      s.replay.next < (s.port 0).width * s.replay.rows ∧ (s.port 0).width * (replayState true 16).replay.rows ≤ 16 ∧ s.dramWaits = false) := by decide
theorem witness_CalibrationRuns_waits : avgState.dramWaits = false ∧ (csuState 4 0 { composing := true }).dramWaits = false ∧
    (csuState 0 0 { statComposing := true }).dramWaits = false ∧ (untrained avgState).dramWaits = true := by decide
theorem witness_RequestsTaken_waits : (requestStates.map (·.dramWaits)) = [false, false, false, false, false] ∧ ∀ s ∈ requestStates, (untrained (dramState s)).dramWaits = true := by decide
/-- A middle part of a curve behind the staged 201 samples, one that is out of order, and one past the end. -/
theorem witness_ParameterRequests_parts : ([0#8, 0#8, 201#8, 0#8] ++ List.replicate 8 0#8 : List (BitVec 8)).length = 12 ∧ 201 + (12 - 4) / 4 < 257 ∧
    pf ([0#8, 0#8, 200#8, 0#8] ++ List.replicate 8 0#8) 2 2 = 200 ∧ pf ([0#8, 0#8, 0#8, 1#8] ++ List.replicate 8 0#8) 2 2 = 256 ∧ 257 < 256 + (12 - 4) / 4 ∧
    openState.dramWaits = false := by decide

/-! A table load that succeeds: one chunk, which holds a table of one pixel in two tiles, and its check value. -/

def loadTiles : List (List Byte × List Byte) := [([128#8, 0#8, 0#8, 4#8, 0#8, 3#8, 0#8, 0#8], [0x34#8, 0x12#8, 0#8, 0#8]), ([128#8, 0#8, 0#8, 4#8, 0#8, 7#8, 0#8, 0#8], [0xCD#8, 0xAB#8, 0#8, 0#8])]
def loadHead : List Byte := [1#8, 1#8, 1#8, 0#8, 1#8, 0#8, 0#8, 0#8, 4#8] ++ List.replicate 55 0#8
def loadRest : List Byte := List.replicate 4004 0#8
def loadImage : List Byte := loadHead ++ (loadTiles.flatMap (fun e => e.1 ++ e.2) ++ loadRest)
/-- A load of the one chunk that ends in the check value of `l`. -/
def loadOf (l : List Byte) : State := { (dramState (State.sets (loadState 1) [(CER_LOAD_LEN_chunks, 1), (CER_LOAD_DST_table, 3)])) with dram := Memory.setBytes [] 0 (l ++ leBytes 4 (crc32 l)) }
theorem loadImage_length : loadImage.length = 4092 := by
  simp only [loadImage, loadRest, List.length_append, List.length_replicate]
  decide
theorem bytes_eq_map (m : List Host.Cell) : ∀ (k a : Nat), Memory.bytes m a k = (List.range k).map (fun i => Memory.byte m (a + i))
  | 0, _ => rfl
  | k + 1, a => by
    rw [List.range_succ_eq_map, List.map_cons, List.map_map, Memory.bytes, bytes_eq_map m k (a + 1)]
    exact congrArg _ (List.map_congr_left fun i _ => congrArg (Memory.byte m) (by simp only [Nat.succ_eq_add_one]; omega))
theorem dramBytes_stored (s : State) (l : List Byte) (k : Nat) (h : s.dram = Memory.setBytes [] 0 l) (len : l.length = k) (fits : k ≤ s.dramExtent) (clean : ∀ a, s.poisoned a = false) :
    s.dramBytes 0 k = l := by
  subst len
  refine Eq.trans ?_ ((congrArg (fun m => Memory.bytes m 0 l.length) h).trans (Memory.bytes_setBytes l [] 0))
  rw [bytes_eq_map]
  unfold State.dramBytes
  refine List.map_congr_left fun i hi => if_pos ?_
  have := List.mem_range.mp hi
  rw [clean, decide_eq_true (by omega : 0 + i < s.dramExtent)]
  rfl
theorem loadOf_bytes (l : List Byte) (h : l.length = 4092) : (loadOf l).dramBytes 0 4096 = l ++ leBytes 4 (crc32 l) :=
  dramBytes_stored (loadOf l) (l ++ leBytes 4 (crc32 l)) 4096 rfl (by rw [List.length_append, h, leBytes_length])
    (by
      have large : 4096 ≤ (dramState (State.sets (loadState 1) [(CER_LOAD_LEN_chunks, 1), (CER_LOAD_DST_table, 3)])).dramExtent := by decide
      exact large) fun _ => rfl
theorem crc32_lt (l : List Byte) : crc32 l < 2 ^ 32 := by
  have bit : ∀ (n c : Nat), c < 2 ^ 32 → (List.range n).foldl (fun c _ => if c % 2 = 1 then (c / 2) ^^^ 0xEDB88320 else c / 2) c < 2 ^ 32 := by
    intro n
    induction n with
    | zero => intro c h; simpa using h
    | succ n ih =>
      intro c h
      rw [List.range_succ, List.foldl_append]
      have h' := ih c h
      simp only [List.foldl_cons, List.foldl_nil]
      split
      · exact Nat.xor_lt_two_pow (by omega) (by decide)
      · omega
  have all : ∀ (l : List Byte) (c : Nat), c < 2 ^ 32 → l.foldl (fun c b => (List.range 8).foldl (fun c _ => if c % 2 = 1 then (c / 2) ^^^ 0xEDB88320 else c / 2) (c ^^^ b.toNat)) c < 2 ^ 32 := by
    intro l
    induction l with
    | nil => intro c h; exact h
    | cons b l ih => intro c h; exact ih _ (bit 8 _ (Nat.xor_lt_two_pow h (by have := b.isLt; omega)))
  exact Nat.xor_lt_two_pow (all l _ (by decide)) (by decide)
theorem loadOf_checks (l : List Byte) (h : l.length = 4092) :
    crc32 (((loadOf l).dramBytes 0 4096).take 4092) = ofLe (((loadOf l).dramBytes 0 4096).drop 4092) ∧ ((loadOf l).dramBytes 0 4096).take 4092 = l := by
  rw [loadOf_bytes l h, List.take_left' h, List.drop_left' h, ofLe_leBytes]
  exact ⟨(Nat.mod_eq_of_lt (crc32_lt l)).symm, rfl⟩
theorem witness_RecordersAndTableLoads_chunks : crc32 (((loadOf loadImage).dramBytes 0 4096).take 4092) = ofLe (((loadOf loadImage).dramBytes 0 4096).drop 4092) ∧
    ((loadOf loadImage).dramBytes 0 4096).take 4092 = loadImage := loadOf_checks loadImage loadImage_length
theorem witness_RecordersAndTableLoads_image : loadImage.drop 64 = loadTiles.flatMap (fun e => e.1 ++ e.2) ++ loadRest := List.drop_left' (by decide)
theorem witness_RecordersAndTableLoads_tiles : (let s := loadOf loadImage;
      Normal s ∧ s.dramWaits = false ∧ s.bit CER_LOAD_STAT_busy = true ∧ s.dramOk = true ∧ s.get CER_LOAD_SRC_image = 0 ∧ s.get CER_LOAD_LEN_chunks = 1 ∧
      s.get CER_LOAD_DST_table * 4096 + 4 * 1 * 1 ≤ s.dataBytes) ∧
    pf loadHead 0 1 = 1 ∧ pf loadHead 1 1 % 2 = 1 ∧ pf loadHead 2 2 = 1 ∧ pf loadHead 4 2 = 1 ∧ pf loadHead 8 4 = 2 * (1 + 1) ∧ loadTiles.length = 4 / 2 * 1 * 1 ∧
    (loadTiles.map (fun e => (pf e.1 5 1 / 4 % 4, pf e.1 1 2))).Nodup ∧
    ∀ e ∈ loadTiles, e.1.length = 8 ∧ pf e.1 3 2 = e.2.length ∧ e.2 ≠ [] ∧ pf e.1 5 1 % 4 = 3 ∧ pf e.1 5 1 / 4 % 4 < 4 / 2 ∧ pf e.1 1 2 < 1 := by
  decide
theorem witness_RecordersAndTableLoads_guards : ∀ a, (loadOf loadImage).guarded a = false := fun _ => rfl

/-- Channel 1 at a copy (2) or fill (3) descriptor: from `src` to `dst`, `len` bytes, with errors in memory, and fields set. -/
def copyState (ctl : Nat) (src dst len : Nat) (errs : List (Nat × Option WordErr)) (l : List (Field × Nat)) : State :=
  { owned .sup (MEM_DMA_CTL 1) (memState ([(MEM_DMA_STAT_busy 1, 1)] ++ l) { dmaAt := [(1, 64)], errs := errs }) with
    band := Memory.setBytes [] 64 (leBytes 8 src ++ leBytes 8 dst ++ leBytes 4 len ++ leBytes 4 ctl ++ leBytes 4 0xABCDEF01 ++ leBytes 4 0) }
/-- From DRAM with a poisoned word, from the band store with one, into the table that port A has active, and a fill of it. -/
def copyStates : List State := [copyState 2 0 8192 24 [(1, some ⟨true, 3⟩)] [], copyState 2 (2 ^ 63 + 192) 8192 24 [(State.wordNo true 200, some ⟨true, 3⟩)] [],
  copyState 2 0 4080 32 [] [(PCE_TBL_STAT_active 0, 1), (PCE_TBL_ACT_BASE_active 0, 1), (PCE_TBL_ACT_LEN_active 0, 1)],
  copyState 3 0 4080 32 [] [(PCE_TBL_STAT_active 0, 1), (PCE_TBL_ACT_BASE_active 0, 1), (PCE_TBL_ACT_LEN_active 0, 1)]]
set_option maxRecDepth 8000 in
theorem witness_MemoryServes_copies : (∀ s ∈ copyStates, Normal s ∧ s.bit (MEM_DMA_STAT_busy 1) = true ∧ s.dramWaits = false ∧ (∀ k, k < 4 → s.wordErr (State.wordNo true (64 + 8 * k)) = none) ∧
      Map.get (fun _ => 0) s.mem.dmaAt 1 = 64 ∧ Map.get (fun _ => false) s.mem.dmaStop 1 = false ∧ Memory.num s.band (64 + 8) 8 + Memory.num s.band (64 + 16) 4 ≤ s.dataBytes ∧ s.dramOk = true) := by decide
set_option maxRecDepth 8000 in
theorem witness_MemoryServes_descriptors : copyStates.map (fun s => (Memory.num s.band (64 + 20) 1 % 4, decide (2 ^ 63 ≤ Memory.num s.band 64 8), Memory.num s.band (64 + 8) 8, Memory.num s.band (64 + 16) 4)) =
      [(2, false, 8192, 24), (2, true, 8192, 24), (2, false, 4080, 32), (3, false, 4080, 32)] := by decide
set_option maxRecDepth 8000 in
theorem witness_MemoryServes_errors : copyStates.map (fun s => ((s.wordErr (State.wordNo false (0 + 8 * 1))).any (·.ue), (s.wordErr (State.wordNo true (192 + 8 * 1))).any (·.ue), s.guarded 4080, s.guarded 4096)) =
      [(true, false, false, false), (false, true, false, false), (false, false, false, true), (false, false, false, true)] := by decide
theorem witness_MemoryServes_waits : (∀ p ∈ [0, 7], let s := memState [(MEM_STAT_trained, 0), (SCA_STAT_lock, p)] {};
      Normal s ∧ s.bit MEM_STAT_trained = false ∧ s.bit SCA_STAT_lock 1 = decide (p = 7) ∧ s.dramWaits = true) ∧
    (let s := copyState 3 0 8192 8 [] [(MEM_STAT_trained, 0)];
      s.bit (MEM_DMA_STAT_busy 1) = true ∧ s.dramWaits = true) := by decide

set_option maxRecDepth 4000 in
theorem witness_VideoPorts_joined : ∀ j ∈ [true, false], let s := rxState [(VIO_RX_STAT_in 0, 1)] { slot := 2, line := 1, joined := j };
    Normal s ∧ s.bit (VIO_RX_STAT_fenced 0) = false ∧ s.bit (VIO_RX_CFG_en 0) = true ∧ (s.rxPort 0).joined = j ∧ s.bit (VIO_RX_STAT_in 0) = true ∧ (1 : Fin 4).val ≠ s.get (VIO_RX_CFG_vc 0) := by
  decide

/-- Target S has claimed RTB's source 9 in this Pulon cycle, and the host may claim it too. -/
def claimedState : State :=
  let s := { owned .sup (INTC_CLAIM 2) (st [(⟨INTC_ENA 2 0, 31, 0⟩, 512), (⟨INTC_ENA 0 0, 31, 0⟩, 512), (RTB_EVT_lost, 3)]) with lines := { startCycle := 1, startable := [137, 393] } };
  match exec (.intcClaim .sup 2) s with
  | .next t => owned .host (INTC_CLAIM 0) t
  | _ => s
theorem witness_InterruptsServed_claims : (let s := claimedState;
      Writes s .host (INTC_CLAIM 0) ∧ s.cycleClaims.map (fun r => (r.target, r.source, r.swp)) = [(3, some 9, false)] ∧ (s.serving 9).map (·.target) = some 3 ∧ s.srcLevel 9 = true ∧
      s.enabledAt 1 9 = true ∧ s.holdOf 1 (9 / 8) = none ∧ s.lines.startCycle = s.now / 4 + 1 ∧ 1 * 128 + 9 ∈ s.lines.startable ∧ s.bestSource 1 = none) := by decide

/-- SUP's pending command, which has the engine to itself. -/
def pendingState (op : Nat) : State := nvsState [] { pendS := some (commandOf op 1000), pages := counterPages, wbuf := [(5, 7#8)] }
/-- A running command with the group writes of its start, with `f` failures. -/
def stepsState (l : Option (List (Nat × List Byte))) (op f : Nat) : State := nvsState [] { run := some { met := false, cmd := commandOf op 1000, steps := l, fails := f } }
theorem witness_NonvolatileStore_steps : (∀ op ∈ [1, 2, 3, 4, 6], let s := pendingState op;
      Normal s ∧ s.nvs.run = none ∧ s.wrHold = false ∧ s.nvsReady = true ∧ s.nvs.pendM = none ∧ s.nvs.pendS = some (commandOf op 1000) ∧ s.isRetired 1000 = false) ∧
    (pendingState 4).resolveSlot true 1000 0 = some (0, 0) ∧ (pendingState 4).staleCells 1000 0 0 = [] ∧
    (∀ l ∈ [some [(3, leBytes 8 0x0807060504030201), (5, List.replicate 8 0#8)], none], ∀ f ∈ [0, 15], let s := stepsState l 4 f;
      Normal s ∧ s.nvs.run = some { met := false, cmd := commandOf 4 1000, steps := l, fails := f, lost := false } ∧ s.nvs.cut = none) ∧
    ([3, 5].Nodup ∧ (leBytes 8 0x0807060504030201).length = 8) := by decide
theorem witness_NonvolatileStore_metDown : (let s := nvsState [] { pages := [(300, { counter := true })] };
      Normal s ∧ s.metUp = false) ∧
    (let s := { nvsState [] { pages := [(300, { counter := true })] } with men := { up.men with up := true } };
      Normal s ∧ s.metUp = true ∧ State.mayWrite true (300#11).toNat = true ∧ (s.pageMeta 300).counter = true ∧ s.slotTaken true = false ∧ s.nvsReady = true) := by decide
/-- Two valid copies with one number and different contents, in partition 2 and, on MET's side, in partition 1. -/
def twoRecords (a b : Nat) : List Host.Cell :=
  let h := [0x5A#8, 0xA5#8, 1#8, 0#8] ++ leBytes 4 7 ++ [0#8, 0#8, 0#8, 0#8];
  let r := h ++ leBytes 4 (crc32 h);
  recordAt 7 a ++ (List.range 16).filterMap (fun i => if r.getD i 0#8 = 0#8 then none else some (b + i, r.getD i 0#8))
def metPairState : State := { nvsState [] { arr := twoRecords (300 * 2048) (301 * 2048) } with men := { up.men with up := true, } }
set_option maxRecDepth 20000 in
theorem witness_NonvolatileStore_tie : (let s := pairState (twoRecords 2048000 2050048);
      (s.recordCopy false 1000 0).map (·.1) = some 7 ∧ (s.recordCopy false 1001 0).map (·.1) = some 7 ∧ s.recordCopy false 1000 0 ≠ s.recordCopy false 1001 0 ∧ partition 1000 = 2) ∧
    ((metPairState.recordCopy true 300 0).map (·.1) = some 7 ∧ (metPairState.recordCopy true 301 0).map (·.1) = some 7 ∧ metPairState.recordCopy true 300 0 ≠ metPairState.recordCopy true 301 0 ∧
      partition 300 = 1) ∧
    (let s := pairState (recordAt 1 2048000 ++ recordAt 2147483649 2050048);
      (s.recordCopy false 1000 0).map (·.1) = some 1 ∧ (s.recordCopy false 1001 0).map (·.1) = some 2147483649 ∧ (1 + 2 ^ 32 - 2147483649) % 2 ^ 32 = 2 ^ 31) := by decide
theorem witness_NonvolatileStore_mayRead : (let s := nvsState [(NVS_RD_PAGE_page, 1000)] {};
      s.pageReads false (s.nget false NVS_RD_PAGE_page) = true ∧ mayRead Party.sup.code 0xD800 = true ∧ mayRead Party.sqa.code 0xD800 = false) := by decide

theorem witness_ThermalProtection_ready : ∀ r ∈ [true, false], ∀ h ∈ [Hold.none, .system], let d := { shutdownOf with ready := r };
    let s := { throttleState 0 { shdn := some d } with hold := h };
    s.hk.shdn = some d ∧ (s.hold = .none ∨ s.hold = .system) ∧ s.nvs.run = none ∧ d.ready = r ∧ s.erasedSlot (s.get NVS_SHDN_PAGE_shutdown) = some 0 ∧ d.record.length = 64 ∧
    s.hold ≠ .thermal := by decide

/-- Pair 3 with PWM from tick 300 on, before and past the on-time, on a running raster H; and a waiting trigger whose deadline falls in the tick of a line start. -/
def pwmState (now : Nat) : State := running 4 0 0 { sdrState [] { runOf 0 with phaseAt := 300, pwmAt := 300 } [] 0 with now := now }
def lateState (n : Nat) : State := running 4 0 0 { sdrState [] { wait := some (profOf 15 n) } [] 0 with now := 24000 }
theorem witness_ShutterDrives_ticks : (∀ n ∈ [300, 396], let s := pwmState n;
      Normal s ∧ (s.pair 3).run = some (profOf 15 0) ∧ (s.pair 3).releasing = false ∧ s.get (SDR_PRF_PH_mode 15 (s.pair 3).phase) = 2 ∧ (s.pair 3).pwmAt + 96 ≤ 396 ∧ s.now = n ∧
      (let y := s.raster (s.counted (s.profRaster (profOf 15 0)));
       y.running = true ∧ y.lineAt + 96 * y.slots ≤ y.lineEnd)) ∧
    (∀ n ∈ [4, 3], let s := lateState n;
      Normal s ∧ (s.pair 3).wait = some (profOf 15 n) ∧ (s.pair 3).run = none ∧ s.get (SDR_PRF_CFG_deadline 15) = 5 ∧
      (let y := s.raster (s.counted (s.profRaster (profOf 15 n)));
       y.running = true ∧ y.lineEnd ≤ s.now)) := by decide

/-- A thermal hold with the outputs that R446 leaves, and a held system reset. -/
def thermalState : State := match exec (.thermalResetEntry true) (throttleState 0 { shdn := some shutdownOf }) with
  | .next t => { t with now := t.now + 1 }
  | _ => up
set_option maxRecDepth 4000 in
theorem witness_HeldPartIsQuiet_more : thermalState.hold = .thermal ∧ thermalState.hk.shdn.isSome = true ∧ (thermalState.sca.resetAt).map (·.1) = some 0 ∧ thermalState.now = 1 ∧
    resetEvent .thermal (.hkConversionEnd none) = false ∧ resetEvent .system (.hkConversionEnd none) = false ∧ systemRuns (.hkConversionEnd none) = false ∧
    (∀ h ∈ [Hold.porst, .supply, .clock, .system], ({ up with hold := h } : State).sca.resetAt = none ∧ ({ up with hold := h } : State).hk.shdn = none) := by
  decide
theorem witness_HeldPartIsQuiet_safe : thermalState.safeOutputs = thermalState := by decide +kernel
theorem witness_MemoriesStayCanonical : (∃ t, step { up with pending := [.memInitDone] } = .next t) ∧ MemoriesCanonical State.reset ∧ (∀ s ∈ copyStates, MemoriesCanonical s) := ⟨⟨_, rfl⟩, by decide, by decide⟩
end Sys2Proof.Tests
end

section
/-! Proofs/Access: what an access by a party does besides its register's own effect. -/

namespace Sys2Proof.Machine

open R State

/-- INTC's records `y` are `x` but for which sources in service have seen an access to their block (R403). -/
def IntcSt.Accesses (x y : IntcSt) : Prop :=
  y.hold = x.hold ∧ ∀ n, Map.get (fun _ => none) y.serv n = Map.get (fun _ => none) x.serv n ∨
    Map.get (fun _ => none) y.serv n = (Map.get (fun _ => none) x.serv n).map (fun v => { v with accessed := true })

namespace State

theorem intc_accesses_refl (x : IntcSt) : x.Accesses x := ⟨rfl, fun _ => Or.inl rfl⟩

theorem intc_accesses_blockAccess (s : State) (sup : Bool) (a : Nat) : s.intc.Accesses (s.blockAccess sup a).intc := by
  unfold blockAccess
  cases hg : blockGroup a with
  | none => exact intc_accesses_refl _
  | some g =>
    refine ⟨rfl, fun n => ?_⟩
    show Map.get _ (s.intc.serv.map _) n = _ ∨ _
    rw [Map.get_map (fun _ => none) (fun _ => none) _
      (fun k o => o.map (fun v => if k / 8 = g ∧ (v.target == 3) = sup then { v with accessed := true } else v)) ?_ (fun _ => rfl) n s.intc.serv]
    · cases Map.get (fun _ => none) s.intc.serv n with
      | none => exact Or.inl rfl
      | some v =>
        by_cases h : n / 8 = g ∧ (v.target == 3) = sup
        · right; simp [h]
        · left; simp [h]
    · rintro ⟨k, o⟩
      cases o with
      | none => rfl
      | some v => dsimp only; split <;> (next h => simp [h])

theorem intc_accesses_beginAccess (s : State) (pc a : Nat) (w : Bool) (h : s.heldHalf pc = none) : s.intc.Accesses (s.beginAccess pc a w).intc := by
  have e : s.flushHeld pc = s := by simp [flushHeld, h]
  unfold beginAccess
  simp only [e, ite_self]
  split
  · exact intc_accesses_blockAccess s _ a
  · exact intc_accesses_refl _

end State

/-- What settles after an access and an effect that leaves the interrupt controller and the lines to themselves, from a state `r` of the same tick: `s` itself, or `s` with the
latch of R49 that the effect cleared. -/
theorem follows_settle_accessed {s r t : State} (hn : r.now = s.now) (hi : r.intc.Accesses t.intc) (hl : t.lines = r.lines) : Follows r (s.readOn t).settle := by
  obtain ⟨hh, hv⟩ := hi
  have hs : ∀ n, (s.readOn t).serving n = r.serving n ∨ (s.readOn t).serving n = (r.serving n).map (fun v => { v with accessed := true }) := hv
  have hl' : (s.readOn t).lines.subst = r.lines.subst ∧ (s.readOn t).lines.substEvt = r.lines.substEvt := ⟨by show t.lines.subst = _; rw [hl], by show t.lines.substEvt = _; rw [hl]⟩
  refine ⟨(settle_holdoffs _).trans hh, settled_settle _, settle_hs _, fun n => ?_, fun n u v hu hv => ?_, fun h => ?_, fun h => ?_, fun h => ?_, fun k => ?_⟩
  · rw [serving_settle]
    rcases hs n with e | e <;> rw [e] <;> cases r.serving n <;> rfl
  · rw [serving_settle] at hv
    rcases hs n with e | e <;> rw [e, hu] at hv <;> cases hv
    · exact ⟨id, rfl⟩
    · exact ⟨fun _ => rfl, rfl⟩
  · obtain ⟨e1, e2⟩ := settle_subst (s.readOn t) ((settle_hold _).symm.trans h)
    exact ⟨e1, by rw [e2, hl'.1, hl'.2]⟩
  · obtain ⟨e1, e2⟩ := settle_subst_held (s.readOn t) (fun e => h ((settle_hold _).trans e))
    exact ⟨e1.trans hl'.1, e2.trans hl'.2⟩
  · rw [settle_now, readOn_now, hn] at h
    have b : (t.now / 4 == s.now / 4) = true := by simpa using h
    rw [settle_startCycle, settle_startable]
    simp [readOn, readHashes, beginCycle, b, hl]
  · simp only [Lines.hashOf]; rw [settle_hashes, readOn_hashes, hl]

theorem Gives.imp {i : Instr} {s : State} {P Q : State → Prop} (h : Gives i s P) (f : ∀ t, P t → Q t) : Gives i s Q := by
  obtain ⟨t, ht, hp⟩ := h
  exact ⟨t, ht, f t hp⟩

/-- Settling keeps a frame of registers, MET's records, the interrupt controller and the lines. -/
theorem settle_men_frame {s t : State} (h : t = { s with regs := t.regs, men := t.men, intc := t.intc, lines := t.lines }) :
    (s.readOn t).settle = { s with regs := t.regs, men := t.men, intc := (s.readOn t).settle.intc, lines := (s.readOn t).settle.lines } := by
  rw [settle_frame, readOn_frame]
  generalize (State.settle _).intc = a
  generalize (State.settle _).lines = b
  conv_lhs => rw [h]

/-- Settling keeps a frame of registers. -/
theorem settle_regs_frame {s t : State} (h : t = { s with regs := t.regs, intc := t.intc, lines := t.lines }) :
    (s.readOn t).settle = { s with regs := (s.readOn t).settle.regs, intc := (s.readOn t).settle.intc, lines := (s.readOn t).settle.lines } := by
  have hm : t.men = s.men := (congrArg State.men h).trans rfl
  have h' : t = { s with regs := t.regs, men := t.men, intc := t.intc, lines := t.lines } := by rw [hm]; exact h
  rw [settle_regs, readOn_regs]
  exact (settle_men_frame h').trans (by rw [hm])

end Sys2Proof.Machine
end

section
/-! Write commands by a party that does not own the register. -/

namespace Sys2Proof.Machine

open R State

theorem wordAddr_wordAddr (a : Nat) : wordAddr (wordAddr a) = wordAddr a := by unfold wordAddr; omega

/-- Every written register's address is a word's. -/
theorem wordAddr_writeTarget {i : Instr} {who : Party} {a : Nat} (h : writeTarget i = some (who, a)) : wordAddr a = a := by
  cases i
  case registerWrite | windowWrite => cases h; exact wordAddr_wordAddr _
  case rasterRun r _ | rasterStop r _ | lockWrite r _ => cases h; cases r <;> rfl
  case agePassStart w => cases w <;> cases h; rfl
  case program | group | erase | incr | cread | cfmt | resolve => 
    simp only [writeTarget, writeTarget.byOwner, Option.ite_none_left_eq_some, Option.some.injEq, Prod.mk.injEq] at h
    rw [← h.2.2]; rfl
  all_goals cases h
  all_goals decide +revert

/-- The word that a write command of `writeTarget` writes, as its party reads the register before. -/
def writeWord (s : State) : Instr → W32
  | .registerWrite _ _ v | .ownershipWrite _ _ v | .lockWrite _ _ v | .fsyncCfgWrite _ v | .cmpCommit _ _ v | .cmpCtlWrite _ _ v | .supWdKick _ v
  | .supWdCfgWrite _ v | .forcedRelease _ v | .errorInjection _ v | .selfTestRequest _ v | .radDataWrite _ v | .replayRequest _ v
  | .facetEnableWrite _ _ v | .memInject _ v | .hportTxdWrite _ v | .hportDoorbellWrite _ v | .intcComplete _ _ v | .intcSet _ _ _ v | .intcClr _ _ _ v
  | .hkUrgent _ v | .throttleForceWrite _ v | .shutterTrigger _ v | .avsWrite _ v | .clockReduce _ v | .windowWrite _ _ v => v
  | .rasterRun _ _ arm => BitVec.ofNat 32 (1 + 2 * b2n arm)
  | .rasterStop _ _ arm => BitVec.ofNat 32 (2 * b2n arm)
  | .sqStartCommand _ _ => 1#32
  | .sqCheckCommand _ _ => 8#32
  | .sqHaltCommand _ _ => 2#32
  | .sqFlushCommand _ _ => 4#32
  | .romMapClear _ => 0#32
  | .powerUpRequest _ p => withBits (s.reg (FPP_PWR p)) 0 0 1
  | .powerDownRequest _ p => withBits (s.reg (FPP_PWR p)) 0 0 0
  | .tableCheckStart _ _ => 2#32
  | .ffNow _ p => BitVec.ofNat 32 (s.get (CSU_CTL_en p) + 2)
  | .shutOk _ p => BitVec.ofNat 32 (s.get (CSU_CTL_en p) + 16)
  | .statsClr _ p => BitVec.ofNat 32 (s.get (CSU_CTL_en p) + 32)
  | .compose _ p => BitVec.ofNat 32 (s.get (CSU_CTL_en p) + 4)
  | .wedgeArm _ p => BitVec.ofNat 32 (s.get (CSU_CTL_en p) + 8)
  | .tableSync _ f => BitVec.ofNat 32 (s.get (IPL_CTL_en f) + 4)
  | .histClr _ f => BitVec.ofNat 32 (s.get (IPL_CTL_en f) + 8)
  | .recFreeze _ _ => 1#32
  | .recExport _ _ => 2#32
  | .recRelease _ _ => 4#32
  | .tableLoadStart _ => 1#32
  | .memInitStart _ => 1#32
  | .dmaStart _ _ => 1#32
  | .dmaStop _ _ => 2#32
  | .bulkStart _ v => v ||| 1#32
  | .txFlush _ => withBits (s.reg HPORT_FIFO) 9 8 2
  | .rxFlush _ => withBits (s.reg HPORT_FIFO) 9 8 1
  | .bulkStop _ _ => 2#32
  | .agePassStart (some _) => withBits (s.reg SCA_AGE_CTL) 0 0 1
  | .systemResetRequest _ key sup => key ++ (0#14) ++ (1#1) ++ BitVec.ofBool sup
  | .supResetRequest _ key => key ++ 1#16
  | .program _ page => nvsWord 1 page 0#8 0#2
  | .group _ page g => nvsWord 2 page g 0#2
  | .erase _ page => nvsWord 3 page 0#8 0#2
  | .incr _ page slot => nvsWord 4 page 0#8 slot
  | .cread _ page slot => nvsWord 5 page 0#8 slot
  | .cfmt _ page => nvsWord 6 page 0#8 0#2
  | .resolve _ => nvsWord 7 0#11 0#8 0#2
  | _ => 0#32

/-- An NVS command of any party but MET is a write of NVS_CMD. -/
theorem nvsCommand_act {i : Instr} {s : State} {who : Party} (hm : who ≠ .met) (hn : s.hold = .none)
    (e : exec i s = actAs who s (fun u => u.nvsRequest who (writeWord u i))) : exec i s = act s (fun u => u.busWrite who NVS_CMD (writeWord u i)) := by
  rw [e, actAs, if_pos (Or.inl hn), nvsRequest, if_neg hm, act_running _ hn]

/-- A non-owner's write command comes to the write itself: no request waits for DRAM, and MET's own copy of the NVS block is not reached. -/
theorem exec_writeTarget {i : Instr} {s : State} {who : Party} {a : Nat} (h : writeTarget i = some (who, a)) (ho : s.owns who.code a = false) (hn : s.hold = .none) :
    ∃ addr, wordAddr addr = a ∧ exec i s = act s (fun u => u.busWrite who addr (writeWord u i)) := by
  have hw := wordAddr_writeTarget h
  have hr : s.running = true := by simp [running, hn]
  cases i
  case registerWrite w addr v =>
    cases h
    refine ⟨addr.toNat, rfl, (show _ = execRegisterWrite who addr v s from rfl).trans ?_⟩
    simp [execRegisterWrite, actAs, act, hn, hr, stalls, ho, writeWord]
  case windowWrite w addr v =>
    cases h
    refine ⟨addr.toNat, rfl, (show _ = execWindowWrite who addr v s from rfl).trans ?_⟩
    simp [execWindowWrite, act, hr, stalls, ho, writeWord]
  case bulkStop w data =>
    cases h
    refine ⟨_, hw, (show _ = execBulkStop who data s from rfl).trans ?_⟩
    simp [execBulkStop, act, hr, ho, writeWord]
  case agePassStart w => cases w <;> cases h; exact ⟨_, hw, rfl⟩
  case program | group | erase | incr | cread | cfmt | resolve =>
    simp only [writeTarget, writeTarget.byOwner, Option.ite_none_left_eq_some, Option.some.injEq, Prod.mk.injEq] at h
    obtain ⟨hm, rfl, rfl⟩ := h
    exact ⟨_, hw, nvsCommand_act hm hn rfl⟩
  all_goals cases h
  all_goals exact ⟨_, hw, rfl⟩

/-- An access that reaches nothing leaves the state but for what settles. -/
theorem gives_quiet_of_access {i : Instr} {s : State} {who : Party} {a : Nat} {w : Bool} (hh : s.heldHalf who.code = none) (hn : Normal s)
    (e : exec i s = commit (s.readOn (s.beginAccess who.code a w))) : Gives i s (Quiet s) := by
  have hb := beginAccess_quiet s who.code a w hh
  refine gives_of_quiet e ((congrArg State.hk hb |>.trans rfl : _ = s.hk) ▸ hn.2) ⟨?_, follows_settle_accessed rfl (intc_accesses_beginAccess s _ _ _ hh) (beginAccess_lines s _ _ _)⟩
  have hf := settle_regs_frame (s := s) (t := s.beginAccess who.code a w) (by rw [hb])
  have hr : (s.readOn (s.beginAccess who.code a w)).settle.regs = s.regs := by rw [settle_regs, readOn_regs, hb]
  rw [hr] at hf
  exact hf

/-- Settles O19: a command of a party that does not own the register comes to a denied bus write, whose access INTC alone notes. -/
theorem nonOwnerWriteIgnored : Obligations.NonOwnerWriteIgnored := by
  intro i s who a h ho hm hh hn
  obtain ⟨addr, rfl, e⟩ := exec_writeTarget h ho hn.1
  refine gives_quiet_of_access (a := wordAddr addr) (w := true) hh hn (e.trans ?_)
  rw [act_running _ hn.1, busWrite_denied s who addr _ ho hm]

end Sys2Proof.Machine
end

section
/-! Owner writes: registers whose write is that of R9 alone. -/
namespace Sys2Proof.Machine
open R State

namespace State

/-- Registers alone have changed, and INTC has noted the access. -/
theorem regsOnly_settle {l : List Nat} {s t : State} (hf : t = { s with regs := t.regs, intc := t.intc, lines := t.lines }) (hi : s.intc.Accesses t.intc)
    (hl : t.lines = s.lines) (hr : ∀ a, a ∉ l → t.reg a = s.reg a) : RegsOnly l s (s.readOn t).settle :=
  ⟨settle_regs_frame hf, follows_settle_accessed rfl hi hl, fun a ha => by rw [settle_reg, readOn_reg, hr a ha]⟩

theorem beginAccess_reg_quiet (s : State) (pc a : Nat) (w : Bool) (h : s.heldHalf pc = none) (b : Nat) : (s.beginAccess pc a w).reg b = s.reg b := by
  rw [beginAccess_quiet s pc a w h]; rfl

/-- A register write below the paged window waits for no DRAM request. -/
theorem exec_registerWrite {s : State} (who : Party) {a : Nat} (v : W32) (hn : s.hold = .none) (ha : a < 0x20_0000) :
    exec (.registerWrite who (BitVec.ofNat 24 a) v) s = commit (s.readOn (s.busWrite who a v)) := by
  have e : (BitVec.ofNat 24 a).toNat = a := by rw [BitVec.toNat_ofNat]; exact Nat.mod_eq_of_lt (by omega)
  have hs : s.stalls who a true = false := by
    have : ¬ (0x20_0000 ≤ wordAddr a) := by unfold wordAddr; omega
    simp [stalls, this]
  refine (show _ = execRegisterWrite who (BitVec.ofNat 24 a) v s from rfl).trans ?_
  simp [execRegisterWrite, actAs, hn, e, hs]

theorem plainWrite_row {a : Nat} {r : RegRow} (h : findRow a = some r) (s : State) (v : W32) : s.plainWrite a v = s.setReg a (r.written s.frozen (s.reg a) v) := by
  simp [plainWrite, h]

end State

/-- The register at `a` has row `r` of the map and no rule of its own: from `s` its owner's write is R9's alone, which the seal does not reject. -/
structure PlainRow (s : State) (a : Nat) (r : RegRow) : Prop where
  row : findRow a = some r
  plain : plainReg a = true
  low : a < 0x20_0000
  block : ∀ (u : State) (pc : Nat) (v : W32), u.ipl = s.ipl → u.blockWrite pc a v = u.plainWrite a v

theorem PlainRow.busWrite {s : State} {a : Nat} {r : RegRow} (h : PlainRow s a r) {who : Party} (v : W32) (ho : s.owns who.code a = true) (hh : s.heldHalf who.code = none) :
    s.busWrite who a v = (s.beginAccess who.code a true).setReg a (r.written s.frozen (s.reg a) v) := by
  rw [busWrite_plain s who v h.plain ho, h.block _ _ _ (beginAccess_ipl s _ _ _), plainWrite_row h.row, beginAccess_frozen, beginAccess_reg_quiet s _ _ _ hh]

/-- The owner's write of a register with no rule of its own. -/
theorem PlainRow.gives {s : State} {a : Nat} {r : RegRow} (h : PlainRow s a r) {who : Party} (v : W32) (hw : Writes s who a) :
    Gives (.registerWrite who (BitVec.ofNat 24 a) v) s (fun t => RegsOnly [a] s t ∧ t.reg a = r.written s.frozen (s.reg a) v) := by
  obtain ⟨ho, hh, hn⟩ := hw
  have hb := beginAccess_quiet s who.code a true hh
  refine gives_of_quiet ((exec_registerWrite who v hn.1 h.low).trans (by rw [h.busWrite v ho hh])) ?_ ⟨regsOnly_settle ?_ ?_ ?_ ?_, ?_⟩
  · rw [readOn_hk, setReg_hk, beginAccess_hk]; exact hn.2
  · rw [hb]; rfl
  · exact intc_accesses_beginAccess s _ _ _ hh
  · exact beginAccess_lines s _ _ _
  · intro b hb
    rw [reg_setReg_other _ _ (by simpa using hb), beginAccess_reg_quiet s _ _ _ hh]
  · rw [settle_reg, readOn_reg, reg_setReg_same]

/-! ## What a written register's word is, by its row -/

theorem maskW_zero : maskW 0 = 0#32 := rfl

/-- A row of read-write fields alone. -/
def RegRow.isRw (r : RegRow) : Bool := r.rws == 0 && r.w1c == 0 && r.w1s == 0 && r.ctrs.isEmpty
/-- A row of bits alone that clear on 1. -/
def RegRow.isW1c (r : RegRow) : Bool := r.rw == 0 && r.rws == 0 && r.w1s == 0 && r.ctrs.isEmpty

theorem written_rw {r : RegRow} (h : r.isRw = true) (frozen : Bool) (old v : W32) : r.written frozen old v = (old &&& ~~~maskW r.rw) ||| (v &&& maskW r.rw) := by
  simp only [RegRow.isRw, Bool.and_eq_true, beq_iff_eq, List.isEmpty_iff] at h
  obtain ⟨⟨⟨h1, h2⟩, h3⟩, h4⟩ := h
  simp only [RegRow.written, h1, h2, h3, h4, Nat.or_zero, ite_self, clearCounters, List.foldl_nil, maskW_zero, BitVec.and_zero, BitVec.or_zero, BitVec.not_zero, BitVec.and_allOnes]

theorem written_w1c {r : RegRow} (h : r.isW1c = true) (frozen : Bool) (old v : W32) : r.written frozen old v = old &&& ~~~(v &&& maskW r.w1c) := by
  simp only [RegRow.isW1c, Bool.and_eq_true, beq_iff_eq, List.isEmpty_iff] at h
  obtain ⟨⟨⟨h1, h2⟩, h3⟩, h4⟩ := h
  simp only [RegRow.written, h1, h2, h3, h4, Nat.or_zero, ite_self, clearCounters, List.foldl_nil, maskW_zero, BitVec.and_zero, BitVec.or_zero, BitVec.not_zero, BitVec.and_allOnes]

/-! ## The nine read-write registers -/

theorem blockWrite_plainRegs {a : Nat} {m : W32} (h : (a, m) ∈ plainRegs) (s : State) (pc : Nat) (v : W32) : s.blockWrite pc a v = s.plainWrite a v := by
  simp only [plainRegs, List.mem_cons, List.not_mem_nil, or_false, Prod.mk.injEq] at h
  rcases h with ⟨rfl, -⟩ | ⟨rfl, -⟩ | ⟨rfl, -⟩ | ⟨rfl, -⟩ | ⟨rfl, -⟩ | ⟨rfl, -⟩ | ⟨rfl, -⟩ | ⟨rfl, -⟩ | ⟨rfl, -⟩ <;> rfl

theorem rows_plainRegs : ∀ e ∈ plainRegs, plainReg e.1 = true ∧ e.1 < 0x20_0000 ∧ (findRow e.1).any (fun r => maskW r.rw == e.2 && r.isRw) = true := by decide

theorem plainRow_plainRegs {a : Nat} {m : W32} (h : (a, m) ∈ plainRegs) (s : State) : ∃ r, PlainRow s a r ∧ ∀ f old v, r.written f old v = (old &&& ~~~m) ||| (v &&& m) := by
  obtain ⟨hp, hl, hr⟩ := rows_plainRegs _ h
  obtain ⟨r, hf, hr⟩ := (Option.any_eq_true _ _).mp hr
  rw [Bool.and_eq_true, beq_iff_eq] at hr
  exact ⟨r, ⟨hf, hp, hl, fun u pc v _ => blockWrite_plainRegs h u pc v⟩, fun f old v => by rw [written_rw hr.2, hr.1]⟩

end Sys2Proof.Machine
end

section
/-! Fields, audit entries and sealed registers. -/
namespace Sys2Proof.Machine
open R State

/-- Adding a power of two whose bit is 0 sets that bit. -/
theorem testBit_add_two_pow {x i : Nat} (h : x.testBit i = false) (j : Nat) : (x + 2 ^ i).testBit j = (x.testBit j || decide (i = j)) := by
  rw [Nat.add_comm]
  rcases Nat.lt_trichotomy j i with hj | rfl | hj
  · simp [Nat.testBit_two_pow_add_gt hj, Nat.ne_of_gt hj]
  · simp [Nat.testBit_two_pow_add_eq, h]
  · have hr : x % 2 ^ (i + 1) = x % 2 ^ i := by
      rw [Nat.mod_pow_succ]
      have : x / 2 ^ i % 2 = 0 := by
        have := h; rw [Nat.testBit_eq_decide_div_mod_eq] at this; simp at this; omega
      simp [this]
    have hlt : x % 2 ^ i < 2 ^ i := Nat.mod_lt _ (by positivity)
    have e2 : 2 ^ (i + 1) = 2 ^ i + 2 ^ i := by rw [Nat.pow_succ]; omega
    have hx : x = 2 ^ (i + 1) * (x / 2 ^ (i + 1)) + x % 2 ^ i := by rw [← hr]; exact (Nat.div_add_mod _ _).symm
    have hs : 2 ^ i + x = 2 ^ (i + 1) * (x / 2 ^ (i + 1)) + (2 ^ i + x % 2 ^ i) := by omega
    have hn : ¬ j < i + 1 := by omega
    conv_rhs => rw [hx]
    rw [hs, Nat.testBit_two_pow_mul_add _ (by omega), Nat.testBit_two_pow_mul_add _ (by omega), if_neg hn, if_neg hn]
    simp [Nat.ne_of_lt hj]

namespace State

/-- A set bit of a field in its register's word. -/
theorem reg_setBit_same (s : State) (f : Field) (i : Nat) (h32 : f.hi < 32) (hi : f.lo + i ≤ f.hi) : (s.setBit f i).reg f.addr = orBit (s.reg f.addr) f i := by
  have hg : ∀ j, (s.get f).testBit j = (decide (j < f.hi - f.lo + 1) && (s.reg f.addr).toNat.testBit (f.lo + j)) := fun j => bitsOf_testBit _ _ _ _
  have ho : ∀ j, (orBit (s.reg f.addr) f i).toNat.testBit j = ((s.reg f.addr).toNat.testBit j || decide (f.lo + i = j)) := fun j => by
    rw [orBit, BitVec.toNat_or, Nat.testBit_or, BitVec.toNat_ofNat, Nat.mod_eq_of_lt (Nat.pow_lt_pow_right (by decide) (by omega)), Nat.testBit_two_pow]
  have hb : s.bit f i = (s.get f).testBit i := by rw [Nat.testBit_eq_decide_div_mod_eq]; rfl
  apply BitVec.eq_of_toNat_eq
  apply Nat.eq_of_testBit_eq
  intro j
  rw [ho]
  unfold setBit
  split
  · next h =>
    rw [hb, hg, Bool.and_eq_true] at h
    by_cases hj : f.lo + i = j
    · rw [← hj, h.2, Bool.true_or]
    · simp [hj]
  · next h =>
    rw [hb, Bool.not_eq_true] at h
    rw [put, reg_setReg_same, withBits_testBit _ _ _ (by omega) h32]
    by_cases hj : f.lo ≤ j ∧ j ≤ f.hi
    · rw [if_pos hj, testBit_add_two_pow h, hg, show f.lo + (j - f.lo) = j by omega]
      have h1 : j - f.lo < f.hi - f.lo + 1 := by omega
      have h2 : (i = j - f.lo) ↔ (f.lo + i = j) := by omega
      simp [h1, h2]
    · have h2 : ¬ (f.lo + i = j) := by omega
      simp [hj, h2]

/-- A counter field in its register's word after it counts. -/
theorem reg_bump_same (s : State) (f : Field) : (s.bump f).reg f.addr = counted1 (s.reg f.addr) f := by
  have e : ∀ n, sat (2 ^ (f.hi - f.lo + 1) - 1) n = min (2 ^ (f.hi - f.lo + 1) - 1) n := fun n => by unfold sat; split <;> omega
  rw [bump, put, reg_setReg_same, e]
  rfl

/-! ## Audit entries (R244) -/

/-- Noting an occurrence touches the open entries alone. -/
theorem auditNote_frame (s : State) (cls kind item old new : Nat) :
    s.auditNote cls kind item old new = { s with men := { s.men with opens := (s.auditNote cls kind item old new).men.opens } } := by
  unfold auditNote
  split
  · rfl
  · dsimp only; split <;> rfl

theorem auditNote_reg (s : State) (cls kind item old new a : Nat) : (s.auditNote cls kind item old new).reg a = s.reg a := by rw [auditNote_frame]; rfl

/-- On a part with the enclave an occurrence is in the open entries of the present frame, with its value after it. -/
theorem exists_mem_auditNote {s : State} (hv : s.variantM = true) (cls kind item old new : Nat) :
    ∃ e ∈ (s.auditNote cls kind item old new).men.opens, e.cls = cls ∧ e.item = item ∧ e.new = new ∧ e.frame = s.men.frames := by
  simp only [auditNote, hv, Bool.not_true, Bool.false_eq_true, if_false]
  split
  · next h =>
    obtain ⟨e, he, hs⟩ := List.any_eq_true.mp h
    refine ⟨_, List.mem_map.mpr ⟨e, he, rfl⟩, ?_⟩
    simp only [Bool.and_eq_true, beq_iff_eq] at hs
    obtain ⟨⟨h1, h2⟩, h3⟩ := hs
    simp [h1, h2, h3]
  · exact ⟨_, List.mem_append_right _ (List.mem_singleton_self _), rfl, rfl, rfl, rfl⟩

/-- Noting a change: the identity is stale, and the open entries hold it. -/
theorem menChange_frame (s : State) (cls item old new : Nat) :
    s.menChange cls item old new = { s with regs := (s.menChange cls item old new).regs, men := { s.men with opens := (s.auditNote cls 3 item old new).men.opens } } := by
  have h : ∀ t : State, t.setBit MEN_STAT_ident_stale = { t with regs := (t.setBit MEN_STAT_ident_stale).regs } := fun t => by unfold setBit; split <;> rfl
  rw [menChange, h]
  generalize (setBit _ _).regs = r
  conv_lhs => rw [auditNote_frame]

theorem menChange_reg_other (s : State) (cls item old new : Nat) {a : Nat} (h : a ≠ MEN_STAT) : (s.menChange cls item old new).reg a = s.reg a := by
  rw [menChange, reg_setBit_other _ _ _ h, auditNote_reg]

theorem menChange_stale (s : State) (cls item old new : Nat) : (s.menChange cls item old new).reg MEN_STAT = orBit (s.reg MEN_STAT) MEN_STAT_ident_stale 0 := by
  rw [menChange, ← auditNote_reg s cls 3 item old new MEN_STAT]
  exact reg_setBit_same _ _ 0 (by decide) (by decide)

end State

/-! ## Sealed registers, written with the seal open and with it not open -/

/-- The seal freezes the register at `a`, which has row `r` of the map, as a whole (R11). -/
structure SealedRow (a : Nat) (r : RegRow) : Prop where
  row : findRow a = some r
  word : wordAddr a = a
  low : a < 0x20_0000
  rws : r.rws ≠ 0
  noCtrs : r.ctrs = []
  notOwn : ¬ (PSC_OWN 0 ≤ a ∧ a ≤ PSC_OWN 31)
  notStream : ¬ (CER_S_CFG 0 ≤ a ∧ a < 0xB300)

namespace SealedRow

variable {a : Nat} {r : RegRow}

theorem sealedReg (h : SealedRow a r) (s : State) : s.sealedReg a = true := by
  rw [State.sealedReg, if_neg h.notOwn, if_neg (fun k => h.notStream ⟨k.1, k.2.1⟩), h.row]
  simp [h.rws, h.noCtrs]

/-- With the seal not open the owner's write is rejected. -/
theorem busWrite_frozen (h : SealedRow a r) {s : State} {who : Party} (v : W32) (ho : s.owns who.code a = true) (hh : s.heldHalf who.code = none) (hf : s.frozen = true) :
    s.busWrite who a v = (s.beginAccess who.code a true).auditReject (auditClass a) 4 a (s.num a) v.toNat := by
  have hn : (s.beginAccess who.code a true).num a = s.num a := num_eq_of_reg (beginAccess_reg_quiet s _ _ _ hh a)
  simp [busWrite, h.word, ho, ownerWrite, hf, h.sealedReg, hn]

/-- With the seal open the owner's write of a register with no rule of its own is R9's, and a change is noted. -/
theorem busWrite_open (h : SealedRow a r) (hb : ∀ (u : State) pc v, u.blockWrite pc a v = u.plainWrite a v) {s : State} {who : Party} (v : W32)
    (ho : s.owns who.code a = true) (hh : s.heldHalf who.code = none) (hf : s.frozen = false) :
    s.busWrite who a v = ((s.beginAccess who.code a true).setReg a (r.written false (s.reg a) v)).noteChange a (s.reg a) := by
  have hr := beginAccess_reg_quiet s who.code a true hh a
  have hc : a < CER_S_CFG 0 ∨ 0xB300 ≤ a := by have := h.notStream; omega
  simp only [busWrite, h.word, beginAccess_owns, ho, if_true, ownerWrite, beginAccess_frozen, hf, Bool.false_and, Bool.false_eq_true, if_false, h.sealedReg, hb,
    plainWrite_row h.row, hr]
  rw [if_pos (by simpa using hc)]

end SealedRow

theorem written_open {r : RegRow} (h : r.w1c = 0 ∧ r.w1s = 0 ∧ r.ctrs = []) (old v : W32) :
    r.written false old v = (old &&& ~~~maskW (r.rw ||| r.rws)) ||| (v &&& maskW (r.rw ||| r.rws)) := by
  obtain ⟨h1, h2, h3⟩ := h
  simp only [RegRow.written, h1, h2, h3, Bool.false_eq_true, if_false, clearCounters, List.foldl_nil, maskW_zero, BitVec.and_zero, BitVec.or_zero, BitVec.not_zero, BitVec.and_allOnes]

/-- The effect of a change of a sealed register with the seal open: the register, the open entries and the stale mark alone. -/
def sealedEffect (s u : State) (a cls : Nat) (new : W32) : State :=
  if s.variantM = true ∧ new ≠ s.reg a then (u.setReg a new).menChange cls a (s.reg a).toNat new.toNat else u.setReg a new

theorem noteChange_eq_sealedEffect {s u : State} {a cls : Nat} (hv : u.variantM = s.variantM) (hc : auditClass a = cls)
    (hl : ¬ (a = LCA_CTL 0 ∨ a = LCA_CTL 1 ∨ a = LCA_CTL 2 ∨ a = LCA_CTL 3)) (new : W32) : (u.setReg a new).noteChange a (s.reg a) = sealedEffect s u a cls new := by
  unfold noteChange sealedEffect
  rw [reg_setReg_same, setReg_variantM, hv, if_neg hl, hc]
  by_cases h : s.variantM = true ∧ new ≠ s.reg a
  · rw [if_pos h, if_neg (by simp [h.1, h.2])]
    simp [num]
  · rw [if_neg h, if_pos (by by_cases hm : s.variantM = true <;> simp_all)]

/-- Six sealed registers with no rule of their own, each with the mask of its fields and its audit class. -/
def sealedRegs : List (Nat × W32 × Nat) :=
  [(FPP_IDLE 0, 0xFFF#32, 1), (FPP_BIAS 3, 0xFFFF#32, 1), (FPP_PWR_SETTLE 2, 0xFFF#32, 1), (PCE_DRIFT_REF 1, 0xFFFFF#32, 3), (CSU_UPD 2, 0xFFFFFF#32, 4),
    (CSU_RESP_REF 0, 0xFFFF#32, 4)]

theorem blockWrite_sealedRegs {a : Nat} {m : W32} {cls : Nat} (h : (a, m, cls) ∈ sealedRegs) (s : State) (pc : Nat) (v : W32) : s.blockWrite pc a v = s.plainWrite a v := by
  simp only [sealedRegs, List.mem_cons, List.not_mem_nil, or_false, Prod.mk.injEq] at h
  rcases h with ⟨rfl, -⟩ | ⟨rfl, -⟩ | ⟨rfl, -⟩ | ⟨rfl, -⟩ | ⟨rfl, -⟩ | ⟨rfl, -⟩ <;> rfl

/-- Whether the map gives a register at `a` that the seal freezes as a whole and of whose row `q` holds. -/
def sealedRowAt (q : RegRow → Bool) (a : Nat) : Bool :=
  decide (wordAddr a = a) && decide (a < 0x20_0000) && !decide (PSC_OWN 0 ≤ a ∧ a ≤ PSC_OWN 31) && !decide (CER_S_CFG 0 ≤ a ∧ a < 0xB300) &&
    (findRow a).any (fun r => r.rws != 0 && r.ctrs.isEmpty && q r)

theorem exists_sealedRow {q : RegRow → Bool} {a : Nat} (h : sealedRowAt q a = true) : ∃ r, SealedRow a r ∧ q r = true := by
  simp only [sealedRowAt, Bool.and_eq_true, decide_eq_true_eq, Bool.not_eq_true', decide_eq_false_iff_not, Option.any_eq_true, bne_iff_ne, List.isEmpty_iff] at h
  obtain ⟨⟨⟨⟨hw, hl⟩, ho⟩, hc⟩, r, hr, ⟨hs, hk⟩, hq⟩ := h
  exact ⟨r, ⟨hr, hw, hl, hs, hk, ho, hc⟩, hq⟩

theorem rows_sealedRegs : ∀ e ∈ sealedRegs, sealedRowAt (fun r => r.w1c == 0 && r.w1s == 0 && maskW (r.rw ||| r.rws) == e.2.1) e.1 = true ∧ e.1 ≠ MEN_STAT ∧
    auditClass e.1 = e.2.2 ∧ ¬ (e.1 = LCA_CTL 0 ∨ e.1 = LCA_CTL 1 ∨ e.1 = LCA_CTL 2 ∨ e.1 = LCA_CTL 3) := by decide

/-- The owner's write of one of them with the seal open. -/
theorem busWrite_sealedRegs {a cls : Nat} {m : W32} (h : (a, m, cls) ∈ sealedRegs) {s : State} {who : Party} (v : W32) (ho : s.owns who.code a = true)
    (hh : s.heldHalf who.code = none) (hf : s.frozen = false) :
    s.busWrite who a v = sealedEffect s (s.beginAccess who.code a true) a cls ((s.reg a &&& ~~~m) ||| (v &&& m)) := by
  obtain ⟨hr, -, hc, hl⟩ := rows_sealedRegs _ h
  obtain ⟨r, hr, hq⟩ := exists_sealedRow hr
  simp only [Bool.and_eq_true, beq_iff_eq] at hq
  obtain ⟨⟨h1, h2⟩, hm⟩ := hq
  rw [hr.busWrite_open (blockWrite_sealedRegs h) v ho hh hf, written_open ⟨h1, h2, hr.noCtrs⟩, hm,
    noteChange_eq_sealedEffect (beginAccess_variantM s _ _ _) hc hl]

section
variable {s : State} {x : IntcSt} {a cls : Nat} {new : W32}

/-- What the effect changes. -/
theorem sealedEffect_frame : sealedEffect s { s with intc := x } a cls new =
    { s with regs := (sealedEffect s { s with intc := x } a cls new).regs, men := { s.men with opens := (sealedEffect s { s with intc := x } a cls new).men.opens },
             intc := x } := by
  unfold sealedEffect
  split
  · rw [menChange_frame]; rfl
  · rfl

theorem sealedEffect_reg_same (ha : a ≠ MEN_STAT) : (sealedEffect s { s with intc := x } a cls new).reg a = new := by
  unfold sealedEffect
  split
  · rw [menChange_reg_other _ _ _ _ _ ha, reg_setReg_same]
  · rw [reg_setReg_same]

theorem sealedEffect_reg_other {b : Nat} (hb : b ≠ a) (hm : b ≠ MEN_STAT) : (sealedEffect s { s with intc := x } a cls new).reg b = s.reg b := by
  unfold sealedEffect
  split
  · rw [menChange_reg_other _ _ _ _ _ hm, reg_setReg_other _ _ hb]; rfl
  · rw [reg_setReg_other _ _ hb]; rfl

/-- A change is noted and the identity is stale. -/
theorem sealedEffect_changed (h : s.variantM = true ∧ new ≠ s.reg a) (ha : a ≠ MEN_STAT) :
    (sealedEffect s { s with intc := x } a cls new).reg MEN_STAT = orBit (s.reg MEN_STAT) MEN_STAT_ident_stale 0 ∧
      ∃ e ∈ (sealedEffect s { s with intc := x } a cls new).men.opens, e.cls = cls ∧ e.item = a ∧ e.new = new.toNat ∧ e.frame = s.men.frames := by
  rw [sealedEffect, if_pos h]
  refine ⟨by rw [menChange_stale, reg_setReg_other _ _ ha.symm]; rfl, ?_⟩
  rw [menChange, setBit_men]
  exact exists_mem_auditNote (s := setReg { s with intc := x } a new) h.1 cls 3 a _ _

/-- Nothing is noted where nothing changes, and on a part without the enclave. -/
theorem sealedEffect_same (h : ¬ (s.variantM = true ∧ new ≠ s.reg a)) (ha : a ≠ MEN_STAT) :
    (sealedEffect s { s with intc := x } a cls new).men.opens = s.men.opens ∧ (sealedEffect s { s with intc := x } a cls new).reg MEN_STAT = s.reg MEN_STAT := by
  rw [sealedEffect, if_neg h]
  exact ⟨rfl, reg_setReg_other _ _ ha.symm⟩

end

/-- Settling keeps a frame of registers and MET's open entries. -/
theorem settle_opens_frame {s t : State} (h : t = { s with regs := t.regs, men := { s.men with opens := t.men.opens }, intc := t.intc, lines := t.lines }) :
    (s.readOn t).settle = { s with regs := (s.readOn t).settle.regs, men := { s.men with opens := (s.readOn t).settle.men.opens }, intc := (s.readOn t).settle.intc,
                                   lines := (s.readOn t).settle.lines } := by
  have hm : t.men = { s.men with opens := t.men.opens } := (congrArg State.men h).trans rfl
  rw [settle_regs, readOn_regs, settle_men, readOn_men, ← hm]
  exact settle_men_frame (hm ▸ h)

/-- Settles O20: the plain registers by R9 alone, the sealed ones by R9 with what MET notes. -/
theorem ownerWriteTakesEffect : Obligations.OwnerWriteTakesEffect := by
  intro s who v a m
  refine ⟨fun h hw => ?_, fun cls h ⟨ho, hh, hn⟩ hf => ?_⟩
  · obtain ⟨r, hr, hv⟩ := plainRow_plainRegs h s
    obtain ⟨t, he, ht, hn⟩ := hr.gives v hw
    exact ⟨t, he, ht, hn.trans (hv _ _ _)⟩
  · have h : (a, m, cls) ∈ sealedRegs := h
    obtain ⟨hrow, ha, -, -⟩ := rows_sealedRegs _ h
    obtain ⟨r, hrow, -⟩ := exists_sealedRow hrow
    have he := (exec_registerWrite who v hn.1 hrow.low).trans (by rw [busWrite_sealedRegs h v ho hh hf])
    have hx := intc_accesses_beginAccess s who.code a true hh
    rw [beginAccess_quiet s who.code a true hh] at he
    generalize (s.beginAccess who.code a true).intc = x at he hx
    have hfr := sealedEffect_frame (s := s) (x := x) (a := a) (cls := cls) (new := (s.reg a &&& ~~~m) ||| (v &&& m))
    have hi : s.intc.Accesses (sealedEffect s { s with intc := x } a cls ((s.reg a &&& ~~~m) ||| (v &&& m))).intc := by rw [hfr]; exact hx
    have hl : (sealedEffect s { s with intc := x } a cls ((s.reg a &&& ~~~m) ||| (v &&& m))).lines = s.lines := by rw [hfr]
    refine gives_of_quiet he ?_ ⟨settle_opens_frame ?_, follows_settle_accessed rfl hi hl, ?_, ?_, ?_, ?_⟩
    · rw [readOn_hk, hfr]; exact hn.2
    · rw [hfr]
    · rw [settle_reg, readOn_reg, sealedEffect_reg_same ha]
    · intro b hb hm
      rw [settle_reg, readOn_reg, sealedEffect_reg_other hb hm]
    · intro hc
      rw [settle_reg, readOn_reg, settle_men, readOn_men]
      exact sealedEffect_changed hc ha
    · intro hc
      rw [settle_reg, readOn_reg, settle_men, readOn_men]
      exact sealedEffect_same hc ha

end Sys2Proof.Machine
end

section
/-! Rejected writes and the commit of audit entries (R11, R244). -/
namespace Sys2Proof.Machine
open R State

namespace State

/-- A rejection is counted and noted. -/
theorem auditReject_eq {s : State} (hv : s.variantM = true) (cls kind item old new : Nat) :
    s.auditReject cls kind item old new = (s.bump (MEN_REJ_rejections cls)).auditNote cls kind item old new := by
  simp [auditReject, hv]

/-- `t` is `s` with `n` more entries committed: the trail and its registers alone. -/
def Committed (n : Nat) (s t : State) : Prop :=
  t = { s with regs := t.regs, men := { s.men with entries := s.men.entries + n, trail := t.men.trail } }

theorem Committed.regs {n : Nat} {s t : State} (h : Committed n s t) (f : Field) (v : Nat) : Committed n s (t.put f v) := by
  unfold Committed at *
  conv_lhs => rw [h]
  rfl

theorem Committed.trans {n k : Nat} {s t u : State} (h : Committed n s t) (g : Committed k t u) : Committed (k + n) s u := by
  unfold Committed at *
  have e : t.men.entries = s.men.entries + n := (congrArg (fun x : State => x.men.entries) h).trans rfl
  rw [e, Nat.add_assoc, Nat.add_comm n k] at g
  conv_lhs => rw [g, h]

theorem committed_commitOne (s : State) (e : AuditOpen) : Committed 1 s (s.commitOne e) := by
  unfold commitOne
  refine Committed.regs (Committed.regs ?_ _ _) _ _
  generalize s.entryBytes s.men.entries e = b
  exact rfl

theorem num_commitOne (s : State) (e : AuditOpen) {c : Nat} (hc : c < 12) :
    (s.commitOne e).num (MEN_AUDCNT c) = if e.cls = c then min 0xFFFF_FFFF (s.num (MEN_AUDCNT c) + 1) else s.num (MEN_AUDCNT c) := by
  have h1 : MEN_AUDCNT c ≠ MEN_AUD_HEAD := by simp only [MEN_AUDCNT, MEN_AUD_HEAD]; omega
  have hn : ∀ t : State, t.num (MEN_AUDCNT c) = (t.reg (MEN_AUDCNT c)).toNat := fun _ => rfl
  unfold commitOne
  rw [hn, reg_put_other _ _ _ (show _ ≠ MEN_AUD_HEAD_total.addr from h1), reg_put_other _ _ _ (show _ ≠ MEN_AUD_HEAD_index.addr from h1)]
  split
  · next h =>
    subst h
    rw [← hn, num_setNum_same]
    show sat _ (s.num _ + 1) % _ = _
    unfold sat
    split <;> omega
  · next h =>
    rw [reg_setNum_other _ _ (by simp only [MEN_AUDCNT]; omega)]
    rfl

theorem committed_foldl (l : List AuditOpen) : ∀ s : State, Committed l.length s (l.foldl commitOne s) := by
  induction l with
  | nil => intro s; exact rfl
  | cons e l ih => intro s; exact (committed_commitOne s e).trans (ih (s.commitOne e))

theorem num_foldl_commitOne (l : List AuditOpen) {c : Nat} (hc : c < 12) : ∀ s : State,
    (l.foldl commitOne s).num (MEN_AUDCNT c) = min 0xFFFF_FFFF (s.num (MEN_AUDCNT c) + (l.filter (fun e => e.cls == c)).length) := by
  induction l with
  | nil =>
    intro s
    have := (s.reg (MEN_AUDCNT c)).isLt
    simp only [List.foldl_nil, List.filter_nil, List.length_nil, num]
    omega
  | cons e l ih =>
    intro s
    rw [List.foldl_cons, ih, num_commitOne s e hc]
    by_cases h : e.cls = c
    · simp only [h, if_true, beq_self_eq_true, List.filter_cons_of_pos, List.length_cons]
      omega
    · simp [h]

/-- What AUDIT_COMMIT changes. -/
theorem committed_auditCommit (s : State) :
    s.auditCommit = { s with
      regs := s.auditCommit.regs
      men := { s.men with
        opens := s.men.opens.filter (fun e => !decide (e.frame < s.men.frames))
        entries := s.men.entries + (s.men.opens.filter (fun e => decide (e.frame < s.men.frames))).length
        trail := s.auditCommit.men.trail } } :=
  committed_foldl _ (s.modMen _)

end State

/-- Registers that the seal freezes, each with its audit class. -/
def rejectedRegs : List (Nat × Nat) := [(CSU_GATE 0, 4), (CSU_FF_CFG 1, 4), (PCE_WEDGE_CFG, 3), (FPP_FLT_CFG 2, 1)]

theorem rows_rejectedRegs : ∀ e ∈ rejectedRegs, sealedRowAt (fun _ => true) e.1 = true ∧ auditClass e.1 = e.2 := by decide

/-- Settles O22: a rejection counts and notes; a commit goes through the due entries one by one. -/
theorem sealedWritesAndAudit : Obligations.SealedWritesAndAudit := by
  refine ⟨fun s who v a cls h ⟨ho, hh, hn⟩ hf => ?_, fun s hs hd => ?_⟩
  · obtain ⟨hrow, hc⟩ := rows_rejectedRegs (a, cls) h
    obtain ⟨r, hrow, -⟩ := exists_sealedRow hrow
    have hv : s.variantM = true := by simp only [State.frozen, Bool.and_eq_true] at hf; exact hf.1
    have he := (exec_registerWrite who v hn.1 hrow.low).trans (by
      rw [hrow.busWrite_frozen v ho hh hf, auditReject_eq (by rw [beginAccess_variantM]; exact hv), hc])
    refine gives_of_quiet he ?_ ⟨?_, fun x hx => ?_, ?_⟩
    · rw [readOn_hk, auditNote_frame]
      exact (beginAccess_hk s _ _ _) ▸ hn.2
    · rw [settle_reg, readOn_reg, auditNote_reg, reg_bump_same, beginAccess_reg_quiet s _ _ _ hh]
    · rw [settle_reg, readOn_reg, auditNote_reg, reg_bump_other _ _ hx, beginAccess_reg_quiet s _ _ _ hh]
    · obtain ⟨e, hm, h1, h2, -⟩ := exists_mem_auditNote (s := (s.beginAccess who.code a true).bump (MEN_REJ_rejections cls))
        (by rw [bump_variantM, beginAccess_variantM]; exact hv) cls 4 a (s.num a) v.toNat
      rw [settle_men, readOn_men]
      exact List.any_eq_true.mpr ⟨e, hm, by simp [h1, h2]⟩
  · have he : exec .auditCommit s = commit (s.readOn s.auditCommit) := by
      refine (show _ = execAuditCommit s from rfl).trans ?_
      rw [execAuditCommit, actAlways, if_pos hs]
    have hc := committed_auditCommit s
    have hf : s.auditCommit = { s with regs := s.auditCommit.regs, men := s.auditCommit.men, intc := s.auditCommit.intc, lines := s.auditCommit.lines } := by
      conv_lhs => rw [hc]
      rw [hc]
    have hm : s.auditCommit.men = { s.men with opens := s.auditCommit.men.opens, entries := s.auditCommit.men.entries, trail := s.auditCommit.men.trail } := by rw [hc]
    refine gives_of_quiet he ?_ ⟨?_, ?_, fun c hcl => ?_, ?_, ?_⟩
    · rw [readOn_hk, hc]; exact hd
    · rw [settle_men, readOn_men, hc]
    · rw [settle_men, readOn_men, hc]
    · rw [settle_num]
      exact num_foldl_commitOne _ hcl _
    · rw [settle_regs, readOn_regs, settle_men, readOn_men, ← hm]
      exact settle_men_frame hf
    · exact follows_settle (by rw [hc]) (by rw [hc])

end Sys2Proof.Machine
end

section
/-! Writes that clear: event bits and counters (R9, R10, R36). -/
namespace Sys2Proof.Machine
open R State

/-- The event registers with no rule of their own, and SCA_RST_CAUSE, each with the mask of its bits. -/
def eventRegs : List (Nat × W32) :=
  [(SCA_EVT, 0x7F#32), (SCA_RST_CAUSE, 0xFF#32), (MEM_EVT, 0x1F0F1F#32), (HKT_WEVT, 0xFFFFFFF#32), (HKT_REVT, 0xFFFFFFF#32), (HKT_OEVT, 0xFFFFFF#32), (PSC_EVT, 0xFF3F1F1F#32),
    (FPP_EVT 0, 0x3F#32), (LCA_EVT, 0x1F#32), (PCE_EVT, 0x3FFFFF#32), (CSU_EVT, 0xFFFFFFFF#32), (IPL_EVT0, 0x3F3F3F3F#32), (IPL_EVT1, 0x13F3F3F#32), (CER_EVT0, 0xFFFFFFFF#32),
    (CER_EVT1, 0xFFFF#32), (CER_EVT2, 0x303FFFF#32), (NVS_EVT, 0x7F#32), (HKT_EVT, 0x17F#32), (SDR_EVT, 0xFFFFFFFF#32), (SIO_EVT, 0x7F#32), (GPIO_EVT, 0xFFFFFFFF#32),
    (VIO_EVT, 0x7FF#32)]

/-- The map gives a register at `a` that the seal does not freeze as a whole and of whose row `q` holds. -/
def plainRowAt (q : RegRow → Bool) (a : Nat) : Bool := plainReg a && decide (a < 0x20_0000) && (findRow a).any q

theorem exists_plainRow {q : RegRow → Bool} {a : Nat} (h : plainRowAt q a = true) {s : State}
    (hb : ∀ (u : State) (pc : Nat) (v : W32), u.ipl = s.ipl → u.blockWrite pc a v = u.plainWrite a v) : ∃ r, PlainRow s a r ∧ q r = true := by
  simp only [plainRowAt, Bool.and_eq_true, decide_eq_true_eq, Option.any_eq_true] at h
  obtain ⟨⟨hp, hl⟩, r, hr, hq⟩ := h
  exact ⟨r, ⟨hr, hp, hl, hb⟩, hq⟩

theorem rows_eventRegs : ∀ e ∈ eventRegs, plainRowAt (fun r => r.isW1c && maskW r.w1c == e.2) e.1 = true := by decide

theorem iplBegin_none {s : State} (h : s.ipl.chosen = none) : s.iplBegin = s := by simp [iplBegin, h]

/-- A write to the image pipeline first begins a band whose time has come; every other event register's write is R9's alone. -/
theorem blockWrite_eventRegs {a : Nat} {m : W32} (h : (a, m) ∈ eventRegs) (s : State) (pc : Nat) (v : W32) :
    s.blockWrite pc a v = (if 0x9000 ≤ a ∧ a < 0xB000 then s.iplBegin else s).plainWrite a v := by
  simp only [eventRegs, List.mem_cons, List.not_mem_nil, or_false, Prod.mk.injEq] at h
  rcases h with ⟨rfl, -⟩ | ⟨rfl, -⟩ | ⟨rfl, -⟩ | ⟨rfl, -⟩ | ⟨rfl, -⟩ | ⟨rfl, -⟩ | ⟨rfl, -⟩ | ⟨rfl, -⟩ | ⟨rfl, -⟩ | ⟨rfl, -⟩ | ⟨rfl, -⟩ | ⟨rfl, -⟩ | ⟨rfl, -⟩ | ⟨rfl, -⟩ | ⟨rfl, -⟩ |
    ⟨rfl, -⟩ | ⟨rfl, -⟩ | ⟨rfl, -⟩ | ⟨rfl, -⟩ | ⟨rfl, -⟩ | ⟨rfl, -⟩ | ⟨rfl, -⟩ <;> rfl

/-- The owner's write of an event register clears the bits that it writes as 1. -/
theorem plainRow_eventRegs {a : Nat} {m : W32} (h : (a, m) ∈ eventRegs) {s : State} (hc : 0x9000 ≤ a ∧ a < 0xB000 → s.ipl.chosen = none) :
    ∃ r, PlainRow s a r ∧ ∀ f old v, r.written f old v = old &&& ~~~(v &&& m) := by
  obtain ⟨r, hr, hq⟩ := exists_plainRow (s := s) (rows_eventRegs _ h) (fun u pc v hu => by
    rw [blockWrite_eventRegs h]
    split
    · next hi => rw [iplBegin_none (hu ▸ hc hi)]
    · rfl)
  rw [Bool.and_eq_true, beq_iff_eq] at hq
  exact ⟨r, hr, fun f old v => by rw [written_w1c hq.1, hq.2]⟩

/-! ## Counter fields -/

/-- The step of one counter field leaves a field that shares no bit with it. -/
theorem bitsOf_clearCounter_other {hi lo : Nat} (h : lo ≤ hi) (v w : W32) {c : Nat × Nat} (hc : c.2 ≤ c.1) (h32 : c.1 < 32) (hd : c.1 < lo ∨ hi < c.2) :
    bitsOf (if bitsOf v c.1 c.2 = 2 ^ (c.1 - c.2 + 1) - 1 then withBits w c.1 c.2 0 else w) hi lo = bitsOf w hi lo := by
  split
  · exact bitsOf_withBits_other w 0 hi lo hc h32 h hd
  · rfl

theorem bitsOf_clearCounters_other {hi lo : Nat} (h : lo ≤ hi) (v : W32) : ∀ (l : List (Nat × Nat)) (w : W32),
    (∀ c ∈ l, c.2 ≤ c.1 ∧ c.1 < 32 ∧ (c.1 < lo ∨ hi < c.2)) → bitsOf (clearCounters l v w) hi lo = bitsOf w hi lo
  | [], _, _ => rfl
  | c :: l, w, hl => by
    obtain ⟨h1, h2, h3⟩ := hl c List.mem_cons_self
    exact (bitsOf_clearCounters_other h v l _ (fun d hd => hl d (List.mem_cons_of_mem _ hd))).trans (bitsOf_clearCounter_other h v w h1 h2 h3)

/-- A write of all ones to one of a register's counter fields clears it, and any other value leaves it (R36). -/
theorem bitsOf_clearCounters {hi lo : Nat} (v : W32) : ∀ (l : List (Nat × Nat)) (w : W32), (∀ c ∈ l, c.2 ≤ c.1 ∧ c.1 < 32) →
    l.Pairwise (fun c d => c.1 < d.2 ∨ d.1 < c.2) → (hi, lo) ∈ l →
    bitsOf (clearCounters l v w) hi lo = if bitsOf v hi lo = 2 ^ (hi - lo + 1) - 1 then 0 else bitsOf w hi lo
  | c :: l, w, hl, hp, hm => by
    obtain ⟨hc, hp⟩ := List.pairwise_cons.mp hp
    obtain ⟨h1, h2⟩ := hl c List.mem_cons_self
    rcases List.mem_cons.mp hm with rfl | hm
    · refine (bitsOf_clearCounters_other h1 v l _ (fun d hd => ?_)).trans ?_
      · obtain ⟨h3, h4⟩ := hl d (List.mem_cons_of_mem _ hd)
        exact ⟨h3, h4, (hc d hd).symm⟩
      · rw [apply_ite (fun x => bitsOf x hi lo), bitsOf_withBits_same _ _ h1 h2, Nat.zero_mod]
    · refine (bitsOf_clearCounters v l _ (fun d hd => hl d (List.mem_cons_of_mem _ hd)) hp hm).trans ?_
      rw [bitsOf_clearCounter_other (hl _ (List.mem_cons_of_mem _ hm)).1 v w h1 h2 (hc _ hm)]

/-- A row of counter fields alone, that of `f` among them. -/
def RegRow.counts (f : Field) (r : RegRow) : Bool :=
  r.rw == 0 && r.rws == 0 && r.w1c == 0 && r.w1s == 0 && r.ctrs.all (fun c => decide (c.2 ≤ c.1 ∧ c.1 < 32)) &&
    decide (r.ctrs.Pairwise (fun c d => c.1 < d.2 ∨ d.1 < c.2)) && r.ctrs.contains (f.hi, f.lo)

theorem bitsOf_written_counts {r : RegRow} {f : Field} (h : r.counts f = true) (frozen : Bool) (old v : W32) :
    bitsOf (r.written frozen old v) f.hi f.lo = if bitsOf v f.hi f.lo = 2 ^ (f.hi - f.lo + 1) - 1 then 0 else bitsOf old f.hi f.lo := by
  simp only [RegRow.counts, Bool.and_eq_true, beq_iff_eq, List.all_eq_true, decide_eq_true_eq, List.contains_iff_mem] at h
  obtain ⟨⟨⟨⟨⟨⟨h1, h2⟩, h3⟩, h4⟩, hv⟩, hp⟩, hm⟩ := h
  have e : r.written frozen old v = clearCounters r.ctrs v old := by
    simp only [RegRow.written, h1, h2, h3, h4, Nat.or_zero, ite_self, maskW_zero, BitVec.and_zero, BitVec.or_zero, BitVec.not_zero, BitVec.and_allOnes]
  rw [e, bitsOf_clearCounters v _ _ hv hp hm]

def counterFields : List Field :=
  [PSC_SQ_CNT_late 0, PSC_SQ_CNT_full 2, PSC_SUP_CNT_late, PSC_SUP_CNT_full, RTB_SLIP_CNT_clamped 4, LCA_STRAY_CNT_stray 1, CSU_CNT_shutter 3, CER_S_CNT_vfail 15,
    SDR_CH_CNT_overcurrent 7, HPORT_CNT_crc, VIO_RX_CNT_hdr 0]

theorem rows_counterFields : ∀ f ∈ counterFields, plainRowAt (RegRow.counts f) f.addr = true := by decide

theorem blockWrite_counterFields {f : Field} (h : f ∈ counterFields) (s : State) (pc : Nat) (v : W32) : s.blockWrite pc f.addr v = s.plainWrite f.addr v := by
  simp only [counterFields, List.mem_cons, List.not_mem_nil, or_false] at h
  rcases h with rfl | rfl | rfl | rfl | rfl | rfl | rfl | rfl | rfl | rfl | rfl <;> rfl

/-! ## RTB_EVT, whose latch of R49 clears with its bit -/

theorem row_rtbEvt : plainRowAt (fun r => r.isW1c && maskW r.w1c == 0x71F1F1F#32) RTB_EVT = true := by decide

theorem blockWrite_rtbEvt (s : State) (pc : Nat) (v : W32) : s.blockWrite pc RTB_EVT v =
    { s.plainWrite RTB_EVT v with lines := { s.lines with substEvt := s.lines.substEvt && !bitOf v 26 } } := by
  have h : s.blockWrite pc RTB_EVT v =
      if bitOf v 26 then { s.plainWrite RTB_EVT v with lines := { (s.plainWrite RTB_EVT v).lines with substEvt := false } } else s.plainWrite RTB_EVT v := rfl
  have hl : (s.plainWrite RTB_EVT v).lines = s.lines := by unfold plainWrite; split <;> rfl
  rw [h, hl]
  cases bitOf v 26
  · simp [← hl]
  · simp

/-- The owner's write of RTB_EVT. -/
theorem gives_rtbEvt {s : State} {who : Party} (v : W32) (ho : s.owns who.code RTB_EVT = true) (hh : s.heldHalf who.code = none) (hn : Normal s) :
    Gives (.registerWrite who (BitVec.ofNat 24 RTB_EVT) v) s (fun t => t = { s with regs := t.regs, intc := t.intc, lines := t.lines } ∧
      Follows { s with lines := { s.lines with substEvt := s.lines.substEvt && !bitOf v 26 } } t ∧ t.reg RTB_EVT = s.reg RTB_EVT &&& ~~~(v &&& 0x71F1F1F#32) ∧
      ∀ a, a ≠ RTB_EVT → t.reg a = s.reg a) := by
  have hrow := row_rtbEvt
  simp only [plainRowAt, Bool.and_eq_true, decide_eq_true_eq, Option.any_eq_true, beq_iff_eq] at hrow
  obtain ⟨⟨hp, hlow⟩, r, hr, hw1c, hm⟩ := hrow
  have he := (exec_registerWrite who v hn.1 hlow).trans (by rw [busWrite_plain s who v hp ho, blockWrite_rtbEvt, plainWrite_row hr, written_w1c hw1c, hm])
  have hx := intc_accesses_beginAccess s who.code RTB_EVT true hh
  rw [beginAccess_quiet s who.code RTB_EVT true hh] at he
  generalize (s.beginAccess who.code RTB_EVT true).intc = x at he hx
  refine gives_of_quiet he hn.2 ⟨settle_regs_frame rfl, follows_settle_accessed rfl hx rfl, ?_, fun a ha => ?_⟩
  · rw [settle_reg, readOn_reg]
    exact reg_setReg_same { s with intc := x } _ _
  · rw [settle_reg, readOn_reg]
    exact reg_setReg_other { s with intc := x } _ ha

/-- Settles O21: an event register by its row of W1C bits, RTB_EVT with its latch, a counter by its row of counter fields. -/
theorem clearingWrites : Obligations.ClearingWrites := by
  refine ⟨fun s who v => ⟨fun ⟨ho, hh, hn⟩ => ?_, fun a m h hw hc => ?_⟩, fun s who v f h hw => ?_⟩
  · exact gives_rtbEvt v ho hh hn
  · obtain ⟨r, hr, hv⟩ := plainRow_eventRegs (m := m) h hc
    obtain ⟨t, he, ht, hn⟩ := hr.gives v hw
    exact ⟨t, he, ht, hn.trans (hv _ _ _)⟩
  · obtain ⟨r, hr, hq⟩ := exists_plainRow (s := s) (rows_counterFields f h) (fun u pc v _ => blockWrite_counterFields h u pc v)
    obtain ⟨t, he, ht, hn⟩ := hr.gives v hw
    exact ⟨t, he, ht, by rw [State.get, hn]; exact bitsOf_written_counts hq _ _ _⟩

end Sys2Proof.Machine
end

section
/-! Loads and stores of the cores in host space (R22, R31, R112). -/
namespace Sys2Proof.Machine
open R State

namespace State

theorem toInt_add_emod (x y : W32) : ((x + y).toNat : Int) = (x.toInt + y.toInt) % 2 ^ 32 := by
  rw [BitVec.toNat_add, BitVec.toInt_eq_toNat_cond, BitVec.toInt_eq_toNat_cond]
  have := x.isLt
  have := y.isLt
  split <;> split <;> omega

/-- The effective address is the sum of the base and the sign-extended offset, in 32 bits. -/
theorem effAddr_eq {s : State} {k : Nat} {a : RegNo} {imm : BitVec 16} {e : Nat} (h : (e : Int) = ((s.rd k a).toInt + imm.toInt) % 2 ^ 32) : s.effAddr k a imm = e := by
  have h2 := toInt_add_emod (s.rd k a) (imm.signExtend 32)
  rw [BitVec.toInt_signExtend_of_le (by decide), ← h] at h2
  exact Int.ofNat.inj h2

theorem inOwn_of_inHost {e : Nat} (h : inHost e = true) (k : Core) : inOwn k.idx e = false := by
  simp only [inHost, Bool.and_eq_true, decide_eq_true_eq] at h
  have : dmemBytes k.idx ≤ 0x1000_0000 := by cases k <;> decide
  simp only [inOwn, decide_eq_false_iff_not]
  omega

theorem busWrite_wordAddr (s : State) (who : Party) (addr : Nat) (v : W32) : s.busWrite who addr v = s.busWrite who (wordAddr addr) v := by
  simp only [busWrite, wordAddr_wordAddr]

/-- The register at an address outside INTC does not depend on what INTC notes of accesses. -/
theorem regValue_serv (s : State) (l : List (Nat × Option Serv)) {h : Nat} (hi : ¬ (0x1000 ≤ h ∧ h < 0x2000)) :
    ({ s with intc := { s.intc with serv := l } } : State).regValue h = s.regValue h := by
  unfold regValue
  split
  · rfl
  · by_cases h1 : h < 0x1000
    · simp only [if_pos h1]; rfl
    · have h2 : ¬ h < 0x2000 := fun h2 => hi ⟨by omega, h2⟩
      simp only [if_neg h1, if_neg h2]
      rfl

theorem regValue_accesses (s : State) {x : IntcSt} (hx : s.intc.Accesses x) {h : Nat} (hi : ¬ (0x1000 ≤ h ∧ h < 0x2000)) :
    ({ s with intc := x } : State).regValue h = s.regValue h := by
  have e : x = { s.intc with serv := x.serv } := by dsimp only; rw [← hx.1]
  rw [e]
  exact regValue_serv s x.serv hi

/-- The addresses whose read is a register's value, with no effect of its own: what the party may read there is no window, no upper word, no wide value, and none of the registers
that a read changes. -/
structure PlainRead (h : Nat) : Prop where
  low : h < 0x2_0000
  notUpper : isUpper h = false
  notWide : upperWords h = []
  notWindow : ¬ (0xD800 ≤ h ∧ h < 0xE000)
  notEvt : h ≠ MEN_EVT
  notRxd : h ≠ HPORT_RXD
  notClaim : ¬ (h = INTC_CLAIM 0 ∨ h = INTC_CLAIM 1 ∨ h = INTC_CLAIM 2)

/-- A read of such a register is an access and the register's value; where the party may not read it is zero. -/
theorem busRead_plain {s : State} {who : Party} {addr : Nat} (hh : s.heldHalf who.code = none) (hr : mayRead who.code (wordAddr addr) = true → PlainRead (wordAddr addr))
    (hi : ¬ (0x1000 ≤ wordAddr addr ∧ wordAddr addr < 0x2000)) (hc : 0x9000 ≤ wordAddr addr ∧ wordAddr addr < 0xB000 → s.ipl.chosen = none) :
    s.busRead who addr =
      (s.beginAccess who.code (wordAddr addr) false, if mayRead who.code (wordAddr addr) = true then s.regValue (wordAddr addr) else 0#32) := by
  have hv : (s.beginAccess who.code (wordAddr addr) false).regValue (wordAddr addr) = s.regValue (wordAddr addr) := by
    rw [beginAccess_quiet s _ _ _ hh]
    exact regValue_accesses s (intc_accesses_beginAccess s _ _ _ hh) hi
  cases hm : mayRead who.code (wordAddr addr)
  · simp [busRead, hm]
  · obtain ⟨h1, h2, h3, h4, h5, h6, h7⟩ := hr hm
    have hb : (if 0x9000 ≤ wordAddr addr ∧ wordAddr addr < 0xB000 then (s.beginAccess who.code (wordAddr addr) false).iplBegin
        else s.beginAccess who.code (wordAddr addr) false) = s.beginAccess who.code (wordAddr addr) false := by
      split
      · next h => exact iplBegin_none (by rw [beginAccess_ipl]; exact hc h)
      · rfl
    have h8 : ¬ ((wordAddr addr = INTC_CLAIM 0 ∨ wordAddr addr = INTC_CLAIM 1 ∨ wordAddr addr = INTC_CLAIM 2) ∧
        (s.beginAccess who.code (wordAddr addr) false).owns who.code (wordAddr addr) = true) := fun h => h7 h.1
    simp only [busRead, hm, Bool.not_true, Bool.false_eq_true, if_false, if_pos h1, if_neg h4, regRead, h2, h3, List.foldl_nil, if_neg h5, if_neg h6, hb, hv, if_neg h8, if_true]

/-- The halfword or byte that an address selects in its word, and the word itself. -/
theorem loadPart_value {n e : Nat} (hn : n = 4 ∨ n = 2 ∨ n = 1) (v : W32) :
    (if n = 4 then v else BitVec.ofNat 32 (v.toNat / 2 ^ (8 * (e % 4 / n * n)) % 2 ^ (8 * n))) = BitVec.ofNat 32 (v.toNat / 256 ^ (e % 4 / n * n) % 256 ^ n) := by
  have e8 : ∀ m, 2 ^ (8 * m) = 256 ^ m := fun m => by rw [Nat.pow_mul]
  split
  · next h =>
    subst h
    have h0 : e % 4 / 4 * 4 = 0 := by omega
    rw [h0, Nat.pow_zero, Nat.div_one, Nat.mod_eq_of_lt (show _ < 256 ^ 4 from v.isLt), BitVec.ofNat_toNat, BitVec.setWidth_eq]
  · rw [e8, e8]

end State

/-- An instruction that changes its core to `y`, notes an access and writes registers. -/
theorem gives_issued {k : Core} {i : Instr} {n : Nat} {s : State} {eff : Nat → State → State} {y : CoreSt} (h : Issues k i s) (hn : 0 < n)
    (he : exec i s = commit (s.pulon k i n eff)) {c : List (Nat × CoreSt)} {x : IntcSt} {r : List (Nat × W32)} (hx : s.intc.Accesses x)
    (hf : eff (s.issueTick k.idx n) (s.issued k n) = { s.issued k n with cores := c, intc := x, regs := r })
    (hy : Map.get (fun _ => {}) c k.idx = y) (ho : ∀ j, j ≠ k.idx → Map.get (fun _ => {}) c j = s.core j)
    (hp : y.pc = (s.movedCore k n).pc) (hq : y.halting = (s.movedCore k n).halting) :
    Gives i s (fun t => t = { s with regs := r, cores := t.cores, now := t.now, wall := t.wall, intc := t.intc, lines := t.lines } ∧ Follows s t ∧
      (∀ j, j ≠ k.idx → t.core j = s.core j) ∧ t.now = s.issueTick k.idx n + 4 * n - 1 ∧ t.core k.idx = y ∧ t.regs = r) := by
  obtain ⟨h1, h2, h3, h4, h5⟩ := id h
  have hu : ∀ (u : State), u = eff (s.issueTick k.idx n) (s.issued k n) → (u.overrunCheck k.idx).haltAfter k.idx = u := fun u hu => by
    have hc : u.core k.idx = y := by rw [hu, hf]; exact hy
    rw [overrunCheck_in _ (by rw [hc, hp]; exact Nat.ne_of_lt h3), haltAfter_none _ (by rw [hc, hq]; exact h5)]
  have e : exec i s = commit (s.readOn { s.issued k n with cores := c, intc := x, regs := r }) := by
    rw [he, pulon_issues h, hu _ rfl, hf]
  have hfr := issued_frame s k n
  refine gives_of_quiet e ?_ ⟨?_, follows_settle_accessed rfl hx (issued_lines s k n), fun j hj => ?_, ?_, ?_, ?_⟩
  · show (s.issued k n).hk.shdn = none
    rw [issued_hk]; exact h4
  · rw [settle_frame, readOn_frame]
    generalize (State.settle _).intc = a
    generalize (State.settle _).lines = b
    conv_lhs => rw [hfr]
  · rw [settle_core, readOn_core]
    exact ho j hj
  · rw [settle_now, readOn_now]; exact issued_now s k hn
  · rw [settle_core, readOn_core]; exact hy
  · rw [settle_regs]; rfl

/-! ## Loads and stores in host space -/

section
variable {k : Core} {d a : RegNo} {imm : BitVec 16} {s : State} {e : Nat}

theorem accessCycles_host (hi : inHost e = true) : accessCycles e = 8 := by simp [accessCycles, hi]

/-- A load below the paged window, or one that reads zero, waits for no DRAM request. -/
theorem not_awaits_load (hl : mayRead k.party.code (wordAddr (e - 0x1000_0000)) = true → wordAddr (e - 0x1000_0000) < 0x2_0000) : s.awaits k e false = false := by
  unfold awaits stalls
  cases hm : mayRead k.party.code (wordAddr (e - 0x1000_0000))
  · simp [hm]
  · have h1 := hl hm
    have h2 : ¬ (0x20_0000 ≤ wordAddr (e - 0x1000_0000) ∧ wordAddr (e - 0x1000_0000) < 0x40_0000) := by omega
    simp [h2]

/-- A store below the paged window, or one by a core that does not own the group, waits for no DRAM request. -/
theorem not_awaits_store (hl : s.owns k.party.code (wordAddr (e - 0x1000_0000)) = true → wordAddr (e - 0x1000_0000) < 0x20_0000) : s.awaits k e true = false := by
  unfold awaits stalls
  cases hm : s.owns k.party.code (wordAddr (e - 0x1000_0000))
  · simp [hm]
  · have h1 := hl hm
    have h2 : ¬ (0x20_0000 ≤ wordAddr (e - 0x1000_0000) ∧ wordAddr (e - 0x1000_0000) < 0x40_0000) := by omega
    simp [h2]

theorem loadWord_host (s : State) (hi : inHost e = true) : s.loadWord k e = s.busRead k.party (e - 0x1000_0000) := by
  rw [loadWord, if_neg (by simp [inOwn_of_inHost hi k]), if_pos hi]

theorem storeWord_host (s : State) (v : W32) (hi : inHost e = true) : s.storeWord k e v = s.busWrite k.party (e - 0x1000_0000) v := by
  rw [storeWord, if_neg (by simp [inOwn_of_inHost hi k]), if_pos hi]

theorem storePart_host (s : State) (v : W32) (n : Nat) (hi : inHost e = true) :
    s.storePart k e n v = s.beginAccess k.party.code (wordAddr (e - 0x1000_0000)) false := by
  rw [storePart, if_neg (by simp [inOwn_of_inHost hi k]), if_pos hi]

/-- What the three loads have in common: the value of the part of `n` bytes of the word at the effective address goes to Wd. -/
theorem exec_load {i : Instr} {n : Nat} (hk : i = .ldw k d a imm ∧ n = 4 ∨ i = .ldh k d a imm ∧ n = 2 ∨ i = .ldb k d a imm ∧ n = 1) (hs : s.effAddr k.idx a imm = e)
    (hi : inHost e = true) (hw : s.awaits k e false = false) : exec i s = commit (s.pulon k i 8 (fun _ u =>
      let x := u.loadWord k (u.effAddr k.idx a imm)
      loadTo k d (x.1, if n = 4 then x.2 else BitVec.ofNat 32 (x.2.toNat / 2 ^ (8 * (u.effAddr k.idx a imm % 4 / n * n)) % 2 ^ (8 * n))) (u.effAddr k.idx a imm) n)) := by
  rcases hk with ⟨rfl, rfl⟩ | ⟨rfl, rfl⟩ | ⟨rfl, rfl⟩
  · refine (show _ = execLdw k d a imm s from rfl).trans ?_
    rw [execLdw, hs, State.access, hw, accessCycles_host hi]; rfl
  · refine (show _ = execLdh k d a imm s from rfl).trans ?_
    rw [execLdh, hs, State.access, hw, accessCycles_host hi]; rfl
  · refine (show _ = execLdb k d a imm s from rfl).trans ?_
    rw [execLdb, hs, State.access, hw, accessCycles_host hi]; rfl

theorem exec_stw (hs : s.effAddr k.idx a imm = e) (hi : inHost e = true) (hw : s.awaits k e true = false) :
    exec (.stw k d a imm) s = commit (s.pulon k (.stw k d a imm) 8 (fun _ u => u.storeWord k (u.effAddr k.idx a imm) (u.rd k.idx d))) := by
  refine (show _ = execStw k d a imm s from rfl).trans ?_
  rw [execStw, hs, State.access, hw, accessCycles_host hi]; rfl

theorem exec_sth (hs : s.effAddr k.idx a imm = e) (hi : inHost e = true) :
    exec (.sth k d a imm) s = commit (s.pulon k (.sth k d a imm) 8 (fun _ u => u.storePart k (u.effAddr k.idx a imm) 2 (u.rd k.idx d))) := by
  refine (show _ = execSth k d a imm s from rfl).trans ?_
  rw [execSth, hs, accessCycles_host hi]

theorem exec_stb (hs : s.effAddr k.idx a imm = e) (hi : inHost e = true) :
    exec (.stb k d a imm) s = commit (s.pulon k (.stb k d a imm) 8 (fun _ u => u.storePart k (u.effAddr k.idx a imm) 1 (u.rd k.idx d))) := by
  refine (show _ = execStb k d a imm s from rfl).trans ?_
  rw [execStb, hs, accessCycles_host hi]

theorem issued_heldHalf (s : State) (k : Core) (n pc : Nat) : (s.issued k n).heldHalf pc = s.heldHalf pc := by rw [issued_frame]; rfl
theorem issued_ipl (s : State) (k : Core) (n : Nat) : (s.issued k n).ipl = s.ipl := by rw [issued_frame]
theorem issued_regs (s : State) (k : Core) (n : Nat) : (s.issued k n).regs = s.regs := by rw [issued_frame]
theorem issued_owns (s : State) (k : Core) (n pc b : Nat) : (s.issued k n).owns pc b = s.owns pc b := by rw [issued_frame]; rfl

/-- An issued state after an access. -/
theorem issued_beginAccess (s : State) (k : Core) (n pc b : Nat) (w : Bool) (hh : s.heldHalf pc = none) :
    ∃ x, s.intc.Accesses x ∧ (s.issued k n).beginAccess pc b w = { s.issued k n with intc := x } := by
  have h := (issued_heldHalf s k n pc).trans hh
  exact ⟨_, issued_intc s k n ▸ intc_accesses_beginAccess _ _ _ _ h, beginAccess_quiet _ _ _ _ h⟩

/-- A write of Wd, as the core's part shows it. -/
theorem wr_frame (u : State) (j : Nat) (d : RegNo) (v : W32) : u.wr j d v = { u with cores := (u.wr j d v).cores } := by
  unfold wr; split <;> rfl

theorem core_wr_same (u : State) (j : Nat) (d : RegNo) (v : W32) : (u.wr j d v).core j = (u.core j).putW d v := by
  rw [wr_modCore, CoreSt.putW]
  split
  · rfl
  · next h => rw [core_modCore_same, CoreSt.putW, if_neg h]

theorem core_wr_other (u : State) {j m : Nat} (d : RegNo) (v : W32) (h : m ≠ j) : (u.wr j d v).core m = u.core m := by
  rw [wr_modCore]
  split
  · rfl
  · exact core_modCore_other u _ h

theorem putW_pc (y : CoreSt) (d : RegNo) (v : W32) : (y.putW d v).pc = y.pc ∧ (y.putW d v).halting = y.halting := by
  unfold CoreSt.putW; split <;> exact ⟨rfl, rfl⟩

/-- An access that leaves its core as it moved on. -/
theorem retires_id {i : Instr} {eff : Nat → State → State} (h : Issues k i s) (hh : s.heldHalf k.party.code = none) (he : exec i s = commit (s.pulon k i 8 eff)) {b : Nat} {w : Bool}
    (hf : ∀ n, eff n (s.issued k 8) = (s.issued k 8).beginAccess k.party.code b w) : Retires k i 8 s id := by
  obtain ⟨x, hx, hb⟩ := issued_beginAccess s k 8 k.party.code b w hh
  obtain ⟨t, ht, hfr, hfo, hco, hnow, hcore, -⟩ := gives_issued (c := (s.issued k 8).cores) (r := s.regs) h (by decide) he hx
    ((hf _).trans (hb.trans (by rw [issued_frame]))) (issued_core s k 8) (fun j hj => issued_core_other s k 8 hj) rfl rfl
  exact ⟨t, ht, ⟨hfr, hfo, hco⟩, hnow, hcore⟩

/-- A load outside INTC claims nothing. -/
theorem noteClaim_none (u : State) (n : Nat) (hi : ¬ (0x1000 ≤ wordAddr (e - 0x1000_0000) ∧ wordAddr (e - 0x1000_0000) < 0x2000)) : u.noteClaim k e n d = u := by
  have h : (wordAddr (e - 0x1000_0000) == INTC_CLAIM 2) = false := by
    rw [beq_eq_false_iff_ne]
    exact fun h => hi (h ▸ by decide)
  simp [noteClaim, h]

/-- A load that loads `v` from a register and notes its access. -/
theorem retires_load {i : Instr} {n : Nat} (hk : i = .ldw k d a imm ∧ n = 4 ∨ i = .ldh k d a imm ∧ n = 2 ∨ i = .ldb k d a imm ∧ n = 1) (h : Issues k i s)
    (hs : s.effAddr k.idx a imm = e) (hi : inHost e = true) (hh : s.heldHalf k.party.code = none) (hw : s.awaits k e false = false) {v : W32}
    (hr : (s.issued k 8).busRead k.party (e - 0x1000_0000) = ((s.issued k 8).beginAccess k.party.code (wordAddr (e - 0x1000_0000)) false, v))
    (hni : ¬ (0x1000 ≤ wordAddr (e - 0x1000_0000) ∧ wordAddr (e - 0x1000_0000) < 0x2000)) :
    Retires k i 8 s (fun y => y.putW d (BitVec.ofNat 32 (v.toNat / 256 ^ (e % 4 / n * n) % 256 ^ n))) := by
  have hn : n = 4 ∨ n = 2 ∨ n = 1 := by tauto
  obtain ⟨x, hx, hb⟩ := issued_beginAccess s k 8 k.party.code (wordAddr (e - 0x1000_0000)) false hh
  refine (gives_issued (r := (s.issued k 8).regs)
    (c := (({ s.issued k 8 with intc := x } : State).wr k.idx d (BitVec.ofNat 32 (v.toNat / 256 ^ (e % 4 / n * n) % 256 ^ n))).cores) h (by decide)
    (exec_load hk hs hi hw) hx ?_ (core_wr_same _ _ _ _) (fun j hj => ?_) ?_ ?_).imp (fun t ⟨hfr, hfo, hco, hnow, hcore, _⟩ => ?_)
  rotate_right
  · rw [show ({ s.issued k 8 with intc := x } : State).core k.idx = s.movedCore k 8 from issued_core s k 8] at hcore
    rw [issued_regs] at hfr
    exact ⟨⟨hfr, hfo, hco⟩, hnow, hcore⟩
  · dsimp only
    rw [issued_effAddr, hs, loadWord_host _ hi, hr, loadPart_value hn, hb, loadTo, noteClaim_none _ _ hni]
    exact wr_frame _ _ _ _
  · exact (core_wr_other _ _ _ hj).trans (issued_core_other s k 8 hj)
  · exact (putW_pc _ _ _).1.trans (congrArg CoreSt.pc (issued_core s k 8))
  · exact (putW_pc _ _ _).2.trans (congrArg CoreSt.halting (issued_core s k 8))

end

theorem met_of_party {k : Core} (h : k.party = .met) : k = .met := by cases k <;> first | rfl | cases h

/-- Settles O6: a load reads its register or zero; a part store and a non-owner's store only access; an owner's store writes a plain register. -/
theorem hostSpaceAccesses : Obligations.HostSpaceAccesses := by
  refine ⟨fun k i d a imm s e n he hi hh hk hs hr hni hc => ?_, fun k i d a imm s e he hi hh => ⟨fun hk hs => ?_, fun h m ha hp ho hs => ?_⟩⟩
  · have hpr : mayRead k.party.code (wordAddr (e - 0x1000_0000)) = true → PlainRead (wordAddr (e - 0x1000_0000)) := fun hm => by
      obtain ⟨h1, h2, h3, h4, h5, h6, h7, h8, h9⟩ := hr hm
      exact ⟨h1, h2, h3, h4, h5, h6, by tauto⟩
    exact retires_load hk hs (effAddr_eq he) hi hh (not_awaits_load (fun hm => (hpr hm).low))
      (busRead_plain ((issued_heldHalf s k 8 _).trans hh) hpr hni (fun hb => (issued_ipl s k 8).symm ▸ hc hb)) hni
  · have he' := effAddr_eq he
    rcases hk with rfl | rfl | ⟨rfl, ho, hm⟩
    · exact retires_id hs hh (exec_sth he' hi) (fun n => by rw [issued_effAddr, he', storePart_host _ _ _ hi])
    · exact retires_id hs hh (exec_stb he' hi) (fun n => by rw [issued_effAddr, he', storePart_host _ _ _ hi])
    · refine retires_id (b := wordAddr (e - 0x1000_0000)) (w := true) hs hh (exec_stw he' hi (not_awaits_store (fun h => by rw [ho] at h; cases h))) (fun n => ?_)
      rw [issued_effAddr, he', storeWord_host _ _ hi, busWrite_denied _ _ _ _ ((issued_owns s k 8 _ _).trans ho) (fun h => hm (met_of_party h))]
  · subst ha
    have he' := effAddr_eq he
    obtain ⟨r, hrow, hv⟩ := plainRow_plainRegs hp (s.issued k 8)
    obtain ⟨x, hx, hb⟩ := issued_beginAccess s k 8 k.party.code (wordAddr (e - 0x1000_0000)) true hh
    obtain ⟨t, ht, hfr, hfo, hco, hnow, hcore, hregs⟩ := gives_issued (c := (s.issued k 8).cores)
      (r := (s.setReg (wordAddr (e - 0x1000_0000)) ((s.reg (wordAddr (e - 0x1000_0000)) &&& ~~~m) ||| (s.rd k.idx d &&& m))).regs) hs (by decide)
      (exec_stw he' hi (not_awaits_store (fun _ => hrow.low))) hx (by
        dsimp only
        rw [issued_effAddr, he', storeWord_host _ _ hi, busWrite_wordAddr, hrow.busWrite _ ((issued_owns s k 8 _ _).trans ho) ((issued_heldHalf s k 8 _).trans hh), hv, hb,
          issued_rd, issued_reg]
        rw [issued_frame]; rfl) (issued_core s k 8) (fun j hj => issued_core_other s k 8 hj) rfl rfl
    refine ⟨t, ht, ?_, hfo, hco, fun b hb => ?_, hnow, hcore, ?_⟩
    · rw [← hregs] at hfr; exact hfr
    · rw [reg_eq_of_regs hregs, reg_setReg_other _ _ (by simpa using hb)]
    · exact (reg_eq_of_regs hregs _).trans (reg_setReg_same _ _ _)

end Sys2Proof.Machine
end

section
/-! The bits of registers that an operation keeps, and what MET's record-keeping leaves unchanged (R263–R273). -/

namespace Sys2Proof.Machine

open R State

/-- Taking away a power of two whose bit is 1 keeps the other bits. -/
theorem testBit_sub_two_pow {x i j : Nat} (h : x.testBit i = true) (hj : i ≠ j) : (x - 2 ^ i).testBit j = x.testBit j := by
  have hle : 2 ^ i ≤ x := Nat.ge_two_pow_of_testBit h
  have e := testBit_add_two_pow (x := x - 2 ^ i) (i := i) ?_ j
  · rw [Nat.sub_add_cancel hle] at e
    simpa [hj] using e.symm
  · have hd : (x - 2 ^ i + 2 ^ i) / 2 ^ i = (x - 2 ^ i) / 2 ^ i + 1 := Nat.add_div_right _ (by positivity)
    rw [Nat.sub_add_cancel hle] at hd
    rw [Nat.testBit_eq_decide_div_mod_eq, decide_eq_true_eq] at h
    rw [Nat.testBit_eq_decide_div_mod_eq, decide_eq_false_iff_not]
    omega

/-- Field `f` holds bit `j` of register `a`. -/
abbrev Field.Holds (f : Field) (a j : Nat) : Prop := f.addr = a ∧ f.lo ≤ j ∧ j ≤ f.hi

/-- Field `f` lies in its register and within a field of `l`. -/
abbrev Field.Within (f : Field) (l : List Field) : Prop := f.lo ≤ f.hi ∧ f.hi < 32 ∧ ∃ g ∈ l, g.addr = f.addr ∧ g.lo ≤ f.lo ∧ f.hi ≤ g.hi

/-- Bit `i` of field `f`, as a field. -/
abbrev Field.bitField (f : Field) (i : Nat) : Field := ⟨f.addr, f.lo + i, f.lo + i⟩

namespace State

/-- Every bit of a register outside the fields of `l` is in `t` as in `s`. -/
def Keeps (l : List Field) (s t : State) : Prop :=
  ∀ a j, (∀ f ∈ l, ¬ f.Holds a j) → (t.reg a).toNat.testBit j = (s.reg a).toNat.testBit j

theorem Keeps.refl (l : List Field) (s : State) : Keeps l s s := fun _ _ _ => rfl

theorem Keeps.trans {l : List Field} {s t u : State} (h : Keeps l s t) (k : Keeps l t u) : Keeps l s u := fun a j hf => (k a j hf).trans (h a j hf)

theorem keeps_of_regs {l : List Field} {s t : State} (h : t.regs = s.regs) : Keeps l s t := fun a _ _ => by rw [reg_eq_of_regs h a]

/-- A register that no field of `l` is in. -/
theorem Keeps.reg {l : List Field} {s t : State} (h : Keeps l s t) {a : Nat} (ha : ∀ f ∈ l, f.addr ≠ a) : t.reg a = s.reg a :=
  BitVec.eq_of_toNat_eq (Nat.eq_of_testBit_eq fun j => h a j fun f hf hh => ha f hf hh.1)

/-- A field that meets none of `l`. -/
theorem Keeps.get {l : List Field} {s t : State} (h : Keeps l s t) {f : Field} (hd : ∀ g ∈ l, g.addr = f.addr → f.hi < g.lo ∨ g.hi < f.lo) (hf : f.lo ≤ f.hi) :
    t.get f = s.get f := by
  refine Nat.eq_of_testBit_eq fun j => ?_
  simp only [State.get, bitsOf_testBit]
  by_cases hj : j < f.hi - f.lo + 1
  · rw [h f.addr (f.lo + j) fun g hg ⟨ha, hlo, hhi⟩ => by have := hd g hg ha; omega]
  · simp [hj]

/-- A bit that no field of `l` holds. -/
theorem Keeps.bit {l : List Field} {s t : State} (h : Keeps l s t) {f : Field} {i : Nat} (hd : ∀ g ∈ l, ¬ g.Holds f.addr (f.lo + i)) : t.bit f i = s.bit f i := by
  have e : ∀ u : State, u.bit f i = (decide (i < f.hi - f.lo + 1) && (u.reg f.addr).toNat.testBit (f.lo + i)) := fun u => by
    rw [← bitsOf_testBit, Nat.testBit_eq_decide_div_mod_eq]; rfl
  rw [e, e, h f.addr (f.lo + i) hd]

theorem keeps_put {l : List Field} (s : State) {f : Field} (v : Nat) (h : f.Within l) : Keeps l s (s.put f v) := by
  obtain ⟨hlo, h32, g, hg, ha, h1, h2⟩ := h
  intro a j hf
  by_cases e : a = f.addr
  · subst e
    have hn := hf g hg
    have hj : ¬ (f.lo ≤ j ∧ j ≤ f.hi) := fun hj => hn ⟨ha, by omega, by omega⟩
    rw [put, reg_setReg_same, withBits_testBit _ _ _ hlo h32, if_neg hj]
  · rw [reg_put_other s f v e]

theorem keeps_setNum {l : List Field} (s : State) {a : Nat} (v : Nat) (h : (⟨a, 31, 0⟩ : Field).Within l) : Keeps l s (s.setNum a v) := by
  obtain ⟨-, -, g, hg, ha, h1, h2⟩ := h
  intro b j hf
  by_cases e : b = a
  · subst e
    have hj : 32 ≤ j := by
      by_contra hj
      exact hf g hg ⟨ha, by simp only at h1; omega, by simp only at h2; omega⟩
    rw [Nat.testBit_lt_two_pow (Nat.lt_of_lt_of_le (BitVec.isLt _) (Nat.pow_le_pow_right (by decide) hj)),
      Nat.testBit_lt_two_pow (Nat.lt_of_lt_of_le (BitVec.isLt _) (Nat.pow_le_pow_right (by decide) hj))]
  · rw [reg_setNum_other s v e]

theorem keeps_wrBit {l : List Field} (s : State) {f : Field} {i : Nat} (b : Bool) (h : (f.bitField i).Within l) (hi : f.lo + i ≤ f.hi) (h32 : f.hi < 32) :
    Keeps l s (s.wrBit f i b) := by
  obtain ⟨-, -, g, hg, ha, h1, h2⟩ := h
  have hbit : s.bit f i = (s.get f).testBit i := by rw [Nat.testBit_eq_decide_div_mod_eq]; rfl
  have hput : ∀ v : Nat, (∀ j, i ≠ j → v.testBit j = (s.get f).testBit j) → Keeps l s (s.put f v) := by
    intro v hv a j hf
    by_cases e : a = f.addr
    · subst e
      have hj : j ≠ f.lo + i := fun hj => hf g hg ⟨ha, by simp only at h1; omega, by simp only at h2; omega⟩
      rw [put, reg_setReg_same, withBits_testBit _ _ _ (by omega) h32]
      split
      · rw [hv _ (by omega), State.get, bitsOf_testBit, show f.lo + (j - f.lo) = j by omega, decide_eq_true (by omega), Bool.true_and]
      · rfl
    · rw [reg_put_other s f v e]
  cases b with
  | true =>
    show Keeps l s (s.setBit f i)
    unfold setBit
    split
    · exact Keeps.refl l s
    · next hb =>
      rw [hbit, Bool.not_eq_true] at hb
      exact hput _ fun j hj => by simp [testBit_add_two_pow hb, hj]
  | false =>
    show Keeps l s (s.clrBit f i)
    unfold clrBit
    split
    · next hb => exact hput _ fun j hj => testBit_sub_two_pow (hbit ▸ hb) hj
    · exact Keeps.refl l s

theorem keeps_setBit {l : List Field} (s : State) {f : Field} {i : Nat} (h : (f.bitField i).Within l) (hi : f.lo + i ≤ f.hi) (h32 : f.hi < 32) :
    Keeps l s (s.setBit f i) := keeps_wrBit s true h hi h32

theorem keeps_clrBit {l : List Field} (s : State) {f : Field} {i : Nat} (h : (f.bitField i).Within l) (hi : f.lo + i ≤ f.hi) (h32 : f.hi < 32) :
    Keeps l s (s.clrBit f i) := keeps_wrBit s false h hi h32

theorem put_frame (s : State) (f : Field) (v : Nat) : s.put f v = { s with regs := (s.put f v).regs } := rfl

theorem setNum_frame (s : State) (a v : Nat) : s.setNum a v = { s with regs := (s.setNum a v).regs } := rfl

theorem wrBit_frame (s : State) (f : Field) (i : Nat) (b : Bool) : s.wrBit f i b = { s with regs := (s.wrBit f i b).regs } := by
  cases b with
  | true => show s.setBit f i = { s with regs := (s.setBit f i).regs }; unfold setBit; split <;> rfl
  | false => show s.clrBit f i = { s with regs := (s.clrBit f i).regs }; unfold clrBit; split <;> rfl

end State

end Sys2Proof.Machine
end

section
/-! What MET's record-keeping leaves unchanged: audit entries, records, causes, state and alarms (R243, R259, R263–R273). -/

namespace Sys2Proof.Machine

open R State

namespace State

/-- Fields that MET writes as it judges its causes, its state and its alarms and builds records. -/
def judgedFields : List Field :=
  [MEN_STAT_state, ⟨MEN_EVT, 31, 0⟩, ⟨MEN_CAUSE, 31, 0⟩, ⟨MEN_REC_CNT, 31, 0⟩, ⟨MEN_REC_SEQ_LO, 31, 0⟩, ⟨MEN_REC_SEQ_HI, 31, 0⟩, ⟨MEN_ALARM, 31, 0⟩] ++
    [0, 1, 2, 3].flatMap (fun x => [⟨MEN_FACET, 8 * x + 5, 8 * x⟩, ⟨MEN_FACET, 8 * x + 7, 8 * x + 7⟩, ⟨MEN_ZALM_LO x, 31, 0⟩, ⟨MEN_ZALM_HI x, 31, 0⟩])

/-- `t` is `s` but for those fields, for bits of MEN_EVT that were set, and for MET's open audit entries and its records in hand. -/
structure Judged (s t : State) : Prop where
  frame : t = { s with
    regs := t.regs
    men := { s.men with
      opens := t.men.opens, built := t.men.built, next := t.men.next, blocks := t.men.blocks, left := t.men.left, lostBit := t.men.lostBit } }
  keeps : Keeps judgedFields s t
  evt : ∀ i, s.bit ⟨MEN_EVT, 31, 0⟩ i = true → t.bit ⟨MEN_EVT, 31, 0⟩ i = true

theorem Judged.refl (s : State) : Judged s s := ⟨rfl, Keeps.refl _ s, fun _ h => h⟩

theorem Judged.trans {s t u : State} (h : Judged s t) (k : Judged t u) : Judged s u :=
  ⟨by conv_lhs => rw [k.frame, h.frame], h.keeps.trans k.keeps, fun i hi => k.evt i (h.evt i hi)⟩

theorem Judged.ite {s t u : State} {c : Prop} [Decidable c] (h : Judged s t) (k : Judged s u) : Judged s (if c then t else u) := by
  split
  · exact h
  · exact k

/-- Steps that each leave the rest alone. -/
theorem judged_foldl {α : Type} (f : State → α → State) (l : List α) (h : ∀ s, ∀ x ∈ l, Judged s (f s x)) : ∀ s, Judged s (l.foldl f s) := by
  induction l with
  | nil => exact Judged.refl
  | cons x xs ih => exact fun s => (h s x List.mem_cons_self).trans (ih (fun s y hy => h s y (List.mem_cons_of_mem x hy)) _)

/-- A change of MET's records in hand alone. -/
theorem judged_of_men {s t : State} (h : t = { s with men := { s.men with
    opens := t.men.opens, built := t.men.built, next := t.men.next, blocks := t.men.blocks, left := t.men.left, lostBit := t.men.lostBit } }) : Judged s t := by
  have hr : t.regs = s.regs := (congrArg State.regs h).trans rfl
  refine ⟨?_, keeps_of_regs hr, fun i hi => (bit_eq_of_reg i (reg_eq_of_regs hr _)).trans hi⟩
  rw [hr]
  exact h

theorem judged_modMen (s : State) {f : MenSt → MenSt} (h : ∀ m, f m = { m with
    opens := (f m).opens, built := (f m).built, next := (f m).next, blocks := (f m).blocks, left := (f m).left, lostBit := (f m).lostBit }) : Judged s (s.modMen f) := by
  refine judged_of_men ?_
  show State.modMen s f = { s with men := { s.men with opens := (f s.men).opens, built := _, next := _, blocks := _, left := _, lostBit := _ } }
  unfold modMen
  rw [h s.men]

/-- A change of registers other than MEN_EVT. -/
theorem judged_of_regs {s t : State} (h : t = { s with regs := t.regs }) (hk : Keeps judgedFields s t) (he : t.reg MEN_EVT = s.reg MEN_EVT) : Judged s t := by
  have hm : t.men = s.men := (congrArg State.men h).trans rfl
  refine ⟨?_, hk, fun i hi => (bit_eq_of_reg i he).trans hi⟩
  rw [hm]
  exact h

theorem judged_put (s : State) {f : Field} (v : Nat) (h : f.Within judgedFields) (he : MEN_EVT ≠ f.addr) : Judged s (s.put f v) :=
  judged_of_regs (put_frame s f v) (keeps_put s v h) (reg_put_other s f v he)

theorem judged_bump (s : State) {f : Field} (h : f.Within judgedFields) (he : MEN_EVT ≠ f.addr) : Judged s (s.bump f) := judged_put s _ h he

theorem judged_setNum (s : State) {a : Nat} (v : Nat) (h : (⟨a, 31, 0⟩ : Field).Within judgedFields) (he : MEN_EVT ≠ a) : Judged s (s.setNum a v) :=
  judged_of_regs (setNum_frame s a v) (keeps_setNum s v h) (reg_setNum_other s v he)

theorem judged_wrBit (s : State) {f : Field} {i : Nat} (b : Bool) (h : (f.bitField i).Within judgedFields) (hi : f.lo + i ≤ f.hi ∧ f.hi < 32) (he : MEN_EVT ≠ f.addr) :
    Judged s (s.wrBit f i b) :=
  judged_of_regs (wrBit_frame s f i b) (keeps_wrBit s b h hi.1 hi.2) (reg_wrBit_other s f i b he)

/-- An event bit is set. -/
theorem bit_menEvt (s : State) {b : Nat} (h : b < 32) : (s.menEvt b).bit ⟨MEN_EVT, 31, 0⟩ b = true :=
  bit_setBit_same s _ b (by decide) (by decide) (by show 0 + b ≤ 31; omega)

theorem menEvt_reg_other (s : State) (b : Nat) {a : Nat} (h : a ≠ MEN_EVT) : (s.menEvt b).reg a = s.reg a := reg_setBit_other s _ b h

theorem menEvt_frame (s : State) (b : Nat) : s.menEvt b = { s with regs := (s.menEvt b).regs } := by
  unfold menEvt setBit
  split <;> rfl

theorem judged_menEvt (s : State) {b : Nat} (h : b < 32) : Judged s (s.menEvt b) := by
  have hf := menEvt_frame s b
  refine ⟨?_, keeps_setBit s ⟨Nat.le_refl _, ?_, ⟨MEN_EVT, 31, 0⟩, by decide, rfl, Nat.zero_le _, ?_⟩ ?_ (by decide), fun i hi => ?_⟩
  · have hm : (s.menEvt b).men = s.men := (congrArg State.men hf).trans rfl
    rw [hm]
    exact hf
  · show 0 + b < 32; omega
  · show 0 + b ≤ 31; omega
  · show 0 + b ≤ 31; omega
  · by_cases hb : i = b
    · rw [hb]; exact bit_menEvt s h
    · exact ((keeps_setBit (l := [⟨MEN_EVT, b, b⟩]) s (f := ⟨MEN_EVT, 31, 0⟩) (i := b)
        ⟨Nat.le_refl _, by show 0 + b < 32; omega, ⟨MEN_EVT, b, b⟩, by simp, rfl, by show b ≤ 0 + b; omega, by show 0 + b ≤ b; omega⟩
        (by show 0 + b ≤ 31; omega) (by decide)).bit (fun g hg hh => by
          obtain rfl := List.mem_singleton.mp hg
          obtain ⟨-, h1, h2⟩ := hh
          simp only at h1 h2
          omega)).trans hi

theorem judged_auditNote (s : State) (cls kind item old new : Nat) : Judged s (s.auditNote cls kind item old new) := by
  refine judged_of_men ?_
  have h := auditNote_frame s cls kind item old new
  generalize s.auditNote cls kind item old new = t at h
  rw [h]

/-! ## Records (R263–R268) -/

theorem judged_showDepth (s : State) : Judged s s.showDepth := judged_put s _ (by decide) (by decide)

theorem judged_takeSeq (s : State) : Judged s s.takeSeq.1 := by
  unfold takeSeq
  dsimp only
  refine (Judged.trans (judged_of_men ?_) (judged_setNum _ _ (by decide) (by decide))).trans (judged_setNum _ _ (by decide) (by decide))
  split <;> rfl

theorem judged_buildRecord (s : State) (typ : Nat) (x : Option Nat) (code : Nat) (fr : Option RecFrame) (frame epoch : Nat) (entries : List (List Byte)) (replayed : Bool) :
    Judged s (s.buildRecord typ x code fr frame epoch entries replayed).1 := by
  unfold buildRecord
  split
  · exact Judged.refl s
  split
  · exact judged_bump s (by decide) (by decide)
  split
  · exact ((judged_bump s (f := MEN_REC_CNT_lost) (by decide) (by decide)).trans (judged_menEvt _ (b := 4) (by decide))).trans (judged_modMen _ (f := fun m => { m with lostBit := true }) fun _ => rfl)
  · dsimp only
    generalize State.recBody _ _ _ _ _ _ _ _ _ _ = b
    exact ((judged_takeSeq s).trans (judged_modMen _ fun _ => rfl)).trans (judged_showDepth _)

theorem judged_eventRecord (s : State) (code : Nat) : Judged s (s.eventRecord code) := judged_buildRecord s 2 none code none 0 0 [] false

/-! ## Causes, state and alarms (R259, R272, R273) -/

theorem judged_setFacetBit (s : State) {x b : Nat} (v : Bool) (hx : x ∈ [0, 1, 2, 3]) (hb : b ∈ [0, 1, 2, 3, 4, 5, 7]) : Judged s (s.setFacetBit x b v) := by
  have h : ∀ x ∈ [0, 1, 2, 3], ∀ b ∈ [0, 1, 2, 3, 4, 5, 7], (Field.bitField ⟨MEN_FACET, 31, 0⟩ (8 * x + b)).Within judgedFields ∧ 8 * x + b < 32 := by decide
  obtain ⟨hw, hlt⟩ := h x hx b hb
  exact judged_wrBit s v hw ⟨by show 0 + (8 * x + b) ≤ 31; omega, by decide⟩ (by show MEN_EVT ≠ MEN_FACET; decide)

theorem judged_facetJudge (s : State) {x : Nat} (hx : x ∈ [0, 1, 2, 3]) : Judged s (s.facetJudge x) := by
  unfold facetJudge
  dsimp only
  have h : ∀ v0 v1 v2 v4 v7, Judged s (((((s.setFacetBit x 0 v0).setFacetBit x 1 v1).setFacetBit x 2 v2).setFacetBit x 4 v4).setFacetBit x 7 v7) := fun v0 v1 v2 v4 v7 =>
    ((((judged_setFacetBit s v0 hx (by decide)).trans (judged_setFacetBit _ v1 hx (by decide))).trans (judged_setFacetBit _ v2 hx (by decide))).trans
      (judged_setFacetBit _ v4 hx (by decide))).trans (judged_setFacetBit _ v7 hx (by decide))
  exact Judged.ite (h _ _ _ _ _) ((h _ _ _ _ _).trans (judged_auditNote _ _ _ _ _ _))

/-- A bit of a field that may be judged, written or not. -/
abbrev JudgedBit (f : Field) : Prop := (f.bitField 0).Within judgedFields ∧ (f.lo + 0 ≤ f.hi ∧ f.hi < 32) ∧ MEN_EVT ≠ f.addr

theorem judged_wrBit0 (s : State) {f : Field} (b : Bool) (h : JudgedBit f) : Judged s (s.wrBit f 0 b) := judged_wrBit s b h.1 h.2.1 h.2.2

theorem judged_setBit_if (s : State) {f : Field} (c : Bool) (h : JudgedBit f) : Judged s (if c then s.setBit f else s) :=
  Judged.ite (judged_wrBit0 s true h) (Judged.refl s)

theorem judged_setBit_unless (s : State) {f : Field} (c : Bool) (h : JudgedBit f) : Judged s (if c then s else s.setBit f) :=
  Judged.ite (Judged.refl s) (judged_wrBit0 s true h)

theorem judged_metJudge (s : State) : Judged s s.metJudge := by
  unfold metJudge
  split
  · exact Judged.refl s
  extract_lets t0 t1 t2 t3 t4 any t5 t6 t7 old new
  have h0 : Judged s t0 := judged_foldl facetJudge _ (fun s x hx => judged_facetJudge s hx) s
  have h4 : Judged t0 t4 := (((judged_setBit_unless t0 _ (by decide)).trans (judged_setBit_if t1 _ (by decide))).trans (judged_setBit_if t2 _ (by decide))).trans
    (judged_setBit_if t3 _ (by decide))
  have h7 : Judged t4 t7 := ((judged_wrBit0 t4 _ (by decide)).trans (judged_wrBit0 t5 _ (by decide))).trans (judged_wrBit0 t6 _ (by decide))
  refine ((h0.trans h4).trans h7).trans ?_
  split
  · exact Judged.refl t7
  rename_i u v _
  have hu : Judged t7 u := (judged_put t7 (f := MEN_STAT_state) new (by decide) (by decide)).trans (judged_menEvt _ (b := 1) (by decide))
  have hv : Judged u v := Judged.ite (judged_auditNote _ _ _ _ _ _) (Judged.refl u)
  exact (hu.trans hv).trans (judged_eventRecord v 4)

theorem judged_clearCauses (s : State) : Judged s s.clearCauses :=
  ((judged_wrBit0 s (f := MEN_CAUSE_p1_corrupt) _ (by decide)).trans (judged_wrBit0 _ (f := MEN_CAUSE_key_missing) _ (by decide))).trans
    (judged_wrBit0 _ (f := MEN_CAUSE_ref_missing) _ (by decide))

theorem judged_showAlarms (s : State) : Judged s s.showAlarms := by
  unfold showAlarms
  extract_lets bits al t
  have ht : Judged s t := (judged_put s (f := MEN_ALARM_pins) _ (by decide) (by decide)).trans (judged_put _ (f := MEN_ALARM_facets) _ (by decide) (by decide))
  have hw : ∀ x ∈ [0, 1, 2, 3], ((⟨MEN_ZALM_LO x, 31, 0⟩ : Field).Within judgedFields ∧ MEN_EVT ≠ MEN_ZALM_LO x) ∧
      (⟨MEN_ZALM_HI x, 31, 0⟩ : Field).Within judgedFields ∧ MEN_EVT ≠ MEN_ZALM_HI x := by decide
  refine ht.trans (judged_foldl _ _ (fun u x hx => ?_) t)
  obtain ⟨⟨hl, hl'⟩, hh, hh'⟩ := hw x hx
  exact ((judged_setNum u _ hl hl').trans (judged_setNum _ _ hh hh')).trans (judged_setFacetBit _ _ hx (by decide))

/-! ## What stands through it -/

namespace Judged

variable {s t : State}

theorem men (h : Judged s t) : t.men = { s.men with
    opens := t.men.opens, built := t.men.built, next := t.men.next, blocks := t.men.blocks, left := t.men.left, lostBit := t.men.lostBit } :=
  (congrArg State.men h.frame).trans rfl

theorem hk (h : Judged s t) : t.hk = s.hk := (congrArg State.hk h.frame).trans rfl

theorem now (h : Judged s t) : t.now = s.now := (congrArg State.now h.frame).trans rfl

theorem reg (h : Judged s t) {a : Nat} (ha : ∀ f ∈ judgedFields, f.addr ≠ a) : t.reg a = s.reg a := h.keeps.reg ha

theorem sealState (h : Judged s t) : t.sealState = s.sealState := h.keeps.get (f := MEN_STAT_seal) (by decide) (by decide)

theorem stat (h : Judged s t) {f : Field} (hf : f = MEN_STAT_seal_pin ∨ f = MEN_STAT_ident_stale) : t.bit f = s.bit f := by
  rcases hf with rfl | rfl
  · exact h.keeps.bit (by decide)
  · exact h.keeps.bit (by decide)

end Judged

end State

end Sys2Proof.Machine
end

section
/-! The seal of the enclave (R240–R242). -/

namespace Sys2Proof.Machine

open R State

/-- A command that every state but a held one takes answers its effect, settled. -/
theorem gives_always {i : Instr} {s t : State} {P : State → Prop} {f : State → State} (he : exec i s = actAlways s f) (hn : Normal s) (hf : f s = t) (hq : t.hk = s.hk)
    (hp : P (s.readOn t).settle) : Gives i s P := by
  rw [actAlways, if_pos (Or.inl hn.1), hf] at he
  exact gives_of_quiet he (by rw [readOn_hk, hq]; exact hn.2) hp

theorem quiet_settle (s : State) : Quiet s (s.readOn s).settle := ⟨by rw [settle_frame, readOn_frame], follows_settle rfl rfl⟩

theorem exec_sealLowDecided (s : State) : exec .sealLowDecided s = actAlways s (fun s => s.sealLow) := rfl

theorem exec_sealHighDecided (s : State) : exec .sealHighDecided s = actAlways s (fun s => s.sealHigh) := rfl

theorem exec_identityComplete (s : State) : exec .identityComplete s = actAlways s (fun s => s.identityComplete) := rfl

namespace State

theorem settle_readOn_bit (s t : State) (f : Field) (i : Nat) : (s.readOn t).settle.bit f i = t.bit f i := by rw [settle_bit]; rfl

theorem settle_readOn_sealState (s t : State) : (s.readOn t).settle.sealState = t.sealState := by rw [sealState, settle_get]; rfl

theorem settle_readOn_reg (s t : State) (a : Nat) : (s.readOn t).settle.reg a = t.reg a := by rw [settle_reg, readOn_reg]

theorem settle_readOn_men (s t : State) : (s.readOn t).settle.men = t.men := by rw [settle_men, readOn_men]

/-- The seal moves to state `v`, which MEN_EVT notes. -/
def moveSeal (s : State) (v : Nat) : State := (s.put MEN_STAT_seal v).menEvt 0

theorem moveSeal_frame (s : State) (v : Nat) : s.moveSeal v = { s with regs := (s.moveSeal v).regs } := by
  unfold moveSeal
  have h := menEvt_frame (s.put MEN_STAT_seal v) 0
  generalize (s.put MEN_STAT_seal v).menEvt 0 = t at h
  rw [h, put_frame]

theorem moveSeal_men (s : State) (v : Nat) : (s.moveSeal v).men = s.men := by rw [moveSeal_frame]

theorem moveSeal_hk (s : State) (v : Nat) : (s.moveSeal v).hk = s.hk := by rw [moveSeal_frame]

theorem moveSeal_sealState (s : State) {v : Nat} (hv : v < 4) : (s.moveSeal v).sealState = v := by
  rw [sealState, moveSeal, get_eq_of_reg (menEvt_reg_other _ 0 (by decide)), get_put_same s _ v (by decide) (by decide)]
  exact Nat.mod_eq_of_lt hv

theorem moveSeal_evt (s : State) (v : Nat) : (s.moveSeal v).bit ⟨MEN_EVT, 31, 0⟩ 0 = true := bit_menEvt _ (by decide)

theorem moveSeal_stat (s : State) (v : Nat) {f : Field} (hf : f = MEN_STAT_seal_pin ∨ f = MEN_STAT_ident_stale) : (s.moveSeal v).bit f = s.bit f := by
  have ha : f.addr ≠ MEN_EVT := by rcases hf with rfl | rfl <;> decide
  have hk : Keeps [MEN_STAT_seal] s (s.put MEN_STAT_seal v) := keeps_put s v (by decide)
  rw [moveSeal, bit_eq_of_reg 0 (menEvt_reg_other _ 0 ha)]
  rcases hf with rfl | rfl
  · exact hk.bit (by decide)
  · exact hk.bit (by decide)

theorem moveSeal_reg (s : State) (v : Nat) {a : Nat} (h : a ≠ MEN_STAT ∧ a ≠ MEN_EVT) : (s.moveSeal v).reg a = s.reg a :=
  (menEvt_reg_other _ 0 h.2).trans (reg_put_other s MEN_STAT_seal v h.1)

/-! ## The decisions of SEAL_N -/

/-- The pin's new level shows, and its decision is known. -/
def pinDecided (s : State) (high : Bool) : State := (s.wrBit MEN_STAT_seal_pin 0 high).modMen (fun m => { m with decided := true })

theorem pinDecided_hk (s : State) (high : Bool) : (s.pinDecided high).hk = s.hk := wrBit_hk s MEN_STAT_seal_pin 0 high

theorem pinDecided_men (s : State) (high : Bool) : (s.pinDecided high).men = { s.men with decided := true } := by
  show { (s.wrBit MEN_STAT_seal_pin 0 high).men with decided := true } = _
  rw [wrBit_frame]

theorem pinDecided_seal_pin (s : State) (high : Bool) : (s.pinDecided high).bit MEN_STAT_seal_pin = high := by
  show (s.wrBit MEN_STAT_seal_pin 0 high).bit MEN_STAT_seal_pin = high
  cases high with
  | true => exact bit_setBit_same s _ 0 (by decide) (by decide) (by decide)
  | false => exact bit_clrBit_same s _ 0 (by decide) (by decide)

theorem pinDecided_sealState (s : State) (high : Bool) : (s.pinDecided high).sealState = s.sealState :=
  (keeps_wrBit (l := [MEN_STAT_seal_pin]) s (i := 0) high (by decide) (by decide) (by decide)).get (f := MEN_STAT_seal) (by decide) (by decide)

/-- A closing or closed seal opens and notes it; another state of the seal stands. -/
theorem sealLow_eq {s : State} (hv : s.variantM = true) : s.sealLow = if s.sealState = 2 then (((s.pinDecided false).moveSeal 0).auditNote 0 1 0xFF00_0001 2 0).eventRecord 2
    else if s.sealState = 1 then ((s.pinDecided false).moveSeal 0).auditNote 0 1 0xFF00_0001 1 0 else (s.pinDecided false) := by
  rw [← pinDecided_sealState s false]
  unfold sealLow
  rw [if_neg (by simp [hv])]
  show (match (s.pinDecided false).sealState with | 2 => _ | 1 => _ | _ => (s.pinDecided false)) = _
  split
  · next h => rw [if_pos h]; rfl
  · next h => rw [if_neg (by omega), if_pos h]; rfl
  · next h2 h1 => rw [if_neg h2, if_neg h1]

/-- What the decision comes to: the pin's new state, or an opened seal with its records. -/
theorem sealLow_cases {s : State} (hv : s.variantM = true) :
    (s.sealState = 1 ∨ s.sealState = 2) ∧ Judged ((s.pinDecided false).moveSeal 0) s.sealLow ∨ ¬ (s.sealState = 1 ∨ s.sealState = 2) ∧ s.sealLow = (s.pinDecided false) := by
  rw [sealLow_eq hv]
  split
  · next h => exact Or.inl ⟨Or.inr h, (judged_auditNote _ _ _ _ _ _).trans (judged_eventRecord _ _)⟩
  split
  · next h => exact Or.inl ⟨Or.inl h, judged_auditNote _ _ _ _ _ _⟩
  · next h2 h1 => exact Or.inr ⟨by simp [h1, h2], rfl⟩

theorem sealHigh_eq {s : State} (hv : s.variantM = true) : s.sealHigh =
    if s.sealState = 0 then ((s.pinDecided true).moveSeal 1).modMen (fun m => { m with staging := stagingKept m, leftOpen := m.busy.isSome }) else (s.pinDecided true) := by
  rw [← pinDecided_sealState s true]
  unfold sealHigh
  rw [if_neg (by simp [hv])]
  rfl

/-- A curve request in progress keeps its own staging area. -/
theorem mem_stagingKept {m : MenSt} {n x : Nat} {pay : List Byte} {l : List W32} (h : m.busy = some (n, 0x12, pay, true)) :
    (x, l) ∈ stagingKept m ↔ (x, l) ∈ m.staging ∧ x = pf pay 0 1 := by
  simp [stagingKept, h, pf]

/-! ## The close of the seal -/

theorem computeIdentity_frame (s : State) : s.computeIdentity = { s with regs := s.computeIdentity.regs, men := { s.men with digest := sha256 s.sealedImage } } := by
  unfold computeIdentity
  dsimp only
  generalize sha256 s.sealedImage = d
  generalize crc32 s.sealedImage = c
  show State.wrBit _ MEN_STAT_ident_stale 0 false = _
  rw [wrBit_frame]
  rfl

theorem computeIdentity_crc (s : State) : s.computeIdentity.reg MEN_LEGAL_CRC = BitVec.ofNat 32 (crc32 s.sealedImage) := by
  unfold computeIdentity
  dsimp only
  rw [reg_clrBit_other _ _ _ (by decide)]
  exact reg_setReg_same s _ _

theorem computeIdentity_stale (s : State) : s.computeIdentity.bit MEN_STAT_ident_stale = false := bit_clrBit_same _ _ 0 (by decide) (by decide)

/-- The identity of the sealed image is published and the seal closes, with the records of it. -/
theorem judged_identityComplete {s : State} (hm : s.metUp = true) (hs : s.sealState = 1) (hb : s.men.busy = none) : Judged (s.computeIdentity.moveSeal 2) s.identityComplete := by
  unfold identityComplete
  rw [if_neg (by simp [hm, hs, hb])]
  exact (((judged_auditNote _ _ _ _ _ _).trans (judged_eventRecord _ _)).trans (judged_clearCauses _)).trans (judged_metJudge _)

theorem identityComplete_none {s : State} (h : s.metUp = false ∨ s.sealState ≠ 1 ∨ s.men.busy ≠ none) : s.identityComplete = s := by
  unfold identityComplete
  refine if_pos ?_
  rcases h with h | h | h
  · simp [h]
  · simp [h]
  · simp [Option.isSome_iff_ne_none.mpr h]

end State

section Seal

variable {s : State}

/-- A part without the enclave has no seal to decide. -/
theorem gives_seal_without (hn : Normal s) (hv : s.variantM = false) : Gives .sealLowDecided s (Quiet s) ∧ Gives .sealHighDecided s (Quiet s) :=
  ⟨gives_always (exec_sealLowDecided s) hn (by simp [sealLow, hv]) rfl (quiet_settle s),
    gives_always (exec_sealHighDecided s) hn (by simp [sealHigh, hv]) rfl (quiet_settle s)⟩

theorem gives_sealLow (hn : Normal s) (hv : s.variantM = true) : Gives .sealLowDecided s (fun t => (s.sealState ≤ 2 → t.sealState = 0) ∧ t.bit MEN_STAT_seal_pin = false ∧
    t.men.decided = true ∧ (s.sealState = 1 ∨ s.sealState = 2 → t.bit ⟨MEN_EVT, 31, 0⟩ 0 = true)) := by
  rcases sealLow_cases hv with ⟨h12, hj⟩ | ⟨h12, he⟩
  · refine gives_always (exec_sealLowDecided s) hn rfl (by rw [hj.hk, moveSeal_hk, pinDecided_hk]) ?_
    simp only [settle_readOn_bit, settle_readOn_sealState, settle_readOn_men]
    refine ⟨fun _ => hj.sealState.trans (moveSeal_sealState _ (by decide)), ?_, ?_, fun _ => hj.evt 0 (moveSeal_evt _ 0)⟩
    · rw [hj.stat (Or.inl rfl), moveSeal_stat _ _ (Or.inl rfl), pinDecided_seal_pin]
    · rw [hj.men, moveSeal_men]; rfl
  · refine gives_always (exec_sealLowDecided s) hn he (pinDecided_hk s _) ?_
    simp only [settle_readOn_bit, settle_readOn_sealState, settle_readOn_men]
    exact ⟨fun hle => by rw [pinDecided_sealState]; omega, pinDecided_seal_pin s _, rfl, fun h => absurd h h12⟩

theorem gives_sealHigh (hn : Normal s) (hv : s.variantM = true) : Gives .sealHighDecided s (fun t => t.bit MEN_STAT_seal_pin = true ∧ t.men.decided = true ∧
    t.sealState = (if s.sealState = 0 then 1 else s.sealState) ∧
    (s.sealState = 0 → t.bit ⟨MEN_EVT, 31, 0⟩ 0 = true ∧ (s.men.busy = none → t.men.staging = []) ∧
      (∀ n pay x l, s.men.busy = some (n, 0x12, pay, true) → ((x, l) ∈ t.men.staging ↔ (x, l) ∈ s.men.staging ∧ x = pf pay 0 1))) ∧
    (s.sealState ≠ 0 → t.men.staging = s.men.staging)) := by
  have he := sealHigh_eq hv
  by_cases h0 : s.sealState = 0
  · rw [if_pos h0] at he
    refine gives_always (exec_sealHighDecided s) hn he ((moveSeal_hk _ _).trans (pinDecided_hk s _)) ?_
    simp only [settle_readOn_bit, settle_readOn_sealState, settle_readOn_men, modMen_men, moveSeal_men, pinDecided_men, h0, if_true]
    refine ⟨?_, trivial, ?_, fun _ => ⟨moveSeal_evt _ 1, fun hb => ?_, fun n pay x l hb => ?_⟩, fun h => absurd rfl h⟩
    · exact (moveSeal_stat _ _ (Or.inl rfl)).trans (pinDecided_seal_pin s _)
    · exact moveSeal_sealState (s.pinDecided true) (by decide)
    · simp [stagingKept, hb]
    · exact mem_stagingKept (m := { s.men with decided := true }) hb
  · rw [if_neg h0] at he
    refine gives_always (exec_sealHighDecided s) hn he (pinDecided_hk s _) ?_
    simp only [settle_readOn_bit, settle_readOn_sealState, settle_readOn_men, pinDecided_men, pinDecided_sealState, if_neg h0]
    exact ⟨pinDecided_seal_pin s _, trivial, trivial, fun h => absurd h h0, fun _ => trivial⟩

theorem gives_identityComplete (hn : Normal s) (hm : s.metUp = true) (hs : s.sealState = 1) (hb : s.men.busy = none) :
    Gives .identityComplete s (fun t => t.sealState = 2 ∧ t.bit ⟨MEN_EVT, 31, 0⟩ 0 = true ∧ t.reg MEN_LEGAL_CRC = BitVec.ofNat 32 (crc32 s.sealedImage) ∧
      t.men.digest = sha256 s.sealedImage ∧ t.bit MEN_STAT_ident_stale = false) := by
  have hj := judged_identityComplete hm hs hb
  have hc := computeIdentity_frame s
  refine gives_always (exec_identityComplete s) hn rfl (by rw [hj.hk, moveSeal_hk, hc]) ?_
  simp only [settle_readOn_bit, settle_readOn_sealState, settle_readOn_men, settle_readOn_reg]
  refine ⟨hj.sealState.trans (moveSeal_sealState _ (by decide)), hj.evt 0 (moveSeal_evt _ 2), ?_, ?_, ?_⟩
  · rw [hj.reg (by decide), moveSeal_reg _ _ (by decide), computeIdentity_crc]
  · rw [hj.men, moveSeal_men, hc]
  · rw [hj.stat (Or.inr rfl), moveSeal_stat _ _ (Or.inr rfl), computeIdentity_stale]

end Seal

/-- Settles O41: a change of the seal is one move of its field; what follows it keeps records and judges causes alone. -/
theorem sealDecisions : Obligations.SealDecisions := fun s hn =>
  ⟨gives_seal_without hn, fun hv => ⟨gives_sealLow hn hv, gives_sealHigh hn hv⟩, gives_identityComplete hn,
    fun h => gives_always (exec_identityComplete s) hn (identityComplete_none h) rfl (quiet_settle s)⟩

end Sys2Proof.Machine
end

section
/-! Start, reset, clock and signer of the enclave, and reads of MEN_EVT (R253, R255, R274, R275). -/

namespace Sys2Proof.Machine

open R State

/-- A command that only a running part takes answers its effect, settled. -/
theorem gives_act {i : Instr} {s t : State} {P : State → Prop} {f : State → State} (he : exec i s = act s f) (hn : Normal s) (hf : f s = t) (hq : t.hk = s.hk)
    (hp : P (s.readOn t).settle) : Gives i s P := by
  rw [act_running f hn.1, hf] at he
  exact gives_of_quiet he (by rw [readOn_hk, hq]; exact hn.2) hp

theorem exec_metBootComplete (fw st : Bool) (bad : List W32) (s : State) :
    exec (.metBootComplete fw st bad) s = actAlways s (fun s => s.metBoot fw st (bad.map (fun a => a.toNat))) :=
  (show _ = execMetBootComplete fw st bad s from rfl).trans rfl

theorem exec_enclaveWatchdogExpiry (s : State) : exec .enclaveWatchdogExpiry s = actAlways s (fun s => s.enclaveReset) :=
  (show _ = execEnclaveWatchdogExpiry s from rfl).trans rfl

theorem exec_timeVerifyExpiry (s : State) : exec .timeVerifyExpiry s = actAlways s (fun s => s.timeVerifyExpiry) :=
  (show _ = execTimeVerifyExpiry s from rfl).trans rfl

theorem exec_recordSigned (s : State) : exec .recordSigned s = actAlways s (fun s => s.recordSigned) := (show _ = execRecordSigned s from rfl).trans rfl

theorem exec_menEvtRead (who : Party) (s : State) : exec (.menEvtRead who) s = act s (fun s => s.readData who MEN_EVT) :=
  (show _ = execMenEvtRead who s from rfl).trans rfl

theorem exec_zoneConfirmation (p : Port) (s : State) : exec (.zoneConfirmation p) s = act s (fun s => if s.dramWaits then s else s.zoneConfirmation p) :=
  (show _ = execZoneConfirmation p s from rfl).trans rfl

namespace State

theorem settle_readOn_num (s t : State) (a : Nat) : (s.readOn t).settle.num a = t.num a := by rw [settle_num]; rfl

theorem settle_readOn_core (s t : State) (k : Nat) : (s.readOn t).settle.core k = t.core k := by rw [settle_core, readOn_core]

theorem settle_readOn_now (s t : State) : (s.readOn t).settle.now = t.now := by rw [settle_now, readOn_now]

theorem modMen_reg (s : State) (f : MenSt → MenSt) (a : Nat) : (s.modMen f).reg a = s.reg a := rfl

/-! ## The start of MET -/

theorem metBoot_none {s : State} (fw st : Bool) (bad : List Nat) (h : s.men.up = true ∨ s.men.fwFail = true ∨ s.bit NVS_STAT_ready = false) : s.metBoot fw st bad = s := by
  unfold metBoot
  refine if_pos ?_
  rcases h with h | h | h <;> simp [h]

variable {s : State}

/-- The state that the start of MET with firmware of a version word leaves before its identity is published. -/
def started (s : State) (st : Bool) (bad : List Nat) : State :=
  let v := (Config.imageVersion s.image).toNat
  { (s.setNum MEN_ID (if v = 0 then 1 else v)).modMen (fun m => { m with up := true, p1Bad := bad, testFail := !st, winArm := 15 }) with coefArm := 15 }

theorem started_id (s : State) (st : Bool) (bad : List Nat) : (s.started st bad).reg MEN_ID ≠ 0#32 := by
  have hv : (s.started st bad).reg MEN_ID = BitVec.ofNat 32 (if (Config.imageVersion s.image).toNat = 0 then 1 else (Config.imageVersion s.image).toNat) := reg_setReg_same s _ _
  intro h0
  have h := congrArg BitVec.toNat (hv.symm.trans h0)
  have hlt := (Config.imageVersion s.image).isLt
  rw [BitVec.toNat_ofNat, Nat.mod_eq_of_lt (by split <;> omega)] at h
  split at h
  · exact absurd h (by decide)
  · next h1 => exact h1 h

/-- What the publication of the identity, the records and the judgements of a start leave to themselves. -/
structure Starts (s t : State) : Prop where
  hk : t.hk = s.hk
  id : t.reg MEN_ID = s.reg MEN_ID
  up : t.men.up = s.men.up
  p1Bad : t.men.p1Bad = s.men.p1Bad
  testFail : t.men.testFail = s.men.testFail

theorem Starts.refl (s : State) : Starts s s := ⟨rfl, rfl, rfl, rfl, rfl⟩

theorem Starts.trans {s t u : State} (h : Starts s t) (k : Starts t u) : Starts s u :=
  ⟨k.hk.trans h.hk, k.id.trans h.id, k.up.trans h.up, k.p1Bad.trans h.p1Bad, k.testFail.trans h.testFail⟩

theorem Judged.starts {s t : State} (h : Judged s t) : Starts s t :=
  ⟨h.hk, h.reg (by decide), by rw [h.men], by rw [h.men], by rw [h.men]⟩

theorem starts_of_regs {s t : State} (h : t = { s with regs := t.regs }) (hid : t.reg MEN_ID = s.reg MEN_ID) : Starts s t := by
  have hm : t.men = s.men := (congrArg State.men h).trans rfl
  exact ⟨(congrArg State.hk h).trans rfl, hid, by rw [hm], by rw [hm], by rw [hm]⟩

theorem starts_foldl_setNum (v : Nat → Nat) (f : Nat → Nat) (l : List Nat) (hf : ∀ k ∈ l, MEN_ID ≠ f k) : ∀ s : State, Starts s (l.foldl (fun s k => s.setNum (f k) (v k)) s) := by
  induction l with
  | nil => exact Starts.refl
  | cons x xs ih =>
    exact fun s => (starts_of_regs (setNum_frame s _ _) (reg_setNum_other s _ (hf x List.mem_cons_self))).trans (ih (fun k hk => hf k (List.mem_cons_of_mem x hk)) _)

theorem starts_publishKey (s : State) : Starts s s.publishKey := by
  unfold publishKey
  extract_lets h
  exact (starts_foldl_setNum _ MEN_KEYHASH _ (by decide) s).trans (starts_of_regs (wrBit_frame _ _ _ _) (reg_wrBit_other _ _ _ _ (by decide)))

theorem starts_drawNonce (s : State) : Starts s s.drawNonce :=
  have h : Starts s s.drawn := ⟨rfl, rfl, rfl, rfl, rfl⟩
  (h.trans (starts_of_regs (setNum_frame _ MEN_TIME_NONCE_LO _) (reg_setNum_other _ _ (by decide)))).trans
    (starts_of_regs (setNum_frame _ MEN_TIME_NONCE_HI _) (reg_setNum_other _ _ (by decide)))

theorem starts_computeIdentity (s : State) : Starts s s.computeIdentity := by
  have h := computeIdentity_frame s
  have hid : s.computeIdentity.reg MEN_ID = s.reg MEN_ID := by
    unfold computeIdentity
    dsimp only
    rw [reg_clrBit_other _ _ _ (by decide)]
    exact reg_setNum_other s _ (by decide)
  refine ⟨?_, hid, ?_, ?_, ?_⟩ <;> rw [h]

theorem starts_awaitNoReset (s : State) : Starts s (s.modMen (fun m => { m with wasReset := false })) := ⟨rfl, rfl, rfl, rfl, rfl⟩

/-- The end of an enclave reset is noted at the next start. -/
theorem starts_resetNoted (s : State) (n : Nat) : Starts s (if s.men.wasReset then ((s.menEvt 6).auditNote 11 6 0xFF00_0040 (n - 1) n).modMen (fun m => { m with wasReset := false }) else s) := by
  split
  · have h := ((judged_menEvt s (b := 6) (by decide)).trans (judged_auditNote _ 11 6 0xFF00_0040 (n - 1) n)).starts
    exact h.trans (starts_awaitNoReset _)
  · exact Starts.refl s

theorem starts_metBoot {s : State} (hv : s.variantM = true) (hu : s.men.up = false) (hf : s.men.fwFail = false) (hr : s.bit NVS_STAT_ready = true) (st : Bool) (bad : List Nat) :
    Starts (s.started st bad) (s.metBoot true st bad) := by
  unfold metBoot
  rw [if_neg (by simp [hv, hu, hf, hr]), if_neg (by decide)]
  extract_lets v s1 src s2 s3 n s4
  have h3 : Starts s2 s3 := ((starts_publishKey s2).trans (starts_drawNonce _)).trans (starts_computeIdentity _)
  have h4 : Starts s3 s4 := starts_resetNoted s3 n
  exact (h3.trans h4).trans (((judged_eventRecord s4 1).trans (judged_metJudge _)).trans (judged_showAlarms _)).starts

theorem metBoot_failed {s : State} (hv : s.variantM = true) (hu : s.men.up = false) (hf : s.men.fwFail = false) (hr : s.bit NVS_STAT_ready = true) (st : Bool) (bad : List Nat) :
    s.metBoot false st bad = (s.setNum MEN_ID 0xFFFF_FFFF).modMen (fun m => { m with fwFail := true }) := by
  unfold metBoot
  rw [if_neg (by simp [hv, hu, hf, hr]), if_pos (show (!false) = true from rfl)]

/-! ## The reset of the enclave -/

/-- The fields of registers that a reset of the enclave writes. -/
def clearedFields : List Field :=
  menRegs.map (fun a => ⟨a, 31, 0⟩) ++ [MEN_STAT_key_present, MEN_STAT_time_set, MEN_STAT_time_verified, MEN_STAT_state, MEN_STAT_ident_stale, ⟨MEN_RSTCNT, 31, 0⟩]

/-- The registers of the enclave are reset. -/
def clearRegs (s : State) : State :=
  let t := menRegs.foldl (fun s a => s.setReg a (regReset a)) s
  let t := ((t.clrBit MEN_STAT_key_present).clrBit MEN_STAT_time_set).clrBit MEN_STAT_time_verified
  (t.put MEN_STAT_state 0).clrBit MEN_STAT_ident_stale

theorem setReg_eq_setNum (s : State) (a : Nat) (v : W32) : s.setReg a v = s.setNum a v.toNat := by simp [setNum]

theorem keeps_foldl_setReg (l : List Field) (as : List Nat) (h : ∀ a ∈ as, (⟨a, 31, 0⟩ : Field).Within l) : ∀ s : State, Keeps l s (as.foldl (fun s a => s.setReg a (regReset a)) s) := by
  induction as with
  | nil => exact Keeps.refl l
  | cons x xs ih =>
    intro s
    refine Keeps.trans ?_ (ih (fun a ha => h a (List.mem_cons_of_mem x ha)) _)
    show Keeps l s (s.setReg x (regReset x))
    rw [setReg_eq_setNum]
    exact keeps_setNum s _ (h x List.mem_cons_self)

theorem keeps_clearRegs (s : State) : Keeps clearedFields s s.clearRegs := by
  unfold clearRegs
  extract_lets t u
  have ht : Keeps clearedFields s t := keeps_foldl_setReg _ _ (fun a ha =>
    ⟨Nat.zero_le _, Nat.lt_succ_self 31, ⟨a, 31, 0⟩, List.mem_append_left _ (List.mem_map_of_mem ha), rfl, Nat.le_refl _, Nat.le_refl _⟩) s
  have hc : ∀ (v : State) (f : Field), (f.bitField 0).Within clearedFields ∧ f.lo + 0 ≤ f.hi ∧ f.hi < 32 → Keeps clearedFields v (v.clrBit f) :=
    fun v f ⟨h1, h2, h3⟩ => keeps_clrBit v h1 h2 h3
  have hu : Keeps clearedFields t u := ((hc t MEN_STAT_key_present (by decide)).trans (hc _ MEN_STAT_time_set (by decide))).trans (hc _ MEN_STAT_time_verified (by decide))
  exact ((ht.trans hu).trans (keeps_put u 0 (by decide))).trans (hc _ MEN_STAT_ident_stale (by decide))

theorem clearRegs_frame (s : State) : s.clearRegs = { s with regs := s.clearRegs.regs } := by
  have hfold : ∀ (as : List Nat) (s : State), ∃ r, as.foldl (fun s a => s.setReg a (regReset a)) s = { s with regs := r } := by
    intro as
    induction as with
    | nil => exact fun s => ⟨s.regs, rfl⟩
    | cons x xs ih => exact fun s => ih (s.setReg x (regReset x))
  have hclr : ∀ (v : State) (f : Field), ∃ r, v.clrBit f = { v with regs := r } := fun v f => ⟨_, wrBit_frame v f 0 false⟩
  unfold clearRegs
  extract_lets t u
  obtain ⟨r, ht⟩ : ∃ r, t = { s with regs := r } := hfold menRegs s
  obtain ⟨r1, h1⟩ := hclr t MEN_STAT_key_present
  obtain ⟨r2, h2⟩ := hclr (t.clrBit MEN_STAT_key_present) MEN_STAT_time_set
  obtain ⟨r3, h3⟩ := hclr ((t.clrBit MEN_STAT_key_present).clrBit MEN_STAT_time_set) MEN_STAT_time_verified
  have hu : u = { s with regs := r3 } := h3.trans (by rw [h2, h1, ht])
  obtain ⟨r5, h5⟩ := hclr (u.put MEN_STAT_state 0) MEN_STAT_ident_stale
  rw [h5, hu, put_frame]

/-- What a reset of the enclave comes to, its registers apart. -/
structure EnclaveCleared (s t : State) : Prop where
  hk : t.hk = s.hk
  cores : t.cores = Map.set (fun _ => {}) s.cores 5 { readyAt := s.now }
  down : t.men.up = false
  fwFail : t.men.fwFail = false
  zones : t.men.zones = s.men.zones
  winAct : t.men.winAct = s.men.winAct
  privKey : t.men.privKey = s.men.privKey
  pubKey : t.men.pubKey = s.men.pubKey
  keeps : Keeps clearedFields s t

/-- The read latches of the enclave's addresses are empty. -/
def clearLatches (s : State) : State := { s with rlatch := s.rlatch.filter (fun e => e.1 % 2 ^ 24 / 0x1000 != 0x12 && e.1 % 2 ^ 24 / 0x8_0000 != 1) }

/-- MET's core, its view of NVS and its own memory are reset. -/
def clearPrivate (s : State) : State :=
  State.modMen { s with
    kat := [], cores := Map.set (fun _ => {}) s.cores 5 { readyAt := s.now },
    nvs := { s.nvs with mregs := [], mbuf := [], pendM := none, run := s.nvs.run.map (fun (r : NvsRun) => { r with lost := r.lost || r.met }) } } (fun m =>
      { m with up := false, sig := 0, staging := [], opens := [], built := [], queue := [], left := 0, lostBit := false, zone := [], busy := none, leftOpen := false,
               facets := m.facets.filterMap (fun e => if e.2.katFence then some (e.1, { katFence := true }) else none),
               digest := [], utc := 0, utcWall := 0, p1Bad := [], testFail := false, fwFail := false, retryAt := [] })

theorem menClear_eq (s : State) : s.menClear = s.clearLatches.clearRegs.clearPrivate := rfl

theorem EnclaveCleared.of_clearPrivate {s u : State} (hf : u = { s with regs := u.regs, rlatch := u.rlatch }) (hk : Keeps clearedFields s u) : EnclaveCleared s u.clearPrivate := by
  have hc : u.cores = s.cores := (congrArg State.cores hf).trans rfl
  have hn : u.now = s.now := (congrArg State.now hf).trans rfl
  have hm : u.men = s.men := (congrArg State.men hf).trans rfl
  refine ⟨(congrArg State.hk hf).trans rfl, ?_, rfl, rfl, ?_, ?_, ?_, ?_, hk⟩
  · rw [← hc, ← hn]; rfl
  · rw [← hm]; rfl
  · rw [← hm]; rfl
  · rw [← hm]; rfl
  · rw [← hm]; rfl

theorem enclaveCleared_menClear (s : State) : EnclaveCleared s s.menClear := by
  rw [menClear_eq]
  refine EnclaveCleared.of_clearPrivate ?_ (keeps_clearRegs s.clearLatches)
  have h := clearRegs_frame s.clearLatches
  generalize s.clearLatches.clearRegs = u at h
  rw [h]
  rfl

/-- The reset counts, and the next start notes it. -/
theorem enclaveReset_eq {s : State} (hv : s.variantM = true) :
    s.enclaveReset = (s.menClear.setNum MEN_RSTCNT (sat 0xFFFF (s.num MEN_RSTCNT + 1))).modMen (fun m => { m with wasReset := true }) := by
  unfold enclaveReset
  rw [if_neg (by simp [hv])]

theorem num_enclaveReset_rstcnt {s : State} (hv : s.variantM = true) : s.enclaveReset.num MEN_RSTCNT = min 0xFFFF (s.num MEN_RSTCNT + 1) := by
  have hs : sat 0xFFFF (s.num MEN_RSTCNT + 1) = min 0xFFFF (s.num MEN_RSTCNT + 1) := by unfold sat; split <;> omega
  have hn : s.enclaveReset.num MEN_RSTCNT = sat 0xFFFF (s.num MEN_RSTCNT + 1) % 2 ^ 32 := by
    rw [enclaveReset_eq hv]
    exact num_setNum_same s.menClear MEN_RSTCNT _
  rw [hn, hs, Nat.mod_eq_of_lt (by omega)]

theorem enclaveReset_wasReset {s : State} (hv : s.variantM = true) : s.enclaveReset.men.wasReset = true := by
  rw [enclaveReset_eq hv]
  rfl

theorem enclaveCleared_enclaveReset {s : State} (hv : s.variantM = true) : EnclaveCleared s s.enclaveReset := by
  rw [enclaveReset_eq hv]
  have h := enclaveCleared_menClear s
  generalize s.menClear = t at h
  have hk := h.keeps.trans (keeps_setNum t (a := MEN_RSTCNT) (sat 0xFFFF (s.num MEN_RSTCNT + 1)) (by decide))
  exact ⟨h.hk, h.cores, h.down, h.fwFail, h.zones, h.winAct, h.privKey, h.pubKey, fun a j hf => hk a j hf⟩

/-! ## The time -/

/-- The clock moves on until the wall time is reached. -/
theorem advanceWall_spec (s : State) (w : Nat) : s.advanceWall w = { s with now := (s.advanceWall w).now, wall := (s.advanceWall w).wall } ∧ w ≤ (s.advanceWall w).wall := by
  unfold advanceWall
  dsimp only
  refine ⟨(advanceTo_spec s _).2.2, ?_⟩
  have hp : 0 < (if s.sca.slow then 10 else 9) := by split <;> decide
  unfold advanceTo
  generalize (if s.sca.slow then 10 else 9) = per at hp ⊢
  have hq : w - s.wall ≤ (w - s.wall + per - 1) / per * per := by
    have hd := Nat.div_add_mod' (w - s.wall + per - 1) per
    have hm := Nat.mod_lt (w - s.wall + per - 1) hp
    omega
  split
  · next h =>
    have h0 : (w - s.wall + per - 1) / per = 0 := Nat.le_zero.mp (Nat.le_of_add_le_add_left (h : _ ≤ s.now + 0))
    rw [h0] at hq
    omega
  · show w ≤ s.wall + (s.now + (w - s.wall + per - 1) / per - s.now) * per
    rw [Nat.add_sub_cancel_left]
    omega

/-! ## A read of MEN_EVT -/

theorem regValue_evt {s : State} (hv : s.variantM = true) : s.regValue MEN_EVT = s.reg MEN_EVT := by
  obtain ⟨r, hr⟩ := Option.isSome_iff_exists.mp (show (findRow MEN_EVT).isSome = true by decide)
  simp only [regValue, hr]
  simp [MEN_EVT, CER_EVID, SDR_TRIG, HPORT_STAT, GPIO_IN, hv]

/-- A read of MEN_EVT is an access; the host's and SUP's clear it. -/
theorem busRead_evt {s : State} {who : Party} (hv : s.variantM = true) (hh : s.heldHalf who.code = none) (hm : mayRead who.code MEN_EVT = true) :
    s.busRead who MEN_EVT = (if who.code < 2 then (s.beginAccess who.code MEN_EVT false).setNum MEN_EVT 0 else s.beginAccess who.code MEN_EVT false, s.reg MEN_EVT) := by
  have hw : wordAddr MEN_EVT = MEN_EVT := by decide
  have hu : isUpper MEN_EVT = false := by decide
  have hup : upperWords MEN_EVT = [] := by decide
  have h1 : MEN_EVT < 0x2_0000 := by decide
  have h2 : ¬ (0xD800 ≤ MEN_EVT ∧ MEN_EVT < 0xE000) := by decide
  have h3 : ¬ (0x9000 ≤ MEN_EVT ∧ MEN_EVT < 0xB000) := by decide
  have hval : (s.beginAccess who.code MEN_EVT false).regValue MEN_EVT = s.reg MEN_EVT := by
    rw [regValue_evt (by rw [beginAccess_variantM]; exact hv), beginAccess_reg_quiet s _ _ _ hh]
  simp only [busRead, hw, hm, Bool.not_true, Bool.false_eq_true, if_false, if_pos h1, if_neg h2, regRead, hu, if_neg h3, hup, List.foldl_nil, hval, if_true,
    beginAccess_variantM, hv, Bool.true_and, decide_eq_true_eq]

/-! ## A confirmation that has no frame or no locus -/

theorem zoneConfirmation_none {s : State} (p : Nat) (h : s.metUp = false ∨ (s.facetMen p).confirm = false ∨ s.confirmTick p = none) : s.zoneConfirmation p = s := by
  have hc : (if s.metUp && (s.facetMen p).confirm then s.confirmTick p else none) = none := by
    rcases h with h | h | h <;> simp [h]
  unfold zoneConfirmation
  rw [hc]

end State

section Events

variable {s : State}

theorem gives_metBoot_quiet (hn : Normal s) (fw st : Bool) (bad : List W32) (h : s.men.up = true ∨ s.men.fwFail = true ∨ s.bit NVS_STAT_ready = false) :
    Gives (.metBootComplete fw st bad) s (Quiet s) :=
  gives_always (exec_metBootComplete fw st bad s) hn (metBoot_none fw st _ h) rfl (quiet_settle s)

theorem gives_metBoot_started (hn : Normal s) (hv : s.variantM = true) (hu : s.men.up = false) (hf : s.men.fwFail = false) (hr : s.bit NVS_STAT_ready = true)
    (st : Bool) (bad : List W32) :
    Gives (.metBootComplete true st bad) s (fun t => t.men.up = true ∧ t.reg MEN_ID ≠ 0#32 ∧ t.men.p1Bad = bad.map (fun a => a.toNat) ∧ t.men.testFail = !st) := by
  have h := starts_metBoot hv hu hf hr st (bad.map (fun a => a.toNat))
  refine gives_always (exec_metBootComplete true st bad s) hn rfl h.hk ?_
  simp only [settle_readOn_men, settle_readOn_reg]
  rw [h.up, h.p1Bad, h.testFail, h.id]
  exact ⟨rfl, started_id s st _, rfl, rfl⟩

theorem gives_metBoot_failed (hn : Normal s) (hv : s.variantM = true) (hu : s.men.up = false) (hf : s.men.fwFail = false) (hr : s.bit NVS_STAT_ready = true)
    (st : Bool) (bad : List W32) :
    Gives (.metBootComplete false st bad) s (fun t => t.men = { s.men with fwFail := true } ∧ t.reg MEN_ID = 0xFFFFFFFF#32 ∧ ∀ a, a ≠ MEN_ID → t.reg a = s.reg a) := by
  have h := metBoot_failed hv hu hf hr st (bad.map (fun a => a.toNat))
  refine gives_always (exec_metBootComplete false st bad s) hn h rfl ?_
  simp only [settle_readOn_men, settle_readOn_reg]
  exact ⟨rfl, (modMen_reg _ _ _).trans (reg_setReg_same s _ _), fun a ha => (modMen_reg _ _ _).trans (reg_setNum_other s _ ha)⟩

theorem gives_enclaveWatchdog (hn : Normal s) (hv : s.variantM = true) : Gives .enclaveWatchdogExpiry s (fun t => t.men.up = false ∧ t.men.wasReset = true ∧
    t.num MEN_RSTCNT = min 0xFFFF (s.num MEN_RSTCNT + 1) ∧ t.core 5 = { readyAt := s.now } ∧ t.men.fwFail = false ∧ t.reg MEN_ID = s.reg MEN_ID ∧
    t.sealState = s.sealState ∧ t.men.zones = s.men.zones ∧ t.men.winAct = s.men.winAct ∧ t.men.privKey = s.men.privKey ∧ t.men.pubKey = s.men.pubKey ∧
    ∀ k, k ≠ 5 → t.core k = s.core k) := by
  have h := enclaveCleared_enclaveReset hv
  refine gives_always (exec_enclaveWatchdogExpiry s) hn rfl h.hk ?_
  simp only [settle_readOn_men, settle_readOn_reg, settle_readOn_num, settle_readOn_core, settle_readOn_sealState]
  refine ⟨h.down, enclaveReset_wasReset hv, num_enclaveReset_rstcnt hv, ?_, h.fwFail, h.keeps.reg (by decide), h.keeps.get (f := MEN_STAT_seal) (by decide) (by decide), h.zones,
    h.winAct, h.privKey, h.pubKey, fun k hk => ?_⟩
  · rw [State.core, h.cores, Map.get_set_same]
  · rw [State.core, h.cores, Map.get_set_other _ _ _ hk]; rfl

theorem gives_timeVerifyExpiry (hn : Normal s) (hb : s.bit MEN_STAT_time_verified = true) : Gives .timeVerifyExpiry s (fun t => t.bit MEN_STAT_time_verified = false ∧
    s.men.utcWall + s.timeValid * 27000000000 ≤ t.wall ∧ ∀ a, a ≠ MEN_STAT → t.reg a = s.reg a) := by
  have he : s.timeVerifyExpiry = (s.advanceWall (s.men.utcWall + s.timeValid * 1000 * wallMs)).clrBit MEN_STAT_time_verified := by simp [timeVerifyExpiry, hb]
  obtain ⟨hf, hw⟩ := advanceWall_spec s (s.men.utcWall + s.timeValid * 1000 * wallMs)
  generalize s.advanceWall (s.men.utcWall + s.timeValid * 1000 * wallMs) = u at he hf hw
  have hr : ∀ a, u.reg a = s.reg a := reg_eq_of_regs ((congrArg State.regs hf).trans rfl)
  refine gives_always (exec_timeVerifyExpiry s) hn he ?_ ?_
  · exact (clrBit_hk u _ _).trans ((congrArg State.hk hf).trans rfl)
  · simp only [settle_readOn_reg, settle_readOn_bit]
    refine ⟨bit_clrBit_same u _ 0 (by decide) (by decide), ?_, fun a ha => ?_⟩
    · have hwall : ∀ v : State, (s.readOn v).settle.wall = v.wall := fun v => by rw [settle_frame, readOn_frame]
      have hms : s.timeValid * 1000 * wallMs = s.timeValid * 27000000000 := by rw [Nat.mul_assoc, show 1000 * wallMs = 27000000000 by decide]
      rw [hwall, clrBit_wall, ← hms]
      exact hw
    · exact (reg_clrBit_other _ _ _ ha).trans (hr a)

theorem gives_recordSigned (hn : Normal s) {b : List Byte} {rest : List (List Byte)} (hb : s.men.built = b :: rest) : Gives .recordSigned s (fun t => t.regs = s.regs ∧
    t.men = { s.men with built := rest, queue := s.men.queue ++ [b ++ P256.sign s.men.privKey (sha256 b)] }) := by
  have he : s.recordSigned = s.modMen (fun m => { m with built := rest, queue := m.queue ++ [b ++ P256.sign s.men.privKey (sha256 b)] }) := by
    simp only [recordSigned, hb]
  generalize P256.sign s.men.privKey (sha256 b) = sig at he ⊢
  refine gives_always (exec_recordSigned s) hn he rfl ?_
  rw [settle_regs, readOn_regs, settle_readOn_men]
  exact ⟨rfl, rfl⟩

theorem gives_menEvtRead (hn : Normal s) (hv : s.variantM = true) {who : Party} (hh : s.heldHalf who.code = none) (hm : mayRead who.code MEN_EVT = true) :
    Gives (.menEvtRead who) s (fun t => t.reg MEN_EVT = (if who.code < 2 then 0#32 else s.reg MEN_EVT) ∧ Map.get (fun _ => 0#32) t.rdata who.code = s.reg MEN_EVT ∧
      ∀ a, a ≠ MEN_EVT → t.reg a = s.reg a) := by
  have hr : s.readData who MEN_EVT = { (if who.code < 2 then (s.beginAccess who.code MEN_EVT false).setNum MEN_EVT 0 else s.beginAccess who.code MEN_EVT false) with
      rdata := Map.set (fun _ => 0#32) (if who.code < 2 then (s.beginAccess who.code MEN_EVT false).setNum MEN_EVT 0 else s.beginAccess who.code MEN_EVT false).rdata
        who.code (s.reg MEN_EVT) } := by
    rw [readData, busRead_evt hv hh hm]
  have hq := beginAccess_reg_quiet s who.code MEN_EVT false hh
  have hk := beginAccess_hk s who.code MEN_EVT false
  generalize s.beginAccess who.code MEN_EVT false = u at hr hq hk
  have he : ∀ v : State, (v.hk = s.hk ∧ v.reg MEN_EVT = (if who.code < 2 then 0#32 else s.reg MEN_EVT) ∧ ∀ a, a ≠ MEN_EVT → v.reg a = s.reg a) →
      s.readData who MEN_EVT = { v with rdata := Map.set (fun _ => 0#32) v.rdata who.code (s.reg MEN_EVT) } →
      Gives (.menEvtRead who) s (fun t => t.reg MEN_EVT = (if who.code < 2 then 0#32 else s.reg MEN_EVT) ∧ Map.get (fun _ => 0#32) t.rdata who.code = s.reg MEN_EVT ∧
        ∀ a, a ≠ MEN_EVT → t.reg a = s.reg a) := by
    rintro v ⟨h1, h2, h3⟩ hd
    refine gives_act (exec_menEvtRead who s) hn hd h1 ?_
    simp only [settle_readOn_reg, settle_rdata]
    exact ⟨h2, Map.get_set_same _ _ _ _, h3⟩
  refine he _ ?_ hr
  split
  · exact ⟨hk, reg_setReg_same u _ _, fun a ha => (reg_setNum_other u 0 ha).trans (hq a)⟩
  · exact ⟨hk, hq _, fun a _ => hq a⟩

theorem gives_zoneConfirmation_quiet (hn : Normal s) (p : Port) (h : s.metUp = false ∨ (s.facetMen p).confirm = false ∨ s.confirmTick p = none) :
    Gives (.zoneConfirmation p) s (Quiet s) := by
  refine gives_act (exec_zoneConfirmation p s) hn ?_ rfl (quiet_settle s)
  split
  · rfl
  · exact zoneConfirmation_none p h

end Events

end Sys2Proof.Machine
end

section
/-! What a new alarm starts aside of the enclave: the recorder and the abort of a flat-field (R226, R323). -/

namespace Sys2Proof.Machine

open R State

namespace State

/-- `t` is `s` in its tick, in MET's and housekeeping's records and in the registers of the enclave's pages. -/
structure Aside (s t : State) : Prop where
  now : t.now = s.now
  men : t.men = s.men
  hk : t.hk = s.hk
  reg : ∀ a, 0x12000 ≤ a → t.reg a = s.reg a

theorem Aside.refl (s : State) : Aside s s := ⟨rfl, rfl, rfl, fun _ _ => rfl⟩

theorem Aside.trans {s t u : State} (h : Aside s t) (k : Aside t u) : Aside s u :=
  ⟨k.now.trans h.now, k.men.trans h.men, k.hk.trans h.hk, fun a ha => (k.reg a ha).trans (h.reg a ha)⟩

theorem Aside.ite {s t u : State} {c : Prop} [Decidable c] (h : Aside s t) (k : Aside s u) : Aside s (if c then t else u) := by
  split
  · exact h
  · exact k

theorem aside_put (s : State) {f : Field} (v : Nat) (h : f.addr < 0x12000) : Aside s (s.put f v) := ⟨rfl, rfl, rfl, fun a ha => reg_put_other s f v (by omega)⟩

theorem aside_setNum (s : State) {a : Nat} (v : Nat) (h : a < 0x12000) : Aside s (s.setNum a v) := ⟨rfl, rfl, rfl, fun b hb => reg_setNum_other s v (by omega)⟩

theorem aside_bump (s : State) {f : Field} (h : f.addr < 0x12000) : Aside s (s.bump f) := aside_put s _ h

theorem aside_wrBit (s : State) {f : Field} (i : Nat) (b : Bool) (h : f.addr < 0x12000) : Aside s (s.wrBit f i b) := by
  have hf := wrBit_frame s f i b
  refine ⟨?_, ?_, ?_, fun a ha => reg_wrBit_other s f i b (by omega)⟩ <;> rw [hf]

theorem aside_setBit (s : State) {f : Field} (i : Nat) (h : f.addr < 0x12000) : Aside s (s.setBit f i) := aside_wrBit s i true h

theorem aside_clrBit (s : State) {f : Field} (i : Nat) (h : f.addr < 0x12000) : Aside s (s.clrBit f i) := aside_wrBit s i false h

theorem aside_modPair (s : State) (n : Nat) (f : PairSt → PairSt) : Aside s (s.modPair n f) := ⟨rfl, rfl, rfl, fun _ _ => rfl⟩

theorem aside_modCsu (s : State) (p : Nat) (f : CsuSt → CsuSt) : Aside s (s.modCsu p f) := ⟨rfl, rfl, rfl, fun _ _ => rfl⟩

/-! ## The shutter drive (R454–R462) -/

/-- The registers of a pair of the shutter drive and of its channels lie below the enclave's. -/
theorem sdr_addr_lt {n c : Nat} (hn : n < 4) (hc : c < 8) : SDR_PAIR_STAT n < 0x12000 ∧ SDR_CH_STAT c < 0x12000 ∧ SDR_CH_CNT c < 0x12000 := by
  refine ⟨?_, ?_, ?_⟩
  · show 0xf044 + 0x10 * n < 0x12000; omega
  · show 0xf114 + 0x20 * c < 0x12000; omega
  · show 0xf118 + 0x20 * c < 0x12000; omega

theorem profChan_lt (s : State) {n : Nat} (hn : n < 4) (k : Nat) : s.profChan n k < 8 := by
  have := get_lt s (SDR_PRF_CFG_coil k)
  unfold profChan
  have h2 : s.get (SDR_PRF_CFG_coil k) < 2 ^ 1 := this
  omega

theorem aside_drive (s : State) {n c : Nat} (hn : n < 4) (hc : c < 8) (g : Bool) : Aside s (s.drive n c g) := by
  obtain ⟨h1, h2, -⟩ := sdr_addr_lt hn hc
  unfold drive
  extract_lets q off clamp t u
  have hu : Aside s u := (aside_wrBit s 0 g h2).trans (aside_wrBit t 0 _ h1)
  exact Aside.ite (hu.trans (aside_modPair u n _)) hu

theorem aside_beginPhase (s : State) {n : Nat} (hn : n < 4) (j t : Nat) : Aside s (s.beginPhase n j t) := by
  unfold beginPhase
  split
  · exact Aside.refl s
  next q _ =>
  extract_lets c rel was u v mode duty w
  have hc : c < 8 := profChan_lt s hn q.prof
  obtain ⟨h1, h2, h3⟩ := sdr_addr_lt hn hc
  have hw : Aside s w := ((aside_modPair s n _).trans (aside_put u j h1)).trans (aside_drive v hn hc _)
  refine Aside.ite ?_ hw
  have hx : Aside w ((w.setBit SDR_EVT_nomove c).bump (SDR_CH_CNT_nomove c)) := (aside_setBit w c (by decide)).trans (aside_bump _ h3)
  exact hw.trans (hx.trans (Aside.ite (aside_setBit _ 0 h2) (Aside.refl _)))

theorem aside_startProfile (s : State) {n : Nat} (hn : n < 4) (q : ProfRun) (t : Nat) : Aside s (s.startProfile n q t) := by
  unfold startProfile
  extract_lets x u v w
  have hc : v.profChan n q.prof < 8 := profChan_lt v hn q.prof
  obtain ⟨h1, h2, -⟩ := sdr_addr_lt hn hc
  have hu : Aside s u := ⟨rfl, rfl, rfl, fun _ _ => rfl⟩
  have hv : Aside u v := ((aside_setBit u 0 h1).trans (aside_put _ _ h1)).trans (aside_put _ _ h1)
  exact ((hu.trans hv).trans (aside_clrBit v 0 h2)).trans ((aside_setBit w 0 h1).trans (aside_beginPhase _ hn 0 t))

theorem aside_deferTrigger (s : State) {n : Nat} (hn : n < 4) (q : ProfRun) : Aside s (s.deferTrigger n q) :=
  have h1 := (sdr_addr_lt hn (Nat.zero_lt_succ 7)).1
  ((aside_modPair s n _).trans (aside_setBit _ 0 h1)).trans (aside_put _ _ h1)

theorem aside_dropTrigger (s : State) (n : Nat) : Aside s (s.dropTrigger n) :=
  (aside_bump s (f := ⟨SDR_DROP_CNT, 8 * n + 7, 8 * n⟩) (by show SDR_DROP_CNT < 0x12000; decide)).trans (aside_setBit _ n (by decide))

theorem aside_sdrTrigger (s : State) {n : Nat} (hn : n < 4) (q : ProfRun) : Aside s (s.sdrTrigger n q).1 := by
  unfold sdrTrigger
  extract_lets q'
  split
  · exact aside_dropTrigger s n
  split
  · exact aside_startProfile s hn q' _
  · exact aside_dropTrigger s n
  · split
    · exact (aside_startProfile s hn q' _).trans (aside_deferTrigger _ hn _)
    · exact aside_deferTrigger s hn q'

/-! ## The shutter of a flat-field (R221, R226, R227) -/

section Flat

variable {p : Nat} (hp : p < 4)

include hp

/-- The registers of a port's calibration lie below the enclave's. -/
theorem csu_addr_lt : CSU_CNT p < 0x12000 ∧ CSU_DUE p < 0x12000 ∧ CSU_STAT p < 0x12000 := by
  refine ⟨?_, ?_, ?_⟩
  · show 0x816c + 0x80 * p < 0x12000; omega
  · show 0x8164 + 0x80 * p < 0x12000; omega
  · show 0x814c + 0x80 * p < 0x12000; omega

theorem aside_setFf (s : State) (v : Nat) : Aside s (s.setFf p v) :=
  (aside_put s v (csu_addr_lt hp).2.2).trans (aside_wrBit _ p _ (by decide))

theorem aside_ffEnd (s : State) : Aside s (s.ffEnd p) := by
  unfold ffEnd
  extract_lets t ab u
  have hu : Aside s u := (aside_setFf hp s 0).trans (aside_modCsu t p _)
  exact Aside.ite hu (hu.trans (aside_setNum u _ (csu_addr_lt hp).2.1))

theorem aside_shutUnavail (s : State) (k : Bool) : Aside s (s.shutUnavail p (some k)) := by
  obtain ⟨h1, -, h3⟩ := csu_addr_lt hp
  unfold shutUnavail
  extract_lets t
  have ht : Aside s t := ((aside_setBit s 0 h3).trans (aside_bump _ h1)).trans (aside_setBit _ p (by decide))
  exact ht.trans (aside_modCsu t p _)

theorem aside_ffFault (s : State) (k : Bool) : Aside s (s.ffFault p k) := by
  unfold ffFault
  extract_lets t
  exact (aside_shutUnavail hp s k).trans (Aside.ite ((aside_setFf hp t 5).trans (aside_modCsu _ p _)) (aside_ffEnd hp t))

theorem aside_ffTrigger (s : State) (prof : Nat) : Aside s (s.ffTrigger p prof) := by
  have hn : s.get (CSU_SHT_CFG_head p) < 4 := get_lt s (CSU_SHT_CFG_head p)
  have h := aside_sdrTrigger s hn { prof := prof, trig := p, holder := 0, csu := some p }
  unfold ffTrigger
  generalize s.sdrTrigger _ _ = r at h
  obtain ⟨t, dropped⟩ := r
  exact h.trans (Aside.ite (aside_ffFault hp t _) (Aside.refl t))

theorem aside_ffAbort (s : State) : Aside s (s.ffAbort p) := by
  unfold ffAbort
  split
  · exact Aside.refl s
  extract_lets t opening atOnce u
  obtain ⟨h1, h2, -⟩ := csu_addr_lt hp
  have hu : Aside s u := (((aside_bump s h1).trans (aside_setBit _ p (by decide))).trans (aside_setNum _ _ h2)).trans (aside_modCsu t p _)
  refine hu.trans (Aside.ite (aside_ffEnd hp u) ?_)
  exact (aside_setFf hp u 4).trans (Aside.ite (aside_ffTrigger hp _ _) (Aside.refl _))

/-! ## The recorder (R323) -/

/-- The registers of a port's recorder lie below the enclave's. -/
theorem cer_addr_lt : CER_REC_STAT p < 0x12000 ∧ CER_REC_TRIG p < 0x12000 ∧ CER_REC_CNT p < 0x12000 ∧ CER_REC_FILL p < 0x12000 := by
  refine ⟨?_, ?_, ?_, ?_⟩
  · show 0xb410 + 0x20 * p < 0x12000; omega
  · show 0xb414 + 0x20 * p < 0x12000; omega
  · show 0xb418 + 0x20 * p < 0x12000; omega
  · show 0xb41c + 0x20 * p < 0x12000; omega

theorem aside_setRing (s : State) (x : RingSt) : Aside s (s.setRing (16 + p) x) := by
  obtain ⟨h1, -, -, h4⟩ := cer_addr_lt hp
  unfold setRing
  extract_lets y t fill
  have ht : Aside s t := ⟨rfl, rfl, rfl, fun _ _ => rfl⟩
  rw [if_neg (by omega), Nat.add_sub_cancel_left]
  exact ht.trans ((aside_put t fill h4).trans (aside_put _ _ h1))

theorem aside_recFrozen (s : State) : Aside s (s.recFrozen p) :=
  have h1 := (cer_addr_lt hp).1
  ((aside_put s 3 h1).trans (aside_clrBit _ 0 h1)).trans (aside_setBit _ p (by decide))

theorem aside_recTrigger (s : State) (frame cause : Nat) : Aside s (s.recTrigger p frame cause) := by
  obtain ⟨h1, h2, -, -⟩ := cer_addr_lt hp
  unfold recTrigger
  extract_lets x g t post
  have ht : Aside s t := ((aside_setNum s frame h2).trans (aside_put _ cause h1)).trans (aside_setRing hp _ g)
  exact ht.trans (Aside.ite (aside_recFrozen hp t) (((aside_put t 2 h1).trans (aside_put _ post h1)).trans (aside_clrBit _ 0 h1)))

theorem aside_recAlarm (s : State) (frame : Nat) : Aside s (s.recAlarm p frame) := by
  obtain ⟨h1, -, h3, -⟩ := cer_addr_lt hp
  unfold recAlarm
  exact Aside.ite (Aside.refl s) (Aside.ite (aside_recTrigger hp s frame 1) (Aside.ite (aside_put s 3 h1) (aside_bump s h3)))

end Flat

end State

end Sys2Proof.Machine
end

section
/-! The confirmation of a frame (R258, R259): what MET's reads of a slot keep, and what it judges of a zone. -/

namespace Sys2Proof.Machine

open R State

namespace State

/-! ## A slot as MET reads it -/

/-- A stream's slots, windows and exclusion plane read in `t` as in `s`. -/
structure SameImage (s t : State) : Prop where
  ports : t.ports = s.ports
  streams : t.streams = s.streams
  dram : t.dram = s.dram
  winAct : t.men.winAct = s.men.winAct
  maskAct : t.men.maskAct = s.men.maskAct
  poisoned : ∀ a, t.poisoned a = s.poisoned a
  extent : t.dramExtent = s.dramExtent

namespace SameImage

variable {s t : State} (h : SameImage s t)

theorem refl (s : State) : SameImage s s := ⟨rfl, rfl, rfl, rfl, rfl, fun _ => rfl, rfl⟩

theorem trans {u : State} (h : SameImage s t) (k : SameImage t u) : SameImage s u :=
  ⟨k.ports.trans h.ports, k.streams.trans h.streams, k.dram.trans h.dram, k.winAct.trans h.winAct, k.maskAct.trans h.maskAct, fun a => (k.poisoned a).trans (h.poisoned a),
    k.extent.trans h.extent⟩

include h

theorem dramNum (a k : Nat) : t.dramNum a k = s.dramNum a k := by
  unfold State.dramNum dramBytes
  rw [h.extent, h.dram]
  simp only [h.poisoned]

theorem port (p : Nat) : t.port p = s.port p := by unfold State.port; rw [h.ports]

theorem slotPlace (p n : Nat) : t.slotPlace p n = s.slotPlace p n := by
  have hs : t.stream p = s.stream p := by unfold State.stream; rw [h.streams]
  unfold State.slotPlace ringSlot State.pixels
  rw [hs, h.port]

theorem slotBase (p n : Nat) : t.slotBase p n = s.slotBase p n := congrArg Prod.fst (h.slotPlace p n)

theorem zoneDesc (p n : Nat) : t.zoneDesc p n = s.zoneDesc p n := by unfold State.zoneDesc; rw [h.winAct]

theorem definedZones (p : Nat) : t.definedZones p = s.definedZones p := by unfold State.definedZones; simp only [h.zoneDesc]

theorem zonePixels (p slot : Nat) (d : List Byte) (rows : Nat) : t.zonePixels p slot d rows = s.zonePixels p slot d rows := by
  have hin : ∀ r c, t.inZone p d r c = s.inZone p d r c := fun r c => by unfold inZone cellOf; rw [h.maskAct]
  unfold State.zonePixels codeOf flagOf planeOff
  simp only [h.slotBase, h.slotPlace, h.port, h.poisoned, h.dramNum, hin]

end SameImage

/-- Reading a slot leaves its image, the tick, housekeeping, MET's records of the facets and MEN_FACET. -/
structure Scanned (s t : State) : Prop extends SameImage s t where
  now : t.now = s.now
  hk : t.hk = s.hk
  facets : t.men.facets = s.men.facets
  facetReg : t.reg MEN_FACET = s.reg MEN_FACET

theorem Scanned.refl (s : State) : Scanned s s := ⟨SameImage.refl s, rfl, rfl, rfl, rfl⟩

theorem Scanned.trans {s t u : State} (h : Scanned s t) (k : Scanned t u) : Scanned s u :=
  ⟨h.toSameImage.trans k.toSameImage, k.now.trans h.now, k.hk.trans h.hk, k.facets.trans h.facets, k.facetReg.trans h.facetReg⟩

/-- The registers that an error of a memory word writes. -/
def eccRegs : List Nat := [MEM_UE_CNT, MEM_CE_CNT, MEM_EVT, MEM_ECC_ADDR_LO, MEM_ECC_ADDR_HI, MEM_ECC_INFO]

/-- `t` is `s` but for the error registers of memory and for corrected words and bytes moved. -/
structure EccNoted (s t : State) : Prop where
  frame : t = { s with regs := t.regs, mem := { s.mem with errs := t.mem.errs, moved := t.mem.moved } }
  reg : ∀ a, a ∉ eccRegs → t.reg a = s.reg a
  poisoned : ∀ a, t.poisoned a = s.poisoned a

theorem EccNoted.refl (s : State) : EccNoted s s := ⟨rfl, fun _ _ => rfl, fun _ => rfl⟩

theorem EccNoted.trans {s t u : State} (h : EccNoted s t) (k : EccNoted t u) : EccNoted s u :=
  ⟨by conv_lhs => rw [k.frame, h.frame], fun a ha => (k.reg a ha).trans (h.reg a ha), fun a => (k.poisoned a).trans (h.poisoned a)⟩

theorem eccNoted_foldl {α : Type} (f : State → α → State) (h : ∀ s x, EccNoted s (f s x)) (l : List α) : ∀ s, EccNoted s (l.foldl f s) := by
  induction l with
  | nil => exact EccNoted.refl
  | cons x xs ih => exact fun s => (h s x).trans (ih _)

/-- `t` is `s` but for those registers. -/
structure ErrorRegs (s t : State) : Prop where
  frame : t = { s with regs := t.regs }
  reg : ∀ a, a ∉ eccRegs → t.reg a = s.reg a

theorem ErrorRegs.trans {s t u : State} (h : ErrorRegs s t) (k : ErrorRegs t u) : ErrorRegs s u :=
  ⟨by conv_lhs => rw [k.frame, h.frame], fun a ha => (k.reg a ha).trans (h.reg a ha)⟩

theorem ErrorRegs.ite {s t u : State} {c : Prop} [Decidable c] (h : ErrorRegs s t) (k : ErrorRegs s u) : ErrorRegs s (if c then t else u) := by
  split
  · exact h
  · exact k

theorem ErrorRegs.mem {s t : State} (h : ErrorRegs s t) : t.mem = s.mem := (congrArg State.mem h.frame).trans rfl

theorem ErrorRegs.eccNoted {s t : State} (h : ErrorRegs s t) : EccNoted s t := by
  refine ⟨?_, h.reg, fun a => by unfold poisoned wordErr; rw [h.mem]⟩
  rw [h.mem]
  exact h.frame

theorem errorRegs_bump (s : State) {f : Field} (h : f.addr ∈ eccRegs) : ErrorRegs s (s.bump f) :=
  ⟨put_frame s f _, fun _ ha => reg_bump_other s f fun e => ha (e ▸ h)⟩

theorem errorRegs_setBit (s : State) {f : Field} (h : f.addr ∈ eccRegs) : ErrorRegs s (s.setBit f) :=
  ⟨wrBit_frame s f 0 true, fun _ ha => reg_setBit_other s f 0 fun e => ha (e ▸ h)⟩

theorem errorRegs_setNum (s : State) {b : Nat} (v : Nat) (h : b ∈ eccRegs) : ErrorRegs s (s.setNum b v) :=
  ⟨setNum_frame s b v, fun _ ha => reg_setNum_other s v fun e => ha (e ▸ h)⟩

theorem errorRegs_noteError (s : State) (bs ue : Bool) (a req syn : Nat) : ErrorRegs s (s.noteError bs ue a req syn) := by
  unfold noteError
  extract_lets quiet latch t u
  have ht : ErrorRegs s t := ErrorRegs.ite (ErrorRegs.ite (errorRegs_bump s (by decide)) (errorRegs_bump s (by decide)))
    (ErrorRegs.ite (errorRegs_bump s (by decide)) (errorRegs_bump s (by decide)))
  have hu : ErrorRegs t u := ErrorRegs.ite (errorRegs_setBit t (by decide)) (ErrorRegs.ite (errorRegs_setBit t (by decide)) (errorRegs_setBit t (by decide)))
  have hv : ErrorRegs s u := ht.trans hu
  exact ErrorRegs.ite (hv.trans (((errorRegs_setNum u _ (by decide)).trans (errorRegs_setNum _ _ (by decide))).trans (errorRegs_setNum _ _ (by decide)))) hv

/-- A word whose error was corrected reads right without it. -/
theorem eccNoted_setErr_none {s : State} {w : Nat} (h : ∀ e, s.wordErr w = some e → e.ue = false) : EccNoted s (s.setErr w none) := by
  refine ⟨rfl, fun _ _ => rfl, fun a => ?_⟩
  by_cases e : wordNo false a = w
  · unfold poisoned
    rw [e]
    have hn : (s.setErr w none).wordErr w = none := by simp [wordErr, setErr]
    rw [hn]
    cases hw : s.wordErr w with
    | none => rfl
    | some v => exact (h v hw).symm
  · unfold poisoned
    have hn : (s.setErr w none).wordErr (wordNo false a) = s.wordErr (wordNo false a) := by simp only [wordErr, setErr, Map.get_set_other _ _ _ e]
    rw [hn]

theorem eccNoted_eccRead (s : State) (bs : Bool) (a req : Nat) (fix : Bool) : EccNoted s (s.eccRead bs a req fix).1 := by
  unfold eccRead
  split
  · exact EccNoted.refl s
  next e he =>
  have hn := errorRegs_noteError s bs e.ue a req e.syn
  extract_lets t
  split
  · exact hn.eccNoted
  next hu =>
  split
  · refine hn.eccNoted.trans (eccNoted_setErr_none fun v hv => ?_)
    have hm : t.wordErr (wordNo bs a) = s.wordErr (wordNo bs a) := by unfold wordErr; rw [hn.mem]
    rw [hm, he] at hv
    cases hv
    simpa using hu
  · exact hn.eccNoted

theorem eccNoted_dramRead (s : State) (c req a k : Nat) : EccNoted s (s.dramRead c req a k) := by
  unfold dramRead
  extract_lets n
  split
  · exact EccNoted.refl s
  · exact (eccNoted_foldl _ (fun s w => eccNoted_eccRead s false (8 * w) req false) _ s).trans ⟨rfl, fun _ _ => rfl, fun _ => rfl⟩

theorem EccNoted.scanned {s t : State} (h : EccNoted s t) : Scanned s t := by
  have hs : t.reg MEM_STAT = s.reg MEM_STAT := h.reg MEM_STAT (by decide)
  have hr : t.mem.retraining = s.mem.retraining := by rw [h.frame]
  refine ⟨⟨by rw [h.frame], by rw [h.frame], by rw [h.frame], by rw [h.frame], by rw [h.frame], h.poisoned, ?_⟩, by rw [h.frame], by rw [h.frame], by rw [h.frame], h.reg _ (by decide)⟩
  unfold dramExtent dramOk dataBytes
  rw [bit_eq_of_reg (f := MEM_STAT_trained) 0 hs, bit_eq_of_reg (f := MEM_STAT_init_done) 0 hs, get_eq_of_reg (f := MEM_STAT_data_size) hs, hr]

theorem eccNoted_zoneRead (s : State) (p slot : Nat) (d : List Byte) (rows : Nat) : EccNoted s (s.zoneRead p slot d rows) :=
  eccNoted_foldl _ (fun _ _ => (eccNoted_dramRead _ _ _ _ _).trans (eccNoted_dramRead _ _ _ _ _)) _ s

theorem EccNoted.men {s t : State} (h : EccNoted s t) : t.men = s.men := by rw [h.frame]

end State

end Sys2Proof.Machine
end

section
/-! What the confirmation of a frame judges, and what it leaves of it (R258–R260, R263). -/

namespace Sys2Proof.Machine

open R State

namespace State

/-! ## The zones judged -/

/-- Zone `n` of stream `p` in `t` has the counts and the condition of its pixels in `slot` of `s`. -/
def ZoneJudged (s : State) (p slot rows n : Nat) (t : State) : Prop :=
  let d := s.zoneDesc p n
  let good := (s.zonePixels p slot d rows).filter (fun q => q.2.2.2)
  let above := (good.filter (fun q => decide (zf d 8 2 ≤ q.2.2.1))).length
  (t.zoneSt p n).n = good.length ∧ (t.zoneSt p n).above = above ∧ (t.zoneSt p n).absCond = decide (zf d 16 3 ≤ above) ∧ (zf d 16 3 ≤ above → (t.zoneSt p n).absOn = true)

/-- It depends on the zone's state alone. -/
theorem ZoneJudged.congr {s t u : State} {p slot rows n : Nat} (h : ZoneJudged s p slot rows n t) (hz : u.zoneSt p n = t.zoneSt p n) : ZoneJudged s p slot rows n u := by
  unfold ZoneJudged at h ⊢
  rw [hz]
  exact h

/-- It speaks of the slot as it reads alone. -/
theorem ZoneJudged.of_sameImage {s t u : State} {p slot rows n : Nat} (hi : SameImage s u) (h : ZoneJudged u p slot rows n t) : ZoneJudged s p slot rows n t := by
  unfold ZoneJudged at h ⊢
  dsimp only at h
  rw [hi.zoneDesc, hi.zonePixels] at h
  exact h

theorem alarmStep_on {cond : Bool} (on : Bool) (off hold : Nat) (h : cond = true) : (alarmStep cond on off hold).1 = true := by rw [alarmStep, if_pos h]

theorem zoneJudged_zoneJudge {s t : State} (h : SameImage s t) (p slot rows n frame : Nat) : ZoneJudged s p slot rows n (t.zoneJudge p n slot rows frame) := by
  have hz : ∀ z, (t.setZoneSt p n z).zoneSt p n = z := fun z => by simp [zoneSt, setZoneSt, modMen]
  have ha : ∀ (d : List Byte) (l : List (Nat × Nat × Nat × Bool)), ((l.map (fun q => q.2.2.1)).filter (fun c => decide (zf d 8 2 ≤ c))).length =
      (l.filter (fun q => decide (zf d 8 2 ≤ q.2.2.1))).length := fun d l => by rw [List.filter_map, List.length_map]; rfl
  unfold ZoneJudged zoneJudge zoneValues
  dsimp only
  rw [hz]
  dsimp only
  rw [h.zoneDesc, h.zonePixels, ha]
  exact ⟨rfl, rfl, rfl, fun hc => alarmStep_on _ _ _ (decide_eq_true hc)⟩

theorem zoneSt_zoneJudge_other (t : State) {p n m : Nat} (slot rows frame : Nat) (h : m ≠ n) : (t.zoneJudge p n slot rows frame).zoneSt p m = t.zoneSt p m := by
  simp only [zoneSt, zoneJudge, setZoneSt, modMen, Map.get_set_other _ _ _ (show p * 64 + m ≠ p * 64 + n by omega)]

theorem scanned_zoneJudge (t : State) (p n slot rows frame : Nat) : Scanned t (t.zoneJudge p n slot rows frame) := by
  unfold zoneJudge
  dsimp only
  generalize zoneValues _ _ _ _ _ _ = z
  exact ⟨⟨rfl, rfl, rfl, rfl, rfl, fun _ => rfl, rfl⟩, rfl, rfl, rfl, rfl⟩

/-- MET reads a zone's lines and judges it. -/
def judgeZone (p slot rows frame : Nat) (t : State) (n : Nat) : State := (t.zoneRead p slot (t.zoneDesc p n) rows).zoneJudge p n slot rows frame

theorem scanned_judgeZone (p slot rows frame : Nat) (t : State) (n : Nat) : Scanned t (judgeZone p slot rows frame t n) :=
  (eccNoted_zoneRead t p slot _ rows).scanned.trans (scanned_zoneJudge _ p n slot rows frame)

theorem scanned_judgeZones (p slot rows frame : Nat) (l : List Nat) : ∀ t : State, Scanned t (l.foldl (judgeZone p slot rows frame) t) := by
  induction l with
  | nil => exact Scanned.refl
  | cons m ms ih => exact fun t => (scanned_judgeZone p slot rows frame t m).trans (ih _)

/-- A zone that was judged, or is still to be, is judged at the end. -/
theorem zoneJudged_judgeZones {s : State} {p slot rows frame n : Nat} (l : List Nat) : ∀ t : State, SameImage s t → n ∈ l ∨ ZoneJudged s p slot rows n t →
    ZoneJudged s p slot rows n (l.foldl (judgeZone p slot rows frame) t) := by
  induction l with
  | nil => exact fun t _ h => h.resolve_left List.not_mem_nil
  | cons m ms ih =>
    intro t hi h
    refine ih _ (hi.trans (scanned_judgeZone p slot rows frame t m).toSameImage) ?_
    by_cases hm : n = m
    · subst hm
      exact Or.inr (zoneJudged_zoneJudge (hi.trans (eccNoted_zoneRead t p slot _ rows).scanned.toSameImage) p slot rows n frame)
    · refine h.imp (fun hl => (List.mem_cons.mp hl).resolve_left hm) (fun hj => hj.congr ?_)
      have hz : ∀ u : State, u.men = t.men → u.zoneSt p n = t.zoneSt p n := fun u hu => by unfold zoneSt; rw [hu]
      exact (zoneSt_zoneJudge_other _ slot rows frame hm).trans (hz _ (eccNoted_zoneRead t p slot _ rows).men)

/-! ## What follows the judgement -/

/-- What the alarms, the records and the pins after the judgement of a frame leave to themselves. -/
structure Follow (s t : State) : Prop where
  now : t.now = s.now
  hk : t.hk = s.hk
  zone : t.men.zone = s.men.zone
  confirm : ∀ x, (t.facetMen x).confirm = (s.facetMen x).confirm
  unmeasured : ∀ x ∈ [0, 1, 2, 3], t.facetBit x 6 = s.facetBit x 6

theorem Follow.refl (s : State) : Follow s s := ⟨rfl, rfl, rfl, fun _ => rfl, fun _ _ => rfl⟩

theorem Follow.trans {s t u : State} (h : Follow s t) (k : Follow t u) : Follow s u :=
  ⟨k.now.trans h.now, k.hk.trans h.hk, k.zone.trans h.zone, fun x => (k.confirm x).trans (h.confirm x), fun x hx => (k.unmeasured x hx).trans (h.unmeasured x hx)⟩

theorem Follow.ite {s t u : State} {c : Prop} [Decidable c] (h : Follow s t) (k : Follow s u) : Follow s (if c then t else u) := by
  split
  · exact h
  · exact k

theorem follow_foldl {α : Type} (f : State → α → State) (h : ∀ s x, Follow s (f s x)) (l : List α) : ∀ s, Follow s (l.foldl f s) := by
  induction l with
  | nil => exact Follow.refl
  | cons x xs ih => exact fun s => (h s x).trans (ih _)

theorem Judged.follow {s t : State} (h : Judged s t) : Follow s t := by
  have hd : ∀ x ∈ [0, 1, 2, 3], ∀ g ∈ judgedFields, ¬ g.Holds MEN_FACET (0 + (8 * x + 6)) := by decide
  refine ⟨h.now, h.hk, by rw [h.men], fun x => ?_, fun x hx => h.keeps.bit (f := ⟨MEN_FACET, 31, 0⟩) (i := 8 * x + 6) (hd x hx)⟩
  unfold facetMen
  rw [h.men]

theorem Aside.follow {s t : State} (h : Aside s t) : Follow s t :=
  ⟨h.now, h.hk, by rw [h.men], fun x => by unfold facetMen; rw [h.men], fun x _ => bit_eq_of_reg (f := ⟨MEN_FACET, 31, 0⟩) (8 * x + 6) (h.reg _ (by decide))⟩

theorem facetMen_congr {s t : State} (h : t.men.facets = s.men.facets) (x : Nat) : t.facetMen x = s.facetMen x := by unfold facetMen; rw [h]

theorem facetMen_modFacetMen_same (s : State) (p : Nat) (f : FacetMen → FacetMen) : (s.modFacetMen p f).facetMen p = f (s.facetMen p) := by
  simp [facetMen, modFacetMen, setFacetMen, modMen]

theorem facetMen_modFacetMen_other (s : State) {p x : Nat} (f : FacetMen → FacetMen) (h : x ≠ p) : (s.modFacetMen p f).facetMen x = s.facetMen x := by
  simp only [facetMen, modFacetMen, setFacetMen, modMen, Map.get_set_other _ _ _ h]

theorem follow_modFacetMen (s : State) (p : Nat) {f : FacetMen → FacetMen} (h : ∀ m, (f m).confirm = m.confirm) : Follow s (s.modFacetMen p f) := by
  refine ⟨rfl, rfl, rfl, fun x => ?_, fun _ _ => rfl⟩
  by_cases e : x = p
  · subst e
    rw [facetMen_modFacetMen_same, h]
  · rw [facetMen_modFacetMen_other s f e]

/-! ## The confirmation, in its two parts -/

/-- The last frame of port `p` is a measured one. -/
def measured (s : State) (p : Nat) : Bool :=
  let blank := (s.facetMen p).blank
  let marks := s.marksOf (if blank then 64 + p else p * 16 + s.get (PCE_SLOT_last p))
  let m := fun b => marks / 2 ^ b % 2 == 1
  !(blank || m 7 || m 9 || m 0)

/-- The frame is confirmed, and its facet shows whether it was measured. -/
def unjudged (s : State) (p : Nat) : State := (s.modFacetMen p (fun f => { f with confirm := false, judged := true })).setFacetBit p 6 (!s.measured p)

/-- The zones of a measured frame are judged. -/
def zonesJudged (s : State) (p : Nat) : State :=
  let slot := s.get (PCE_SLOT_last p)
  let t := s.unjudged p
  let rows := t.dramNum (t.slotBase p slot + 6) 2
  let u := if s.measured p then t.dramRead 3 14 (t.slotBase p slot) 8 else t
  if s.measured p then ((t.definedZones p).foldl (judgeZone p slot rows (s.raster p).frame) u).drawn else u

/-- Alarms, records, the recorder and the pins follow the judgement. -/
theorem follow_zoneConfirmation {s : State} {p at_ : Nat} (hp : p < 4) (hm : s.metUp = true) (hc : (s.facetMen p).confirm = true) (ht : s.confirmTick p = some at_) :
    Follow ((s.advanceTo at_).zonesJudged p) (s.zoneConfirmation p) := by
  have hmatch : (if s.metUp && (s.facetMen p).confirm then s.confirmTick p else none) = some at_ := by simp [hm, hc, ht]
  unfold zoneConfirmation
  rw [hmatch]
  dsimp -zeta only
  extract_lets s0 r slot blank marks m measured s1 zones rows s2 before s3 fr s4 after changed set div periodic s5 s6 s7 s8 pulses lone s9
  have h3 : s0.zonesJudged p = s3 := rfl
  have h4 : Follow s3 s4 := Follow.ite (follow_modFacetMen s3 p fun _ => rfl) (Follow.refl s3)
  have h5 : Follow s4 s5 := Follow.ite (Follow.refl s4) (judged_menEvt s4 (b := 2) (by decide)).follow
  have h6 : Follow s5 s6 := by
    refine follow_foldl _ (fun t g => ?_) _ s5
    extract_lets zs es u
    have hu : Follow t u := Follow.ite (judged_buildRecord _ _ _ _ _ _ _ _ _).follow (Follow.refl t)
    refine hu.trans (Follow.ite ?_ (Follow.refl u))
    split
    · exact (judged_buildRecord _ _ _ _ _ _ _ _ _).follow
    · exact (judged_buildRecord _ _ _ _ _ _ _ _ _).follow
  have h7 : Follow s6 s7 := Follow.ite (follow_modFacetMen s6 p fun _ => rfl) (Follow.refl s6)
  have h8 : Follow s7 s8 := Follow.ite ((aside_recAlarm hp s7 _).trans (aside_ffAbort hp _)).follow (Follow.refl s7)
  have h9 : Follow s8 s9 := follow_modFacetMen s8 p fun _ => rfl
  have hb : Follow s9 ((List.range lone).foldl (fun t _ => t.bump MEN_ALARM_pulses) s9) := follow_foldl _ (fun t _ => (judged_bump t (by decide) (by decide)).follow) _ s9
  rw [h3]
  exact (((((h4.trans h5).trans h6).trans h7).trans h8).trans h9).trans (hb.trans (judged_showAlarms _).follow)

/-! ## The state that the judgement leaves -/

theorem measured_iff (s : State) (p : Nat) : s.measured p = true ↔
    (s.facetMen p).blank = false ∧ s.marksOf (if (s.facetMen p).blank then 64 + p else p * 16 + s.get (PCE_SLOT_last p)) / 2 ^ 7 % 2 = 0 ∧
      s.marksOf (if (s.facetMen p).blank then 64 + p else p * 16 + s.get (PCE_SLOT_last p)) / 2 ^ 9 % 2 = 0 ∧
      s.marksOf (if (s.facetMen p).blank then 64 + p else p * 16 + s.get (PCE_SLOT_last p)) % 2 = 0 := by
  unfold measured
  extract_lets blank marks m
  have hm : ∀ b, (m b = false ↔ marks / 2 ^ b % 2 = 0) := fun b => by simp only [m, beq_eq_false_iff_ne]; omega
  rw [Bool.not_eq_true', Bool.or_eq_false_iff, Bool.or_eq_false_iff, Bool.or_eq_false_iff, hm, hm, hm, Nat.pow_zero, Nat.div_one, and_assoc, and_assoc]

/-- A change of registers other than MEM_STAT. -/
theorem sameImage_of_regs {s t : State} (h : t = { s with regs := t.regs }) (hr : t.reg MEM_STAT = s.reg MEM_STAT) : SameImage s t := by
  have hm : t.mem = s.mem := (congrArg State.mem h).trans rfl
  have hn : t.men = s.men := (congrArg State.men h).trans rfl
  refine ⟨(congrArg State.ports h).trans rfl, (congrArg State.streams h).trans rfl, (congrArg State.dram h).trans rfl, by rw [hn], by rw [hn],
    fun a => by unfold poisoned wordErr; rw [hm], ?_⟩
  unfold dramExtent dramOk dataBytes
  rw [bit_eq_of_reg (f := MEM_STAT_trained) 0 hr, bit_eq_of_reg (f := MEM_STAT_init_done) 0 hr, get_eq_of_reg (f := MEM_STAT_data_size) hr, hm]

theorem dramExtent_congr {s t : State} (hr : t.regs = s.regs) (hm : t.mem = s.mem) : t.dramExtent = s.dramExtent := by
  unfold dramExtent dramOk dataBytes State.bit State.get
  simp only [reg_eq_of_regs hr, hm]

theorem sameImage_modFacetMen (s : State) (p : Nat) (f : FacetMen → FacetMen) : SameImage s (s.modFacetMen p f) :=
  ⟨rfl, rfl, rfl, rfl, rfl, fun _ => rfl, dramExtent_congr rfl rfl⟩

theorem sameImage_advanceTo (s : State) (n : Nat) : SameImage s (s.advanceTo n) := by
  unfold advanceTo
  split
  · exact SameImage.refl s
  · exact ⟨rfl, rfl, rfl, rfl, rfl, fun _ => rfl, dramExtent_congr rfl rfl⟩

theorem facetBit_setFacetBit_same (s : State) {p b : Nat} (v : Bool) (h : 8 * p + b < 32) : (s.setFacetBit p b v).facetBit p b = v := by
  unfold facetBit setFacetBit wrBit
  cases v with
  | true => rw [if_pos rfl, bit_setBit_same s _ _ (by decide) (by decide) (by show 0 + (8 * p + b) ≤ 31; omega)]
  | false => rw [if_neg (by decide), bit_clrBit_same s _ _ (by decide) (by decide)]

theorem setFacetBit_frame (s : State) (p b : Nat) (v : Bool) : s.setFacetBit p b v = { s with regs := (s.setFacetBit p b v).regs } := wrBit_frame s _ _ v

/-- What the judgement of port `p`'s frame comes to in `t`, from the state `s` at its locus. -/
structure FrameJudged (s : State) (p : Nat) (t : State) : Prop where
  now : t.now = s.now
  hk : t.hk = s.hk
  confirm : (t.facetMen p).confirm = false
  unmeasured : t.facetBit p 6 = !s.measured p
  zone : s.measured p = false → t.men.zone = s.men.zone
  judged : s.measured p = true → ∀ n, n < 64 → zoneDefined (s.zoneDesc p n) = true →
    ZoneJudged s p (s.get (PCE_SLOT_last p)) (s.dramNum (s.slotBase p (s.get (PCE_SLOT_last p)) + 6) 2) n t

theorem sameImage_unjudged (s : State) (p : Nat) : SameImage s (s.unjudged p) :=
  (sameImage_modFacetMen s p _).trans (sameImage_of_regs (setFacetBit_frame _ p 6 _) (reg_wrBit_other _ _ _ _ (by show MEM_STAT ≠ MEN_FACET; decide)))

section Frame

variable {p : Nat} (hp : p < 4)

include hp

/-- The facet is confirmed, with no zone judged yet. -/
theorem frameJudged_unjudged (s : State) : (s.unjudged p).now = s.now ∧ (s.unjudged p).hk = s.hk ∧ ((s.unjudged p).facetMen p).confirm = false ∧
    (s.unjudged p).facetBit p 6 = (!s.measured p) ∧ (s.unjudged p).men.zone = s.men.zone := by
  have hm := facetMen_modFacetMen_same s p (fun f => { f with confirm := false, judged := true })
  have hb := facetBit_setFacetBit_same (s.modFacetMen p (fun f => { f with confirm := false, judged := true })) (p := p) (b := 6) (!s.measured p) (by omega)
  have hf := setFacetBit_frame (s.modFacetMen p (fun f => { f with confirm := false, judged := true })) p 6 (!s.measured p)
  have hz : (s.modFacetMen p (fun f => { f with confirm := false, judged := true })).men.zone = s.men.zone := rfl
  have hk : (s.modFacetMen p (fun f => { f with confirm := false, judged := true })).hk = s.hk := rfl
  have hn : (s.modFacetMen p (fun f => { f with confirm := false, judged := true })).now = s.now := rfl
  unfold unjudged
  generalize s.modFacetMen p _ = u at hm hb hf hz hk hn
  generalize u.setFacetBit p 6 _ = t at hb hf
  have hmen : t.men = u.men := (congrArg State.men hf).trans rfl
  refine ⟨((congrArg State.now hf).trans rfl).trans hn, ((congrArg State.hk hf).trans rfl).trans hk, ?_, hb, (congrArg MenSt.zone hmen).trans hz⟩
  rw [show t.facetMen p = u.facetMen p by unfold facetMen; rw [hmen], hm]

theorem frameJudged_zonesJudged (s : State) : FrameJudged s p (s.zonesJudged p) := by
  obtain ⟨hn, hk, hc, hb, hz⟩ := frameJudged_unjudged hp s
  have hi := sameImage_unjudged s p
  unfold zonesJudged
  extract_lets slot t rows u
  cases hm : s.measured p with
  | false =>
    have hu : u = t := if_neg (by simp [hm])
    rw [if_neg (by simp), hu]
    exact ⟨hn, hk, hc, hb, fun _ => hz, fun h => absurd (hm.symm.trans h) (by decide)⟩
  | true =>
    have hu : Scanned t u := by
      have he : u = t.dramRead 3 14 (t.slotBase p slot) 8 := if_pos hm
      rw [he]
      exact (eccNoted_dramRead _ _ _ _ _).scanned
    have hl := scanned_judgeZones p slot rows (s.raster p).frame (t.definedZones p) u
    have hs : Scanned t _ := hu.trans hl
    rw [if_pos rfl]
    refine ⟨hs.now.trans hn, hs.hk.trans hk, ?_, ?_, fun h => absurd (hm.symm.trans h) (by decide), fun _ n hn64 hd => ?_⟩
    · rw [← hc]
      exact congrArg FacetMen.confirm (facetMen_congr hs.facets p)
    · rw [← hb]
      exact bit_eq_of_reg (f := ⟨MEN_FACET, 31, 0⟩) _ hs.facetReg
    · have hr : rows = s.dramNum (s.slotBase p slot + 6) 2 := (hi.dramNum _ _).trans (by rw [hi.slotBase])
      rw [← hr]
      have hmem : n ∈ t.definedZones p := by
        rw [hi.definedZones]
        exact List.mem_filter.mpr ⟨List.mem_range.mpr hn64, hd⟩
      exact (zoneJudged_judgeZones _ u (hi.trans hu.toSameImage) (Or.inl hmem)).congr rfl

end Frame

end State

end Sys2Proof.Machine
end

section
/-! The events of the enclave, settled (R253–R276). -/

namespace Sys2Proof.Machine

open R State

/-- A measured frame's confirmation judges its zones, and one that is not measured leaves them. -/
theorem gives_zoneConfirmation {s : State} (hn : Normal s) (p : Port) {at_ : Nat} (hd : s.dramWaits = false) (hm : s.metUp = true) (hc : (s.facetMen p).confirm = true)
    (ht : s.confirmTick p = some at_) : Gives (.zoneConfirmation p) s (fun t => FrameJudged (s.advanceTo at_) p t) := by
  have hf := follow_zoneConfirmation p.isLt hm hc ht
  have hj := frameJudged_zonesJudged p.isLt (s.advanceTo at_)
  have hk : (s.zoneConfirmation p).hk = s.hk := hf.hk.trans (hj.hk.trans (by rw [(advanceTo_spec s at_).2.2]))
  have hx : ∀ x : Fin 4, x.val ∈ [0, 1, 2, 3] := by decide
  refine gives_act (exec_zoneConfirmation p s) hn (if_neg (by rw [hd]; decide)) hk ?_
  generalize s.zoneConfirmation p = w at hf
  have hmen := settle_readOn_men s w
  have hst : ∀ n, (s.readOn w).settle.zoneSt p n = ((s.advanceTo at_).zonesJudged p).zoneSt p n := fun n => by
    unfold zoneSt
    rw [hmen, hf.zone]
  refine ⟨(settle_readOn_now s w).trans (hf.now.trans hj.now), ?_, ?_, ?_, fun h => ?_, fun h n hn64 hz => (hj.judged h n hn64 hz).congr (hst n)⟩
  · rw [settle_hk, readOn_hk]
    exact hf.hk.trans hj.hk
  · rw [facetMen_congr (congrArg MenSt.facets hmen)]
    exact (hf.confirm p).trans hj.confirm
  · exact (settle_readOn_bit s w _ _).trans ((hf.unmeasured p (hx p)).trans hj.unmeasured)
  · rw [hmen]
    exact hf.zone.trans (hj.zone h)

/-- Settles O42: each event by the lemma about its effect; a confirmation by what the judgement of the zones comes to at the locus. -/
theorem enclaveEvents : Obligations.EnclaveEvents := by
  refine fun p who fw st bad s hn hv => ⟨gives_metBoot_quiet hn fw st bad, fun hu hf hr => ⟨?_, ?_⟩, gives_enclaveWatchdog hn hv, gives_timeVerifyExpiry hn,
    fun b rest => gives_recordSigned hn, gives_menEvtRead hn hv, gives_zoneConfirmation_quiet hn p, fun at_ hd hm hc ht => ?_⟩
  · rintro rfl
    exact gives_metBoot_started hn hv hu hf hr st bad
  · rintro rfl
    exact gives_metBoot_failed hn hv hu hf hr st bad
  · extract_lets slot blank marks measured rows
    obtain ⟨hnow, -, hclock⟩ := advanceTo_spec s at_
    have hi := sameImage_advanceTo s at_
    refine (gives_zoneConfirmation hn p hd hm hc ht).imp fun t h => ?_
    have hslot : (s.advanceTo at_).get (PCE_SLOT_last p) = slot := by rw [hclock]; rfl
    have hmeas : (s.advanceTo at_).measured p = decide measured := by
      rw [Bool.eq_iff_iff, decide_eq_true_iff, measured_iff, hclock]
      exact Iff.rfl
    refine ⟨h.now.trans hnow, h.confirm, h.unmeasured.trans (by rw [hmeas]), fun hn => ?_, fun hy n hn64 hz => ?_⟩
    · rw [h.zone (hmeas.trans (decide_eq_false hn)), hclock]
    · have hj := (h.judged (hmeas.trans (decide_eq_true hy)) n hn64 (by rw [hi.zoneDesc]; exact hz)).of_sameImage hi
      rw [hslot, hi.slotBase, hi.dramNum] at hj
      exact hj

end Sys2Proof.Machine
end

section
/-! Idle steps, and the commands of a part that a reset holds (R17, R27, R28, R445, R473, R474). -/

namespace Sys2Proof.Machine

open R State

/-- What settles after a command through which no hash reads on. -/
theorem follows_settle_still {s t : State} (hi : t.intc = s.intc) (hl : t.lines = s.lines) : Follows s t.settle := by
  have hv : ∀ n, t.serving n = s.serving n := fun n => by unfold serving; rw [hi]
  refine ⟨by rw [settle_holdoffs, hi], settled_settle t, settle_hs t, fun n => ?_, fun n u v hu hv' => ?_, fun h => ?_, fun h => ?_, fun _ => ?_, fun k => ?_⟩
  · rw [serving_settle, hv, Option.map_map]; rfl
  · rw [serving_settle, hv, hu] at hv'
    cases hv'
    exact ⟨id, rfl⟩
  · obtain ⟨e1, e2⟩ := settle_subst t ((settle_hold t).symm.trans h)
    exact ⟨e1, by rw [e2, hl]⟩
  · obtain ⟨e1, e2⟩ := settle_subst_held t (fun e => h ((settle_hold t).trans e))
    exact ⟨e1.trans (by rw [hl]), e2.trans (by rw [hl])⟩
  · rw [settle_startCycle, settle_startable, hl]
    exact ⟨rfl, rfl⟩
  · unfold Lines.hashOf
    rw [settle_hashes, hl]

/-! ## A step with no command waiting -/

theorem step_idle {s : State} (h : s.pending = []) : step s = idle s := by simp only [step, h]

/-- Settles O2: a tick is the clock moved on by one, and in every other hold the coincidences end. -/
theorem emptyQueueTicks : Obligations.EmptyQueueTicks := by
  refine fun s hp hq => ⟨fun hh => ?_, fun h1 h2 => ?_⟩
  · have hs : (s.readOn (s.advanceTo (s.now + 1))).hk.shdn = none := by rw [readOn_hk, advanceTo_hk, hq]
    have ha : s.advanceTo (s.now + 1) = { s with now := s.now + 1, wall := s.wall + (if s.sca.slow then 10 else 9) } := by
      rw [advanceTo, if_neg (by omega), Nat.add_sub_cancel_left, Nat.one_mul]
    refine ⟨_, (step_idle hp).trans ((if_pos hh).trans ((congrArg (fun t => commit (s.readOn t)) (if_pos hh)).trans (commit_quiet hs))), ?_, ?_⟩
    · conv_lhs => rw [settle_frame]
      simp only [ha]
      rfl
    · exact follows_settle (advanceTo_intc s _) (advanceTo_lines s _)
  · refine ⟨_, (step_idle hp).trans ((if_neg (by simp [h1, h2])).trans (commit_quiet (t := s.modSca _) hq)), ?_, follows_settle_still rfl rfl⟩
    rw [settle_frame]
    rfl

/-! ## A held part -/

namespace State

/-- The lines replaced. -/
def withLines (s : State) (l : Lines) : State := { s with lines := l }

theorem clrBit_withLines (s : State) (l : Lines) (f : Field) (i : Nat) : (s.withLines l).clrBit f i = (s.clrBit f i).withLines l := by
  have hb : (s.withLines l).bit f i = s.bit f i := rfl
  unfold clrBit
  rw [hb]
  split <;> rfl

theorem foldl_withLines {α : Type} (g : State → α → State) (l : Lines) (h : ∀ s x, g (s.withLines l) x = (g s x).withLines l) (xs : List α) :
    ∀ s : State, xs.foldl g (s.withLines l) = (xs.foldl g s).withLines l := by
  induction xs with
  | nil => exact fun _ => rfl
  | cons x xs ih =>
    intro s
    rw [List.foldl_cons, h, ih, List.foldl_cons]

theorem put_withLines (s : State) (l : Lines) (f : Field) (v : Nat) : (s.withLines l).put f v = (s.put f v).withLines l := rfl
theorem modPort_withLines (s : State) (l : Lines) (p : Nat) (g : PortSt → PortSt) : (s.withLines l).modPort p g = (s.modPort p g).withLines l := rfl
theorem setPair_withLines (s : State) (l : Lines) (n : Nat) (x : PairSt) : (s.withLines l).setPair n x = (s.setPair n x).withLines l := rfl

theorem sdrStop_withLines (s : State) (l : Lines) : (s.withLines l).sdrStop = s.sdrStop.withLines l := by
  unfold sdrStop
  rw [foldl_withLines _ l (fun s n => by simp only [setPair_withLines, clrBit_withLines]), foldl_withLines _ l (fun s c => clrBit_withLines s l _ 0)]

theorem txDown_withLines (s : State) (l : Lines) (t : Nat) : (s.withLines l).txDown t = (s.txDown t).withLines l := by
  simp only [txDown, clrBit_withLines, put_withLines]

/-- The safe outputs of a shutdown do not depend on the lines. -/
theorem safeOutputs_withLines (s : State) (l : Lines) : (s.withLines l).safeOutputs = s.safeOutputs.withLines l := by
  unfold safeOutputs
  rw [foldl_withLines _ l (fun s p => by simp only [put_withLines, clrBit_withLines, modPort_withLines])]
  simp only [sdrStop_withLines, txDown_withLines]

/-- Outputs that are safe already are left alone. -/
theorem guardOutputs_safe {s : State} (h : s.hk.shdn.isSome = true → s.safeOutputs = s) : s.guardOutputs = s := by
  unfold guardOutputs
  split
  · exact h ‹_›
  · rfl

end State

/-- A command that changes nothing, whether or not hashes read on. -/
theorem gives_quiet_of_still {i : Instr} {s : State} (hs : s.hk.shdn.isSome = true → s.safeOutputs = s) (h : exec i s = commit s ∨ exec i s = commit (s.readOn s)) :
    Gives i s (Quiet s) := by
  rcases h with h | h
  · refine ⟨_, h, ?_⟩
    rw [guardOutputs_safe hs]
    exact ⟨settle_frame s, follows_settle_still rfl rfl⟩
  · have hr : (s.readOn s).safeOutputs = s.safeOutputs.withLines (s.readOn s).lines := safeOutputs_withLines s _
    refine ⟨_, h, ?_⟩
    rw [guardOutputs_safe fun hd => by rw [hr, hs hd]; rfl]
    exact quiet_settle s

section Held

variable {s : State} (hn : s.hold ≠ .none)

include hn

theorem act_held (f : State → State) : act s f = commit (s.readOn s) := by simp [act, running, hn]

theorem actMem_held (f : State → State) : actMem s f = commit (s.readOn s) := act_held hn _

theorem actAlways_held (f : State → State) (h : s.hold ≠ .system) : actAlways s f = commit (s.readOn s) := by simp [actAlways, hn, h]

theorem actAs_held {who : Party} (f : State → State) (h : who = .met → s.hold ≠ .system) : actAs who s f = commit (s.readOn s) := by
  have hc : ¬ (s.hold = .none ∨ who = .met ∧ s.hold = .system) := fun e => e.elim hn fun e => h e.1 e.2
  rw [actAs, if_neg hc]

/-- No core but MET executes an instruction, and MET none while its domain is held. -/
theorem executing_held {k : Core} (h : k = .met → s.hold ≠ .system) : s.executing k = false := by
  have hc : (s.running || (k == .met && s.hold == .system)) = false := by
    simpa [running, hn] using h
  rw [executing, hc, Bool.false_and, Bool.false_and]

/-- An instruction that is none of MET's in a system reset. -/
theorem pulon_held {k : Core} {i : Instr} (n : Nat) (eff : Nat → State → State) (h : s.hold = .system → (encodePulon i).any (fun e => e.1 == .met) = false) :
    s.pulon k i n eff = s := by
  refine if_neg fun he => ?_
  obtain ⟨he, hf⟩ := Bool.and_eq_true_iff.mp he
  by_cases hk : k = .met ∧ s.hold = .system
  · obtain ⟨rfl, hs⟩ := hk
    cases hi : encodePulon i with
    | none => simp [fetches, hiddenCode, hi] at hf
    | some e =>
      have := h hs
      simp_all [fetches, hiddenCode]
  · rw [executing_held hn (fun e hs => hk ⟨e, hs⟩)] at he
    cases he

theorem interruptEntry_held {k : Core} (h : k = .met → s.hold ≠ .system) : s.interruptEntry k = s := by
  cases k
  case sup => exact if_neg (by simp [running, hn])
  case met => exact if_neg (by simp [running, hn, h rfl])
  all_goals rfl

theorem illegal_held {k : Core} (h : k = .met → s.hold ≠ .system) : s.illegal k = s :=
  if_neg (by rw [executing_held hn h, Bool.false_and]; exact Bool.false_ne_true)

theorem thermalEntry_held (h : s.hold ≠ .system) (limit : Bool) : s.thermalEntry limit = s := by
  unfold thermalEntry powerHeld
  cases s.hk.shdn with
  | none => rfl
  | some d =>
    refine if_pos ?_
    cases hh : s.hold <;> simp_all

end Held

/-! ## Each command -/

theorem encodePulon_of_systemRuns {i : Instr} (h : systemRuns i = false) : (encodePulon i).any (fun e => e.1 == .met) = false := (Bool.or_eq_false_iff.mp h).1

/-- While a reset holds the part a command of no running domain, which neither begins nor ends a reset, changes nothing. -/
theorem exec_held {i : Instr} {s : State} (hn : s.hold ≠ .none) (hr : resetEvent s.hold i = false) (hs : s.hold = .system → systemRuns i = false) (hc : s.tickCauses = []) :
    exec i s = commit s ∨ exec i s = commit (s.readOn s) := by
  have hp : ∀ {k : Core} (n : Nat) (eff : Nat → State → State), s.pulon k i n eff = s := fun n eff => pulon_held hn n eff fun h => encodePulon_of_systemRuns (hs h)
  have hm : systemRuns i = true → s.hold ≠ .system := fun h e => by
    rw [hs e] at h
    cases h
  cases i <;> dsimp only [exec]
  -- the resets, their releases, and the die trip in the hold of which it is no event
  case powerOnReset | supplyReset | pll0Loss | porstRelease | supplyResetRelease => cases hr
  case thermalResetRelease => exact .inl (congrArg commit (if_neg fun h => Bool.false_ne_true (hr.symm.trans h)))
  case systemResetEnd => exact .inl (congrArg commit (if_neg fun h => Bool.false_ne_true (hr.symm.trans h)))
  case dieTrip =>
    have ht : (s.hold == .thermal) = true := by simpa [resetEvent, bne] using hr
    exact .inr (congrArg (fun t => commit (s.readOn t)) (if_pos (by rw [ht, Bool.or_true])))
  case systemResetPin =>
    refine .inl (congrArg commit ((if_neg (by simp [running, hn])).trans (if_pos ?_)))
    rw [hc]
    rfl
  case thermalResetEntry limit => exact .inl (congrArg commit (thermalEntry_held hn (hm rfl) limit))
  -- what the cores do
  case supInterruptEntry k => exact .inl (congrArg commit (interruptEntry_held hn fun e => hm (by rw [e]; rfl)))
  case illegalInstruction k => exact .inl (congrArg commit (illegal_held hn fun e => hm (by rw [e]; rfl)))
  case ldw | ldh | ldb | stw => exact .inl (congrArg commit ((congrArg (State.access s _ _ _) (hp _ _)).trans (ite_self _)))
  case add | sub | andw | orw | xorw | shl | shr | sar | mul | addi | subi | andi | ori | xori | shli | shri | sari | movh | br | call | jr | callr | dbnz | iret |
      mfs | mts | lnow | lset | lget | lins | ladv | wait | edge | edgei | strb | sth | stb | ldl | stl | ppx | pps | gsel | gseli | claim | free | sig | fence |
      flift => exact .inl (congrArg commit (hp _ _))
  -- what the parties and events of the domains do that run on in a system reset
  case program | group | erase | incr | cread | cfmt | resolve | nvsWindowRead =>
    exact .inr (actAs_held hn _ fun e => hm (by rw [e]; rfl))
  case registerWrite who a v =>
    refine .inr (actAs_held hn _ fun e => hm ?_)
    by_cases ha : metSpace (wordAddr a.toNat) = true <;> simp_all [systemRuns]
  case resolveDone met =>
    cases met with
    | false => exact .inr (actAs_held hn _ fun e => nomatch e)
    | true => exact .inr (actAs_held hn _ fun _ => hm rfl)
  case auditCommit | sealLowDecided | sealHighDecided | identityComplete | requestFinalStatus | readDigest | readPubkey | readAudit | setTime | setTimeSigned |
      replayRecord | retryKat | liftFence | writeZone | writeMask | writeCurve | installProgRef | installTableRef | setEvidential | setRecords | setTimeKey |
      generateKey | firmwareUpdate | recordSigned | timeVerifyExpiry | enclaveWatchdogExpiry | metBootComplete | nvsWriteStart | nvsWriteDone | nvsRetry |
      nvsRecallDone | nvsHoldRelease | supplyWarning | supplyRecover =>
    exact .inr (actAlways_held hn _ (hm rfl))
  -- every other command
  case tileCode | tileVerify | tableLoadEnd | ffAverageFrame | ffComposeEnd | statsSample | statsComposeEnd | bandEnd | scrubRow | windowFlushTimeout |
      dmaDescriptorEnd | zoneConfirmation | tableCheckComplete | replayPixel | replayComplete | bulkDone => exact .inr (actMem_held hn _)
  all_goals exact .inr (act_held hn _)

/-- Settles O60: a held part takes none of these commands, and its safe outputs are left alone. -/
theorem heldPartIsQuiet : Obligations.HeldPartIsQuiet := by
  intro i s hr hs
  have hc : s.tickCauses = [] := by
    unfold tickCauses
    cases h : s.sca.resetAt with
    | none => rfl
    | some e => exact if_neg (hr e.1 e.2 h)
  refine ⟨fun hh he => gives_quiet_of_still hs (exec_held ?_ he ?_ hc), fun hh he hy => gives_quiet_of_still hs (exec_held ?_ he (fun _ => hy) hc)⟩
  · rcases hh with h | h | h | h <;> rw [h] <;> decide
  · rcases hh with h | h | h | h <;> rw [h] <;> intro e <;> cases e
  · rw [hh]
    decide
end Sys2Proof.Machine
end

section
/-! The state at reset (R14, R64, R100, R153, R354, R429, R450, R466, R473, R482). -/

namespace Sys2Proof.Machine

open R State

theorem settled_reset : Settled State.reset := by decide

theorem memoriesCanonical_reset : MemoriesCanonical State.reset := by decide

/-- No shutdown is decided at reset. -/
theorem shutdownSafe_reset : ShutdownSafe State.reset := nofun

/-- Settles O57: the registers by the rows of the map, the rest by the fields' values at reset. -/
theorem resetLeaves : Obligations.ResetLeaves := by
  refine ⟨rfl, rfl, rfl, ?_, ?_, ?_, settled_reset, shutdownSafe_reset, memoriesCanonical_reset⟩
  · decide
  · decide
  · decide

end Sys2Proof.Machine
end

section
/-! An owner's write that the seal never freezes, and the hand-over of an ownership group (R18–R21). -/

namespace Sys2Proof.Machine

open R State

namespace State

/-- The interrupt controller's records replaced. -/
def withIntc (s : State) (x : IntcSt) : State := { s with intc := x }

@[simp] theorem withIntc_reg (s : State) (x : IntcSt) (a : Nat) : (s.withIntc x).reg a = s.reg a := rfl
@[simp] theorem withIntc_get (s : State) (x : IntcSt) (f : Field) : (s.withIntc x).get f = s.get f := rfl
@[simp] theorem withIntc_bit (s : State) (x : IntcSt) (f : Field) (i : Nat) : (s.withIntc x).bit f i = s.bit f i := rfl
@[simp] theorem withIntc_num (s : State) (x : IntcSt) (a : Nat) : (s.withIntc x).num a = s.num a := rfl

/-- The seal never freezes the register at `a`. -/
structure Unfrozen (a : Nat) : Prop where
  word : wordAddr a = a
  lane : laneCtl a = false
  unsealed : ∀ s : State, s.sealedReg a = false

theorem unfrozen_of_plainReg {a : Nat} (h : plainReg a = true) : Unfrozen a := by
  have hw := h
  simp only [plainReg, Bool.and_eq_true, Bool.not_eq_true', decide_eq_true_eq] at hw
  exact ⟨hw.1.1.1.1, hw.2, fun s => sealedReg_plain s h⟩

theorem busWrite_unfrozen {s : State} {who : Party} {a : Nat} (v : W32) (h : Unfrozen a) (ho : s.owns who.code a = true) :
    s.busWrite who a v = (s.beginAccess who.code a true).blockWrite who.code a v := by
  simp [busWrite, h.word, h.lane, ho, ownerWrite, h.unsealed]

end State

/-- A command that is its owner's write of such a register: what its block's write comes to, whatever the interrupt controller notes of the access. -/
theorem gives_ownerWrite_shdn {i : Instr} {s : State} {who : Party} {a : Nat} {v : W32} {P : State → Prop} (he : exec i s = act s (fun u => u.busWrite who a v))
    (ha : Unfrozen a) (hw : Writes s who a)
    (h : ∀ x, s.intc.Accesses x → ((s.withIntc x).blockWrite who.code a v).hk.shdn = s.hk.shdn ∧ P (s.readOn ((s.withIntc x).blockWrite who.code a v)).settle) :
    Gives i s P := by
  obtain ⟨ho, hh, hn⟩ := hw
  obtain ⟨hk, hp⟩ := h (s.beginAccess who.code a true).intc (intc_accesses_beginAccess s _ _ _ hh)
  have hb : s.beginAccess who.code a true = s.withIntc (s.beginAccess who.code a true).intc := beginAccess_quiet s who.code a true hh
  rw [← hb, ← busWrite_unfrozen v ha ho] at hk hp
  have hq : (s.readOn (s.busWrite who a v)).hk.shdn = none := by rw [readOn_hk, hk, hn.2]
  exact gives_of_quiet (he.trans (act_running _ hn.1)) hq hp

theorem gives_ownerWrite {i : Instr} {s : State} {who : Party} {a : Nat} {v : W32} {P : State → Prop} (he : exec i s = act s (fun u => u.busWrite who a v))
    (ha : Unfrozen a) (hw : Writes s who a)
    (h : ∀ x, s.intc.Accesses x → ((s.withIntc x).blockWrite who.code a v).hk = s.hk ∧ P (s.readOn ((s.withIntc x).blockWrite who.code a v)).settle) : Gives i s P :=
  gives_ownerWrite_shdn he ha hw fun x hx => ⟨by rw [(h x hx).1], (h x hx).2⟩

/-! ## The ownership registers -/

/-- Whether the table of groups permits party code `c` as the owner of group `n`, for the groups that the seal never freezes (R21). -/
def permits (n c : Nat) : Prop :=
  if n ∈ [0, 3, 16, 17, 21, 24, 28] then c ≤ 1 else if n ∈ [1, 22] then c = 0 else if n ∈ [29, 30, 31] then False else c = 1

theorem ownerPermitted_iff (n : Fin 32) (c : Fin 8) : ownLegal n = false → (ownerPermitted n c = true ↔ permits n c) := by
  unfold permits
  decide +revert

theorem ownLegal_of_unfrozen {n : Fin 32} (h : ¬ (5 ≤ n.val ∧ n.val ≤ 15)) (h25 : n.val ≠ 25) (h26 : n.val ≠ 26) : ownLegal n = false := by
  decide +revert

theorem psc_own_bounds (n : Fin 32) : PSC_OWN 0 ≤ PSC_OWN n ∧ PSC_OWN n ≤ PSC_OWN 31 ∧ (PSC_OWN n - PSC_OWN 0) / 4 = n.val ∧ wordAddr (PSC_OWN n) = PSC_OWN n ∧
    laneCtl (PSC_OWN n) = false := by decide +revert

theorem unfrozen_own {n : Fin 32} (h : ownLegal n = false) : Unfrozen (PSC_OWN n) := by
  obtain ⟨h0, h31, hd, hw, hl⟩ := psc_own_bounds n
  exact ⟨hw, hl, fun s => by rw [sealedReg, if_pos ⟨h0, h31⟩, hd, h]⟩

theorem blockWrite_own (s : State) (pc : Nat) (n : Fin 32) (v : W32) : s.blockWrite pc (PSC_OWN n) v = s.ownWrite n v := by
  fin_cases n <;> rfl

/-- Settles O23: the write of an ownership register takes a permitted code and leaves the field for any other. -/
theorem ownershipChanges : Obligations.OwnershipChanges := by
  intro s who n v h15 h25 h26 hw
  have hl := ownLegal_of_unfrozen h15 h25 h26
  have hv : bitsOf v 2 0 = v.toNat % 8 := by simp [bitsOf]
  have hp : ownerPermitted n (v.toNat % 8) = true ↔ permits n (v.toNat % 8) := ownerPermitted_iff n ⟨v.toNat % 8, Nat.mod_lt _ (by decide)⟩ hl
  refine gives_ownerWrite rfl (unfrozen_own hl) hw fun x hx => ?_
  rw [blockWrite_own, ownWrite, hv]
  by_cases hc : permits n (v.toNat % 8)
  · rw [if_pos (hp.mpr hc)]
    refine ⟨rfl, regsOnly_settle rfl hx rfl fun a ha => reg_setNum_other _ _ (by simpa using ha), ?_⟩
    rw [settle_readOn_num, num_setNum_same]
    exact (Nat.mod_eq_of_lt (by omega)).trans (if_pos hc).symm
  · rw [if_neg (mt hp.mp hc)]
    refine ⟨rfl, regsOnly_settle rfl hx rfl fun _ _ => rfl, ?_⟩
    rw [settle_readOn_num]
    exact (if_neg hc).symm
end Sys2Proof.Machine
end

section
/-! What a write of register fields leaves unchanged: everything but those fields. -/

namespace Sys2Proof.Machine

open R State

/-- Bit `i` of field `f` is one that a list of fields holds. -/
abbrev Field.BitIn (f : Field) (i : Nat) (l : List Field) : Prop := (f.bitField i).Within l ∧ f.lo + i ≤ f.hi ∧ f.hi < 32

namespace State

/-- `t` is `s` but for the fields of `l`. -/
structure Wrote (l : List Field) (s t : State) : Prop where
  frame : t = { s with regs := t.regs }
  keeps : Keeps l s t

theorem Wrote.refl (l : List Field) (s : State) : Wrote l s s := ⟨rfl, Keeps.refl l s⟩

theorem Wrote.trans {l : List Field} {s t u : State} (h : Wrote l s t) (k : Wrote l t u) : Wrote l s u :=
  ⟨by conv_lhs => rw [k.frame, h.frame], h.keeps.trans k.keeps⟩

theorem wrote_put {l : List Field} (s : State) {f : Field} (v : Nat) (h : f.Within l) : Wrote l s (s.put f v) := ⟨rfl, keeps_put s v h⟩

theorem wrote_bump {l : List Field} (s : State) {f : Field} (h : f.Within l) : Wrote l s (s.bump f) := wrote_put s _ h

theorem wrote_setBit {l : List Field} (s : State) {f : Field} {i : Nat} (h : f.BitIn i l) : Wrote l s (s.setBit f i) :=
  ⟨wrBit_frame s f i true, keeps_setBit s h.1 h.2.1 h.2.2⟩

theorem wrote_clrBit {l : List Field} (s : State) {f : Field} {i : Nat} (h : f.BitIn i l) : Wrote l s (s.clrBit f i) :=
  ⟨wrBit_frame s f i false, keeps_clrBit s h.1 h.2.1 h.2.2⟩

theorem Wrote.ite {l : List Field} {s t u : State} {c : Prop} [Decidable c] (h : Wrote l s t) (k : Wrote l s u) : Wrote l s (if c then t else u) := by
  split
  · exact h
  · exact k

theorem Wrote.hk {l : List Field} {s t : State} (h : Wrote l s t) : t.hk = s.hk := by rw [h.frame]
theorem Wrote.now {l : List Field} {s t : State} (h : Wrote l s t) : t.now = s.now := by rw [h.frame]
theorem Wrote.cmp {l : List Field} {s t : State} (h : Wrote l s t) (n : Nat) : t.cmp n = s.cmp n := by rw [h.frame]; rfl

end State

end Sys2Proof.Machine
end

section
/-! Comparators: the commit of a target, its judgement, the match and the end of a pulse (R61, R62, R70). -/

namespace Sys2Proof.Machine

open R State

namespace State

/-! ## The judgement of a target -/

theorem cmpFields_bitIn (n : Fin 8) : (RTB_CMP_CTL_late n).BitIn 0 [RTB_CMP_CTL_late n] ∧ (RTB_CMP_CTL_hit n).BitIn 0 [RTB_CMP_CTL_hit n] ∧
    (RTB_CMP_CTL_en n).BitIn 0 [RTB_CMP_CTL_en n] := by decide +revert

/-- The fields that the judgement of its target writes. -/
def judgeFields (n : Nat) : List Field := [RTB_CMP_CTL_late n, RTB_CMP_CTL_en n, RTB_LATE_CNT_late, RTB_EVT_late]

theorem judgeFields_within (n : Fin 8) : (RTB_CMP_CTL_late n).BitIn 0 (judgeFields n) ∧ (RTB_CMP_CTL_en n).BitIn 0 (judgeFields n) ∧
    RTB_LATE_CNT_late.Within (judgeFields n) ∧ RTB_EVT_late.BitIn 0 (judgeFields n) := by decide +revert

theorem bit_setBit_late (s : State) (n : Fin 8) : (s.setBit (RTB_CMP_CTL_late n)).bit (RTB_CMP_CTL_late n) = true :=
  bit_setBit_same s _ 0 (by simp [RTB_CMP_CTL_late]) (by simp [RTB_CMP_CTL_late]) (by simp [RTB_CMP_CTL_late])

theorem bit_clrBit_en (s : State) (n : Fin 8) : (s.clrBit (RTB_CMP_CTL_en n)).bit (RTB_CMP_CTL_en n) = false :=
  bit_clrBit_same s _ 0 (by simp [RTB_CMP_CTL_en]) (by simp [RTB_CMP_CTL_en])

theorem keeps_clrBit_en (s : State) (n : Fin 8) : Keeps [RTB_CMP_CTL_en n] s (s.clrBit (RTB_CMP_CTL_en n)) :=
  (wrote_clrBit s (cmpFields_bitIn n).2.2).keeps

/-- What the judgement of comparator `n`'s target comes to: it is late. -/
def judgesLate (s : State) (n : Nat) : Bool :=
  s.bit (RTB_CMP_CTL_en n) && (if s.get (RTB_CMP_CTL_mode n) == 0 then s.cmpLate (s.cmp n).target else unreachable (s.cmp n).target)

theorem cmpJudge_eq_self {s : State} {n : Nat} (h : s.judgesLate n = false) : s.cmpJudge n = s := if_neg (by rw [← judgesLate, h]; decide)

/-- The writes of a late judgement that concern the comparator's control register. -/
def lateCtl (s : State) (n : Nat) : State :=
  if s.get (RTB_CMP_CTL_mode n) == 0 then (s.setBit (RTB_CMP_CTL_late n)).clrBit (RTB_CMP_CTL_en n) else s.setBit (RTB_CMP_CTL_late n)

theorem cmpJudge_eq_late {s : State} {n : Nat} (h : s.judgesLate n = true) : s.cmpJudge n = ((s.lateCtl n).bump RTB_LATE_CNT_late).setBit RTB_EVT_late :=
  if_pos h

theorem lateCtl_reg_other (s : State) (n : Nat) {a : Nat} (h : a ≠ RTB_CMP_CTL n) : (s.lateCtl n).reg a = s.reg a := by
  unfold lateCtl
  split
  · rw [reg_clrBit_other _ _ _ h, reg_setBit_other _ _ _ h]
  · rw [reg_setBit_other _ _ _ h]

theorem cmp_ctl_ne (n : Fin 8) : RTB_CMP_CTL n ≠ RTB_LATE_CNT_late.addr ∧ RTB_CMP_CTL n ≠ RTB_EVT_late.addr := by decide +revert

theorem lateCtl_late (s : State) (n : Fin 8) : (s.lateCtl n).bit (RTB_CMP_CTL_late n) = true := by
  unfold lateCtl
  split
  · rw [(keeps_clrBit_en _ n).bit (by simp [RTB_CMP_CTL_late, RTB_CMP_CTL_en]), bit_setBit_late]
  · exact bit_setBit_late s n

theorem lateCtl_en {s : State} {n : Fin 8} (h : s.bit (RTB_CMP_CTL_en n) = true) :
    (s.lateCtl n).bit (RTB_CMP_CTL_en n) = false ↔ s.get (RTB_CMP_CTL_mode n) = 0 := by
  unfold lateCtl
  split
  · next hm => simpa [bit_clrBit_en] using hm
  · next hm =>
    rw [(wrote_setBit s (cmpFields_bitIn n).1).keeps.bit (f := RTB_CMP_CTL_en n) (by simp [RTB_CMP_CTL_late, RTB_CMP_CTL_en]), h]
    simpa using hm

theorem cmpJudge_late {s : State} {n : Fin 8} (h : s.judgesLate n = true) :
    (s.cmpJudge n).bit (RTB_CMP_CTL_late n) = true ∧ ((s.cmpJudge n).bit (RTB_CMP_CTL_en n) = false ↔ s.get (RTB_CMP_CTL_mode n) = 0) ∧
      (s.cmpJudge n).reg RTB_LATE_CNT_late.addr = counted1 (s.reg RTB_LATE_CNT_late.addr) RTB_LATE_CNT_late ∧ (s.cmpJudge n).bit RTB_EVT_late = true := by
  obtain ⟨hcnt, hevt⟩ := cmp_ctl_ne n
  have hctl : (s.cmpJudge n).reg (RTB_CMP_CTL n) = (s.lateCtl n).reg (RTB_CMP_CTL n) := by
    rw [cmpJudge_eq_late h, reg_setBit_other _ _ _ hevt, bump, reg_put_other _ _ _ hcnt]
  have hen : s.bit (RTB_CMP_CTL_en n) = true := by
    rw [judgesLate, Bool.and_eq_true] at h
    exact h.1
  refine ⟨(bit_eq_of_reg 0 hctl).trans (lateCtl_late s n), ?_, ?_, ?_⟩
  · rw [bit_eq_of_reg (f := RTB_CMP_CTL_en n) 0 hctl, lateCtl_en hen]
  · rw [cmpJudge_eq_late h, reg_setBit_other _ _ _ (by decide), reg_bump_same, lateCtl_reg_other _ _ hcnt.symm]
  · rw [cmpJudge_eq_late h, bit_setBit_same _ _ _ (by decide) (by decide) (by decide)]

theorem cmpJudge_wrote (s : State) (n : Fin 8) : Wrote (judgeFields n) s (s.cmpJudge n) := by
  cases h : s.judgesLate n with
  | false =>
    rw [cmpJudge_eq_self h]
    exact Wrote.refl _ s
  | true =>
    obtain ⟨hl, he, hcnt, hevt⟩ := judgeFields_within n
    rw [cmpJudge_eq_late h]
    have hs := wrote_setBit s hl
    have hc : Wrote _ s (s.lateCtl n) := (hs.trans (wrote_clrBit _ he)).ite hs
    exact (hc.trans (wrote_bump _ hcnt)).trans (wrote_setBit _ hevt)

/-! ## The commit -/

theorem blockWrite_cmpLo (s : State) (pc : Nat) (n : Fin 8) (v : W32) : s.blockWrite pc (RTB_CMP_LO n) v = s.cmpCommit pc n v := by
  fin_cases n <;> rfl

theorem blockWrite_cmpCtl (s : State) (pc : Nat) (n : Fin 8) (v : W32) : s.blockWrite pc (RTB_CMP_CTL n) v = s.cmpCtlWrite n v := by
  fin_cases n <;> rfl

theorem unfrozen_cmp (n : Fin 8) : plainReg (RTB_CMP_LO n) = true ∧ plainReg (RTB_CMP_CTL n) = true := by decide +revert

/-- A commit before its judgement: the two words and the target are in place. -/
def cmpCommitted (s : State) (pc n : Nat) (v h : W32) : State :=
  let t := { ((s.setReg (RTB_CMP_LO n) v).setReg (RTB_CMP_HI n) h) with wlatch := Map.del s.wlatch (latchKey pc (RTB_CMP_HI n)) }
  t.setCmp n { s.cmp n with target := BitVec.ofNat 64 (v.toNat + 2 ^ 32 * h.toNat), lastOcc := none }

theorem cmpCommit_eq {s : State} {pc n : Nat} {h : W32} (hh : s.writtenWord pc (RTB_CMP_HI n) = some h) (v : W32) :
    s.cmpCommit pc n v = (s.cmpCommitted pc n v h).cmpJudge n := by
  have hne : RTB_CMP_LO n ≠ RTB_CMP_HI n := by simp [RTB_CMP_LO, RTB_CMP_HI]
  have hlo : ((s.setReg (RTB_CMP_LO n) v).setReg (RTB_CMP_HI n) h).num (RTB_CMP_LO n) = v.toNat := by
    rw [num, reg_setReg_other _ _ hne, reg_setReg_same]
  have hhi : ((s.setReg (RTB_CMP_LO n) v).setReg (RTB_CMP_HI n) h).num (RTB_CMP_HI n) = h.toNat := by rw [num, reg_setReg_same]
  have hw : (s.setReg (RTB_CMP_LO n) v).writtenWord pc (RTB_CMP_HI n) = some h := hh
  rw [cmpCommit, cmpCommitted, ← hlo, ← hhi, hw]
  rfl

theorem cmpCommitted_reg (s : State) (pc n : Nat) (v h : W32) {a : Nat} (ha : a ∉ [RTB_CMP_LO n, RTB_CMP_HI n]) : (s.cmpCommitted pc n v h).reg a = s.reg a := by
  simp only [List.mem_cons, List.not_mem_nil, or_false, not_or] at ha
  exact (reg_setReg_other _ _ ha.2).trans (reg_setReg_other _ _ ha.1)

/-- A target is late for a comparator of mode 0, whose raster stands at `x` (R62). -/
theorem cmpLate_iff (s : State) (p : W64) : s.cmpLate p = true ↔ unreachable p = true ∨
    (ordLocus p ((s.raster (locRaster p)).posAt s.now) = .lt ∨
      ordLocus p ((s.raster (locRaster p)).posAt s.now) = .eq ∧ (s.raster (locRaster p)).running = true) := by
  rw [cmpLate, Bool.or_eq_true, pos]
  cases ordLocus p ((s.raster (locRaster p)).posAt s.now) <;> simp

theorem judgesLate_iff (s : State) (n : Nat) : s.judgesLate n = true ↔ s.bit (RTB_CMP_CTL_en n) = true ∧
    let p := (s.cmp n).target
    let x := s.raster (locRaster p)
    (unreachable p = true ∨ s.get (RTB_CMP_CTL_mode n) = 0 ∧ (ordLocus p (x.posAt s.now) = .lt ∨ ordLocus p (x.posAt s.now) = .eq ∧ x.running = true)) := by
  rw [judgesLate, Bool.and_eq_true]
  refine and_congr_right fun _ => ?_
  by_cases hm : s.get (RTB_CMP_CTL_mode n) = 0
  · simp [hm, cmpLate_iff]
  · simp [hm]

theorem cmp_words_ne (n : Fin 8) : RTB_CMP_CTL n ∉ [RTB_CMP_LO n, RTB_CMP_HI n] ∧ RTB_LATE_CNT_late.addr ∉ [RTB_CMP_LO n, RTB_CMP_HI n] := by decide +revert

end State

theorem gives_cmpCommit {s : State} {who : Party} {n : Fin 8} {v h : W32} (hw : Writes s who (RTB_CMP_LO n)) (hh : s.writtenWord who.code (RTB_CMP_HI n) = some h) :
    let p : W64 := BitVec.ofNat 64 (v.toNat + 2 ^ 32 * h.toNat)
    let judged := s.bit (RTB_CMP_CTL_en n) = true
    let one := s.get (RTB_CMP_CTL_mode n) = 0
    let x := s.raster (locRaster p)
    let late := unreachable p = true ∨ one ∧ (ordLocus p (x.posAt s.now) = .lt ∨ ordLocus p (x.posAt s.now) = .eq ∧ x.running = true)
    Gives (.cmpCommit who n v) s (fun t => (t.cmp n).target = p ∧ (judged → late → t.bit (RTB_CMP_CTL_late n) = true ∧ (t.bit (RTB_CMP_CTL_en n) = false ↔ one) ∧
      t.reg RTB_LATE_CNT_late.addr = counted1 (s.reg RTB_LATE_CNT_late.addr) RTB_LATE_CNT_late ∧ t.bit RTB_EVT_late = true) ∧
      (¬ (judged ∧ late) → ∀ a, a ∉ [RTB_CMP_LO n.val, RTB_CMP_HI n] → t.reg a = s.reg a)) := by
  intro p judged one x late
  refine gives_ownerWrite rfl (unfrozen_of_plainReg (unfrozen_cmp n).1) hw fun y _ => ?_
  rw [blockWrite_cmpLo, cmpCommit_eq (s := s.withIntc y) hh]
  generalize hu : (s.withIntc y).cmpCommitted who.code n v h = u
  obtain ⟨hctl, hcnt⟩ := cmp_words_ne n
  have hreg : ∀ a, a ∉ [RTB_CMP_LO n.val, RTB_CMP_HI n] → u.reg a = s.reg a := fun a ha => hu ▸ cmpCommitted_reg (s.withIntc y) _ n v h ha
  have hcmp : (u.cmp n).target = p := by
    rw [← hu, cmpCommitted, cmp_setCmp_same]
  have hj : u.judgesLate n = true ↔ judged ∧ late := by
    have hnow : u.now = s.now := by rw [← hu]; rfl
    have hras : ∀ r, u.raster r = s.raster r := fun r => by rw [← hu]; rfl
    rw [judgesLate_iff, hcmp, hnow, bit_eq_of_reg (f := RTB_CMP_CTL_en n) 0 (hreg _ hctl), get_eq_of_reg (f := RTB_CMP_CTL_mode n) (hreg _ hctl)]
    simp only [hras]
    rfl
  refine ⟨(cmpJudge_wrote u n).hk.trans (by rw [← hu]; rfl), ?_, fun hen hl => ?_, fun hn a ha => ?_⟩
  · rw [State.cmp, settle_cmps]
    exact (congrArg CmpSt.target ((cmpJudge_wrote u n).cmp n)).trans hcmp
  · obtain ⟨h1, h2, h3, h4⟩ := cmpJudge_late (hj.mpr ⟨hen, hl⟩)
    rw [settle_readOn_bit, settle_readOn_bit, settle_readOn_bit, settle_readOn_reg]
    refine ⟨h1, ?_, ?_, h4⟩
    · rw [h2, get_eq_of_reg (f := RTB_CMP_CTL_mode n) (hreg _ hctl)]
    · rw [h3, hreg _ hcnt]
  · rw [settle_readOn_reg, cmpJudge_eq_self (by rw [Bool.eq_false_iff, Ne, hj]; exact hn), hreg a ha]

/-! ## A write of the control register -/

/-- A row of no counter whose RW bits include field `f`, of which none is written in another way. -/
def RegRow.takes (f : Field) (r : RegRow) : Bool :=
  r.ctrs.isEmpty && (List.range 32).all (fun j => !decide (f.lo ≤ j ∧ j ≤ f.hi) || (r.rw.testBit j && !r.w1c.testBit j && !r.w1s.testBit j))

theorem bitsOf_written_takes {r : RegRow} {f : Field} (h : r.takes f = true) (h32 : f.hi < 32) (hlo : f.lo ≤ f.hi) (frozen : Bool) (old v : W32) :
    bitsOf (r.written frozen old v) f.hi f.lo = bitsOf v f.hi f.lo := by
  simp only [RegRow.takes, Bool.and_eq_true, List.isEmpty_iff, List.all_eq_true, List.mem_range] at h
  obtain ⟨hc, hb⟩ := h
  refine Nat.eq_of_testBit_eq fun j => ?_
  rw [bitsOf_testBit, bitsOf_testBit]
  by_cases hj : j < f.hi - f.lo + 1
  · have hm := hb (f.lo + j) (by omega)
    have hin : f.lo ≤ f.lo + j ∧ f.lo + j ≤ f.hi := by omega
    have hjw : f.lo + j < 32 := by omega
    simp only [hin, and_self, decide_true, Bool.not_true, Bool.false_or, Bool.and_eq_true, Bool.not_eq_true'] at hm
    obtain ⟨⟨hrw, h1c⟩, h1s⟩ := hm
    simp only [RegRow.written, hc, clearCounters, List.foldl_nil, BitVec.testBit_toNat, BitVec.getLsbD_or, BitVec.getLsbD_and, BitVec.getLsbD_not, maskW, BitVec.getLsbD_ofNat,
      h1c, h1s, hjw]
    cases frozen <;> simp [hrw, hjw]
  · simp [hj]

theorem rows_cmpCtl (n : Fin 8) : (findRow (RTB_CMP_CTL n)).any (fun r => r.takes (RTB_CMP_CTL_en n) && r.takes (RTB_CMP_CTL_mode n)) = true := by decide +revert

theorem gives_cmpCtlWrite {s : State} {who : Party} {n : Fin 8} {v : W32} (hw : Writes s who (RTB_CMP_CTL n)) (he : s.bit (RTB_CMP_CTL_en n) = false)
    (hv : bitsOf v (RTB_CMP_CTL_en n).hi (RTB_CMP_CTL_en n).lo = 1) (hm : bitsOf v (RTB_CMP_CTL_mode n).hi (RTB_CMP_CTL_mode n).lo = 0)
    (hu : unreachable (s.cmp n).target = true) : Gives (.cmpCtlWrite who n v) s (fun t =>
      t.bit (RTB_CMP_CTL_en n) = false ∧ t.bit (RTB_CMP_CTL_late n) = true ∧ t.cmp n = s.cmp n) := by
  refine gives_ownerWrite rfl (unfrozen_of_plainReg (unfrozen_cmp n).2) hw fun y _ => ?_
  obtain ⟨r, hr, ht⟩ := (Option.any_eq_true _ _).mp (rows_cmpCtl n)
  rw [Bool.and_eq_true] at ht
  rw [blockWrite_cmpCtl]
  generalize hw' : ((s.withIntc y).setReg (RTB_CMP_CTL n) (r.written (s.withIntc y).frozen ((s.withIntc y).reg (RTB_CMP_CTL n)) v)) = u
  have hreg : u.reg (RTB_CMP_CTL n) = r.written (s.withIntc y).frozen ((s.withIntc y).reg (RTB_CMP_CTL n)) v := by rw [← hw', reg_setReg_same]
  have hmode : u.get (RTB_CMP_CTL_mode n) = 0 := by
    rw [State.get, show (RTB_CMP_CTL_mode n).addr = RTB_CMP_CTL n from rfl, hreg, bitsOf_written_takes ht.2 (by simp [RTB_CMP_CTL_mode]) (by simp [RTB_CMP_CTL_mode]), hm]
  have hen : u.bit (RTB_CMP_CTL_en n) = true := by
    have e : u.get (RTB_CMP_CTL_en n) = 1 := by
      rw [State.get, show (RTB_CMP_CTL_en n).addr = RTB_CMP_CTL n from rfl, hreg, bitsOf_written_takes ht.1 (by simp [RTB_CMP_CTL_en]) (by simp [RTB_CMP_CTL_en]), hv]
    simp [State.bit, e]
  have hwrite : (s.withIntc y).writeField (RTB_CMP_CTL n) v (RTB_CMP_CTL_mode n) (fun x => x != 3) = u := by
    rw [writeField, keepUnless, if_pos (by simp [fv, hm]), plainWrite_row hr, hw']
  have hcmp : u.cmp n = s.cmp n := by rw [← hw']; rfl
  have hj : u.judgesLate n = true := by
    rw [judgesLate_iff, hcmp]
    exact ⟨hen, Or.inl hu⟩
  have hctl : (s.withIntc y).cmpCtlWrite n v = u.cmpJudge n := by
    rw [cmpCtlWrite, hwrite]
    simp [hen, he]
  rw [hctl]
  obtain ⟨hl, hen', -⟩ := cmpJudge_late hj
  refine ⟨(cmpJudge_wrote u n).hk.trans (by rw [← hw']; rfl), ?_, ?_, ?_⟩
  · rw [settle_readOn_bit]
    exact hen'.mpr hmode
  · rw [settle_readOn_bit, hl]
  · rw [State.cmp, settle_cmps]
    exact ((cmpJudge_wrote u n).cmp n).trans hcmp

/-! ## The match and the pulse's end -/

namespace State

/-- A target in the frame and line in which a position begins does not lie before it. -/
theorem ordLocus_lineStart {p : W64} {f l : Nat} (hf : locFrame p = f % 2 ^ 26) (hl : locLine p = l) : ordLocus p ⟨f, l, 0, 0⟩ ≠ .lt := by
  have hd : (locFrame p + 2 ^ 26 - f % 2 ^ 26) % 2 ^ 26 = 0 := by rw [hf]; simp
  have h0 : ∀ k : Nat, compare k 0 ≠ .lt := fun k => by simp [Nat.compare_eq_lt]
  simp only [ordLocus, hd, if_true, hl, Nat.compare_eq_eq.mpr, Ordering.eq_then, ne_eq, Ordering.then_eq_lt, not_or, not_and]
  exact ⟨h0 _, fun _ => h0 _⟩

theorem dueTick_some {s : State} {p : W64} {d : Nat} (h : s.dueTick p = some d) : unreachable p = false ∧ (s.raster (locRaster p)).running = true ∧
    ordLocus p ⟨(s.raster (locRaster p)).frame, (s.raster (locRaster p)).line, 0, 0⟩ ≠ .lt := by
  simp only [dueTick] at h
  split at h
  · cases h
  next hu =>
  split at h
  next hp =>
    simp only [not_or, Bool.not_eq_true, Bool.not_eq_true', Bool.not_eq_false] at hu
    exact ⟨hu.1, hu.2, ordLocus_lineStart hp.1 hp.2.1⟩
  · cases h

/-- An enabled one-shot whose target lies ahead in the current line is due at the target's tick. -/
theorem cmpDue_oneShot {s : State} {n d : Nat} (hd : s.dueTick (s.cmp n).target = some d) (he : s.bit (RTB_CMP_CTL_en n) = true) (hm : s.get (RTB_CMP_CTL_mode n) = 0)
    (hn : s.now ≤ d) (hf : (s.cmp n).modeFrom ≤ s.now) : s.cmpDue n = some (d, 0) := by
  obtain ⟨hu, hr, ho⟩ := dueTick_some hd
  have hin : s.cmpDueIn n 0 s.now = some d := by
    simp only [cmpDueIn, he, hu, hr, hd, Bool.not_true, Bool.false_eq_true, or_self, if_false, if_true, Nat.max_eq_left hn]
  rw [cmpDue, hm, if_neg (by omega), Nat.max_eq_left hf, hin]
  rfl

end State

/-- The registers after comparator `n`'s match at tick `d`: hit is set and en clear. -/
def State.cmpHit (s : State) (n d : Nat) : State := ((s.advanceTo d).setBit (RTB_CMP_CTL_hit n)).clrBit (RTB_CMP_CTL_en n)

/-- The comparator after its match: its pulse waits with the others. -/
def State.cmpFired (s : State) (n d : Nat) : CmpSt :=
  { s.cmp n with
    pulses := (s.cmp n).pulses ++ (if s.get (RTB_CMP_CTL_width n) = 0 then [] else [⟨d, locRaster (s.cmp n).target, s.get (RTB_CMP_CTL_width n), 0⟩]) }

theorem cmpHit_wrote (s : State) (n : Fin 8) (d : Nat) : Wrote [RTB_CMP_CTL_hit n, RTB_CMP_CTL_en n] (s.advanceTo d) (s.cmpHit n d) := by
  have hf : (RTB_CMP_CTL_hit n).BitIn 0 [RTB_CMP_CTL_hit n, RTB_CMP_CTL_en n] ∧ (RTB_CMP_CTL_en n).BitIn 0 [RTB_CMP_CTL_hit n, RTB_CMP_CTL_en n] := by decide +revert
  exact (wrote_setBit _ hf.1).trans (wrote_clrBit _ hf.2)

theorem cmpHit_hit (s : State) (n : Fin 8) (d : Nat) : (s.cmpHit n d).bit (RTB_CMP_CTL_hit n) = true := by
  rw [cmpHit, (keeps_clrBit_en _ n).bit (by simp [RTB_CMP_CTL_hit, RTB_CMP_CTL_en])]
  exact bit_setBit_same _ _ 0 (by simp [RTB_CMP_CTL_hit]) (by simp [RTB_CMP_CTL_hit]) (by simp [RTB_CMP_CTL_hit])

theorem cmpHit_width (s : State) (n : Fin 8) (d : Nat) : (s.cmpHit n d).get (RTB_CMP_CTL_width n) = s.get (RTB_CMP_CTL_width n) := by
  rw [(cmpHit_wrote s n d).keeps.get (by simp [RTB_CMP_CTL_hit, RTB_CMP_CTL_en, RTB_CMP_CTL_width]) (by simp [RTB_CMP_CTL_width])]
  exact get_eq_of_reg (reg_eq_of_regs (advanceTo_regs s d) _)

theorem cmpFire_oneShot {s : State} {n : Fin 8} {d : Nat} (hd : s.cmpDue n = some (d, 0)) : s.cmpFire n = (s.cmpHit n d).setCmp n (s.cmpFired n d) := by
  have hc : (s.cmpHit n d).cmp n = s.cmp n := ((cmpHit_wrote s n d).cmp n).trans (by rw [State.cmp, advanceTo_cmps]; rfl)
  simp only [cmpFire, hd, if_true]
  rw [← cmpHit, cmpHit_width, hc, cmpFired]
  split <;> simp

theorem gives_cmpFire {s : State} (hn : Normal s) {n : Fin 8} {d : Nat} (hd : s.cmpDue n = some (d, 0)) (hle : s.now ≤ d) :
    Gives (.cmpFire n) s (fun t => t.now = d ∧ t.bit (RTB_CMP_CTL_hit n) = true ∧ t.bit (RTB_CMP_CTL_en n) = false ∧ (∀ a, a ≠ RTB_CMP_CTL n → t.reg a = s.reg a) ∧
      (t.cmp n).pulses = (s.cmp n).pulses ++ (if s.get (RTB_CMP_CTL_width n) = 0 then [] else [⟨d, locRaster (s.cmp n).target, s.get (RTB_CMP_CTL_width n), 0⟩])) := by
  have hw := cmpHit_wrote s n d
  refine gives_act (f := fun u => u.cmpFire n) rfl hn (cmpFire_oneShot hd) ?_ ⟨?_, ?_, ?_, fun a ha => ?_, ?_⟩
  · rw [setCmp_hk, hw.hk, advanceTo_hk]
  · rw [settle_readOn_now, setCmp_now, hw.now, (advanceTo_spec s d).1, Nat.max_eq_right hle]
  · rw [settle_readOn_bit]
    exact cmpHit_hit s n d
  · rw [settle_readOn_bit]
    exact bit_clrBit_en _ n
  · rw [settle_readOn_reg]
    exact (hw.keeps.reg (by simpa [RTB_CMP_CTL_hit, RTB_CMP_CTL_en] using ha.symm)).trans (reg_eq_of_regs (advanceTo_regs s d) a)
  · rw [State.cmp, settle_cmps]
    exact congrArg CmpSt.pulses (cmp_setCmp_same _ _ _)

theorem gives_cmpPulseEnd {s : State} (hn : Normal s) {n : Fin 8} {q : CmpPulse} {rest : List CmpPulse} (hq : (s.cmp n).pulses = q :: rest)
    (hr : (s.raster q.raster).running = true) : let x := s.raster q.raster
    Gives (.cmpPulseEnd n) s (fun t => t.now = max s.now (q.at_ + q.ext + 96 * q.width +
        (if q.at_ < x.lineEnd ∧ x.lineAt + 96 * x.slots ≤ q.at_ + q.ext + 96 * q.width then x.lineEnd - (x.lineAt + 96 * x.slots) else 0) + 24) ∧
      (t.cmp n).pulses = rest ∧ t.regs = s.regs) := by
  intro x
  obtain ⟨hnow, -, hfr⟩ := advanceTo_spec s (s.slotsAfter q.raster q.at_ q.width q.ext + 24)
  have hend : s.slotsAfter q.raster q.at_ q.width q.ext = q.at_ + q.ext + 96 * q.width +
      (if q.at_ < x.lineEnd ∧ x.lineAt + 96 * x.slots ≤ q.at_ + q.ext + 96 * q.width then x.lineEnd - (x.lineAt + 96 * x.slots) else 0) := by
    simp only [slotsAfter, hr, true_and, Nat.sub_sub]
    split <;> rfl
  refine gives_act (f := fun u => u.cmpPulseEnd n) rfl hn (by rw [cmpPulseEnd, hq]) ?_ ⟨?_, ?_, ?_⟩
  · rw [setCmp_hk, hfr]
  · rw [settle_readOn_now, setCmp_now, hnow, hend]
  · rw [State.cmp, settle_cmps]
    exact congrArg CmpSt.pulses (cmp_setCmp_same _ _ _)
  · rw [settle_regs, readOn_regs, setCmp_regs, hfr]

/-- Settles O28: by the comparators' own lemmas, command by command. -/
theorem comparatorsCommitAndFire : Obligations.ComparatorsCommitAndFire :=
  fun _ _ _ _ _ => ⟨gives_cmpCommit, gives_cmpCtlWrite, fun hn _ hd he hm hle hf => gives_cmpFire hn (cmpDue_oneShot hd he hm hle hf) hle,
    fun hn _ _ hq => fun hr _ => gives_cmpPulseEnd hn hq hr⟩

end Sys2Proof.Machine
end

section
/-! What an operation on some pages of registers leaves unchanged, and what the abort of a flat-field does (R226). -/

namespace Sys2Proof.Machine

open R State

namespace State

/-- `t` is `s` in its cores and rasters, its tick, the reset that holds it, the decided shutdown, what the Pulon cycle has seen of requests, and the registers at the addresses
of `A`. -/
structure Sparing (A : Nat → Prop) (s t : State) : Prop where
  cores : t.cores = s.cores
  rasters : t.rasters = s.rasters
  hold : t.hold = s.hold
  now : t.now = s.now
  shdn : t.hk.shdn = s.hk.shdn
  arb : t.arb = s.arb
  last : t.lastFence = s.lastFence
  reg : ∀ a, A a → t.reg a = s.reg a

/-- `t` is `s` but for the registers of the pages of `l` and what is no part of `Sparing`. -/
abbrev Apart (l : List Nat) (s t : State) : Prop := Sparing (fun a => a / 0x1000 ∉ l) s t

section Sparing

variable {A : Nat → Prop}

theorem Sparing.refl (s : State) : Sparing A s s := ⟨rfl, rfl, rfl, rfl, rfl, rfl, rfl, fun _ _ => rfl⟩

theorem Sparing.trans {s t u : State} (h : Sparing A s t) (k : Sparing A t u) : Sparing A s u :=
  ⟨k.cores.trans h.cores, k.rasters.trans h.rasters, k.hold.trans h.hold, k.now.trans h.now, k.shdn.trans h.shdn, k.arb.trans h.arb, k.last.trans h.last, fun a ha => (k.reg a ha).trans (h.reg a ha)⟩

theorem Sparing.imp {B : Nat → Prop} {s t : State} (h : Sparing A s t) (hb : ∀ a, B a → A a) : Sparing B s t := { h with reg := fun a ha => h.reg a (hb a ha) }

theorem Sparing.ite {s t u : State} {c : Prop} [Decidable c] (h : Sparing A s t) (k : Sparing A s u) : Sparing A s (if c then t else u) := by
  split
  · exact h
  · exact k

theorem Sparing.core {s t : State} (h : Sparing A s t) (k : Nat) : t.core k = s.core k := by rw [State.core, h.cores]; rfl

theorem sparing_put (s : State) {f : Field} (v : Nat) (h : ¬ A f.addr) : Sparing A s (s.put f v) :=
  ⟨rfl, rfl, rfl, rfl, rfl, rfl, rfl, fun _ ha => reg_put_other s f v fun e => h (e ▸ ha)⟩

theorem sparing_setNum (s : State) {a : Nat} (v : Nat) (h : ¬ A a) : Sparing A s (s.setNum a v) :=
  ⟨rfl, rfl, rfl, rfl, rfl, rfl, rfl, fun _ hb => reg_setNum_other s v fun e => h (e ▸ hb)⟩

theorem sparing_wrBit (s : State) {f : Field} (i : Nat) (b : Bool) (h : ¬ A f.addr) : Sparing A s (s.wrBit f i b) := by
  have hf := wrBit_frame s f i b
  refine ⟨?_, ?_, ?_, ?_, ?_, ?_, ?_, fun a ha => reg_wrBit_other s f i b fun e => h (e ▸ ha)⟩ <;> rw [hf]

theorem sparing_bump (s : State) {f : Field} (h : ¬ A f.addr) : Sparing A s (s.bump f) := sparing_put s _ h

theorem sparing_setBit (s : State) {f : Field} (i : Nat) (h : ¬ A f.addr) : Sparing A s (s.setBit f i) := sparing_wrBit s i true h

end Sparing

variable {l : List Nat}

theorem Apart.refl (s : State) : Apart l s s := Sparing.refl s

theorem Apart.mono {l' : List Nat} {s t : State} (h : Apart l s t) (hl : l ⊆ l') : Apart l' s t := Sparing.imp h fun _ ha hm => ha (hl hm)

theorem apart_put (s : State) {f : Field} (v : Nat) (h : f.addr / 0x1000 ∈ l) : Apart l s (s.put f v) := sparing_put s v (not_not_intro h)

theorem apart_setNum (s : State) {a : Nat} (v : Nat) (h : a / 0x1000 ∈ l) : Apart l s (s.setNum a v) := sparing_setNum s v (not_not_intro h)

theorem apart_bump (s : State) {f : Field} (h : f.addr / 0x1000 ∈ l) : Apart l s (s.bump f) := apart_put s _ h

theorem apart_wrBit (s : State) {f : Field} (i : Nat) (b : Bool) (h : f.addr / 0x1000 ∈ l) : Apart l s (s.wrBit f i b) := sparing_wrBit s i b (not_not_intro h)

theorem apart_setBit (s : State) {f : Field} (i : Nat) (h : f.addr / 0x1000 ∈ l) : Apart l s (s.setBit f i) := apart_wrBit s i true h

theorem apart_clrBit (s : State) {f : Field} (i : Nat) (h : f.addr / 0x1000 ∈ l) : Apart l s (s.clrBit f i) := apart_wrBit s i false h

theorem apart_modPair (s : State) (n : Nat) (f : PairSt → PairSt) : Apart l s (s.modPair n f) := ⟨rfl, rfl, rfl, rfl, rfl, rfl, rfl, fun _ _ => rfl⟩

theorem sparing_modCsu {A : Nat → Prop} (s : State) (p : Nat) (f : CsuSt → CsuSt) : Sparing A s (s.modCsu p f) := ⟨rfl, rfl, rfl, rfl, rfl, rfl, rfl, fun _ _ => rfl⟩

theorem apart_modPort (s : State) (p : Nat) (f : PortSt → PortSt) : Apart l s (s.modPort p f) := ⟨rfl, rfl, rfl, rfl, rfl, rfl, rfl, fun _ _ => rfl⟩

theorem apart_modFacetMen (s : State) (p : Nat) (f : FacetMen → FacetMen) : Apart l s (s.modFacetMen p f) := ⟨rfl, rfl, rfl, rfl, rfl, rfl, rfl, fun _ _ => rfl⟩

theorem judgedFields_page : ∀ f ∈ judgedFields, f.addr / 0x1000 = 0x12 := by decide

/-- MET's judgement changes registers of its own page alone. -/
theorem Judged.apart {s t : State} (h : Judged s t) : Apart [0x12] s t := by
  have hf := h.frame
  refine ⟨?_, ?_, ?_, ?_, ?_, ?_, ?_, fun a ha => h.keeps.reg fun f hf e => ha (by simp [← e, judgedFields_page f hf])⟩ <;> rw [hf]

/-! ## The shutter drive (R454–R462) -/

/-- The pages of calibration and of the shutter drive. -/
def shutterPages : List Nat := [8, 15]

theorem sdr_page {n c : Nat} (hn : n < 4) (hc : c < 8) :
    SDR_PAIR_STAT n / 0x1000 ∈ shutterPages ∧ SDR_CH_STAT c / 0x1000 ∈ shutterPages ∧ SDR_CH_CNT c / 0x1000 ∈ shutterPages := by
  simp only [SDR_PAIR_STAT, SDR_CH_STAT, SDR_CH_CNT, shutterPages, List.mem_cons, List.not_mem_nil, or_false]
  omega

/-- `t` is `s` but for calibration and the shutter drive. -/
abbrev ShutterOnly (s t : State) : Prop := Apart shutterPages s t

theorem shutter_drive (s : State) {n c : Nat} (hn : n < 4) (hc : c < 8) (g : Bool) : ShutterOnly s (s.drive n c g) := by
  obtain ⟨h1, h2, -⟩ := sdr_page hn hc
  unfold drive
  extract_lets q off clamp t u
  have hu : ShutterOnly s u := (apart_wrBit s 0 g h2).trans (apart_wrBit t 0 _ h1)
  exact (hu.trans (apart_modPair u n _)).ite hu

theorem shutter_beginPhase (s : State) {n : Nat} (hn : n < 4) (j t : Nat) : ShutterOnly s (s.beginPhase n j t) := by
  unfold beginPhase
  split
  · exact Apart.refl s
  next q _ =>
  extract_lets c rel was u v mode duty w
  have hc : c < 8 := profChan_lt s hn q.prof
  obtain ⟨h1, h2, h3⟩ := sdr_page hn hc
  have hw : ShutterOnly s w := ((apart_modPair s n _).trans (apart_put u j h1)).trans (shutter_drive v hn hc _)
  have hx : ShutterOnly w ((w.setBit SDR_EVT_nomove c).bump (SDR_CH_CNT_nomove c)) := (apart_setBit w c (by decide)).trans (apart_bump _ h3)
  exact (hw.trans (hx.trans ((apart_setBit _ 0 h2).ite (Apart.refl _)))).ite hw

theorem shutter_startProfile (s : State) {n : Nat} (hn : n < 4) (q : ProfRun) (t : Nat) : ShutterOnly s (s.startProfile n q t) := by
  unfold startProfile
  extract_lets x u v w
  have hc : v.profChan n q.prof < 8 := profChan_lt v hn q.prof
  obtain ⟨h1, h2, -⟩ := sdr_page hn hc
  have hu : ShutterOnly s u := ⟨rfl, rfl, rfl, rfl, rfl, rfl, rfl, fun _ _ => rfl⟩
  have hv : ShutterOnly u v := ((apart_setBit u 0 h1).trans (apart_put _ _ h1)).trans (apart_put _ _ h1)
  exact ((hu.trans hv).trans (apart_clrBit v 0 h2)).trans ((apart_setBit w 0 h1).trans (shutter_beginPhase _ hn 0 t))

theorem shutter_deferTrigger (s : State) {n : Nat} (hn : n < 4) (q : ProfRun) : ShutterOnly s (s.deferTrigger n q) :=
  have h1 := (sdr_page hn (Nat.zero_lt_succ 7)).1
  ((apart_modPair s n _).trans (apart_setBit _ 0 h1)).trans (apart_put _ _ h1)

theorem shutter_dropTrigger (s : State) (n : Nat) : ShutterOnly s (s.dropTrigger n) :=
  (apart_bump s (f := ⟨SDR_DROP_CNT, 8 * n + 7, 8 * n⟩) (show SDR_DROP_CNT / 0x1000 ∈ shutterPages by decide)).trans (apart_setBit _ n (by decide))

theorem shutter_sdrTrigger (s : State) {n : Nat} (hn : n < 4) (q : ProfRun) : ShutterOnly s (s.sdrTrigger n q).1 := by
  unfold sdrTrigger
  extract_lets q'
  split
  · exact shutter_dropTrigger s n
  split
  · exact shutter_startProfile s hn q' _
  · exact shutter_dropTrigger s n
  · split
    · exact (shutter_startProfile s hn q' _).trans (shutter_deferTrigger _ hn _)
    · exact shutter_deferTrigger s hn q'

/-! ## The shutter of a flat-field (R221, R226, R227) -/

section Csu

variable {A : Nat → Prop} {p : Nat} (hA : ∀ a, A a → a ≠ CSU_EVT ∧ a ≠ CSU_ACTIVE ∧ a ≠ CSU_CNT p ∧ a ≠ CSU_DUE p ∧ a ≠ CSU_STAT p)

include hA

theorem csu_setFf (s : State) (v : Nat) : Sparing A s (s.setFf p v) :=
  (sparing_put s (f := CSU_STAT_state p) v fun h => (hA _ h).2.2.2.2 rfl).trans (sparing_wrBit _ (f := CSU_ACTIVE_ports) p _ fun h => (hA _ h).2.1 rfl)

theorem csu_ffEnd (s : State) : Sparing A s (s.ffEnd p) := by
  unfold ffEnd
  extract_lets t ab u
  have hu : Sparing A s u := (csu_setFf hA s 0).trans (sparing_modCsu t p _)
  exact hu.ite (hu.trans (sparing_setNum u (a := CSU_DUE p) _ fun h => (hA _ h).2.2.2.1 rfl))

theorem csu_shutUnavail (s : State) (k : Option Bool) : Sparing A s (s.shutUnavail p k) := by
  unfold shutUnavail
  extract_lets t
  have ht : Sparing A s t := ((sparing_setBit s (f := CSU_STAT_shut_unavail p) 0 fun h => (hA _ h).2.2.2.2 rfl).trans
    (sparing_bump _ (f := CSU_CNT_shutter p) fun h => (hA _ h).2.2.1 rfl)).trans (sparing_setBit _ (f := CSU_EVT_shutter) p fun h => (hA _ h).1 rfl)
  cases k with
  | none => exact ht
  | some b => exact ht.trans (sparing_modCsu t p _)

theorem csu_ffFault (s : State) (k : Bool) : Sparing A s (s.ffFault p k) := by
  unfold ffFault
  extract_lets t
  exact (csu_shutUnavail hA s (some k)).trans (((csu_setFf hA t 5).trans (sparing_modCsu _ p _)).ite (csu_ffEnd hA t))

theorem csu_ffDropped (s : State) : Sparing A s (s.ffDropped p) := (csu_ffFault hA s _).ite (csu_shutUnavail hA s none)

end Csu

section Flat

variable {p : Nat} (hp : p < 4)

include hp

/-- Calibration's registers of a port lie in its page. -/
theorem csu_page : ∀ a, a / 0x1000 ∉ shutterPages → a ≠ CSU_EVT ∧ a ≠ CSU_ACTIVE ∧ a ≠ CSU_CNT p ∧ a ≠ CSU_DUE p ∧ a ≠ CSU_STAT p := by
  intro a ha
  simp only [shutterPages, List.mem_cons, List.not_mem_nil, or_false] at ha
  simp only [CSU_EVT, CSU_ACTIVE, CSU_CNT, CSU_DUE, CSU_STAT]
  omega

theorem shutter_ffTrigger (s : State) (prof : Nat) : ShutterOnly s (s.ffTrigger p prof) := by
  have hn : s.get (CSU_SHT_CFG_head p) < 4 := get_lt s (CSU_SHT_CFG_head p)
  have h := shutter_sdrTrigger s hn { prof := prof, trig := p, holder := 0, csu := some p }
  unfold ffTrigger
  generalize s.sdrTrigger _ _ = r at h
  obtain ⟨t, dropped⟩ := r
  exact h.trans ((csu_ffFault (csu_page hp) t _).ite (Apart.refl t))

theorem shutter_ffAbort (s : State) : ShutterOnly s (s.ffAbort p) := by
  have hA := csu_page hp
  unfold ffAbort
  split
  · exact Apart.refl s
  extract_lets t opening atOnce u
  have hu : ShutterOnly s u := (((sparing_bump s (f := CSU_CNT_abort p) fun h => (hA _ h).2.2.1 rfl).trans (apart_setBit _ p (by decide))).trans
    (sparing_setNum _ (a := CSU_DUE p) _ fun h => (hA _ h).2.2.2.1 rfl)).trans (sparing_modCsu t p _)
  refine hu.trans ((csu_ffEnd hA u).ite ?_)
  exact (csu_setFf hA u 4).trans ((shutter_ffTrigger hp _ _).ite (Apart.refl _))

end Flat

/-! ## The fence of a port (R96, R131, R141) -/

theorem fpp_page {p : Nat} (hp : p < 4) : FPP_PWR p / 0x1000 ∈ [4] ∧ FPP_CTL p / 0x1000 ∈ [4] ∧ FPP_STAT p / 0x1000 ∈ [4] ∧ FPP_EVT p / 0x1000 ∈ [4] ∧
    FPP_BIAS_ACT p / 0x1000 ∈ [4] := by
  simp only [FPP_PWR, FPP_CTL, FPP_STAT, FPP_EVT, FPP_BIAS_ACT, List.mem_cons, List.not_mem_nil, or_false]
  omega

theorem apart_portFenceFpp (s : State) {p : Nat} (hp : p < 4) : Apart [4] s (s.portFenceFpp p) := by
  obtain ⟨hpwr, hctl, hstat, hevt, hbias⟩ := fpp_page hp
  unfold portFenceFpp
  extract_lets off late t u v
  have ht : Apart [4] s t := (((apart_clrBit s 0 hpwr).trans (apart_clrBit _ 0 hctl)).trans (apart_clrBit _ 0 hstat)).trans (apart_setBit _ 0 hstat)
  have hv : Apart [4] s v := (ht.trans (apart_setBit t 0 hevt)).trans (apart_modPort u p _)
  exact hv.ite (hv.trans ((((apart_put v 0 hbias).trans (apart_put _ 3 hstat)).trans (apart_clrBit _ 0 hstat)).trans (apart_modPort _ p _)))

/-- Registers in different pages are apart. -/
theorem Apart.regIn {l : List Nat} {s t : State} (h : Apart l s t) {a p : Nat} (ha : a / 0x1000 = p) (hp : p ∉ l) : t.reg a = s.reg a := h.reg a (ha ▸ hp)

theorem psc_sq_page {q : Nat} (hq : q < 4) : PSC_SQ_STAT q / 0x1000 = 3 ∧ PSC_SQ_CAUSE q / 0x1000 = 3 ∧ PSC_EVT / 0x1000 = 3 := by
  refine ⟨?_, ?_, rfl⟩
  · rw [PSC_SQ_STAT]
    omega
  · rw [PSC_SQ_CAUSE]
    omega

/-- What the sequencers' side of a port's fence leaves in the registers: the core FENCED, its record and its event. -/
theorem pscFence_regs (s : State) {q cause pc : Nat} (hq : q < 4) (hc : cause < 65536) : let t := s.pscFence q cause pc
    t.sqState q = 3 ∧ t.num (PSC_SQ_CAUSE q) = pc % 4096 * 65536 + cause ∧ t.bit PSC_EVT_fenced q = true := by
  intro t
  have hne : PSC_SQ_STAT q ≠ PSC_SQ_CAUSE q ∧ PSC_SQ_STAT q ≠ PSC_EVT ∧ PSC_SQ_CAUSE q ≠ PSC_EVT := by
    refine ⟨?_, ?_, ?_⟩ <;> simp only [PSC_SQ_STAT, PSC_SQ_CAUSE, PSC_EVT] <;> omega
  let u := (s.put (PSC_SQ_STAT_state q) 3).hashDrop q
  have hstat : t.reg (PSC_SQ_STAT q) = u.reg (PSC_SQ_STAT q) := (reg_setBit_other _ _ _ hne.2.1).trans (reg_setNum_other _ _ hne.1)
  have hbit : (PSC_SQ_STAT_hashing q).BitIn 0 [PSC_SQ_STAT_hashing q] := by simp [Field.BitIn, Field.Within, PSC_SQ_STAT_hashing]
  refine ⟨?_, ?_, ?_⟩
  · rw [sqState, get_eq_of_reg (f := PSC_SQ_STAT_state q) hstat]
    have hk : u.get (PSC_SQ_STAT_state q) = (s.put (PSC_SQ_STAT_state q) 3).get (PSC_SQ_STAT_state q) :=
      (wrote_clrBit (s.put (PSC_SQ_STAT_state q) 3) hbit).keeps.get (by simp [PSC_SQ_STAT_hashing, PSC_SQ_STAT_state]) (by simp [PSC_SQ_STAT_state])
    rw [hk, get_put_same _ _ _ (by simp [PSC_SQ_STAT_state]) (by simp [PSC_SQ_STAT_state])]
    rfl
  · rw [num, show t.reg (PSC_SQ_CAUSE q) = (u.setNum (PSC_SQ_CAUSE q) (pc % 4096 * 65536 + cause)).reg (PSC_SQ_CAUSE q) from reg_setBit_other _ _ _ hne.2.2]
    exact (num_setNum_same _ _ _).trans (Nat.mod_eq_of_lt (by omega))
  · exact bit_setBit_same _ _ _ (by decide) (by decide) (by show _ + q ≤ _; simp only [PSC_EVT_fenced]; omega)

/-- What a port fence leaves of a port that delivers no frame into memory (R96, R131, R141). -/
structure PortFenced (q cause : Nat) (s t : State) : Prop where
  state : t.sqState q = 3
  record : t.num (PSC_SQ_CAUSE q) = (s.core q).pc % 4096 * 65536 + cause
  event : t.bit PSC_EVT_fenced q = true
  queue : (t.core q).queue = []
  fenced : t.bit (FPP_STAT_fenced q) = true
  live : t.bit (FPP_CTL_live q) = false
  others : ∀ j, j ≠ q → t.core j = s.core j
  now : t.now = s.now
  shdn : t.hk.shdn = s.hk.shdn
  arb : t.arb = s.arb
  last : t.lastFence = s.lastFence

theorem apart_hashDrop (s : State) {q : Nat} (hq : q < 4) : Apart [3] s (s.hashDrop q) :=
  (apart_clrBit s (f := PSC_SQ_STAT_hashing q) 0 (List.mem_singleton.mpr (psc_sq_page hq).1)).trans ⟨rfl, rfl, rfl, rfl, rfl, rfl, rfl, fun _ _ => rfl⟩

/-- The sequencers' side of a port's fence is apart but for the fenced core. -/
theorem pscFence_apart (s : State) {q : Nat} (hq : q < 4) (cause pc : Nat) : ∃ u, Apart [3] s u ∧
    s.pscFence q cause pc = u.modCore q (fun x => { x with queue := [], waiting := none, halting := false }) := by
  obtain ⟨hstat, hcause, hevt⟩ := psc_sq_page hq
  exact ⟨_, (((apart_put s (f := PSC_SQ_STAT_state q) 3 (List.mem_singleton.mpr hstat)).trans (apart_hashDrop _ hq)).trans
    (apart_setNum _ _ (List.mem_singleton.mpr hcause))).trans (apart_setBit _ q (List.mem_singleton.mpr hevt)), rfl⟩

/-- The fields of a port's page that its fence writes after FPP_x_CTL.live, and after FPP_x_STAT.fenced. -/
def fppFenceFields (p : Nat) : List Field :=
  [FPP_STAT_delivering p, FPP_STAT_fenced p, FPP_EVT_fenced p, FPP_BIAS_ACT_code p, FPP_STAT_pwr p, FPP_STAT_ramping p]

def fppDownFields (p : Nat) : List Field := [FPP_EVT_fenced p, FPP_BIAS_ACT_code p, FPP_STAT_pwr p, FPP_STAT_ramping p]

theorem fppFields_within (p : Fin 4) : ((FPP_STAT_delivering p).BitIn 0 (fppFenceFields p) ∧ (FPP_STAT_fenced p).BitIn 0 (fppFenceFields p)) ∧
    (FPP_EVT_fenced p).BitIn 0 (fppDownFields p) ∧ (FPP_BIAS_ACT_code p).Within (fppDownFields p) ∧ (FPP_STAT_pwr p).Within (fppDownFields p) ∧
    (FPP_STAT_ramping p).BitIn 0 (fppDownFields p) := by decide +revert

theorem fppFields_apart (p : Fin 4) : (∀ g ∈ fppDownFields p, ¬ g.Holds (FPP_STAT p) 6) ∧ ∀ g ∈ fppFenceFields p, ¬ g.Holds (FPP_CTL p) 0 := by decide +revert

theorem Keeps.mono {l l' : List Field} {s t : State} (h : Keeps l s t) (hl : l ⊆ l') : Keeps l' s t := fun a j hf => h a j fun f hm => hf f (hl hm)

theorem portFenceFpp_regs (s : State) {p : Nat} (hp : p < 4) : (s.portFenceFpp p).bit (FPP_STAT_fenced p) = true ∧ (s.portFenceFpp p).bit (FPP_CTL_live p) = false := by
  obtain ⟨⟨hdel, hfen⟩, hevt, hbias, hpwr, hramp⟩ := fppFields_within ⟨p, hp⟩
  obtain ⟨hf, hl⟩ := fppFields_apart ⟨p, hp⟩
  let t := (s.clrBit (FPP_PWR_req p)).clrBit (FPP_CTL_live p)
  let u := (t.clrBit (FPP_STAT_delivering p)).setBit (FPP_STAT_fenced p)
  have hport : ∀ (v : State) (f : PortSt → PortSt), Keeps (fppDownFields p) v (v.modPort p f) := fun v f => keeps_of_regs rfl
  have h : Keeps (fppDownFields p) u (s.portFenceFpp p) := by
    have hv := (wrote_setBit u hevt).keeps.trans (hport _ fun x => { x with lvl := x.idle, runs := [], reqPending := false, results := [], intake := [], interp := [] })
    unfold portFenceFpp
    extract_lets off late
    split
    · exact hv
    · exact hv.trans ((((wrote_put _ 0 hbias).trans (wrote_put _ 3 hpwr)).trans (wrote_clrBit _ hramp)).keeps.trans (hport _ _))
  constructor
  · rw [h.bit (f := FPP_STAT_fenced p) (i := 0) hf]
    exact bit_setBit_same _ _ 0 (by simp [FPP_STAT_fenced]) (by simp [FPP_STAT_fenced]) (by simp [FPP_STAT_fenced])
  · have hk : Keeps (fppFenceFields p) t (s.portFenceFpp p) := ((wrote_clrBit t hdel).trans (wrote_setBit _ hfen)).keeps.trans (h.mono (by simp [fppDownFields, fppFenceFields]))
    rw [hk.bit (f := FPP_CTL_live p) (i := 0) hl]
    exact bit_clrBit_same _ _ 0 (by simp [FPP_CTL_live]) (by simp [FPP_CTL_live])

theorem portFence_spec {s : State} {q cause : Nat} (hq : q < 4) (hc : cause < 65536) (hs : s.sqState q ≠ 3) (hn : (s.stream q).writing = false) :
    PortFenced q cause s (s.portFence q cause) := by
  have hf : s.fenceFrame q = s := if_neg (by simp [hn])
  let u := s.pscFence q cause (s.core q).pc
  have he : s.portFence q cause = (((u.portFenceFpp q).ffAbort q).katRestart q).metJudge := by
    rw [portFence, if_neg hs, hf]
  have h1 := apart_portFenceFpp u hq
  have h2 : Apart [8, 15, 0x12] (u.portFenceFpp q) (((u.portFenceFpp q).ffAbort q).katRestart q).metJudge :=
    (((shutter_ffAbort hq (u.portFenceFpp q)).mono (by decide)).trans (apart_modFacetMen _ q _)).trans ((judged_metJudge _).apart.mono (by decide))
  have h3 : Apart [4, 8, 15, 0x12] u (s.portFence q cause) := he ▸ (h1.mono (by decide)).trans (h2.mono (by decide))
  obtain ⟨hstat, hcause, hevt⟩ := psc_sq_page hq
  obtain ⟨hstate, hrec, hbit⟩ := pscFence_regs s (pc := (s.core q).pc) hq hc
  obtain ⟨hfen, hlive⟩ := portFenceFpp_regs u hq
  have hfpp : ∀ a, a / 0x1000 = 4 → (s.portFence q cause).reg a = (u.portFenceFpp q).reg a := fun a ha => he ▸ h2.regIn ha (by decide)
  obtain ⟨-, hpctl, hpstat, -⟩ := fpp_page hq
  obtain ⟨w, hw, hu⟩ := pscFence_apart s hq cause (s.core q).pc
  have hcores : ∀ j, (s.portFence q cause).core j = (w.modCore q (fun x => { x with queue := [], waiting := none, halting := false })).core j :=
    fun j => (h3.core j).trans (congrArg (fun v => State.core v j) hu)
  exact
    { state := (get_eq_of_reg (h3.regIn hstat (by decide))).trans hstate
      record := by rw [num, h3.regIn hcause (by decide)]; exact hrec
      event := (bit_eq_of_reg q (h3.regIn hevt (by decide))).trans hbit
      queue := by rw [hcores, core_modCore_same]
      fenced := (bit_eq_of_reg 0 (hfpp _ (List.mem_singleton.mp hpstat))).trans hfen
      live := (bit_eq_of_reg 0 (hfpp _ (List.mem_singleton.mp hpctl))).trans hlive
      others := fun j hj => by rw [hcores, core_modCore_other _ _ hj, hw.core]
      now := h3.now.trans ((congrArg State.now hu).trans hw.now)
      shdn := h3.shdn.trans ((congrArg (fun v => State.hk v |>.shdn) hu).trans hw.shdn)
      arb := h3.arb.trans ((congrArg State.arb hu).trans hw.arb)
      last := h3.last.trans ((congrArg State.lastFence hu).trans hw.last) }

end State
end Sys2Proof.Machine
end

section
/-! Watchdogs, kicks, forced release and the end of the boot ROM (R39, R91–R97). -/

namespace Sys2Proof.Machine

open R State

/-- What settles does not depend on the cores. -/
theorem follows_withCores {s t : State} (c : List (Nat × CoreSt)) (h : Follows s t) : Follows s { t with cores := c } := h

namespace State

theorem settle_readOn_get (s t : State) (f : Field) : (s.readOn t).settle.get f = t.get f := by
  rw [settle_get]
  exact get_eq_of_reg (readOn_reg s t _)

theorem frame_modCore {s u : State} (h : u = { s with regs := u.regs }) (k : Nat) (g : CoreSt → CoreSt) : u.modCore k g =
    { s with regs := (u.modCore k g).regs, cores := (u.modCore k g).cores, intc := (u.modCore k g).intc, lines := (u.modCore k g).lines } := by
  generalize u.regs = r at h
  subst h
  rfl

/-- Registers and cores alone have changed, and INTC has noted the access. -/
theorem regsOnly_settle_cores {l : List Nat} {s t : State} (hf : t = { s with regs := t.regs, cores := t.cores, intc := t.intc, lines := t.lines })
    (hi : s.intc.Accesses t.intc) (hl : t.lines = s.lines) (hr : ∀ a, a ∉ l → t.reg a = s.reg a) : RegsOnly l s { (s.readOn t).settle with cores := s.cores } := by
  have hn : t.now = s.now := by rw [hf]
  refine ⟨?_, follows_withCores _ (follows_settle_accessed rfl hi hl), fun a ha => ?_⟩
  · rw [settle_frame, readOn_frame]
    generalize (State.settle _).intc = x
    generalize (State.settle _).lines = y
    conv_lhs => rw [hf]
  · show (s.readOn t).settle.reg a = s.reg a
    rw [settle_reg, readOn_reg, hr a ha]

theorem quiet_settle_cores {s t : State} (hf : t = { s with cores := t.cores, intc := t.intc, lines := t.lines })
    (hi : s.intc.Accesses t.intc) (hl : t.lines = s.lines) : Quiet s { (s.readOn t).settle with cores := s.cores } := by
  have hr : t.regs = s.regs := by rw [hf]
  obtain ⟨h1, h2, -⟩ := regsOnly_settle_cores (l := []) (by rw [hr]; exact hf) hi hl fun a _ => reg_eq_of_regs hr a
  refine ⟨?_, h2⟩
  have e : (s.readOn t).settle.regs = s.regs := by rw [settle_regs, readOn_regs, hr]
  rw [show ({ (s.readOn t).settle with cores := s.cores } : State).regs = s.regs from e] at h1
  exact h1

end State

/-- A command that only a running part takes answers its effect, settled, where no shutdown is decided by it. -/
theorem gives_running {i : Instr} {s t : State} {P : State → Prop} {f : State → State} (he : exec i s = act s f) (hn : Normal s) (hf : f s = t)
    (hq : t.hk.shdn = s.hk.shdn) (hp : P (s.readOn t).settle) : Gives i s P := by
  rw [act_running f hn.1, hf] at he
  exact gives_of_quiet he (by rw [readOn_hk, hq]; exact hn.2) hp

section Watchdogs

variable {s : State} (hn : Normal s)

include hn

theorem gives_sqWatchdog {q : Port} (hr : s.sqState q = 2) (hl : s.get (PSC_SQ_WDOG_limit q) ≠ 0) (hc : s.get (PSC_SQ_WDOG_limit q) ≤ (s.core q).wdCnt)
    (hw : (s.stream q).writing = false) : Gives (.sqWatchdogExpiry q) s (fun t =>
      t.sqState q = 3 ∧ t.num (PSC_SQ_CAUSE q) = (s.core q).pc % 4096 * 65536 + 1 ∧ t.bit PSC_EVT_fenced q = true) := by
  have hp : PortFenced q 1 s (s.portFence q 1) := portFence_spec q.isLt (by decide) (by rw [hr]; decide) hw
  have he : s.sqExpired q = true := by simp [sqExpired, hr, hl, hc]
  refine gives_running (f := fun u => u.sqWatchdog q) rfl hn (if_pos he) hp.shdn ⟨?_, ?_, ?_⟩
  · rw [sqState, settle_readOn_get]
    exact hp.state
  · rw [settle_readOn_num]
    exact hp.record
  · rw [settle_readOn_bit]
    exact hp.event

theorem gives_supWatchdogFirst (hl : s.get PSC_SUP_WD_CFG_limit ≠ 0) (hc : s.get PSC_SUP_WD_CFG_limit ≤ (s.core 4).wdCnt) (hf : (s.core 4).wdFirst = false) :
    Gives .supWatchdogFirstStage s (fun t => RegsOnly [PSC_EVT] s { t with cores := s.cores } ∧
      t.reg PSC_EVT = orBit (s.reg PSC_EVT) PSC_EVT_supwd 0 ∧ t.core 4 = { s.core 4 with wdCnt := 0, wdFirst := true } ∧ ∀ j, j ≠ 4 → t.core j = s.core j) := by
  have he : (s.supExpired && !(s.core 4).wdFirst) = true := by simp [supExpired, hl, hc, hf]
  have hu := (wrote_setBit (l := [PSC_EVT_supwd]) s (f := PSC_EVT_supwd) (i := 0) (by decide)).frame
  generalize hv : s.setBit PSC_EVT_supwd = u at hu
  have hreg : ∀ a, a ≠ PSC_EVT → u.reg a = s.reg a := fun a ha => hv ▸ reg_setBit_other s PSC_EVT_supwd 0 ha
  have hcore : u.core 4 = s.core 4 := by rw [hu]; rfl
  refine gives_running (f := fun u => u.supWdFirst) (t := u.modCore 4 (fun x => { x with wdCnt := 0, wdFirst := true })) rfl hn (by rw [← hv]; exact if_pos he)
    (by rw [hu]; rfl) ⟨?_, ?_, ?_, fun j hj => ?_⟩
  · exact regsOnly_settle_cores (frame_modCore hu _ _) (by rw [hu]; exact intc_accesses_refl _) (by rw [hu]; rfl) fun a ha => hreg a (by simpa using ha)
  · rw [settle_readOn_reg]
    exact hv ▸ reg_setBit_same s PSC_EVT_supwd 0 (by decide) (by decide)
  · rw [settle_readOn_core, core_modCore_same, hcore]
  · rw [settle_readOn_core, core_modCore_other _ _ hj, hu]
    rfl

end Watchdogs

/-! ## Writes to the sequencers' registers -/

namespace State

theorem blockWrite_psc (s : State) (pc : Nat) {a : Nat} (h : groupOf a = some 4) (v : W32) : s.blockWrite pc a v = s.writePsc a v := by
  simp only [blockWrite, h]

theorem blockWrite_supWdCfg (s : State) (pc : Nat) (v : W32) : s.blockWrite pc PSC_SUP_WD_CFG v = s.supWdCfg v := by
  rw [blockWrite_psc _ _ (show groupOf PSC_SUP_WD_CFG = some 4 from rfl)]
  simp [writePsc, PSC_SUP_WD_CFG, PSC_FORCE, PSC_OWN, PSC_SUP_CTL]

theorem blockWrite_supWdKick (s : State) (pc : Nat) (v : W32) : s.blockWrite pc PSC_SUP_WD_KICK v = s.supWdKick v := by
  rw [blockWrite_psc _ _ (show groupOf PSC_SUP_WD_KICK = some 4 from rfl)]
  simp [writePsc, PSC_SUP_WD_CFG, PSC_FORCE, PSC_OWN, PSC_SUP_CTL, PSC_SUP_WD_KICK]

theorem blockWrite_supCtl (s : State) (pc : Nat) : s.blockWrite pc PSC_SUP_CTL 0#32 = s.romMapClear := by
  rw [blockWrite_psc _ _ (show groupOf PSC_SUP_CTL = some 4 from rfl)]
  simp [writePsc, PSC_FORCE, PSC_OWN, PSC_SUP_CTL, bitOf]

theorem blockWrite_force (s : State) (pc : Nat) (v : W32) : s.blockWrite pc PSC_FORCE v = s.forcedRelease v := by
  rw [blockWrite_psc _ _ (show groupOf PSC_FORCE = some 4 from rfl)]
  simp [writePsc]

end State

theorem unfrozen_psc : Unfrozen PSC_SUP_WD_KICK ∧ Unfrozen PSC_SUP_WD_CFG ∧ Unfrozen PSC_FORCE ∧ Unfrozen PSC_SUP_CTL :=
  ⟨unfrozen_of_plainReg (by decide), unfrozen_of_plainReg (by decide), unfrozen_of_plainReg (by decide), unfrozen_of_plainReg (by decide)⟩

theorem gives_supWdKick {s : State} {who : Party} {v : W32} (hw : Writes s who PSC_SUP_WD_KICK) : Gives (.supWdKick who v) s (fun t =>
    Quiet s { t with cores := s.cores } ∧ (∀ j, j ≠ 4 → t.core j = s.core j) ∧
      t.core 4 = if v = 0x5A#32 then { s.core 4 with wdCnt := 0, wdFirst := false } else s.core 4) := by
  refine gives_ownerWrite rfl unfrozen_psc.1 hw fun x hx => ?_
  rw [blockWrite_supWdKick, supWdKick]
  split
  · refine ⟨rfl, quiet_settle_cores rfl hx rfl, fun j hj => ?_, ?_⟩
    · rw [settle_readOn_core, core_modCore_other _ _ hj]
      rfl
    · rw [settle_readOn_core, core_modCore_same]
      rfl
  · exact ⟨rfl, quiet_settle_cores rfl hx rfl, fun j _ => by rw [settle_readOn_core]; rfl, by rw [settle_readOn_core]; rfl⟩

namespace State

/-- A field that is written as it reads leaves the register. -/
theorem reg_put_get (s : State) {f : Field} {v : Nat} (h : f.lo ≤ f.hi) (h32 : f.hi < 32) (hv : s.get f = v) (a : Nat) : (s.put f v).reg a = s.reg a := by
  by_cases e : a = f.addr
  · subst e hv
    refine BitVec.eq_of_toNat_eq (Nat.eq_of_testBit_eq fun j => ?_)
    rw [put, reg_setReg_same, withBits_testBit _ _ _ h h32]
    split
    · next hj =>
      rw [State.get, bitsOf_testBit, show f.lo + (j - f.lo) = j by omega, decide_eq_true (by omega), Bool.true_and]
    · rfl
  · exact reg_put_other s f v e

/-- The two fields of PSC_SUP_WD_CFG written. -/
def wdCfgPut (s : State) (l r : Nat) : State := (s.put PSC_SUP_WD_CFG_limit l).put PSC_SUP_WD_CFG_raster r

theorem wdCfgPut_get (s : State) {l r : Nat} (hl : l < 2 ^ 16) (hr : r < 2 ^ 3) :
    (s.wdCfgPut l r).get PSC_SUP_WD_CFG_limit = l ∧ (s.wdCfgPut l r).get PSC_SUP_WD_CFG_raster = r := by
  constructor
  · rw [wdCfgPut, get_put_field _ PSC_SUP_WD_CFG_raster PSC_SUP_WD_CFG_limit r rfl (by decide) (by decide) (by decide) (by decide),
      get_put_same _ _ _ (by decide) (by decide)]
    exact Nat.mod_eq_of_lt hl
  · rw [wdCfgPut, get_put_same _ _ _ (by decide) (by decide)]
    exact Nat.mod_eq_of_lt hr

theorem wdCfgPut_frame (s : State) (l r : Nat) : s.wdCfgPut l r = { s with regs := (s.wdCfgPut l r).regs } := rfl

theorem wdCfgPut_reg_other (s : State) (l r : Nat) {a : Nat} (h : a ≠ PSC_SUP_WD_CFG) : (s.wdCfgPut l r).reg a = s.reg a :=
  (reg_put_other _ PSC_SUP_WD_CFG_raster _ h).trans (reg_put_other _ PSC_SUP_WD_CFG_limit _ h)

/-- The register holds what it held exactly where both fields do. -/
theorem wdCfgPut_num_iff (s : State) {l r : Nat} (hl : l < 2 ^ 16) (hr : r < 2 ^ 3) : (s.wdCfgPut l r).num PSC_SUP_WD_CFG = s.num PSC_SUP_WD_CFG ↔
    l = s.get PSC_SUP_WD_CFG_limit ∧ r = s.get PSC_SUP_WD_CFG_raster := by
  obtain ⟨h1, h2⟩ := wdCfgPut_get s hl hr
  constructor
  · intro h
    have hreg : (s.wdCfgPut l r).reg PSC_SUP_WD_CFG = s.reg PSC_SUP_WD_CFG := BitVec.eq_of_toNat_eq h
    exact ⟨h1.symm.trans (get_eq_of_reg (f := PSC_SUP_WD_CFG_limit) hreg), h2.symm.trans (get_eq_of_reg (f := PSC_SUP_WD_CFG_raster) hreg)⟩
  · rintro ⟨rfl, rfl⟩
    have hp := reg_put_get s (f := PSC_SUP_WD_CFG_limit) (by decide) (by decide) rfl PSC_SUP_WD_CFG
    exact congrArg BitVec.toNat ((reg_put_get _ (by decide) (by decide) (get_eq_of_reg (f := PSC_SUP_WD_CFG_raster) hp) _).trans hp)

theorem supWdCfg_eq (s : State) {v : W32} (hv : bitsOf v 18 16 ≤ 4) : s.supWdCfg v =
    if bitsOf v 15 0 = s.get PSC_SUP_WD_CFG_limit ∧ bitsOf v 18 16 = s.get PSC_SUP_WD_CFG_raster then s
    else (s.wdCfgPut (bitsOf v 15 0) (bitsOf v 18 16)).modCore 4 (fun x => { x with wdCnt := 0 }) := by
  rw [supWdCfg, if_neg (Nat.not_lt.mpr hv)]
  exact if_congr (wdCfgPut_num_iff s (bitsOf_lt v 15 0) (bitsOf_lt v 18 16)) rfl rfl

end State

theorem gives_supWdCfgWrite {s : State} {who : Party} {v : W32} (hw : Writes s who PSC_SUP_WD_CFG) (hv : bitsOf v 18 16 ≤ 4) :
    Gives (.supWdCfgWrite who v) s (fun t => RegsOnly [PSC_SUP_WD_CFG] s { t with cores := s.cores } ∧
      t.get PSC_SUP_WD_CFG_limit = bitsOf v 15 0 ∧ t.get PSC_SUP_WD_CFG_raster = bitsOf v 18 16 ∧
      (t.core 4).wdCnt = if bitsOf v 15 0 = s.get PSC_SUP_WD_CFG_limit ∧ bitsOf v 18 16 = s.get PSC_SUP_WD_CFG_raster then (s.core 4).wdCnt else 0) := by
  refine gives_ownerWrite rfl unfrozen_psc.2.1 hw fun x hx => ?_
  have hl : bitsOf v 15 0 < 2 ^ 16 := bitsOf_lt v 15 0
  have hr : bitsOf v 18 16 < 2 ^ 3 := bitsOf_lt v 18 16
  obtain ⟨hlim, hras⟩ := wdCfgPut_get (s.withIntc x) hl hr
  rw [blockWrite_supWdCfg, supWdCfg_eq _ hv, withIntc_get, withIntc_get]
  have hreg : ∀ a, a ∉ [PSC_SUP_WD_CFG] → ((s.withIntc x).wdCfgPut (bitsOf v 15 0) (bitsOf v 18 16)).reg a = s.reg a :=
    fun a ha => wdCfgPut_reg_other (s.withIntc x) _ _ (by simpa using ha)
  have hf := wdCfgPut_frame (s.withIntc x) (bitsOf v 15 0) (bitsOf v 18 16)
  generalize (s.withIntc x).wdCfgPut (bitsOf v 15 0) (bitsOf v 18 16) = u at hlim hras hreg hf
  generalize u.regs = r at hf
  subst hf
  by_cases hs : bitsOf v 15 0 = s.get PSC_SUP_WD_CFG_limit ∧ bitsOf v 18 16 = s.get PSC_SUP_WD_CFG_raster
  · rw [if_pos hs]
    refine ⟨rfl, regsOnly_settle_cores rfl hx rfl fun _ _ => rfl, ?_, ?_, ?_⟩
    · rw [settle_readOn_get]
      exact hs.1.symm
    · rw [settle_readOn_get]
      exact hs.2.symm
    · rw [settle_readOn_core, if_pos hs]
      rfl
  · rw [if_neg hs]
    refine ⟨setCore_hk _ _ _, regsOnly_settle_cores rfl hx rfl hreg, ?_, ?_, ?_⟩
    · rw [settle_readOn_get]
      exact hlim
    · rw [settle_readOn_get]
      exact hras
    · rw [settle_readOn_core, core_modCore_same, if_neg hs]

/-- The end of the boot ROM by its effects: two register bits and SUP's fresh start. -/
theorem romMapClear_eq {s : State} (h : s.bit PSC_SUP_CTL_rom_map = true) : ∃ u, Wrote [PSC_SUP_CTL_rom_map, PSC_SUP_STAT_rom] s u ∧
    u.bit PSC_SUP_CTL_rom_map = false ∧ u.bit PSC_SUP_STAT_rom = false ∧
    s.romMapClear = u.modCore 4 (fun x => freshCore x (s.get PSC_SUP_ENTRY_entry) x.readyAt) := by
  refine ⟨_, (wrote_clrBit s (f := PSC_SUP_CTL_rom_map) (i := 0) (by decide)).trans (wrote_clrBit _ (f := PSC_SUP_STAT_rom) (i := 0) (by decide)), ?_, ?_, if_pos h⟩
  · rw [bit_eq_of_reg (f := PSC_SUP_CTL_rom_map) 0 (reg_clrBit_other _ _ _ (by decide))]
    exact bit_clrBit_same _ _ _ (by decide) (by decide)
  · exact bit_clrBit_same _ _ _ (by decide) (by decide)

theorem gives_romMapClear {s : State} {who : Party} (hw : Writes s who PSC_SUP_CTL) (hr : s.bit PSC_SUP_CTL_rom_map = true) : Gives (.romMapClear who) s (fun t =>
    RegsOnly [PSC_SUP_CTL, PSC_SUP_STAT] s { t with cores := s.cores } ∧ t.bit PSC_SUP_CTL_rom_map = false ∧ t.bit PSC_SUP_STAT_rom = false ∧
      t.core 4 = { s.core 4 with pc := s.get PSC_SUP_ENTRY_entry, w := [], l := [], z := false, n := false, c := false, v := false, waiting := none, halting := false } ∧
      ∀ j, j ≠ 4 → t.core j = s.core j) := by
  refine gives_ownerWrite rfl unfrozen_psc.2.2.2 hw fun x hx => ?_
  obtain ⟨u, hwr, hmap, hrom, hu⟩ := romMapClear_eq (s := s.withIntc x) hr
  rw [blockWrite_supCtl, hu]
  have hf := hwr.frame
  have hreg : ∀ a, a ∉ [PSC_SUP_CTL, PSC_SUP_STAT] → u.reg a = s.reg a := fun a ha => hwr.keeps.reg (by
    simpa [PSC_SUP_CTL_rom_map, PSC_SUP_STAT_rom, eq_comm] using ha)
  generalize u.regs = r at hf
  subst hf
  refine ⟨setCore_hk _ _ _, regsOnly_settle_cores rfl hx rfl hreg, ?_, ?_, ?_, fun j hj => ?_⟩
  · rw [settle_readOn_bit]
    exact hmap
  · rw [settle_readOn_bit]
    exact hrom
  · rw [settle_readOn_core, core_modCore_same]
    rfl
  · rw [settle_readOn_core, core_modCore_other _ _ hj]
    rfl

end Sys2Proof.Machine
end

section
/-! Forced release and the reset of SUP alone: semaphores, the peripheral port's unit, selects (R39, R92, R93, R97, R474). -/

namespace Sys2Proof.Machine

open R State

namespace State

/-! ## Semaphores -/

/-- Core `k` holds semaphore `n`. -/
def semHeld (s : State) (k n : Nat) : Bool := s.bit (PSC_SEM_busy n) && s.get (PSC_SEM_holder n) == coreCode k

theorem semHeld_of_reg {s t : State} (k : Nat) {n : Nat} (h : t.reg (PSC_SEM n) = s.reg (PSC_SEM n)) : t.semHeld k n = s.semHeld k n := by
  rw [semHeld, semHeld, bit_eq_of_reg (f := PSC_SEM_busy n) 0 h, get_eq_of_reg (f := PSC_SEM_holder n) h]

theorem sem_ne {n m : Nat} (h : n ≠ m) : PSC_SEM n ≠ PSC_SEM m := by
  simp only [PSC_SEM]
  omega

theorem sem_ne_busy (n : Nat) : PSC_SEM n ≠ PSC_SEM_BUSY := by
  simp only [PSC_SEM, PSC_SEM_BUSY]
  omega

theorem semRelease_eq (s : State) (k n : Nat) : s.semRelease k n =
    if s.semHeld k n = true then (s.setNum (PSC_SEM n) 0).clrBit ⟨PSC_SEM_BUSY, 31, 0⟩ n else s := rfl

theorem semRelease_frame (s : State) (k n : Nat) : s.semRelease k n = { s with regs := (s.semRelease k n).regs } := by
  unfold semRelease
  split
  · exact (wrBit_frame (s.setNum (PSC_SEM n) 0) ⟨PSC_SEM_BUSY, 31, 0⟩ n false).trans rfl
  · rfl

/-- A release of semaphore `m` for core `k` clears its word where the core holds it, and leaves every other. -/
theorem semRelease_sem (s : State) (k m n : Nat) :
    (s.semRelease k m).reg (PSC_SEM n) = if n = m ∧ s.semHeld k n = true then 0#32 else s.reg (PSC_SEM n) := by
  by_cases hm : s.semHeld k m = true
  · rw [semRelease_eq, if_pos hm, reg_clrBit_other _ _ _ (sem_ne_busy n)]
    by_cases e : n = m
    · subst e
      rw [if_pos ⟨rfl, hm⟩]
      exact reg_setReg_same _ _ _
    · rw [if_neg (fun h => e h.1), reg_setNum_other _ _ (sem_ne e)]
  · rw [semRelease_eq, if_neg hm, if_neg]
    rintro ⟨rfl, h⟩
    exact hm h

/-- After the release the core holds what it held but for that semaphore. -/
theorem semHeld_semRelease (s : State) (k m n : Nat) : (s.semRelease k m).semHeld k n = (s.semHeld k n && !decide (n = m)) := by
  have h := semRelease_sem s k m n
  by_cases e : n = m ∧ s.semHeld k n = true
  · rw [if_pos e] at h
    have hb : (s.semRelease k m).bit (PSC_SEM_busy n) = false := by simp [State.bit, State.get, PSC_SEM_busy, h, bitsOf]
    rw [semHeld, hb]
    simp [e.1]
  · rw [if_neg e] at h
    rw [semHeld_of_reg k h]
    by_cases hn : n = m
    · simpa [hn] using e
    · simp [hn]

theorem semRelease_reg_other (s : State) (k m : Nat) {a : Nat} (h : a ≠ PSC_SEM m) (hb : a ≠ PSC_SEM_BUSY) : (s.semRelease k m).reg a = s.reg a := by
  unfold semRelease
  split
  · rw [reg_clrBit_other _ _ _ hb, reg_setNum_other _ _ h]
  · rfl

/-- Releases of the semaphores of a list for core `k`. -/
def releaseAll (s : State) (k : Nat) (l : List Nat) : State := l.foldl (fun s n => s.semRelease k n) s

theorem releaseAll_frame (k : Nat) (l : List Nat) : ∀ s : State, s.releaseAll k l = { s with regs := (s.releaseAll k l).regs } := by
  induction l with
  | nil => exact fun _ => rfl
  | cons m l ih =>
    intro s
    have h := ih (s.semRelease k m)
    have h0 := semRelease_frame s k m
    generalize (s.semRelease k m).regs = r at h0
    show (s.semRelease k m).releaseAll k l = { s with regs := ((s.semRelease k m).releaseAll k l).regs }
    rw [h0] at h ⊢
    exact h

theorem releaseAll_sem (k n : Nat) (l : List Nat) : ∀ s : State,
    (s.releaseAll k l).reg (PSC_SEM n) = if n ∈ l ∧ s.semHeld k n = true then 0#32 else s.reg (PSC_SEM n) := by
  induction l with
  | nil => simp [releaseAll]
  | cons m l ih =>
    intro s
    refine (ih (s.semRelease k m)).trans ?_
    rw [semHeld_semRelease, semRelease_sem]
    by_cases e : n = m <;> by_cases h : s.semHeld k n = true <;> simp [e, h]

theorem releaseAll_reg_other (k : Nat) {a : Nat} (hb : a ≠ PSC_SEM_BUSY) (l : List Nat) (h : ∀ n ∈ l, a ≠ PSC_SEM n) : ∀ s : State, (s.releaseAll k l).reg a = s.reg a := by
  induction l with
  | nil => exact fun _ => rfl
  | cons m l ih =>
    intro s
    exact (ih (fun n hn => h n (List.mem_cons_of_mem _ hn)) _).trans (semRelease_reg_other s k m (h m List.mem_cons_self) hb)

/-! ## The peripheral port's unit and the selects -/

theorem ppAbort_of_none {s : State} (h : s.sio.ppUnit = none) (k : Nat) : s.ppAbort k = (s, false) := by
  rw [ppAbort, h]

theorem ppAbort_of_unit {s : State} {u : PpUnit} {k : Nat} (h : s.sio.ppUnit = some u) (hk : u.core = k) :
    s.ppAbort k = (((s.ppIdle.modCore k (fun x => { x with ppAborted := true })).bump PPORT_CNT_aborted).setBit SIO_EVT_abort, true) := by
  rw [ppAbort, h]
  exact if_pos hk

/-- `t` is `s` but for core `k`, the peripheral port and GPIO. -/
structure PortsOnly (k : Nat) (s t : State) : Prop where
  frame : t = { s with regs := t.regs, cores := t.cores, sio := t.sio }
  cores : ∀ j, j ≠ k → t.core j = s.core j
  reg : ∀ a, a / 0x1000 ≠ 0x10 → t.reg a = s.reg a

theorem PortsOnly.trans {k : Nat} {s t u : State} (h : PortsOnly k s t) (h' : PortsOnly k t u) : PortsOnly k s u :=
  ⟨by conv_lhs => rw [h'.frame, h.frame], fun j hj => (h'.cores j hj).trans (h.cores j hj), fun a ha => (h'.reg a ha).trans (h.reg a ha)⟩

theorem Wrote.portsOnly {l : List Field} {s t : State} (h : Wrote l s t) (hp : ∀ f ∈ l, f.addr / 0x1000 = 0x10) (k : Nat) : PortsOnly k s t := by
  have hr : ∀ a, a / 0x1000 ≠ 0x10 → t.reg a = s.reg a := fun a ha => h.keeps.reg fun f hf e => ha (e ▸ hp f hf)
  have hf := h.frame
  generalize t.regs = r at hf
  subst hf
  exact ⟨rfl, fun _ _ => rfl, hr⟩

theorem portsOnly_modSio (s : State) (f : SioSt → SioSt) (k : Nat) : PortsOnly k s (s.modSio f) := ⟨rfl, fun _ _ => rfl, fun _ _ => rfl⟩

theorem portsOnly_modCore (s : State) (k : Nat) (f : CoreSt → CoreSt) : PortsOnly k s (s.modCore k f) := ⟨rfl, fun _ hj => core_modCore_other _ _ hj, fun _ _ => rfl⟩

/-- The fields that an aborted unit writes. -/
def ppFields : List Field := [PPORT_STAT_busy, PPORT_STAT_holder, PPORT_CNT_aborted, SIO_EVT_abort]

theorem ppFields_page : ∀ f ∈ ppFields, f.addr / 0x1000 = 0x10 := by decide

theorem portsOnly_ppAbort (s : State) (k : Nat) : PortsOnly k s (s.ppAbort k).1 := by
  have hw : ∀ {u v : State}, Wrote ppFields u v → PortsOnly k u v := fun h => h.portsOnly ppFields_page k
  unfold ppAbort
  split
  · split
    · have hi : PortsOnly k s s.ppIdle :=
        (hw ((wrote_clrBit s (f := PPORT_STAT_busy) (i := 0) (by decide)).trans (wrote_put _ (f := PPORT_STAT_holder) 0 (by decide)))).trans (portsOnly_modSio _ _ k)
      exact (hi.trans (portsOnly_modCore _ k _)).trans
        (hw ((wrote_bump _ (f := PPORT_CNT_aborted) (by decide)).trans (wrote_setBit _ (f := SIO_EVT_abort) (i := 0) (by decide))))
    · exact ⟨rfl, fun _ _ => rfl, fun _ _ => rfl⟩
  · exact ⟨rfl, fun _ _ => rfl, fun _ _ => rfl⟩

theorem ppAbort_unit {s : State} {u : PpUnit} {k : Nat} (h : s.sio.ppUnit = some u) (hk : u.core = k) : (s.ppAbort k).1.sio.ppUnit = none ∧
    ((s.ppAbort k).1.core k).ppAborted = true ∧ (s.ppAbort k).1.bit SIO_EVT_abort = true := by
  rw [ppAbort_of_unit h hk]
  refine ⟨?_, ?_, bit_setBit_same _ _ _ (by decide) (by decide) (by decide)⟩
  · rw [setBit_sio, bump_sio]
    rfl
  · show (State.core _ k).ppAborted = true
    rw [State.core, setBit_cores, bump_cores, ← State.core, core_modCore_same]

/-- The selects of a core go to their idle levels, and nothing else changes. -/
theorem idleSelects_eq (s : State) (k : Nat) : ∃ w, s.idleSelects k = s.modSio (fun x => { x with sel := w }) := by
  unfold idleSelects
  generalize s.activeSelects k = l
  have h : ∀ (l : List Nat) (u : State), (∃ w, u = s.modSio (fun x => { x with sel := w })) → ∃ w,
      l.foldl (fun s n => s.modSio (fun x => { x with sel := BitVec.ofNat 32 (setLevels x.sel.toNat (2 ^ n) (s.bit (GPIO_FUN_idle n))) })) u =
        s.modSio (fun x => { x with sel := w }) := by
    intro l
    induction l with
    | nil => exact fun _ h => h
    | cons n l ih =>
      rintro _ ⟨w, rfl⟩
      exact ih _ ⟨_, rfl⟩
  exact h l s ⟨s.sio.sel, rfl⟩

/-! ## The forced release -/

/-- Steps that each write fields of a list. -/
theorem wrote_foldl {α : Type} {l : List Field} (f : State → α → State) (xs : List α) (h : ∀ s x, Wrote l s (f s x)) : ∀ s, Wrote l s (xs.foldl f s) := by
  induction xs with
  | nil => exact Wrote.refl l
  | cons x xs ih => exact fun s => (h s x).trans (ih _)

theorem coreCode_port (q : Port) : coreCode q = 4 + q.val := if_pos q.isLt

/-- The semaphores that a forced release of core `q` frees. -/
def heldSems (s : State) (q : Nat) : List Nat := (List.range 32).filter (s.semHeld q)

/-- The resources that are counted as released, one by one. -/
def countReleases (s : State) (b : Bool) (l : List Nat) : State := l.foldl (fun s _ => s.countForced true) (s.countForced b)

theorem wrote_countForced (s : State) (b : Bool) : Wrote [⟨PSC_FORCE_CNT, 15, 0⟩] s (s.countForced b) := (wrote_bump s (by decide)).ite (Wrote.refl _ s)

theorem wrote_countReleases (s : State) (b : Bool) (l : List Nat) : Wrote [⟨PSC_FORCE_CNT, 15, 0⟩] s (s.countReleases b l) :=
  (wrote_countForced s b).trans (wrote_foldl _ l (fun u _ => wrote_countForced u true) _)

/-- Where nothing else was released, the count goes up by one for each semaphore, to its greatest value at most (R36). -/
theorem countReleases_get (s : State) (l : List Nat) : (s.countReleases false l).get ⟨PSC_FORCE_CNT, 15, 0⟩ = min 65535 (s.get ⟨PSC_FORCE_CNT, 15, 0⟩ + l.length) := by
  have hl : ∀ (l : List Nat) (u : State), (l.foldl (fun s _ => s.countForced true) u).get ⟨PSC_FORCE_CNT, 15, 0⟩ = min 65535 (u.get ⟨PSC_FORCE_CNT, 15, 0⟩ + l.length) := by
    intro l
    induction l with
    | nil =>
      intro u
      have := get_lt u ⟨PSC_FORCE_CNT, 15, 0⟩
      simp only [List.foldl_nil, List.length_nil, Nat.add_zero] at this ⊢
      omega
    | cons n l ih =>
      intro u
      have hb : (u.countForced true).get ⟨PSC_FORCE_CNT, 15, 0⟩ = min 65535 (u.get ⟨PSC_FORCE_CNT, 15, 0⟩ + 1) := get_bump_same u _ (by decide) (by decide)
      rw [List.foldl_cons, ih, hb, List.length_cons]
      omega
  exact hl l s

/-- A forced release of a FENCED core, step by step. -/
theorem forcedRelease_eq {s : State} {q : Port} {v : W32} (hv : v.toNat % 8 = 4 + q.val) (hs : s.sqState q = 3) : s.forcedRelease v =
    (((s.ppAbort q).1.idleSelects q).releaseAll q (s.heldSems q)).countReleases ((s.ppAbort q).2 || !((s.ppAbort q).1.activeSelects q).isEmpty) (s.heldSems q) := by
  have hc : bitsOf v 2 0 = 4 + q.val := by simpa [bitsOf] using hv
  have hheld : (List.range 32).filter (fun n => (s.ppAbort q).1.bit (PSC_SEM_busy n) && (s.ppAbort q).1.get (PSC_SEM_holder n) == 4 + q.val) = s.heldSems q := by
    refine List.filter_congr fun n hn => ?_
    rw [List.mem_range] at hn
    have hr : (s.ppAbort q).1.reg (PSC_SEM n) = s.reg (PSC_SEM n) := (portsOnly_ppAbort s q).reg _ (by simp only [PSC_SEM]; omega)
    rw [← coreCode_port q, ← semHeld, semHeld_of_reg _ hr]
  rw [forcedRelease, hc, if_neg (by omega), Nat.add_sub_cancel_left]
  dsimp only
  rw [hs, if_neg (by decide), hheld]
  rfl

theorem forcedRelease_unfenced {s : State} {q : Port} {v : W32} (hv : v.toNat % 8 = 4 + q.val) (hs : s.sqState q ≠ 3) : s.forcedRelease v = s := by
  have hc : bitsOf v 2 0 = 4 + q.val := by simpa [bitsOf] using hv
  rw [forcedRelease, hc, if_neg (by omega), Nat.add_sub_cancel_left]
  exact if_pos (by simpa using hs)

theorem mem_heldSems {s : State} {q n : Nat} : n ∈ s.heldSems q ↔ n < 32 ∧ s.semHeld q n = true := by simp [heldSems]

/-- The selects go idle and the semaphores are freed: the ports' other contents, the cores and the other registers stay. -/
theorem release_keeps (s : State) (q : Nat) (l : List Nat) : let t := (s.idleSelects q).releaseAll q l
    t.hk = s.hk ∧ t.cores = s.cores ∧ t.sio.ppUnit = s.sio.ppUnit ∧ (∀ a, a ≠ PSC_SEM_BUSY → (∀ n ∈ l, a ≠ PSC_SEM n) → t.reg a = s.reg a) ∧
      ∀ n, t.reg (PSC_SEM n) = if n ∈ l ∧ s.semHeld q n = true then 0#32 else s.reg (PSC_SEM n) := by
  intro t
  obtain ⟨w, hw⟩ := idleSelects_eq s q
  have hr : t = { (s.modSio fun x => { x with sel := w }) with regs := t.regs } := hw ▸ releaseAll_frame q l (s.idleSelects q)
  refine ⟨by rw [hr]; rfl, by rw [hr]; rfl, by rw [hr]; rfl, fun a hb ha => ?_, fun n => ?_⟩
  · exact (releaseAll_reg_other q hb l ha _).trans (by rw [hw]; rfl)
  · refine (releaseAll_sem q n l _).trans ?_
    rw [hw]
    rfl

/-- What a forced release of a FENCED core leaves. -/
theorem forcedRelease_spec {s : State} {q : Port} {v : W32} (hv : v.toNat % 8 = 4 + q.val) (hs : s.sqState q = 3) : let t := s.forcedRelease v
    t.hk = s.hk ∧ (∀ n, n < 32 → t.reg (PSC_SEM n) = if s.semHeld q n = true then 0#32 else s.reg (PSC_SEM n)) ∧
      (∀ u, s.sio.ppUnit = some u → u.core = q.val → t.sio.ppUnit = none ∧ (t.core q).ppAborted = true ∧ t.bit SIO_EVT_abort = true) ∧
      (s.sio.ppUnit = none → s.activeSelects q = [] → t.get ⟨PSC_FORCE_CNT, 15, 0⟩ = min 65535 (s.get ⟨PSC_FORCE_CNT, 15, 0⟩ + (s.heldSems q).length)) := by
  intro t
  have ht : t = _ := forcedRelease_eq hv hs
  have hp := portsOnly_ppAbort s q
  obtain ⟨hhk, hcores, hunit, hreg, hsem⟩ := release_keeps (s.ppAbort q).1 q (s.heldSems q)
  have hc := wrote_countReleases (((s.ppAbort q).1.idleSelects q).releaseAll q (s.heldSems q)) ((s.ppAbort q).2 || !((s.ppAbort q).1.activeSelects q).isEmpty)
    (s.heldSems q)
  rw [← ht] at hc
  have hne : ∀ n, n < 32 → PSC_SEM n / 0x1000 ≠ 0x10 ∧ PSC_FORCE_CNT ≠ PSC_SEM n := fun n hn => by
    simp only [PSC_SEM, PSC_FORCE_CNT]
    omega
  refine ⟨?_, fun n hn => ?_, fun u hu hk => ?_, fun hu ha => ?_⟩
  · rw [hc.hk, hhk, hp.frame]
  · obtain ⟨h1, h2⟩ := hne n hn
    have h := hp.reg _ h1
    rw [hc.keeps.reg (by simpa using h2), hsem, semHeld_of_reg _ h, h]
    simp [mem_heldSems, hn]
  · obtain ⟨hnone, hab, hevt⟩ := ppAbort_unit hu hk
    have hf := hc.frame
    refine ⟨?_, ?_, ?_⟩
    · rw [hf]
      exact hunit.trans hnone
    · rw [hf]
      exact (congrArg (fun c => (Map.get (fun _ => ({} : CoreSt)) c q).ppAborted) hcores).trans hab
    · rw [bit_eq_of_reg (f := SIO_EVT_abort) 0 (hc.keeps.reg (by decide)), bit_eq_of_reg (f := SIO_EVT_abort) 0 (hreg _ (by decide) fun n hn => ?_)]
      · exact hevt
      · have := (mem_heldSems.mp hn).1
        simp only [SIO_EVT_abort, SIO_EVT, PSC_SEM]
        omega
  · rw [ppAbort_of_none hu] at hreg hc ht
    simp only [ha, List.isEmpty_nil, Bool.not_true, Bool.or_false] at ht
    rw [ht, countReleases_get, get_eq_of_reg (f := ⟨PSC_FORCE_CNT, 15, 0⟩) (hreg _ (by decide) fun n hn => (hne n (mem_heldSems.mp hn).1).2)]

end State

/-- A state that INTC's records of an access alone differ in settles quietly. -/
theorem quiet_settle_withIntc {s : State} {x : IntcSt} (hx : s.intc.Accesses x) : Quiet s (s.readOn (s.withIntc x)).settle :=
  ⟨by rw [settle_frame, readOn_frame]; rfl, follows_settle_accessed rfl hx rfl⟩

theorem gives_forcedRelease {s : State} {who : Party} {q : Port} {v : W32} (hw : Writes s who PSC_FORCE) (hv : v.toNat % 8 = 4 + q.val) :
    let held := fun (n : Nat) => s.bit (PSC_SEM_busy n) && (s.get (PSC_SEM_holder n) == 4 + q.val)
    (s.sqState q ≠ 3 → Gives (.forcedRelease who v) s (Quiet s)) ∧
    (s.sqState q = 3 → Gives (.forcedRelease who v) s (fun t =>
      (∀ n, n < 32 → t.bit (PSC_SEM_busy n) = (s.bit (PSC_SEM_busy n) && !held n)) ∧ (∀ n, n < 32 → held n = false → t.reg (PSC_SEM n) = s.reg (PSC_SEM n)) ∧
      (∀ u, s.sio.ppUnit = some u → u.core = q.val → t.sio.ppUnit = none ∧ (t.core q).ppAborted = true ∧ t.bit SIO_EVT_abort = true) ∧
      (s.sio.ppUnit = none → s.activeSelects q = [] →
        t.get ⟨PSC_FORCE_CNT, 15, 0⟩ = min 65535 (s.get ⟨PSC_FORCE_CNT, 15, 0⟩ + ((List.range 32).filter held).length)))) := by
  intro held
  have hheld : held = s.semHeld q := funext fun n => by rw [semHeld, coreCode_port]
  refine ⟨fun hs => gives_ownerWrite rfl unfrozen_psc.2.2.1 hw fun x hx => ?_, fun hs => gives_ownerWrite rfl unfrozen_psc.2.2.1 hw fun x hx => ?_⟩
  · rw [blockWrite_force, forcedRelease_unfenced (s := s.withIntc x) hv hs]
    exact ⟨rfl, quiet_settle_withIntc hx⟩
  · obtain ⟨hhk, hsem, hunit, hcnt⟩ := forcedRelease_spec (s := s.withIntc x) hv hs
    rw [blockWrite_force]
    refine ⟨hhk, fun n hn => ?_, fun n hn hf => ?_, fun u hu hk => ?_, fun hu ha => ?_⟩
    · rw [settle_readOn_bit, hheld]
      have h := hsem n hn
      cases hh : s.semHeld q n with
      | true =>
        rw [if_pos (show (s.withIntc x).semHeld q n = true from hh)] at h
        simp [State.bit, State.get, PSC_SEM_busy, h, bitsOf]
      | false =>
        rw [if_neg (show ¬ (s.withIntc x).semHeld q n = true from fun e => absurd (hh.symm.trans e) (by decide))] at h
        rw [Bool.not_false, Bool.and_true]
        exact bit_eq_of_reg (f := PSC_SEM_busy n) 0 h
    · rw [settle_readOn_reg, hsem n hn, if_neg]
      · rfl
      · rw [hheld] at hf
        exact fun h => absurd (h.symm.trans hf) (by decide)
    · obtain ⟨h1, h2, h3⟩ := hunit u hu hk
      rw [settle_readOn_core, settle_readOn_bit]
      exact ⟨by rw [settle_sio, readOn_sio]; exact h1, h2, h3⟩
    · rw [settle_readOn_get, hheld]
      exact hcnt hu ha

end Sys2Proof.Machine
end

section
/-! The reset of SUP alone, and the causes of resets (R95, R474). -/

namespace Sys2Proof.Machine

open R State

namespace State

/-! ## The causes of resets -/

/-- The register of causes, as one field. -/
abbrev causeField : Field := ⟨SCA_RST_CAUSE, 31, 0⟩

theorem bit_eq_testBit (s : State) (f : Field) (i : Nat) : s.bit f i = (s.get f).testBit i := by
  rw [Nat.testBit_eq_decide_div_mod_eq]
  rfl

theorem bit_setBit_cause (s : State) (i : Nat) {b : Nat} (hb : b < 32) : (s.setBit causeField i).bit causeField b = (s.bit causeField b || b == i) := by
  by_cases e : b = i
  · subst e
    rw [bit_setBit_same s causeField b (by decide) (by decide) (by show 0 + b ≤ 31; omega), beq_self_eq_true, Bool.or_true]
  · rw [beq_eq_false_iff_ne.mpr e, Bool.or_false]
    by_cases hi : i < 32
    · refine (keeps_setBit (l := [causeField.bitField i]) s ⟨Nat.le_refl _, by show 0 + i < 32; omega, _, List.mem_singleton.mpr rfl, rfl, Nat.le_refl _, Nat.le_refl _⟩
        (by show 0 + i ≤ 31; omega) (by decide)).bit fun g hg hh => ?_
      rw [List.mem_singleton.mp hg] at hh
      obtain ⟨-, h1, h2⟩ := hh
      exact e (by simp only [Nat.zero_add] at h1 h2; omega)
    · unfold setBit
      split
      · rfl
      · rw [bit_eq_testBit, bit_eq_testBit, get_put_same _ _ _ (by decide) (by decide), Nat.testBit_mod_two_pow, decide_eq_true (by exact hb), Bool.true_and, Nat.add_comm]
        exact Nat.testBit_two_pow_add_gt (by omega) _

/-- The bits that a list of causes sets. -/
theorem bit_foldl_cause {b : Nat} (hb : b < 32) (l : List Nat) : ∀ s : State,
    (l.foldl (fun s c => s.setBit causeField c) s).bit causeField b = (s.bit causeField b || l.contains b) := by
  induction l with
  | nil => simp
  | cons c l ih =>
    intro s
    rw [List.foldl_cons, ih, bit_setBit_cause s c hb, List.contains_cons, Bool.or_assoc]

theorem wrote_foldl_cause (l : List Nat) (s : State) : Wrote [causeField] s (l.foldl (fun s c => s.setBit causeField c) s) :=
  wrote_foldl _ l (fun u _ => (Wrote.refl _ u).ite (wrote_put u _ (by decide))) s

theorem latchCause_eq (s : State) (cause : Nat) : s.latchCause cause =
    ((cause :: s.tickCauses).foldl (fun s c => s.setBit causeField c) s).modSca (fun x => { x with resetAt := some (s.now, cause :: s.tickCauses) }) := rfl

/-- A reset's causes are latched, with those of the resets of its tick. -/
theorem latchCause_bit (s : State) (cause : Nat) {b : Nat} (hb : b < 32) :
    (s.latchCause cause).bit causeField b = (s.bit causeField b || (b == cause || s.tickCauses.contains b)) := by
  rw [← List.contains_cons]
  exact bit_foldl_cause hb (cause :: s.tickCauses) s

theorem latchCause_frame (s : State) (cause : Nat) : s.latchCause cause = { s with regs := (s.latchCause cause).regs, sca := (s.latchCause cause).sca } := by
  have h := (wrote_foldl_cause (cause :: s.tickCauses) s).frame
  rw [latchCause_eq]
  generalize List.foldl _ s (cause :: s.tickCauses) = u at h
  generalize u.regs = r at h
  subst h
  rfl

theorem latchCause_reg_other (s : State) (cause : Nat) {a : Nat} (h : a ≠ SCA_RST_CAUSE) : (s.latchCause cause).reg a = s.reg a :=
  (wrote_foldl_cause (cause :: s.tickCauses) s).keeps.reg (by simpa using h.symm)

/-! ## The reset of SUP -/

/-- `t` is `s` but for the cores, the serial ports, the interrupt controller, the supplies' records and registers outside those of the sequencer cores. -/
structure SupOnly (s t : State) : Prop where
  frame : t = { s with regs := t.regs, cores := t.cores, sio := t.sio, intc := t.intc, sca := t.sca }
  reg : ∀ a, 0x3200 ≤ a → a < 0x3300 → t.reg a = s.reg a

theorem SupOnly.refl (s : State) : SupOnly s s := ⟨rfl, fun _ _ _ => rfl⟩

theorem SupOnly.trans {s t u : State} (h : SupOnly s t) (k : SupOnly t u) : SupOnly s u :=
  ⟨by conv_lhs => rw [k.frame, h.frame], fun a h1 h2 => (k.reg a h1 h2).trans (h.reg a h1 h2)⟩

theorem supOnly_foldl {α : Type} (f : State → α → State) (l : List α) (h : ∀ s, ∀ x ∈ l, SupOnly s (f s x)) : ∀ s, SupOnly s (l.foldl f s) := by
  induction l with
  | nil => exact SupOnly.refl
  | cons x l ih => exact fun s => (h s x List.mem_cons_self).trans (ih (fun s y hy => h s y (List.mem_cons_of_mem x hy)) _)

theorem PortsOnly.supOnly {k : Nat} {s t : State} (h : PortsOnly k s t) : SupOnly s t :=
  ⟨by conv_lhs => rw [h.frame]
      rw [show t.intc = s.intc by rw [h.frame], show t.sca = s.sca by rw [h.frame]], fun a h1 h2 => h.reg a (by omega)⟩

theorem supOnly_modSio (s : State) (f : SioSt → SioSt) : SupOnly s (s.modSio f) := ⟨rfl, fun _ _ _ => rfl⟩

theorem supOnly_setReg (s : State) {a : Nat} (v : W32) (h : a < 0x3200 ∨ 0x3300 ≤ a) : SupOnly s (s.setReg a v) :=
  ⟨rfl, fun b h1 h2 => reg_setReg_other s v (by omega)⟩

theorem supOnly_setBit (s : State) {f : Field} (i : Nat) (h : f.addr < 0x3200 ∨ 0x3300 ≤ f.addr) : SupOnly s (s.setBit f i) := by
  unfold setBit
  split
  · exact SupOnly.refl s
  · exact supOnly_setReg s _ h

theorem supOnly_clrBit (s : State) {f : Field} (i : Nat) (h : f.addr < 0x3200 ∨ 0x3300 ≤ f.addr) : SupOnly s (s.clrBit f i) := by
  unfold clrBit
  split
  · exact supOnly_setReg s _ h
  · exact SupOnly.refl s

theorem supOnly_modCore (s : State) (k : Nat) (f : CoreSt → CoreSt) : SupOnly s (s.modCore k f) := ⟨rfl, fun _ _ _ => rfl⟩

theorem supOnly_freeSems (s : State) (k : Nat) : SupOnly s (s.freeSems k) := by
  refine supOnly_foldl _ _ (fun u n hn => ?_) s
  have hs : PSC_SEM n < 0x3200 ∨ 0x3300 ≤ PSC_SEM n := by
    have := List.mem_range.mp hn
    simp only [PSC_SEM]
    omega
  rw [semRelease_eq]
  split
  · exact (supOnly_setReg u _ hs).trans (supOnly_clrBit _ n (by decide))
  · exact SupOnly.refl u

theorem supOnly_idleTimed (s : State) : SupOnly s s.idleTimed := supOnly_foldl _ _ (fun u _ _ => supOnly_modSio u _) s

theorem supOnly_intcSupReset (s : State) : SupOnly s s.intcSupReset := by
  have h0 : ∀ (u : State) (x : IntcSt), SupOnly u (u.withIntc x) := fun u x => ⟨rfl, fun _ _ _ => rfl⟩
  have hn : ∀ n ∈ List.range 4, INTC_SWP 2 n < 0x3200 ∨ 0x3300 ≤ INTC_SWP 2 n := by decide
  exact (h0 s _).trans ((supOnly_setReg _ _ (by decide)).trans (supOnly_foldl _ _ (fun u n h => supOnly_setReg u _ (hn n h)) _))

theorem supOnly_pscSupRegs (s : State) : SupOnly s (pscSupRegs.foldl (fun s a => s.setReg a (regReset a)) s) := by
  have hp : ∀ a ∈ pscSupRegs, a < 0x3200 ∨ 0x3300 ≤ a := by decide
  exact supOnly_foldl _ _ (fun u a h => supOnly_setReg u _ (hp a h)) s

/-- The source from which SUP begins, as the sampled pins select it (R367). -/
def bootSource (s : State) : Nat := if 4 ≤ s.get SIO_BOOT_boot then 2 else s.get SIO_BOOT_boot

theorem bootBegin_eq (s : State) : s.bootBegin = ((s.clrBit SIO_BOOT_flash_fail).bootFrom s.bootSource).modCore 4 (fun x => { x with readyAt := s.now }) := rfl

theorem supOnly_bootBegin (s : State) : SupOnly s s.bootBegin := by
  have hf : ∀ (u : State) (b : Nat), SupOnly u (u.bootFrom b) := fun u b => by
    unfold bootFrom
    extract_lets v
    have hv : SupOnly u v := (supOnly_setReg u _ (by decide)).trans (supOnly_modSio _ _)
    split
    · exact hv.trans (supOnly_setReg v _ (by decide))
    · exact hv
  rw [bootBegin_eq]
  exact ((supOnly_clrBit s (f := SIO_BOOT_flash_fail) 0 (by decide)).trans (hf _ _)).trans (supOnly_modCore _ 4 _)

theorem supOnly_latchCause (s : State) (cause : Nat) : SupOnly s (s.latchCause cause) := by
  have h := supOnly_foldl (fun s c => s.setBit causeField c) (cause :: s.tickCauses) (fun u c _ => supOnly_setBit u c (by decide)) s
  exact h.trans ⟨rfl, fun _ _ _ => rfl⟩

/-- SUP's state before it begins in its ROM: what it held is released, and its registers have their reset values. -/
def supCleared (s : State) : State :=
  pscSupRegs.foldl (fun s a => s.setReg a (regReset a)) ((((s.ppAbort 4).1.idleSelects 4).freeSems 4).idleTimed).intcSupReset

theorem supReset_eq {s : State} (h : s.running = true) (cause : Nat) : s.supReset cause = ((s.supCleared.setCore 4 {}).bootBegin).latchCause cause :=
  if_neg (by simp [h])

theorem supOnly_supCleared (s : State) : SupOnly s s.supCleared := by
  obtain ⟨w, hw⟩ := idleSelects_eq (s.ppAbort 4).1 4
  have h1 : SupOnly s ((s.ppAbort 4).1.idleSelects 4) := (portsOnly_ppAbort s 4).supOnly.trans (hw ▸ supOnly_modSio _ _)
  exact ((h1.trans (supOnly_freeSems _ 4)).trans ((supOnly_idleTimed _).trans (supOnly_intcSupReset _))).trans (supOnly_pscSupRegs _)

theorem bootFrom_reg_other (s : State) (b : Nat) {a : Nat} (h1 : a ≠ SIO_BOOT) (h2 : a ≠ PSC_OWN 28) : (s.bootFrom b).reg a = s.reg a := by
  unfold bootFrom
  extract_lets v
  have hv : v.reg a = s.reg a := reg_put_other s SIO_BOOT_source b h1
  split
  · exact (reg_setNum_other v 0 h2).trans hv
  · exact hv

theorem bootBegin_reg_other (s : State) {a : Nat} (h1 : a ≠ SIO_BOOT) (h2 : a ≠ PSC_OWN 28) : s.bootBegin.reg a = s.reg a :=
  (bootFrom_reg_other _ _ h1 h2).trans (reg_clrBit_other s SIO_BOOT_flash_fail 0 h1)

theorem bootBegin_core_sup (s : State) : s.bootBegin.core 4 = { s.core 4 with readyAt := s.now } := by
  have h : ∀ (u : State) (b : Nat), (u.bootFrom b).core 4 = u.core 4 := fun u b => by
    unfold bootFrom
    extract_lets v
    split <;> rfl
  rw [bootBegin_eq, core_modCore_same, h, State.core, clrBit_cores]
  rfl

theorem latchCause_core (s : State) (cause k : Nat) : (s.latchCause cause).core k = s.core k := by rw [latchCause_frame]; rfl

theorem reg_foldl_reset {a : Nat} (l : List Nat) : ∀ s : State, a ∈ l ∨ s.reg a = regReset a → (l.foldl (fun s b => s.setReg b (regReset b)) s).reg a = regReset a := by
  induction l with
  | nil => exact fun s h => h.elim (fun h => absurd h List.not_mem_nil) id
  | cons b l ih =>
    refine fun s h => ih _ ?_
    by_cases e : a = b
    · exact Or.inr (e ▸ reg_setReg_same s a (regReset a))
    · refine h.imp (fun h => (List.mem_cons.mp h).resolve_left e) fun h => ?_
      rw [reg_setReg_other _ _ e, h]

theorem supCleared_supCtl (s : State) : s.supCleared.num PSC_SUP_CTL = 1 := by
  rw [num, supCleared, reg_foldl_reset _ _ (Or.inl (by decide))]
  decide

/-- What the reset of SUP alone leaves (R474). -/
theorem supReset_spec {s : State} (h : s.running = true) {cause : Nat} (hb : cause < 32) : let t := s.supReset cause
    SupOnly s t ∧ t.core 4 = { readyAt := s.now } ∧ t.num PSC_SUP_CTL = 1 ∧ t.bit causeField cause = true := by
  intro t
  have ht : t = ((s.supCleared.setCore 4 {}).bootBegin).latchCause cause := supReset_eq h cause
  have hc := supOnly_supCleared s
  have hctl := supCleared_supCtl s
  rw [ht]
  generalize s.supCleared = u at hc hctl
  refine ⟨?_, ?_, ?_, ?_⟩
  · have h0 : SupOnly u (u.setCore 4 {}) := ⟨rfl, fun _ _ _ => rfl⟩
    exact (hc.trans h0).trans ((supOnly_bootBegin _).trans (supOnly_latchCause _ _))
  · rw [latchCause_core, bootBegin_core_sup, core_setCore_same, setCore_now, hc.frame]
  · rw [num, latchCause_reg_other _ _ (by decide), bootBegin_reg_other _ (by decide) (by decide)]
    exact hctl
  · rw [latchCause_bit _ _ hb, beq_self_eq_true, Bool.true_or, Bool.or_true]

end State

/-- What settles is INTC's records and the lines. -/
theorem settle_readOn_frame (s t : State) : (s.readOn t).settle = { t with intc := (s.readOn t).settle.intc, lines := (s.readOn t).settle.lines } := by
  rw [settle_frame, readOn_frame]

theorem running_of_normal {s : State} (hn : Normal s) : s.running = true := by
  simp [State.running, hn.1]

theorem gives_supWatchdogReset {s : State} (hn : Normal s) (hl : s.get PSC_SUP_WD_CFG_limit ≠ 0) (hc : s.get PSC_SUP_WD_CFG_limit ≤ (s.core 4).wdCnt)
    (hf : (s.core 4).wdFirst = true) : Gives .supWatchdogReset s (fun t =>
      t.core 4 = { readyAt := s.now } ∧ t.bit ⟨SCA_RST_CAUSE, 31, 0⟩ 6 = true ∧ t.num PSC_SUP_CTL = 1 ∧
      t.rasters = s.rasters ∧ t.ports = s.ports ∧ t.imem = s.imem ∧ t.dmem = s.dmem ∧ t.dram = s.dram ∧ t.men = s.men ∧ t.nvs = s.nvs) := by
  have he : (s.supExpired && (s.core 4).wdFirst) = true := by simp [supExpired, hl, hc, hf]
  obtain ⟨ho, hcore, hctl, hbit⟩ := supReset_spec (running_of_normal hn) (show 6 < 32 by decide)
  have hf := ho.frame
  have hfr := settle_readOn_frame s (s.supReset 6)
  refine gives_running (f := fun u => u.supWdReset) rfl hn (if_pos he) (by rw [hf]) ⟨?_, ?_, ?_, ?_⟩
  · rw [settle_readOn_core]
    exact hcore
  · rw [settle_readOn_bit]
    exact hbit
  · rw [settle_readOn_num]
    exact hctl
  · generalize (s.readOn (s.supReset 6)).settle = t at hfr
    generalize s.supReset 6 = u at hf hfr
    rw [hfr, hf]
    exact ⟨rfl, rfl, rfl, rfl, rfl, rfl, rfl⟩

/-- Settles O30: each command by the lemma on its operation. -/
theorem watchdogsAndReleases : Obligations.WatchdogsAndReleases :=
  ⟨fun _ _ _ _ => ⟨fun hn => gives_sqWatchdog hn, fun hn hl => gives_supWatchdogFirst hn hl.1 hl.2, fun hn hl => gives_supWatchdogReset hn hl.1 hl.2, gives_supWdKick, gives_supWdCfgWrite⟩,
    fun _ _ _ _ hw hv => gives_forcedRelease hw hv, fun _ _ => gives_romMapClear⟩

end Sys2Proof.Machine
end

section
/-! A release of PORST_N with a band of a facet that the part does not have waiting for its tick (O31).

`FacetSt`s are kept in a map over every number, and the registers of facet 0x73 would lie on those of the boot pins. No run chooses such a facet, but the statement is about
every state. -/

namespace Sys2Proof.Machine

open R State

/-- The held part after power-on, but for a band of facet 0x73 that waits for its tick. -/
def strayFacet : State :=
  { State.reset with ipl := { chosen := some 0x73, facets := [(0x73, { waiting := [{ slot := 0, cnt := 0, w := 0, rows := 0, h := 0 }] })] } }

/-- The band begins at the frame start of H and takes the facet's shadows: the arm bit that it clears, `IPL_CTL_arm 0x73`, is bit 1 of SIO_BOOT. -/
theorem porstRelease_strayFacet : (match exec (.porstRelease 3#3) strayFacet with | .next t => t.get SIO_BOOT_boot | _ => 0) = 1 := by
  decide +kernel

/-- Refutes O31: with boot pins 0b011 a release of PORST_N leaves 0b001 in SIO_BOOT.boot where a band of facet 0x73, which is no facet, waits for its tick. -/
theorem not_resets : ¬ Obligations.Resets := by
  intro h
  obtain ⟨-, hrelease, -⟩ := h
  have hheld : strayFacet.hold ∈ [Hold.porst, .supply, .clock] := by decide
  obtain ⟨t, ht, -, -, -, -, -, hboot, -⟩ := (hrelease 3#3 strayFacet).1 _ (Or.inl ⟨rfl, hheld, rfl, rfl⟩)
  have hrun := porstRelease_strayFacet
  rw [ht] at hrun
  exact absurd (hrun.symm.trans hboot) (by decide)

end Sys2Proof.Machine
end

section
/-! What MET answers to the requests that change a parameter (R242–R257, R261, R262, R268, R269). -/

namespace Sys2Proof.Machine

open R State

namespace State

/-- `t` is `u` with the answer of MET to a request, as far as the parameters that MET holds are concerned. -/
structure AnswerTo (seq : W32) (op status : Nat) (u t : State) : Prop where
  answered : Answered seq op status t
  men : t.men = { u.men with
    opens := t.men.opens, built := t.men.built, next := t.men.next, blocks := t.men.blocks, left := t.men.left, lostBit := t.men.lostBit }
  coefShadow : t.coefShadow = u.coefShadow
  coefArm : t.coefArm = u.coefArm
  progRef : t.progRef = u.progRef
  tblRef : t.tblRef = u.tblRef
  hk : t.hk = u.hk
  variantM : t.variantM = u.variantM
  stale : t.bit MEN_STAT_ident_stale = u.bit MEN_STAT_ident_stale
  key : t.bit MEN_STAT_key_present = u.bit MEN_STAT_key_present

variable {seq : W32} {op status : Nat} {u t : State}

theorem AnswerTo.judged {v : State} (h : AnswerTo seq op status u t) (j : Judged t v) : AnswerTo seq op status u v := by
  obtain ⟨hseq, hstat, hevt⟩ := h.answered
  have hf := j.frame
  have hm : v.men = { t.men with opens := v.men.opens, built := v.men.built, next := v.men.next, blocks := v.men.blocks, left := v.men.left, lostBit := v.men.lostBit } :=
    (congrArg State.men hf).trans rfl
  refine ⟨⟨(j.keeps.reg (by decide)).trans hseq, (congrArg BitVec.toNat (j.keeps.reg (by decide))).trans hstat, j.evt 3 hevt⟩, ?_, ?_, ?_, ?_, ?_, ?_, ?_,
    (j.keeps.bit (i := 0) (by decide)).trans h.stale, (j.keeps.bit (i := 0) (by decide)).trans h.key⟩
  · rw [hm, h.men]
  · rw [hf]; exact h.coefShadow
  · rw [hf]; exact h.coefArm
  · rw [hf]; exact h.progRef
  · rw [hf]; exact h.tblRef
  · rw [hf]; exact h.hk
  · rw [hf]; exact h.variantM

theorem AnswerTo.settle (s : State) (h : AnswerTo seq op status u t) : AnswerTo seq op status u (s.readOn t).settle := by
  obtain ⟨hseq, hstat, hevt⟩ := h.answered
  have hf := settle_readOn_frame s t
  refine ⟨⟨?_, ?_, ?_⟩, ?_, ?_, ?_, ?_, ?_, ?_, ?_, ?_, ?_⟩
  · rw [settle_readOn_reg, hseq]
  · rw [settle_readOn_num, hstat]
  · rw [settle_readOn_bit, hevt]
  · rw [settle_readOn_men]; exact h.men
  · rw [hf]; exact h.coefShadow
  · rw [hf]; exact h.coefArm
  · rw [hf]; exact h.progRef
  · rw [hf]; exact h.tblRef
  · rw [hf]; exact h.hk
  · rw [hf]; exact h.variantM
  · rw [settle_readOn_bit]; exact h.stale
  · rw [settle_readOn_bit]; exact h.key

/-! ## Answers (R247) -/

theorem putResponse_eq (s : State) (data : List Byte) : ∃ r, s.putResponse data = { s with regs := r } ∧ ∀ a, a < 0x121c0 → Map.get regReset r a = s.reg a := by
  unfold putResponse
  generalize List.range ((data.length + 3) / 4) = l
  induction l generalizing s with
  | nil => exact ⟨s.regs, rfl, fun _ _ => rfl⟩
  | cons k l ih =>
    obtain ⟨r, hr, hreg⟩ := ih (s.setNum (MEN_RSP_DATA k) (pf data (4 * k) 4))
    exact ⟨r, hr, fun a ha => (hreg a ha).trans (reg_setNum_other s _ (by unfold MEN_RSP_DATA; omega))⟩

/-- An answer that changes registers alone. -/
theorem answerTo_of_regs (ha : Answered seq op status t) (hf : t = { u with regs := t.regs }) (hr : t.reg MEN_STAT = u.reg MEN_STAT) : AnswerTo seq op status u t := by
  generalize t.regs = r at hf
  refine ⟨ha, ?_, ?_, ?_, ?_, ?_, ?_, ?_, bit_eq_of_reg 0 hr, bit_eq_of_reg 0 hr⟩ <;> rw [hf]

/-- The response's words, status, sequence number and event. -/
theorem answerTo_posted (u : State) (seq : W32) (data : List Byte) (h : op * 65536 + status < 2 ^ 32) :
    AnswerTo seq op status u ((((u.putResponse data).setNum MEN_RSP_STATUS (op * 65536 + status)).setReg MEN_RSP_SEQ seq).menEvt 3) := by
  obtain ⟨r, hr, hreg⟩ := putResponse_eq u data
  rw [hr]
  have hstat := hreg MEN_STAT (by decide)
  have hv := setNum_frame ({ u with regs := r } : State) MEN_RSP_STATUS (op * 65536 + status)
  have hnum := num_setNum_same ({ u with regs := r } : State) MEN_RSP_STATUS (op * 65536 + status)
  have hkeep := reg_setNum_other ({ u with regs := r } : State) (op * 65536 + status) (show MEN_STAT ≠ MEN_RSP_STATUS by decide)
  generalize ({ u with regs := r } : State).setNum MEN_RSP_STATUS (op * 65536 + status) = v at hv hnum hkeep ⊢
  have hf := menEvt_frame (v.setReg MEN_RSP_SEQ seq) 3
  refine answerTo_of_regs ⟨?_, ?_, bit_menEvt _ (by decide)⟩ ?_ ?_
  · rw [menEvt_reg_other _ _ (by decide), reg_setReg_same]
  · rw [State.num, menEvt_reg_other _ _ (by decide), reg_setReg_other _ _ (by decide)]
    exact hnum.trans (Nat.mod_eq_of_lt h)
  · generalize ((v.setReg MEN_RSP_SEQ seq).menEvt 3).regs = q at hf
    rw [hf, hv]
    rfl
  · rw [menEvt_reg_other _ _ (by decide), reg_setReg_other _ _ (by decide), hkeep]
    exact hstat

theorem answerTo_respond (u : State) (seq : W32) (data : List Byte) (h : op * 65536 + status < 2 ^ 32) : AnswerTo seq op status u (u.respond seq op status data) := by
  have hp := answerTo_posted u seq data h
  unfold respond
  dsimp only
  split
  · exact hp.judged (judged_menEvt _ (by decide))
  · exact hp

/-! ## Requests with the seal open (R242, R246) -/

/-- MET takes a request at once, with the seal open. -/
structure Takes (s : State) (seq : W32) : Prop where
  normal : Normal s
  up : s.metUp = true
  idle : s.men.busy = none
  new : s.reg MEN_RSP_SEQ ≠ seq
  opened : s.sealState = 0

theorem menRequest_of_takes {s : State} {pay : List Byte} (h : Takes s seq) (hw : s.reqWaits op = false) :
    s.menRequest seq op pay = s.serveRequest seq op pay true := by
  have htake : s.takesRequest seq = true := by simp [takesRequest, h.up, h.idle, h.new]
  simp [menRequest, htake, hw, h.opened]

theorem reqWaits_of_no_read (s : State) {op : Nat} (h : op ≠ 6 ∧ op ≠ 0x19) : s.reqWaits op = false := by simp [reqWaits, h]

theorem serveRequest_eq {s : State} {pay data : List Byte} (hj : s.judgeRequest op pay true = (u, status, data)) (h : op ≠ 0x19 ∨ status ≠ 0) :
    s.serveRequest seq op pay true = (u.respond seq op status data).metJudge := by
  rw [serveRequest, hj]
  exact if_neg fun e => h.elim (fun k => k e.1) (fun k => k e.2)

end State

/-- A request that MET judges and that resets nothing leaves its answer. -/
theorem gives_answer {i : Instr} {s u : State} {seq : W32} {op status : Nat} {pay data : List Byte} {P : State → Prop} (ht : Takes s seq)
    (he : exec i s = actAlways s (fun s => s.menRequest seq op pay)) (hw : s.reqWaits op = false) (hj : s.judgeRequest op pay true = (u, status, data))
    (hn : op ≠ 0x19 ∨ status ≠ 0) (hb : op * 65536 + status < 2 ^ 32) (hk : u.hk = s.hk) (hp : ∀ t, AnswerTo seq op status u t → P t) : Gives i s P := by
  have h : AnswerTo seq op status u (u.respond seq op status data).metJudge := (answerTo_respond u seq data hb).judged (judged_metJudge _)
  refine gives_always he ht.normal ((menRequest_of_takes ht hw).trans (serveRequest_eq hj hn)) (h.hk.trans hk) (hp _ (h.settle s))

namespace State

/-- An item that changes is noted and its copies agree: MET's parameters and what the streams take stay. -/
theorem itemChanged_frame (s : State) (op : Nat) (pay : List Byte) (same : Bool) (new : Nat) : ∃ r p o,
    s.itemChanged op pay same new = { s with regs := r, men := { s.men with p1Bad := p, opens := o } } := by
  unfold itemChanged
  extract_lets item u
  split
  · exact ⟨s.regs, _, s.men.opens, rfl⟩
  · exact ⟨_, _, _, (menChange_frame u _ _ _ _).trans rfl⟩

theorem armWindows_eq (s : State) (x : Nat) : s.armWindows x = { s with men := { s.men with
    winArm := if s.men.winArm / 2 ^ x % 2 = 1 then s.men.winArm else s.men.winArm + 2 ^ x } } := by
  by_cases h : s.men.winArm / 2 ^ x % 2 = 1 <;> simp [armWindows, modMen, h]

/-- The window set of facet `x` is armed. -/
theorem winArm_armWindows (s : State) (x : Nat) : (s.armWindows x).men.winArm / 2 ^ x % 2 = 1 := by
  rw [armWindows_eq]
  dsimp only
  split
  · next h => exact h
  · next h =>
    rw [Nat.add_div_right _ (Nat.two_pow_pos x)]
    omega

theorem armWindows_frame (s : State) (x : Nat) : s.armWindows x = { s with men := { s.men with winArm := (s.armWindows x).men.winArm } } := by
  rw [armWindows_eq]

theorem reqWriteMask_accepted (s : State) {pay : List Byte} {a : Nat} (ha : a = pf pay 0 1 * 81920 + pf pay 1 2 * 160) (hl : pay.length = 164) (hx : pf pay 0 1 < 4)
    (hr : pf pay 1 2 < 512) : s.reqWriteMask pay = (((s.itemChanged 0x11 pay (Memory.bytes s.men.masks a 160 == pay.drop 4) (prefix4 (pay.drop 4))).modMen
      (fun m => { m with masks := Memory.setBytes m.masks a (pay.drop 4) })).armWindows (pf pay 0 1), 0, []) := by
  subst ha
  exact if_neg (by simp only [hl]; omega)

theorem reqInstall_accepted (s : State) (op : Nat) {pay : List Byte} (hl : pay.length = 36) (hx : pf pay 0 1 < 4) : ∃ same, s.reqInstall op pay =
    (if op = 0x13 then { s.itemChanged op pay same (first4 (pay.drop 4)) with progRef := Map.set (fun _ => []) (s.itemChanged op pay same (first4 (pay.drop 4))).progRef (pf pay 0 1) (pay.drop 4) }
      else { s.itemChanged op pay same (first4 (pay.drop 4)) with tblRef := Map.set (fun _ => []) (s.itemChanged op pay same (first4 (pay.drop 4))).tblRef (pf pay 0 1) (pay.drop 4) }, 0, []) :=
  ⟨_, if_neg (by simp only [hl]; omega)⟩

/-! ### A curve in parts (R261, R262) -/

/-- The samples that a part of a curve brings, and those of the port that MET holds already. -/
abbrev partSamples (pay : List Byte) : List W32 := (List.range ((pay.length - 4) / 4)).map (fun i => BitVec.ofNat 32 (pf pay (4 + 4 * i) 4))
abbrev stagedSamples (s : State) (x : Nat) : List W32 := Map.get (fun _ => []) s.men.staging x

/-- The samples of a port that are held are `l`. -/
def staged (s : State) (x : Nat) (l : List W32) : State := s.modMen (fun m => { m with staging := Map.set (fun _ => []) m.staging x l })

theorem stagedSamples_staged (s : State) (x : Nat) (l : List W32) : (s.staged x l).stagedSamples x = l := Map.get_set_same _ _ _ _

/-- The form of a part of a curve: whole samples, and a port. -/
structure CurvePart (pay : List Byte) : Prop where
  head : 8 ≤ pay.length
  whole : pay.length % 4 = 0
  few : (partSamples pay).length ≤ 56
  port : pf pay 0 1 < 4

theorem CurvePart.count {pay : List Byte} : (partSamples pay).length = (pay.length - 4) / 4 := by simp

theorem reqWriteCurve_refused (s : State) {pay : List Byte}
    (h : 257 < pf pay 2 2 + (partSamples pay).length ∨ pf pay 2 2 ≠ 0 ∧ pf pay 2 2 ≠ (s.stagedSamples (pf pay 0 1)).length) : s.reqWriteCurve pay = (s, 3, []) := by
  rw [CurvePart.count] at h
  exact if_pos (h.elim (fun h => Or.inr (Or.inr (Or.inr (Or.inr (Or.inl h))))) (fun h => Or.inr (Or.inr (Or.inr (Or.inr (Or.inr h))))))

/-- What a part that follows those held comes to, or one that begins anew. -/
theorem reqWriteCurve_taken (s : State) {pay : List Byte} (hc : CurvePart pay) (hb : pf pay 2 2 + (partSamples pay).length ≤ 257)
    (hf : pf pay 2 2 = 0 ∨ pf pay 2 2 = (s.stagedSamples (pf pay 0 1)).length) {all : List W32}
    (ha : all = if pf pay 2 2 = 0 then partSamples pay else s.stagedSamples (pf pay 0 1) ++ partSamples pay) :
    s.reqWriteCurve pay = if all.length < 257 then (s.staged (pf pay 0 1) all, 0, []) else
      if curveOk (all.map (fun w => sgn 32 w.toNat)) then
        (((s.staged (pf pay 0 1) []).modMen (fun m => { m with p1Bad := m.p1Bad.filter (fun i => i != 0xFF12_0000 + pf pay 0 1) })).acceptCurve (pf pay 0 1)
          (all.map (fun w => sgn 32 w.toNat)), 0, [])
      else (s.staged (pf pay 0 1) [], 3, []) := by
  obtain ⟨hhead, hwhole, hfew, hport⟩ := hc
  rw [CurvePart.count] at hb hfew
  subst ha
  refine if_neg ?_
  rintro (h | h | h | h | h | ⟨h0, h1⟩)
  · omega
  · omega
  · omega
  · omega
  · omega
  · exact hf.elim h0 h1

theorem acceptCurve_spec (s : State) (p : Nat) (y : List Int) : (s.acceptCurve p y).coefArm / 2 ^ p % 2 = 1 ∧ (s.acceptCurve p y).bit MEN_STAT_ident_stale = true ∧
    (s.acceptCurve p y).hk = s.hk ∧ (s.acceptCurve p y).men.staging = s.men.staging := by
  unfold acceptCurve
  extract_lets cs m old t item
  have harm : t.coefArm / 2 ^ p % 2 = 1 := by
    show (if s.coefArm / 2 ^ p % 2 = 1 then s.coefArm else s.coefArm + 2 ^ p) / 2 ^ p % 2 = 1
    split
    · next h => exact h
    · next h =>
      rw [Nat.add_div_right _ (Nat.two_pow_pos p)]
      omega
  have hn := auditNote_frame t 6 3 item (prefix4 old) (prefix4 (coefBytes m p))
  generalize t.auditNote 6 3 item (prefix4 old) (prefix4 (coefBytes m p)) = u at hn
  have hf : u.setBit MEN_STAT_ident_stale = { u with regs := _ } := wrBit_frame u MEN_STAT_ident_stale 0 true
  refine ⟨?_, bit_setBit_same u _ _ (by decide) (by decide) (by decide), ?_, ?_⟩
  · rw [hf, hn]; exact harm
  · rw [hf, hn]
  · rw [hf, hn]

/-! ### Keys and firmware (R252, R254) -/

theorem publicKey_ne_nil (d : Nat) : P256.publicKey d ≠ [] := by
  unfold P256.publicKey
  split
  · intro h
    have hl := congrArg List.length h
    rw [List.length_append, beBytes, List.length_reverse, leBytes_length] at hl
    simp at hl
  · decide

theorem foldl_setNum_frame (f v : Nat → Nat) (l : List Nat) (s : State) : ∃ r, l.foldl (fun s k => s.setNum (f k) (v k)) s = { s with regs := r } := by
  induction l generalizing s with
  | nil => exact ⟨s.regs, rfl⟩
  | cons k l ih =>
    obtain ⟨r, hr⟩ := ih (s.setNum (f k) (v k))
    exact ⟨r, hr⟩

/-- The key that MET holds is published, and shown as present. -/
theorem publishKey_spec (s : State) (h : s.men.pubKey ≠ []) : (∃ r, s.publishKey = { s with regs := r }) ∧ s.publishKey.bit MEN_STAT_key_present = true := by
  have hp : (!s.men.pubKey.isEmpty) = true := by simpa using h
  unfold publishKey
  extract_lets b
  obtain ⟨r, hr⟩ := foldl_setNum_frame MEN_KEYHASH (fun k => ofLe ((b.drop (4 * k)).take 4)) (List.range 8) s
  rw [hr, hp]
  exact ⟨⟨_, wrBit_frame _ MEN_STAT_key_present 0 true⟩, bit_setBit_same _ MEN_STAT_key_present 0 (by decide) (by decide) (by decide)⟩

/-- `t` has the firmware image, housekeeping and variant of `s`. -/
structure KeepsImage (s t : State) : Prop where
  image : t.men.image = s.men.image
  hk : t.hk = s.hk
  variantM : t.variantM = s.variantM

theorem KeepsImage.trans {s t u : State} (h : KeepsImage s t) (k : KeepsImage t u) : KeepsImage s u :=
  ⟨k.image.trans h.image, k.hk.trans h.hk, k.variantM.trans h.variantM⟩

theorem keepsImage_put (s : State) (f : Field) (v : Nat) : KeepsImage s (s.put f v) := ⟨rfl, rfl, rfl⟩

theorem keepsImage_setNum (s : State) (a v : Nat) : KeepsImage s (s.setNum a v) := ⟨rfl, rfl, rfl⟩

theorem keepsImage_modMen (s : State) (f : MenSt → MenSt) (h : (f s.men).image = s.men.image) : KeepsImage s (s.modMen f) := ⟨h, rfl, rfl⟩

theorem keepsImage_commitOne (s : State) (e : AuditOpen) : KeepsImage s (s.commitOne e) := by
  unfold commitOne
  extract_lets no b t u
  have ht : KeepsImage s t := keepsImage_modMen s _ rfl
  exact ((ht.trans (keepsImage_setNum t _ _)).trans (keepsImage_put u MEN_AUD_HEAD_index _)).trans (keepsImage_put _ MEN_AUD_HEAD_total _)

theorem keepsImage_foldl_commitOne (l : List AuditOpen) : ∀ s : State, KeepsImage s (l.foldl commitOne s) := by
  induction l with
  | nil => exact fun s => ⟨rfl, rfl, rfl⟩
  | cons e l ih => exact fun s => (keepsImage_commitOne s e).trans (ih _)

/-- A commit of audit entries. -/
theorem keepsImage_commitWhere (s : State) (due : AuditOpen → Bool) : KeepsImage s (s.commitWhere due) :=
  (keepsImage_modMen s (fun m => { m with opens := m.opens.filter (fun e => !due e) }) rfl).trans (keepsImage_foldl_commitOne _ _)

/-- A reset of the enclave keeps the image in P1 and forgets the entries that no commit has reached. -/
theorem enclaveReset_image {s : State} (hv : s.variantM = true) : s.enclaveReset.men.image = s.men.image ∧ s.enclaveReset.men.up = false ∧ s.enclaveReset.men.opens = [] := by
  rw [enclaveReset_eq hv, menClear_eq]
  have h := clearRegs_frame s.clearLatches
  generalize s.clearLatches.clearRegs = u at h
  have hm : u.men = s.men := (congrArg State.men h).trans rfl
  exact ⟨(congrArg MenSt.image hm :), rfl, rfl⟩

theorem EccNoted.dramBytes {s t : State} (h : EccNoted s t) (a k : Nat) : t.dramBytes a k = s.dramBytes a k := by
  have hi := h.scanned.toSameImage
  unfold State.dramBytes
  rw [hi.extent, hi.dram]
  simp only [hi.poisoned]

/-- An image without a word in error, inside the data space, is installed where it is valid. -/
theorem reqFirmware_read (s : State) {pay : List Byte} (hl : pay.length = 8) (hb : pf pay 0 4 + pf pay 4 4 ≤ s.dataBytes) (ho : s.dramOk = true)
    (hp : ∀ a, s.poisoned a = false) {im : List Byte} (hi : im = s.dramBytes (pf pay 0 4) (pf pay 4 4)) : ∃ u, EccNoted s u ∧
    s.reqFirmware pay = if Config.imageValid im = true then
      (((u.itemChanged 0x19 pay false (first4 (sha256 im))).modMen (fun m => { m with image := some im })).commitWhere (fun _ => true), 0, []) else (u, 5, []) := by
  have hu := eccNoted_dramRead s 3 14 (pf pay 0 4) (pf pay 4 4)
  refine ⟨_, hu, ?_⟩
  have hnot : ¬ (pay.length ≠ 8 ∨ s.dataBytes < pf pay 0 4 + pf pay 4 4 ∨ ¬ s.dramOk = true) := by
    rintro (h | h | h)
    · exact h hl
    · exact absurd hb (Nat.not_le.mpr h)
    · exact h ho
  unfold reqFirmware
  dsimp only
  rw [if_neg hnot, hu.dramBytes, ← hi]
  simp only [hu.poisoned, hp, Bool.not_false, List.all_eq_true, implies_true, Bool.and_eq_true, and_true]

end State

section Requests

variable {seq : W32} {pay : List Byte} {s : State} (ht : Takes s seq)

include ht

/-- WRITE_ZONE of a valid descriptor. -/
theorem gives_writeZone (hl : pay.length = 36) (hx : pf pay 0 1 < 4) (hn : pf pay 1 1 < 64) (hv : zoneValid (pay.drop 4) = true) : Gives (.writeZone seq pay) s (fun t =>
    Answered seq 16 0 t ∧ t.zoneHeld (pf pay 0 1) (pf pay 1 1) = pay.drop 4 ∧ t.men.winArm / 2 ^ pf pay 0 1 % 2 = 1 ∧ t.men.winAct = s.men.winAct ∧ t.men.zone = s.men.zone ∧
    ∀ y m, m < 64 → (y, m) ≠ (pf pay 0 1, pf pay 1 1) → t.zoneHeld y m = s.zoneHeld y m) := by
  obtain ⟨r, b, o, hc⟩ := itemChanged_frame s 0x10 pay (s.zoneHeld (pf pay 0 1) (pf pay 1 1) == pay.drop 4) (prefix4 (zoneItem (pay.drop 4)))
  have hj : s.judgeRequest 0x10 pay true = s.reqWriteZone pay := if_neg (by simp)
  rw [reqWriteZone, if_neg (by simp [hl, hv]; omega), hc] at hj
  generalize pf pay 0 1 = x at *
  generalize pf pay 1 1 = n at *
  have hf := fun u : State => armWindows_frame u x
  refine gives_answer ht rfl (reqWaits_of_no_read s (by decide)) hj (by decide) (by decide) (by rw [hf]; rfl) fun t h => ?_
  have hzones : t.men.zones = Map.set (fun _ => []) s.men.zones (x * 64 + n) (pay.drop 4) := by rw [h.men, hf]; rfl
  refine ⟨h.answered, ?_, ?_, ?_, ?_, fun y m hm hne => ?_⟩
  · rw [zoneHeld, hzones, Map.get_set_same]
  · rw [h.men]; exact winArm_armWindows _ x
  · rw [h.men, hf]; rfl
  · rw [h.men, hf]; rfl
  · have hk : y * 64 + m ≠ x * 64 + n := fun e => hne (by rw [show y = x by omega, show m = n by omega])
    rw [zoneHeld, hzones, Map.get_set_other _ _ _ hk, zoneHeld]

/-- WRITE_MASK of a row of an exclusion plane. -/
theorem gives_writeMask {a : Nat} (ha : a = pf pay 0 1 * 81920 + pf pay 1 2 * 160) (hl : pay.length = 164) (hx : pf pay 0 1 < 4) (hr : pf pay 1 2 < 512) :
    Gives (.writeMask seq pay) s (fun t => Answered seq 17 0 t ∧ t.men.winArm / 2 ^ pf pay 0 1 % 2 = 1 ∧ t.men.maskAct = s.men.maskAct ∧
    Memory.bytes t.men.masks a 160 = pay.drop 4 ∧ ∀ c, (c < a ∨ a + 160 ≤ c) → Memory.byte t.men.masks c = Memory.byte s.men.masks c) := by
  have hlen : (pay.drop 4).length = 160 := by rw [List.length_drop, hl]
  have hj : s.judgeRequest 0x11 pay true = _ := (if_neg (by simp)).trans (reqWriteMask_accepted s ha hl hx hr)
  obtain ⟨r, b, o, hc⟩ := itemChanged_frame s 0x11 pay (Memory.bytes s.men.masks a 160 == pay.drop 4) (prefix4 (pay.drop 4))
  rw [hc] at hj
  have hf := fun u : State => armWindows_frame u (pf pay 0 1)
  refine gives_answer ht rfl (reqWaits_of_no_read s (by decide)) hj (by decide) (by decide) (by rw [hf]; rfl) fun t h => ?_
  have hmasks : t.men.masks = Memory.setBytes s.men.masks a (pay.drop 4) := by rw [h.men, hf]; rfl
  refine ⟨h.answered, ?_, ?_, ?_, fun c hc => ?_⟩
  · rw [h.men]; exact winArm_armWindows _ _
  · rw [h.men, hf]; rfl
  · rw [hmasks, ← hlen, Memory.bytes_setBytes]
  · rw [hmasks, Memory.byte_setBytes_outside _ _ _ _ (by rw [hlen]; exact hc)]

/-- INSTALL_PROG_REF and INSTALL_TABLE_REF. -/
theorem gives_install (hl : pay.length = 36) (hx : pf pay 0 1 < 4) :
    Gives (.installProgRef seq pay) s (fun t => Answered seq 19 0 t ∧ t.progRef = Map.set (fun _ => []) s.progRef (pf pay 0 1) (pay.drop 4) ∧ t.tblRef = s.tblRef) ∧
    Gives (.installTableRef seq pay) s (fun t => Answered seq 20 0 t ∧ t.tblRef = Map.set (fun _ => []) s.tblRef (pf pay 0 1) (pay.drop 4) ∧ t.progRef = s.progRef) := by
  have hjudge := fun op => reqInstall_accepted s op hl hx
  constructor
  · obtain ⟨same, hj⟩ := hjudge 0x13
    obtain ⟨r, b, o, hc⟩ := itemChanged_frame s 0x13 pay same (first4 (pay.drop 4))
    have hj : s.judgeRequest 0x13 pay true = _ := (if_neg (by simp)).trans hj
    rw [hc, if_pos rfl] at hj
    exact gives_answer ht rfl (reqWaits_of_no_read s (by decide)) hj (by decide) (by decide) rfl fun t h => ⟨h.answered, h.progRef, h.tblRef⟩
  · obtain ⟨same, hj⟩ := hjudge 0x14
    obtain ⟨r, b, o, hc⟩ := itemChanged_frame s 0x14 pay same (first4 (pay.drop 4))
    have hj : s.judgeRequest 0x14 pay true = _ := (if_neg (by simp)).trans hj
    rw [hc, if_neg (by decide)] at hj
    exact gives_answer ht rfl (reqWaits_of_no_read s (by decide)) hj (by decide) (by decide) rfl fun t h => ⟨h.answered, h.tblRef, h.progRef⟩

section Curve

variable (hc : CurvePart pay)

theorem gives_writeCurve_refused (h : 257 < pf pay 2 2 + (partSamples pay).length ∨ pf pay 2 2 ≠ 0 ∧ pf pay 2 2 ≠ (s.stagedSamples (pf pay 0 1)).length) :
    Gives (.writeCurve seq pay) s (fun t => Answered seq 18 3 t ∧ t.men.staging = s.men.staging ∧ t.coefShadow = s.coefShadow) := by
  have hj : s.judgeRequest 0x12 pay true = _ := (if_neg (by simp)).trans (reqWriteCurve_refused s h)
  exact gives_answer ht rfl (reqWaits_of_no_read s (by decide)) hj (by decide) (by decide) rfl fun t h => ⟨h.answered, by rw [h.men], h.coefShadow⟩

include hc

theorem gives_writeCurve_part {all : List W32} (hb : pf pay 2 2 + (partSamples pay).length ≤ 257) (hf : pf pay 2 2 = 0 ∨ pf pay 2 2 = (s.stagedSamples (pf pay 0 1)).length)
    (ha : all = if pf pay 2 2 = 0 then partSamples pay else s.stagedSamples (pf pay 0 1) ++ partSamples pay) (hl : all.length < 257) :
    Gives (.writeCurve seq pay) s (fun t => Answered seq 18 0 t ∧ t.stagedSamples (pf pay 0 1) = all ∧ t.coefShadow = s.coefShadow) := by
  have hj : s.judgeRequest 0x12 pay true = _ := (if_neg (by simp)).trans (reqWriteCurve_taken s hc hb hf ha)
  rw [if_pos hl] at hj
  refine gives_answer ht rfl (reqWaits_of_no_read s (by decide)) hj (by decide) (by decide) rfl fun t h => ⟨h.answered, ?_, h.coefShadow⟩
  rw [stagedSamples, h.men]
  exact stagedSamples_staged s _ all

theorem gives_writeCurve_last {all : List W32} (h0 : pf pay 2 2 ≠ 0) (hf : pf pay 2 2 = (s.stagedSamples (pf pay 0 1)).length)
    (ha : all = s.stagedSamples (pf pay 0 1) ++ partSamples pay) (hl : all.length = 257) : Gives (.writeCurve seq pay) s (fun t => t.stagedSamples (pf pay 0 1) = [] ∧
      if curveOk (all.map (fun w => sgn 32 w.toNat)) then Answered seq 18 0 t ∧ t.coefArm / 2 ^ pf pay 0 1 % 2 = 1 ∧ t.bit MEN_STAT_ident_stale = true
      else Answered seq 18 3 t ∧ t.coefShadow = s.coefShadow) := by
  have hlen : pf pay 2 2 + (partSamples pay).length = 257 := by rw [hf, ← hl, ha, List.length_append]
  have hj : s.judgeRequest 0x12 pay true = _ := (if_neg (by simp)).trans (reqWriteCurve_taken s hc (Nat.le_of_eq hlen) (Or.inr hf) (ha.trans (if_neg h0).symm))
  rw [if_neg (by omega)] at hj
  split at hj
  · next hok =>
    obtain ⟨harm, hstale, hhk, hstaging⟩ := acceptCurve_spec ((s.staged (pf pay 0 1) []).modMen (fun m => { m with p1Bad := m.p1Bad.filter (fun i => i != 0xFF12_0000 + pf pay 0 1) }))
      (pf pay 0 1) (all.map (fun w => sgn 32 w.toNat))
    refine gives_answer ht rfl (reqWaits_of_no_read s (by decide)) hj (by decide) (by decide) hhk fun t h => ⟨?_, ?_⟩
    · rw [stagedSamples, h.men]
      exact (congrArg (fun z => Map.get (fun _ => []) z (pf pay 0 1)) hstaging).trans (stagedSamples_staged s _ [])
    · rw [if_pos hok]
      exact ⟨h.answered, by rw [h.coefArm]; exact harm, h.stale.trans hstale⟩
  · next hok =>
    refine gives_answer ht rfl (reqWaits_of_no_read s (by decide)) hj (by decide) (by decide) rfl fun t h => ⟨?_, ?_⟩
    · rw [stagedSamples, h.men]
      exact stagedSamples_staged s _ []
    · rw [if_neg hok]
      exact ⟨h.answered, h.coefShadow⟩

end Curve

theorem gives_setEvidential (hl : pay.length = 2) (h : ∀ n, n < 16 → pf pay 0 2 / 2 ^ n % 2 = 1 → s.get (CER_S_DELTA_delta_act n) = 0) :
    Gives (.setEvidential seq pay) s (fun t => Answered seq 21 0 t ∧ t.men.evid = pf pay 0 2) := by
  obtain ⟨r, b, o, hc⟩ := itemChanged_frame s 0x15 pay (s.men.evid == pf pay 0 2) (pf pay 0 2)
  have hnone : (List.range 16).any (fun n => pf pay 0 2 / 2 ^ n % 2 == 1 && s.get (CER_S_DELTA_delta_act n) != 0) = false := by
    simpa using h
  have hj : s.judgeRequest 0x15 pay true = _ := (if_neg (by simp)).trans (if_neg (by simp [hl, hnone]))
  rw [hc] at hj
  exact gives_answer ht rfl (reqWaits_of_no_read s (by decide)) hj (by decide) (by decide) rfl fun t h => ⟨h.answered, by rw [h.men]; rfl⟩

theorem gives_setEvidential_refused {n : Nat} (hn : n < 16) (hm : pf pay 0 2 / 2 ^ n % 2 = 1) (hd : s.get (CER_S_DELTA_delta_act n) ≠ 0) :
    Gives (.setEvidential seq pay) s (fun t => Answered seq 21 3 t ∧ t.men.evid = s.men.evid) := by
  have hsome : (List.range 16).any (fun n => pf pay 0 2 / 2 ^ n % 2 == 1 && s.get (CER_S_DELTA_delta_act n) != 0) = true :=
    List.any_eq_true.mpr ⟨n, List.mem_range.mpr hn, by simp [hm, hd]⟩
  have hj : s.judgeRequest 0x15 pay true = _ := (if_neg (by simp)).trans (if_pos (Or.inr hsome))
  exact gives_answer ht rfl (reqWaits_of_no_read s (by decide)) hj (by decide) (by decide) rfl fun t h => ⟨h.answered, by rw [h.men]⟩

theorem gives_setRecords (hl : pay.length = 32) (hp : pf pay 10 1 < 16) (hk : 4 ≤ pf pay 11 1) (hz : pay.drop 16 = List.replicate 16 0#8) :
    Gives (.setRecords seq pay) s (fun t => Answered seq 22 0 t ∧ t.men.recCfg = pay) := by
  obtain ⟨r, b, o, hc⟩ := itemChanged_frame s 0x16 pay (s.recCfg == pay) (prefix4 pay)
  have hzero : (pay.drop 16).any (fun b => b != 0#8) = false := by rw [hz]; decide
  have hnot : ¬ (pay.length ≠ 32 ∨ pf pay 10 1 / 16 ≠ 0 ∨ pf pay 11 1 < 4 ∨ (pay.drop 16).any (fun b => b != 0#8) = true) := by
    rintro (h | h | h | h)
    · exact h hl
    · omega
    · omega
    · exact absurd (hzero.symm.trans h) (by decide)
  have hj : s.judgeRequest 0x16 pay true = _ := (if_neg (by simp)).trans (if_neg hnot)
  rw [hc] at hj
  exact gives_answer ht rfl (reqWaits_of_no_read s (by decide)) hj (by decide) (by decide) rfl fun t h => ⟨h.answered, by rw [h.men]; rfl⟩

theorem gives_setTimeKey (hl : pay.length = 64) : Gives (.setTimeKey seq pay) s (fun t => Answered seq 23 0 t ∧ t.men.timeKey = pay) := by
  obtain ⟨r, b, o, hc⟩ := itemChanged_frame s 0x17 pay (s.men.timeKey == pay) (prefix4 pay)
  have hj : s.judgeRequest 0x17 pay true = _ := (if_neg (by simp)).trans (if_neg (not_not_intro hl))
  rw [hc] at hj
  exact gives_answer ht rfl (reqWaits_of_no_read s (by decide)) hj (by decide) (by decide) rfl fun t h => ⟨h.answered, by rw [h.men]; rfl⟩

theorem gives_generateKey : Gives (.generateKey seq) s (fun t => Answered seq 24 0 t ∧ 0 < t.men.privKey ∧ t.men.privKey < P256.order ∧
    t.men.pubKey = P256.publicKey t.men.privKey ∧ t.bit MEN_STAT_key_present = true) := by
  have hj : s.judgeRequest 0x18 [] true = s.reqGenerateKey [] := if_neg (by simp)
  unfold reqGenerateKey at hj
  rw [if_neg (by simp)] at hj
  dsimp only at hj
  have hd : ∀ x, 0 < 1 + x % (P256.order - 1) ∧ 1 + x % (P256.order - 1) < P256.order := fun x => by
    have hm := Nat.mod_lt x (show 0 < P256.order - 1 by decide)
    omega
  obtain ⟨hpos, hlt⟩ := hd (Config.privateKey s.freeCtr).toNat
  generalize 1 + (Config.privateKey s.freeCtr).toNat % (P256.order - 1) = d at hj hpos hlt
  obtain ⟨r, b, o, hc⟩ := itemChanged_frame s.drawn 0x18 [] false (first4 (sha256 (P256.publicKey d)))
  rw [hc] at hj
  obtain ⟨⟨q, hq⟩, hkey⟩ := publishKey_spec (({ s.drawn with regs := r, men := { s.drawn.men with p1Bad := b, opens := o } } : State).modMen
    (fun m => { m with privKey := d, pubKey := P256.publicKey d })) (publicKey_ne_nil d)
  rw [hq] at hj hkey
  have he := judged_eventRecord ({ ({ s.drawn with regs := r, men := { s.drawn.men with p1Bad := b, opens := o } } : State).modMen
    (fun m => { m with privKey := d, pubKey := P256.publicKey d }) with regs := q }) 6
  have hmen := congrArg State.men he.frame
  refine gives_answer ht rfl (reqWaits_of_no_read s (by decide)) hj (by decide) (by decide) ((congrArg State.hk he.frame).trans rfl) fun t h => ?_
  have hpriv : t.men.privKey = d := by rw [h.men]; exact (congrArg MenSt.privKey hmen).trans rfl
  have hpub : t.men.pubKey = P256.publicKey d := by rw [h.men]; exact (congrArg MenSt.pubKey hmen).trans rfl
  rw [hpriv, hpub]
  exact ⟨h.answered, hpos, hlt, rfl, h.key.trans ((he.keeps.bit (i := 0) (by decide)).trans hkey)⟩

/-- FIRMWARE_UPDATE of an image that reads without error. -/
theorem gives_firmwareUpdate (hd : s.dramWaits = false) (hl : pay.length = 8) (hb : pf pay 0 4 + pf pay 4 4 ≤ s.dataBytes) (ho : s.dramOk = true)
    (hp : ∀ a, s.poisoned a = false) {im : List Byte} (hi : im = s.dramBytes (pf pay 0 4) (pf pay 4 4)) : Gives (.firmwareUpdate seq pay) s (fun t =>
    if Config.imageValid im = true then t.men.image = some im ∧ t.men.up = false ∧ t.men.opens = [] else Answered seq 25 5 t ∧ t.men.image = s.men.image) := by
  have hw : s.reqWaits 0x19 = false := by simp [reqWaits, hd]
  obtain ⟨u, hu, hread⟩ := reqFirmware_read s hl hb ho hp hi
  have hj : s.judgeRequest 0x19 pay true = _ := (if_neg (by simp)).trans hread
  have huhk : u.hk = s.hk := by rw [hu.frame]
  cases hv : Config.imageValid im with
  | false =>
    rw [if_neg (by simp [hv])] at hj
    exact gives_answer ht rfl hw hj (by decide) (by decide) huhk fun t h => by
      rw [if_neg (by decide)]
      exact ⟨h.answered, by rw [h.men, ← hu.men]⟩
  | true =>
    obtain ⟨r, b, o, hc⟩ := itemChanged_frame u 0x19 pay false (first4 (sha256 im))
    rw [if_pos hv, hc] at hj
    obtain ⟨hvimage, hvhk, hvvar⟩ := keepsImage_commitWhere (({ u with regs := r, men := { u.men with p1Bad := b, opens := o } } : State).modMen (fun m => { m with image := some im })) (fun _ => true)
    generalize State.commitWhere _ _ = v at hj hvimage hvhk hvvar
    have h := (answerTo_respond v seq (op := 0x19) (status := 0) [] (by decide)).judged (judged_metJudge _)
    have hvar : s.variantM = true := by
      have hup := ht.up
      rw [metUp, Bool.and_eq_true] at hup
      exact hup.1
    have huvar : u.variantM = s.variantM := by rw [hu.frame]
    have hserve : s.serveRequest seq 0x19 pay true = ((v.respond seq 0x19 0 []).metJudge).enclaveReset := by
      rw [serveRequest, hj]
      exact if_pos ⟨rfl, rfl⟩
    obtain ⟨himage, hup, hopens⟩ := enclaveReset_image (h.variantM.trans (hvvar.trans (huvar.trans hvar)))
    refine gives_always rfl ht.normal ((menRequest_of_takes ht hw).trans hserve)
      ((enclaveCleared_enclaveReset (h.variantM.trans (hvvar.trans (huvar.trans hvar)))).hk.trans (h.hk.trans (hvhk.trans huhk))) ?_
    rw [if_pos rfl, settle_readOn_men]
    exact ⟨himage.trans (by rw [h.men]; exact hvimage), hup, hopens⟩

end Requests

/-- Settles O45: MET judges each request, changes the parameter and answers. -/
theorem parameterRequests : Obligations.ParameterRequests := by
  unfold Obligations.ParameterRequests
  intro seq pay s hn hu hb hq hs
  have ht : Takes s seq := ⟨hn, hu, hb, hq, hs⟩
  refine ⟨fun hl hx hi hv => gives_writeZone ht hl hx hi hv, fun hl hx hr => gives_writeMask ht rfl hl hx hr, fun h8 h4 hf hx => ?_,
    fun hl hx => gives_install ht hl hx, fun hl => ⟨fun h => gives_setEvidential ht hl h, fun n hlt hm hd => gives_setEvidential_refused ht hlt hm hd⟩,
    fun hl hp hk hz => gives_setRecords ht hl hp hk hz, fun hl => gives_setTimeKey ht hl, gives_generateKey ht,
    fun hd hl hb ho hp => gives_firmwareUpdate ht hd hl hb ho hp rfl⟩
  have hc : CurvePart pay := ⟨h8, h4, hf, hx⟩
  refine ⟨fun h0 => ?_, fun h0 hne => gives_writeCurve_refused ht (Or.inr ⟨h0, hne⟩), fun h0 he hl => ?_, fun h => gives_writeCurve_refused ht (Or.inl h),
    fun h0 he hl => ?_⟩
  · exact gives_writeCurve_part ht hc (by rw [h0, Nat.zero_add]; exact Nat.le_trans hf (by decide)) (Or.inl h0) (if_pos h0).symm (Nat.lt_of_le_of_lt hf (by decide))
  · exact gives_writeCurve_part ht hc (by rw [he]; exact Nat.le_of_lt hl) (Or.inr he) (if_neg h0).symm (by rw [List.length_append]; exact hl)
  · exact gives_writeCurve_last ht hc h0 he rfl (by rw [List.length_append]; exact hl)

end Sys2Proof.Machine
end

section
/-! Requests of the Pulon to fence a unit and to lift its fence, and how their instructions complete (R128–R131). -/

namespace Sys2Proof.Machine

open R State

namespace State

/-- `t` has the registers, the NVS and the ports of `w`, and its cores but for flag C of core `k`. -/
structure Done (k : Core) (c : Bool) (w t : State) : Prop where
  regs : t.regs = w.regs
  nvs : t.nvs = w.nvs
  ports : t.ports = w.ports
  flag : (t.core k.idx).c = c
  others : ∀ j, j ≠ k.idx → t.core j = w.core j

variable {k : Core} {c : Bool} {w t : State}

theorem Done.reg (h : Done k c w t) (a : Nat) : t.reg a = w.reg a := reg_eq_of_regs h.regs a

theorem Done.bit (h : Done k c w t) (f : Field) (i : Nat) : t.bit f i = w.bit f i := bit_eq_of_reg i (h.reg _)

theorem Done.get (h : Done k c w t) (f : Field) : t.get f = w.get f := get_eq_of_reg (h.reg _)

theorem Done.isRetired (h : Done k c w t) (p : Nat) : t.isRetired p = w.isRetired p := by rw [State.isRetired, pageMeta, h.nvs]; rfl

theorem Done.port (h : Done k c w t) (p : Nat) : t.port p = w.port p := by rw [State.port, h.ports]; rfl

/-- The Pulon cycle in which an instruction of two cycles has its effect. -/
theorem issued_pulonCycle (s : State) (k : Core) : (s.issued k 2).pulonCycle = s.issueTick k.idx 2 / 4 + 1 := by
  rw [pulonCycle, issued_now s k (by decide)]
  simp only [issueTick]
  omega

theorem issued_fenceIndex (s : State) (k : Core) (r : Bool) (a : RegNo) (w : BitVec 16) :
    (s.issued k 2).fenceIndex k.idx r a w = if r then (s.rd k.idx a).toNat % 2 ^ 16 else w.toNat := by
  rw [fenceIndex, issued_rd]

theorem issued_core_eq (s : State) (k : Core) : (s.issued k 2).core k.idx = s.movedCore k 2 := issued_core s k 2

end State

/-- A request that leaves its own core and the shutdown alone answers with flag C. -/
theorem gives_request {k : Core} {i : Instr} {s v : State} {c : Bool} {P : State → Prop} {f : State → State × Bool} (h : Issues k i s)
    (he : exec i s = commit (s.pulon k i 2 (fun _ u => (f u).1.setC k.idx (f u).2))) (hf : f (s.issued k 2) = (v, c)) (hcore : v.core k.idx = s.movedCore k 2)
    (hshdn : v.hk.shdn = s.hk.shdn) (hp : P (s.readOn (v.setC k.idx c)).settle) : Gives i s P := by
  obtain ⟨-, -, hpc, hno, hhalt⟩ := id h
  have hc : (v.setC k.idx c).core k.idx = { s.movedCore k 2 with c := c } := by rw [setC, core_modCore_same, hcore]
  have hin : (v.setC k.idx c).overrunCheck k.idx = v.setC k.idx c := overrunCheck_in _ (by rw [hc]; exact Nat.ne_of_lt hpc)
  have hgo : (v.setC k.idx c).haltAfter k.idx = v.setC k.idx c := haltAfter_none _ (by rw [hc]; exact hhalt)
  rw [pulon_issues h, hf, hin, hgo] at he
  exact gives_of_quiet he (by rw [readOn_hk]; exact hshdn.trans hno) hp

namespace State

/-- What settles and the requesting core's flag leave of the effect. -/
theorem done_settle (s v w : State) (k : Core) (c : Bool) (hr : v.regs = w.regs) (hn : v.nvs = w.nvs) (hp : v.ports = w.ports) (hc : v.cores = w.cores) :
    Done k c w (s.readOn (v.setC k.idx c)).settle := by
  refine ⟨?_, ?_, ?_, ?_, fun j hj => ?_⟩
  · rw [settle_regs]; exact hr
  · rw [settle_nvs]; exact hn
  · rw [settle_ports]; exact hp
  · rw [settle_core, readOn_core, setC, core_modCore_same]
  · rw [settle_core, readOn_core, setC, core_modCore_other _ _ hj, State.core, hc]
    rfl

/-! ## Fences (R128, R129) -/

/-- No lift of the same unit was accepted in this Pulon cycle. -/
def NoLift (s : State) (cls i : Nat) : Prop := ∀ l, s.arb.lift = some l → ¬ (l.cls = cls ∧ l.i = i ∧ l.cycle = s.pulonCycle)

/-- A request that is not ignored fences the unit, and is noted. -/
theorem fenceRequest_done {s : State} {met : Bool} {cls i : Nat} (h : ¬ (unitCount cls ≤ i ∨ (met ∧ ¬ unitLegal cls i))) (hl : s.NoLift cls i) : ∃ o b,
    s.fenceRequest met cls i = ({ s.fenceNow met cls i with lastFence := o, arb := { (s.fenceNow met cls i).arb with fresh := b } }, false) := by
  unfold fenceRequest
  rw [if_neg h]
  cases he : s.arb.lift with
  | none => exact ⟨_, _, rfl⟩
  | some l =>
    dsimp only
    rw [if_neg (hl l he)]
    exact ⟨_, _, rfl⟩

end State

variable {k : Core} {r : Bool} {a : RegNo} {cls : BitVec 4} {w : BitVec 16} {s : State} {n : Nat}

theorem exec_fence (k : Core) (cls : BitVec 4) (r : Bool) (a : RegNo) (w : BitVec 16) (s : State) : exec (.fence k cls r a w) s = commit (s.pulon k (.fence k cls r a w) 2 (fun _ u =>
    (u.fenceRequest (k == .met) cls.toNat (u.fenceIndex k.idx r a w)).1.setC k.idx (u.fenceRequest (k == .met) cls.toNat (u.fenceIndex k.idx r a w)).2)) := rfl

/-- A FENCE that reaches its unit, by what the fence of the unit leaves. -/
theorem gives_fence {P : State → Prop} (hn : n = if r then (s.rd k.idx a).toNat % 2 ^ 16 else w.toNat) (h : Issues k (.fence k cls r a w) s)
    (hu : n < unitCount cls.toNat) (hm : k = .met → unitLegal cls.toNat n = true) (hl : (s.issued k 2).NoLift cls.toNat n) {x : State}
    (hx : (s.issued k 2).fenceNow (k == .met) cls.toNat n = x) (hcore : x.core k.idx = s.movedCore k 2) (hshdn : x.hk.shdn = s.hk.shdn)
    (hp : ∀ t, Done k false x t → P t) : Gives (.fence k cls r a w) s P := by
  have hok : ¬ (unitCount cls.toNat ≤ n ∨ ((k == .met) = true ∧ ¬ unitLegal cls.toNat n = true)) := by
    rintro (hle | ⟨hk, hnot⟩)
    · omega
    · exact hnot (hm (beq_iff_eq.mp hk))
  obtain ⟨o, b, hf⟩ := fenceRequest_done hok hl
  rw [hx] at hf
  exact gives_request (f := fun u => u.fenceRequest (k == .met) cls.toNat (u.fenceIndex k.idx r a w)) (v := { x with lastFence := o, arb := { x.arb with fresh := b } }) h
    (exec_fence ..) (by rw [issued_fenceIndex, ← hn]; exact hf) hcore hshdn (hp _ (done_settle _ _ _ k false rfl rfl rfl rfl))


end Sys2Proof.Machine
end

section
/-! What the fence and the lift of each class of unit leave (R171, R302, R318, R388, R424, R442, R464). -/

namespace Sys2Proof.Machine

open R State

namespace State

/-! ## Lanes (R171, R172) -/

/-- The lane is fenced, and no lift of its waits for the next frame. -/
abbrev LaneHeld (s : State) (n : Nat) : Prop := s.laneFenced (n / 32) (n % 32) = true ∧ (s.port (n / 32)).liftWait / 2 ^ (n % 32) % 2 = 0

theorem lane_apart {n : Nat} (hn : n < 128) : LCA_FENCED (n / 32) ≠ LCA_LANE_CTL n ∧ LCA_FENCED (n / 32) ≠ LCA_EVT ∧ LCA_LANE_CTL n ≠ LCA_EVT ∧
    LCA_FENCED (n / 32) / 0x1000 = 5 ∧ LCA_LANE_CTL n / 0x1000 = 6 := by
  simp only [LCA_FENCED, LCA_LANE_CTL, LCA_EVT]
  omega

/-- What the fence of a lane leaves. -/
structure LaneFenceLeaves (n cause : Nat) (s t : State) : Prop where
  apart : Apart [5, 6] s t
  fenced : t.laneFenced (n / 32) (n % 32) = true
  kept : s.LaneHeld n → t.regs = s.regs
  cause : ¬ s.LaneHeld n → t.get (LCA_LANE_CTL_cause n) = cause
  other : ∀ x, x ∉ [LCA_FENCED (n / 32), LCA_LANE_CTL n, LCA_EVT] → t.reg x = s.reg x

theorem laneFence_spec (s : State) {n cause : Nat} (hn : n < 128) (hc : cause < 8) : LaneFenceLeaves n cause s (s.laneFence n cause) := by
  obtain ⟨h1, h2, h3, hp1, hp2⟩ := lane_apart hn
  have hm5 : LCA_FENCED (n / 32) / 0x1000 ∈ [5, 6] := by rw [hp1]; decide
  have hm6 : LCA_LANE_CTL n / 0x1000 ∈ [5, 6] := by rw [hp2]; decide
  unfold laneFence
  split
  · next hh =>
    rw [Bool.and_eq_true, beq_iff_eq] at hh
    exact ⟨Apart.refl s, hh.1, fun _ => rfl, fun h => absurd hh h, fun _ _ => rfl⟩
  · next hh =>
    rw [Bool.and_eq_true, beq_iff_eq] at hh
    extract_lets u
    refine ⟨((((apart_modPort s _ _).trans (apart_setBit u (n % 32) hm5)).trans (apart_setBit _ 0 hm6)).trans (apart_put _ cause hm6)).trans (apart_setBit _ 0 (by decide)), ?_,
      fun h => absurd h hh, fun _ => ?_, fun x hx => ?_⟩
    · refine (bit_eq_of_reg (s := u.setBit ⟨LCA_FENCED (n / 32), 31, 0⟩ (n % 32)) (f := ⟨LCA_FENCED (n / 32), 31, 0⟩) _ ?_).trans
        (bit_setBit_same u ⟨LCA_FENCED (n / 32), 31, 0⟩ (n % 32) (Nat.zero_le 31) (Nat.lt_succ_self 31) (by show 0 + n % 32 ≤ 31; omega))
      exact ((reg_setBit_other _ _ _ h2).trans (reg_put_other _ _ _ h1)).trans (reg_setBit_other _ _ _ h1)
    · rw [get_eq_of_reg (f := LCA_LANE_CTL_cause n) (reg_setBit_other _ LCA_EVT_fence 0 h3),
        get_put_same _ (LCA_LANE_CTL_cause n) cause (by simp [LCA_LANE_CTL_cause]) (by simp [LCA_LANE_CTL_cause])]
      exact Nat.mod_eq_of_lt hc
    · simp only [List.mem_cons, List.not_mem_nil, or_false, not_or] at hx
      obtain ⟨hx1, hx2, hx3⟩ := hx
      exact (((reg_setBit_other _ _ _ hx3).trans (reg_put_other _ _ _ hx2)).trans (reg_setBit_other _ _ _ hx2)).trans (reg_setBit_other u _ _ hx1)

/-! ## Compression coders (R317, R318) -/

/-- What the fence of a coder leaves. -/
structure CoderFenceLeaves (k : Nat) (s t : State) : Prop where
  apart : Apart [0xB] s t
  fenced : t.bit CER_STAT_coder k = true
  kept : s.bit CER_STAT_coder k = true → t.regs = s.regs
  other : ∀ x, x ∉ [CER_STAT, CER_EVT2] → t.reg x = s.reg x

theorem coderFields (k : Fin 2) : CER_STAT_cause.BitIn k [CER_STAT_cause] ∧ ∀ g ∈ [CER_STAT_cause], ¬ g.Holds CER_STAT_coder.addr (CER_STAT_coder.lo + k) := by decide +revert

theorem coderFence_spec (s : State) {k : Nat} (hk : k < 2) (v : Bool) : CoderFenceLeaves k s (s.coderFence k v) := by
  obtain ⟨⟨hw, hin, h32⟩, hap⟩ := coderFields ⟨k, hk⟩
  unfold coderFence
  split
  · next h => exact ⟨Apart.refl s, h, fun _ => rfl, fun _ _ => rfl⟩
  · next h =>
    refine ⟨((apart_setBit s k (by decide)).trans (apart_wrBit _ k v (by decide))).trans (apart_setBit _ k (by decide)), ?_, fun h' => absurd h' h, fun x hx => ?_⟩
    · rw [bit_eq_of_reg (f := CER_STAT_coder) k (reg_setBit_other _ CER_EVT2_fence k (by decide)), (keeps_wrBit _ v hw hin h32).bit hap]
      exact bit_setBit_same s CER_STAT_coder k (by decide) (by decide) (by show 0 + k ≤ 1; omega)
    · simp only [List.mem_cons, List.not_mem_nil, or_false, not_or] at hx
      exact ((reg_setBit_other _ _ _ hx.2).trans (reg_wrBit_other _ _ _ _ hx.1)).trans (reg_setBit_other s _ _ hx.1)

theorem coderLift_spec (s : State) {k : Nat} (hk : k < 2) : Apart [0xB] s (s.coderLift k) ∧ (s.coderLift k).bit CER_STAT_coder k = false ∧
    ∀ x, x ≠ CER_STAT → (s.coderLift k).reg x = s.reg x := by
  obtain ⟨⟨hw, hin, h32⟩, hap⟩ := coderFields ⟨k, hk⟩
  unfold coderLift
  refine ⟨(apart_clrBit s k (by decide)).trans (apart_clrBit _ k (by decide)), ?_, fun x hx => (reg_clrBit_other _ _ _ hx).trans (reg_clrBit_other s _ _ hx)⟩
  rw [(keeps_clrBit _ hw hin h32).bit hap]
  exact bit_clrBit_same s CER_STAT_coder k (by decide) (by decide)

/-! ## Housekeeping inputs (R442) -/

theorem apart_modHk {l : List Nat} (s : State) (f : HkSt → HkSt) (h : (f s.hk).shdn = s.hk.shdn) : Apart l s (s.modHk f) := ⟨rfl, rfl, rfl, rfl, h, rfl, rfl, fun _ _ => rfl⟩

theorem bit_modHk (s : State) (f : HkSt → HkSt) (g : Field) (i : Nat) : (s.modHk f).bit g i = s.bit g i := rfl

theorem hkRes_apart (i : Fin 24) : HKT_CH_RES (inputChan i) ≠ HKT_FENCED ∧ HKT_CH_RES (inputChan i) / 0x1000 = 0xE := by decide +revert

theorem hkFence_spec (s : State) {i : Nat} (hi : i < 24) : Apart [0xE] s (s.hkFence i) ∧ (s.hkFence i).bit HKT_FENCED_inputs i = true := by
  obtain ⟨hne, hp⟩ := hkRes_apart ⟨i, hi⟩
  have hm : HKT_CH_RES (inputChan i) / 0x1000 ∈ [0xE] := by rw [hp]; decide
  unfold hkFence
  split
  · next h => exact ⟨Apart.refl s, h⟩
  · extract_lets c u v
    have hv : Apart [0xE] s v := (((apart_setBit s i (by decide)).trans (apart_setBit _ 0 (by decide))).trans (apart_put u 0 hm)).trans (apart_put _ 1 hm)
    have hb : v.bit HKT_FENCED_inputs i = true := by
      rw [bit_eq_of_reg (f := HKT_FENCED_inputs) i (((reg_put_other _ _ _ hne.symm).trans (reg_put_other u _ _ hne.symm)).trans (reg_setBit_other _ HKT_EVT_fence 0 (by decide)))]
      exact bit_setBit_same s HKT_FENCED_inputs i (by decide) (by decide) (by show 0 + i ≤ 23; omega)
    clear_value v
    split
    · exact ⟨hv.trans (apart_modHk v _ rfl), (bit_modHk v _ _ i).trans hb⟩
    · exact ⟨hv, hb⟩

theorem hkLift_spec (s : State) {i : Nat} (hi : i < 24) (hf : s.bit HKT_FENCED_inputs i = true) (ho : s.bit HKT_OPEN_inputs i = false) :
    Apart [0xE] s (s.hkLift i) ∧ (s.hkLift i).bit HKT_FENCED_inputs i = false := by
  obtain ⟨hne, hp⟩ := hkRes_apart ⟨i, hi⟩
  have hm : HKT_CH_RES (inputChan i) / 0x1000 ∈ [0xE] := by rw [hp]; decide
  unfold hkLift
  rw [if_neg (by simp [inputFenced, hf, ho])]
  extract_lets c u
  have hu : Apart [0xE] s u := apart_clrBit s i (by decide)
  have hb : u.bit HKT_FENCED_inputs i = false := bit_clrBit_same s HKT_FENCED_inputs i (by decide) (by decide)
  clear_value u
  split
  · exact ⟨hu, hb⟩
  · have hv := apart_put (l := [0xE]) u (f := HKT_CH_RES_held c) 0 hm
    have hk := reg_put_other u (HKT_CH_RES_held c) 0 hne.symm
    generalize u.put (HKT_CH_RES_held c) 0 = v at hv hk ⊢
    exact ⟨(hu.trans hv).trans (apart_modHk v _ rfl), (bit_modHk v _ _ i).trans ((bit_eq_of_reg (f := HKT_FENCED_inputs) i hk).trans hb)⟩

/-! ## NVS pages (R424) -/

/-- What the retirement of a page leaves. -/
structure RetireLeaves (p cause : Nat) (s t : State) : Prop where
  cores : t.cores = s.cores
  hk : t.hk = s.hk
  retired : t.isRetired p = true
  kept : s.isRetired p = true → t.regs = s.regs ∧ t.nvs = s.nvs
  cause : s.isRetired p = false → (t.pageMeta p).retired = cause ∧ t.bit NVS_EVT_retire = true

theorem retire_spec (s : State) (p : Nat) {cause : Nat} (hc : cause ≠ 0) : RetireLeaves p cause s (s.retire p cause) := by
  unfold retire
  split
  · next h => exact ⟨rfl, rfl, h, fun _ => ⟨rfl, rfl⟩, fun h' => absurd (h.symm.trans h') (by decide)⟩
  · next h =>
    have hmeta : ((((s.setPage p { s.pageMeta p with retired := cause }).nvsEvt false NVS_EVT_retire).nvsEvt true NVS_EVT_retire).pageMeta p).retired = cause :=
      congrArg PageMeta.retired (Map.get_set_same _ s.nvs.pages p { s.pageMeta p with retired := cause })
    refine ⟨rfl, rfl, ?_, fun h' => absurd h' h, fun _ => ⟨hmeta, ?_⟩⟩
    · rw [isRetired, hmeta]
      simpa using hc
    · have hput := get_put_same (s.setPage p { s.pageMeta p with retired := cause }) NVS_EVT_retire 1 (by decide) (by decide)
      have hget : ((((s.setPage p { s.pageMeta p with retired := cause }).nvsEvt false NVS_EVT_retire).nvsEvt true NVS_EVT_retire)).get NVS_EVT_retire = 1 := hput
      rw [State.bit, hget]
      rfl

/-! ## Receive ports (R388) -/

theorem rx_apart {r : Nat} (hr : r < 2) : VIO_RX_STAT r ≠ VIO_STAT ∧ VIO_RX_STAT r ≠ VIO_EVT ∧ VIO_RX_STAT r / 0x1000 = 0x11 := by
  simp only [VIO_RX_STAT, VIO_STAT, VIO_EVT]
  omega

theorem apart_modRxPort {l : List Nat} (s : State) (r : Nat) (f : RxPort → RxPort) : Apart l s (s.modRxPort r f) := ⟨rfl, rfl, rfl, rfl, rfl, rfl, rfl, fun _ _ => rfl⟩

/-- A frame that is short goes to no facet. -/
theorem apart_rxClose_short (s : State) {r : Nat} (hr : r < 2) (h : (s.rxPort r).short = true) : Apart [9, 0x11] s (s.rxClose r false) := by
  obtain ⟨-, -, hp⟩ := rx_apart hr
  unfold rxClose
  split
  · exact Apart.refl s
  · extract_lets f x w h' short u v
    have hf : IPL_FCNT f / 0x1000 ∈ [9, 0x11] ∧ IPL_CNT f / 0x1000 ∈ [9, 0x11] := by
      simp only [IPL_FCNT, IPL_CNT, List.mem_cons, List.not_mem_nil, or_false]
      omega
    have hs : short = true := by simp [short, x, h]
    rw [if_pos hs]
    exact (((apart_clrBit s 0 (by show VIO_RX_STAT r / 0x1000 ∈ _; rw [hp]; decide)).trans (apart_setNum _ _ hf.1)).trans (apart_bump u hf.2)).trans (apart_setBit _ f (by decide))

/-- What the fence of a receive port leaves. -/
structure RxFenceLeaves (r cause : Nat) (s t : State) : Prop where
  apart : Apart [9, 0x11] s t
  fenced : t.bit (VIO_RX_STAT_fenced r) = true
  kept : s.bit (VIO_RX_STAT_fenced r) = true → t.regs = s.regs
  cause : s.bit (VIO_RX_STAT_fenced r) = false → t.get (VIO_RX_STAT_fence r) = cause

theorem rxFields (r : Fin 2) : (VIO_RX_STAT_fence r).Within [VIO_RX_STAT_fence r] ∧ (∀ g ∈ [VIO_RX_STAT_fence r], ¬ g.Holds (VIO_RX_STAT_fenced r).addr ((VIO_RX_STAT_fenced r).lo + 0)) ∧
    (VIO_RX_STAT_fenced r).lo + 0 ≤ (VIO_RX_STAT_fenced r).hi := by decide +revert

theorem rxFence_spec (s : State) {r cause : Nat} (hr : r < 2) (hc : cause < 4) : RxFenceLeaves r cause s (s.rxFence r cause) := by
  obtain ⟨h1, h2, hp⟩ := rx_apart hr
  obtain ⟨hw, hap, -⟩ := rxFields ⟨r, hr⟩
  have hm : VIO_RX_STAT r / 0x1000 ∈ [9, 0x11] := by rw [hp]; decide
  unfold rxFence
  split
  · next h => exact ⟨Apart.refl s, h, fun _ => rfl, fun h' => absurd (h.symm.trans h') (by decide)⟩
  · next h =>
    extract_lets u
    have hu : Apart [9, 0x11] s u := (apart_modRxPort s r _).trans (apart_rxClose_short _ hr (by simp [modRxPort, rxPort]))
    refine ⟨(((hu.trans (apart_setBit u 0 hm)).trans (apart_put _ cause hm)).trans (apart_setBit _ r (by decide))).trans (apart_setBit _ r (by decide)), ?_, fun h' => absurd h' h,
      fun _ => ?_⟩
    · rw [bit_eq_of_reg (f := VIO_RX_STAT_fenced r) 0 ((reg_setBit_other _ VIO_EVT_rx_fence r h2).trans (reg_setBit_other _ VIO_STAT_receive r h1)), (keeps_put _ cause hw).bit hap]
      exact bit_setBit_same u (VIO_RX_STAT_fenced r) 0 (Nat.le_refl _) (by simp [VIO_RX_STAT_fenced]) (Nat.le_refl _)
    · rw [get_eq_of_reg (f := VIO_RX_STAT_fence r) ((reg_setBit_other _ VIO_EVT_rx_fence r h2).trans (reg_setBit_other _ VIO_STAT_receive r h1)),
        get_put_same _ (VIO_RX_STAT_fence r) cause (by simp [VIO_RX_STAT_fence]) (by simp [VIO_RX_STAT_fence])]
      exact Nat.mod_eq_of_lt hc

theorem rxLift_spec (s : State) {r : Nat} (hr : r < 2) (hf : s.bit (VIO_RX_STAT_fenced r) = true) : Apart [0x11] s (s.rxLift r) ∧ (s.rxLift r).bit (VIO_RX_STAT_fenced r) = false ∧
    (s.rxLift r).get (VIO_RX_STAT_fence r) = 0 ∧ ∀ x, x ∉ [VIO_RX_STAT r, VIO_STAT] → (s.rxLift r).reg x = s.reg x := by
  obtain ⟨h1, -, hp⟩ := rx_apart hr
  obtain ⟨hw, hap, -⟩ := rxFields ⟨r, hr⟩
  have hm : VIO_RX_STAT r / 0x1000 ∈ [0x11] := by rw [hp]; decide
  unfold rxLift
  rw [if_pos hf]
  refine ⟨(((apart_clrBit s 0 hm).trans (apart_put _ 0 hm)).trans (apart_clrBit _ r (by decide))).trans (apart_modRxPort _ r _), ?_, ?_, fun x hx => ?_⟩
  · refine (bit_eq_of_reg (f := VIO_RX_STAT_fenced r) 0 (reg_clrBit_other _ VIO_STAT_receive r h1)).trans ?_
    rw [(keeps_put _ 0 hw).bit hap]
    exact bit_clrBit_same s (VIO_RX_STAT_fenced r) 0 (Nat.le_refl _) (by simp [VIO_RX_STAT_fenced])
  · refine (get_eq_of_reg (f := VIO_RX_STAT_fence r) (reg_clrBit_other _ VIO_STAT_receive r h1)).trans ?_
    rw [get_put_same _ (VIO_RX_STAT_fence r) 0 (by simp [VIO_RX_STAT_fence]) (by simp [VIO_RX_STAT_fence])]
    rfl
  · simp only [List.mem_cons, List.not_mem_nil, or_false, not_or] at hx
    exact ((reg_clrBit_other _ _ _ hx.2).trans (reg_put_other _ _ _ hx.1)).trans (reg_clrBit_other s _ _ hx.1)

end State

end Sys2Proof.Machine
end

section
/-! What the fence and the lift of a channel of the shutter drive and of a port leave, and the lift of a lane (R84, R172, R227, R464). -/

namespace Sys2Proof.Machine

open R State

namespace State

/-! ## Channels of the shutter drive (R464) -/

/-- What a waiting trigger writes as it is dropped, and what a phase writes as it begins. -/
def sdrWaitFields : List Field := [⟨SDR_EVT, 31, 0⟩, ⟨SDR_DROP_CNT, 31, 0⟩] ++ [0, 1, 2, 3].map (fun n => ⟨SDR_PAIR_STAT n, 31, 0⟩)

def sdrRunFields : List Field := sdrWaitFields ++ [0, 1, 2, 3, 4, 5, 6, 7].flatMap (fun c => [SDR_CH_STAT_gate c, SDR_CH_STAT_low c, ⟨SDR_CH_CNT c, 31, 0⟩])

theorem sdrFields_pair (n : Fin 4) : (SDR_PAIR_STAT_hs n).BitIn 0 sdrRunFields ∧ (SDR_PAIR_STAT_phase n).Within sdrRunFields ∧
    (SDR_PAIR_STAT_waiting n).BitIn 0 sdrWaitFields ∧ (⟨SDR_DROP_CNT, 8 * n + 7, 8 * n⟩ : Field).Within sdrWaitFields ∧ SDR_EVT_drop.BitIn n sdrWaitFields := by decide +revert

theorem sdrFields_chan (c : Fin 8) : (SDR_CH_STAT_gate c).BitIn 0 sdrRunFields ∧ (SDR_CH_STAT_low c).BitIn 0 sdrRunFields ∧ (SDR_CH_CNT_nomove c).Within sdrRunFields ∧
    SDR_EVT_nomove.BitIn c sdrRunFields := by decide +revert

theorem sdrFields_apart (c : Fin 8) : (∀ g ∈ sdrRunFields, ¬ g.Holds SDR_FENCED (0 + c)) ∧ (∀ g ∈ sdrRunFields, g.addr = SDR_CH_STAT c → 2 < g.lo ∨ g.hi < 0) ∧
    ∀ g ∈ sdrWaitFields, ¬ g.Holds (SDR_CH_STAT c) (4 + 0) := by decide +revert

variable {n c : Nat} (hn : n < 4) (hc : c < 8)

section Pair

include hn

theorem keeps_clearWait (s : State) : Keeps sdrWaitFields s (s.clearWait n) := by
  obtain ⟨-, -, ⟨hw, hin, h32⟩, -⟩ := sdrFields_pair ⟨n, hn⟩
  exact (keeps_of_regs rfl).trans (keeps_clrBit (s.modPair n fun x => { x with wait := none }) hw hin h32)

theorem keeps_dropTrigger (s : State) : Keeps sdrWaitFields s (s.dropTrigger n) := by
  obtain ⟨-, -, -, hcnt, ⟨hw, hin, h32⟩⟩ := sdrFields_pair ⟨n, hn⟩
  exact (wrote_bump s hcnt).keeps.trans (keeps_setBit _ hw hin h32)

include hc

theorem keeps_drive (s : State) (g : Bool) : Keeps sdrRunFields s (s.drive n c g) := by
  obtain ⟨⟨hw, hin, h32⟩, -⟩ := sdrFields_chan ⟨c, hc⟩
  obtain ⟨⟨hw', hin', h32'⟩, -⟩ := sdrFields_pair ⟨n, hn⟩
  unfold drive
  extract_lets q off clamp t u
  have hu : Keeps sdrRunFields s u := (keeps_wrBit s g hw hin h32).trans (keeps_wrBit t _ hw' hin' h32')
  split
  · exact hu.trans (keeps_of_regs rfl)
  · exact hu

end Pair

include hn in
theorem keeps_beginPhase (s : State) (j t : Nat) : Keeps sdrRunFields s (s.beginPhase n j t) := by
  obtain ⟨-, hphase, -⟩ := sdrFields_pair ⟨n, hn⟩
  unfold beginPhase
  split
  · exact Keeps.refl _ s
  next q _ =>
  extract_lets c rel was u v mode duty w
  have hc : c < 8 := profChan_lt s hn q.prof
  obtain ⟨-, ⟨hw, hin, h32⟩, hcnt, ⟨hw', hin', h32'⟩⟩ := sdrFields_chan ⟨c, hc⟩
  have hsw : Keeps sdrRunFields s w := ((keeps_of_regs rfl).trans (keeps_put u j hphase)).trans (keeps_drive hn hc v _)
  split
  · have hx : Keeps sdrRunFields s ((w.setBit SDR_EVT_nomove c).bump (SDR_CH_CNT_nomove c)) := hsw.trans ((keeps_setBit w hw' hin' h32').trans (wrote_bump _ hcnt).keeps)
    split
    · exact hx.trans (keeps_setBit _ hw hin h32)
    · exact hx
  · exact hsw

theorem sparing_foldl {α : Type} {A : Nat → Prop} (f : State → α → State) (h : ∀ s x, Sparing A s (f s x)) (l : List α) : ∀ s, Sparing A s (l.foldl f s) := by
  induction l with
  | nil => exact Sparing.refl
  | cons x xs ih => exact fun s => (h s x).trans (ih _)

/-- The registers by which a channel of the shutter drive shows its fence. -/
def channelRegs (c : Nat) (a : Nat) : Prop := a = SDR_FENCED ∨ a = SDR_CH_STAT c

theorem channelRegs_csu (c p a : Nat) (h : channelRegs c a) : a ≠ CSU_EVT ∧ a ≠ CSU_ACTIVE ∧ a ≠ CSU_CNT p ∧ a ≠ CSU_DUE p ∧ a ≠ CSU_STAT p := by
  simp only [channelRegs, SDR_FENCED, SDR_CH_STAT] at h
  simp only [CSU_EVT, CSU_ACTIVE, CSU_CNT, CSU_DUE, CSU_STAT]
  omega

/-- What the fence of a channel of the shutter drive by SUP leaves. -/
structure ChannelFenceLeaves (c : Nat) (s t : State) : Prop where
  cores : t.cores = s.cores
  shdn : t.hk.shdn = s.hk.shdn
  fenced : t.bit SDR_FENCED_channels c = true
  last : t.get (SDR_CH_STAT_last c) = 3
  gate : t.bit (SDR_CH_STAT_gate c) = false

theorem ChannelFenceLeaves.sparing {s t u : State} (h : ChannelFenceLeaves c s t) (k : Sparing (channelRegs c) t u) : ChannelFenceLeaves c s u where
  cores := k.cores.trans h.cores
  shdn := k.shdn.trans h.shdn
  fenced := (bit_eq_of_reg c (k.reg _ (.inl rfl))).trans h.fenced
  last := (get_eq_of_reg (k.reg _ (.inr rfl))).trans h.last
  gate := (bit_eq_of_reg 0 (k.reg _ (.inr rfl))).trans h.gate

/-- The shutter drive's own record of a fence. -/
def channelRecord (s : State) (c : Nat) : State := (((s.setBit SDR_FENCED_channels c).setBit (SDR_CH_STAT_fenced c)).put (SDR_CH_STAT_last c) 3).setBit SDR_EVT_fence c

/-- The profile that runs on a fenced channel goes to its release. -/
def channelStop (s : State) (c : Nat) : State :=
  match (s.pair (c / 2)).run with
  | some q =>
    if s.profChan (c / 2) q.prof ≠ c then s
    else
      let s := s.modPair (c / 2) (fun x => { x with clamp := x.clamp || (3 : Nat) != 3 })
      if (s.pair (c / 2)).releasing then s.drive (c / 2) c false
      else s.beginPhase (c / 2) (s.get (SDR_PRF_CFG_nphase q.prof) - 1) (s.nextSlotTick (s.profRaster q))
  | none => s

/-- The trigger that waits for a fenced channel is dropped. -/
def channelDrop (s : State) (c : Nat) : State × Option Nat :=
  match (s.pair (c / 2)).wait with
  | some q => if s.profChan (c / 2) q.prof = c then ((s.clearWait (c / 2)).dropTrigger (c / 2), q.csu) else (s, none)
  | none => (s, none)

theorem sdrFence_sup (s : State) (h : s.bit SDR_FENCED_channels c = false) : s.sdrFence c 3 = (((s.channelRecord c).channelStop c).clrBit (SDR_CH_STAT_gate c)).channelDrop c := by
  unfold sdrFence
  rw [if_neg (by rw [h]; decide)]
  unfold channelRecord
  generalize (((s.setBit SDR_FENCED_channels c).setBit (SDR_CH_STAT_fenced c)).put (SDR_CH_STAT_last c) 3).setBit SDR_EVT_fence c = u
  simp only [show ¬ (3 : Nat) = 1 by decide, show ¬ (3 : Nat) = 2 by decide, if_false] <;> rfl

include hc

theorem channelStop_frame (s : State) : ShutterOnly s (s.channelStop c) ∧ Keeps sdrRunFields s (s.channelStop c) := by
  have hn : c / 2 < 4 := by omega
  unfold channelStop
  split
  · split
    · exact ⟨Apart.refl s, Keeps.refl _ s⟩
    · extract_lets u
      have hu : ShutterOnly s u := apart_modPair s _ _
      have hk : Keeps sdrRunFields s u := keeps_of_regs rfl
      split
      · exact ⟨hu.trans (shutter_drive u hn hc false), hk.trans (keeps_drive hn hc u false)⟩
      · exact ⟨hu.trans (shutter_beginPhase u hn _ _), hk.trans (keeps_beginPhase hn u _ _)⟩
  · exact ⟨Apart.refl s, Keeps.refl _ s⟩

theorem channelDrop_frame (s : State) : ShutterOnly s (s.channelDrop c).1 ∧ Keeps sdrWaitFields s (s.channelDrop c).1 := by
  have hn : c / 2 < 4 := by omega
  unfold channelDrop
  split
  · split
    · exact ⟨((apart_modPair s _ _).trans (apart_clrBit _ 0 (sdr_page hn hc).1)).trans (shutter_dropTrigger _ _), (keeps_clearWait hn s).trans (keeps_dropTrigger hn _)⟩
    · exact ⟨Apart.refl s, Keeps.refl _ s⟩
  · exact ⟨Apart.refl s, Keeps.refl _ s⟩

theorem channelRecord_spec (s : State) : ShutterOnly s (s.channelRecord c) ∧ (s.channelRecord c).bit SDR_FENCED_channels c = true ∧ (s.channelRecord c).get (SDR_CH_STAT_last c) = 3 := by
  have hne : SDR_FENCED ≠ SDR_CH_STAT c ∧ SDR_CH_STAT c ≠ SDR_EVT := by
    simp only [SDR_FENCED, SDR_CH_STAT, SDR_EVT]
    omega
  have hm : SDR_CH_STAT c / 0x1000 ∈ shutterPages := (sdr_page (Nat.zero_lt_succ 3) hc).2.1
  unfold channelRecord
  refine ⟨(((apart_setBit s c (by decide)).trans (apart_setBit _ 0 hm)).trans (apart_put _ 3 hm)).trans (apart_setBit _ c (by decide)), ?_, ?_⟩
  · rw [bit_eq_of_reg (f := SDR_FENCED_channels) c (((reg_setBit_other _ SDR_EVT_fence c (by decide)).trans (reg_put_other _ (SDR_CH_STAT_last c) 3 hne.1)).trans (reg_setBit_other _ (SDR_CH_STAT_fenced c) 0 hne.1))]
    exact bit_setBit_same s SDR_FENCED_channels c (by decide) (by decide) (by show 0 + c ≤ 7; omega)
  · rw [get_eq_of_reg (f := SDR_CH_STAT_last c) (reg_setBit_other _ SDR_EVT_fence c hne.2), get_put_same _ (SDR_CH_STAT_last c) 3 (by simp [SDR_CH_STAT_last]) (by simp [SDR_CH_STAT_last])]
    rfl

theorem channelFence_spec (s : State) (h : s.bit SDR_FENCED_channels c = false) : ChannelFenceLeaves c s (s.channelFence c 3) := by
  obtain ⟨hr, hfen, hlast⟩ := channelRecord_spec hc s
  obtain ⟨ha, hb, hg⟩ := sdrFields_apart ⟨c, hc⟩
  obtain ⟨⟨hw, hin, h32⟩, -⟩ := sdrFields_chan ⟨c, hc⟩
  obtain ⟨h1, k1⟩ := channelStop_frame hc (s.channelRecord c)
  have hm : SDR_CH_STAT c / 0x1000 ∈ shutterPages := (sdr_page (Nat.zero_lt_succ 3) hc).2.1
  have h2 := apart_clrBit ((s.channelRecord c).channelStop c) (f := SDR_CH_STAT_gate c) 0 hm
  have k2 : Keeps sdrRunFields _ _ := keeps_clrBit ((s.channelRecord c).channelStop c) hw hin h32
  have g2 := bit_clrBit_same ((s.channelRecord c).channelStop c) (SDR_CH_STAT_gate c) 0 (Nat.le_refl _) (by simp [SDR_CH_STAT_gate])
  obtain ⟨h3, k3⟩ := channelDrop_frame hc (((s.channelRecord c).channelStop c).clrBit (SDR_CH_STAT_gate c))
  rw [← sdrFence_sup s h] at h3 k3
  have hk := (k1.trans k2).trans (k3.mono (List.subset_append_left _ _))
  have hall := ((hr.trans h1).trans h2).trans h3
  have hsdr : ChannelFenceLeaves c s (s.sdrFence c 3).1 :=
    { cores := hall.cores
      shdn := hall.shdn
      fenced := (hk.bit ha).trans hfen
      last := (hk.get hb (by simp [SDR_CH_STAT_last])).trans hlast
      gate := (k3.bit hg).trans g2 }
  unfold channelFence
  rw [if_neg (by rw [h]; decide)]
  generalize s.sdrFence c 3 = x at hsdr
  obtain ⟨u, o⟩ := x
  have hcsu := hsdr.sparing (sparing_foldl (A := channelRegs c) (fun v p => if v.headUses p c then v.shutUnavail p none else v)
    (fun v p => (csu_shutUnavail (channelRegs_csu c p) v none).ite (Sparing.refl v)) [0, 1, 2, 3] u)
  cases o with
  | none => exact hcsu
  | some p => exact hcsu.sparing (csu_ffDropped (channelRegs_csu c p) _)

omit hc in
theorem csu_shutAvail {A : Nat → Prop} {p : Nat} (hA : ∀ a, A a → a ≠ CSU_STAT p) (s : State) : Sparing A s (s.shutAvail p) := by
  unfold shutAvail
  extract_lets t
  have ht : Sparing A s t := sparing_wrBit s (f := CSU_STAT_shut_unavail p) 0 false fun h => hA _ h rfl
  exact (ht.trans (sparing_modCsu t p _)).ite ht

theorem channelLift_spec (s : State) : let t := (s.sdrLift c).csuChannelLifted c
    t.cores = s.cores ∧ t.hk.shdn = s.hk.shdn ∧ t.bit SDR_FENCED_channels c = false ∧ t.bit (SDR_CH_STAT_fenced c) = false := by
  have hne : SDR_FENCED ≠ SDR_CH_STAT c := by
    simp only [SDR_FENCED, SDR_CH_STAT]
    omega
  have hm : SDR_CH_STAT c / 0x1000 ∈ shutterPages := (sdr_page (Nat.zero_lt_succ 3) hc).2.1
  have h1 : ShutterOnly s (s.sdrLift c) := (apart_clrBit s (f := SDR_FENCED_channels) c (by decide)).trans (apart_clrBit _ (f := SDR_CH_STAT_fenced c) 0 hm)
  have hf : (s.sdrLift c).bit SDR_FENCED_channels c = false := (bit_eq_of_reg (f := SDR_FENCED_channels) c (reg_clrBit_other _ (SDR_CH_STAT_fenced c) 0 hne)).trans
    (bit_clrBit_same s SDR_FENCED_channels c (by decide) (by decide))
  have hg : (s.sdrLift c).bit (SDR_CH_STAT_fenced c) = false := bit_clrBit_same _ (SDR_CH_STAT_fenced c) 0 (Nat.le_refl _) (by simp [SDR_CH_STAT_fenced])
  have h2 := sparing_foldl (A := channelRegs c) (fun v p => if v.headUses p c then v.shutAvail p else v)
    (fun v p => (csu_shutAvail (fun a ha => (channelRegs_csu c p a ha).2.2.2.2) v).ite (Sparing.refl v)) [0, 1, 2, 3] (s.sdrLift c)
  exact ⟨h2.cores.trans h1.cores, h2.shdn.trans h1.shdn, (bit_eq_of_reg c (h2.reg _ (.inl rfl))).trans hf, (bit_eq_of_reg 0 (h2.reg _ (.inr rfl))).trans hg⟩

end State

end Sys2Proof.Machine
end

section
/-! What the fence and the lift of a facet leave, through every band that begins meanwhile (R284–R287, R301, R302). -/

namespace Sys2Proof.Machine

open R State

namespace State

/-- Between `s` and `t` the cores and the decided shutdown stand, and no facet's fence is lifted. -/
structure FacetsHeld (s t : State) : Prop where
  cores : t.cores = s.cores
  shdn : t.hk.shdn = s.hk.shdn
  fenced : ∀ g, g < 6 → s.bit (IPL_F_STAT_fenced g) = true → t.bit (IPL_F_STAT_fenced g) = true

theorem FacetsHeld.refl (s : State) : FacetsHeld s s := ⟨rfl, rfl, fun _ _ h => h⟩

theorem FacetsHeld.trans {s t u : State} (h : FacetsHeld s t) (k : FacetsHeld t u) : FacetsHeld s u :=
  ⟨k.cores.trans h.cores, k.shdn.trans h.shdn, fun g hg hb => k.fenced g hg (h.fenced g hg hb)⟩

theorem FacetsHeld.ite {s t u : State} {c : Prop} [Decidable c] (h : FacetsHeld s t) (k : FacetsHeld s u) : FacetsHeld s (if c then t else u) := by
  split
  · exact h
  · exact k

theorem facetsHeld_foldl {α : Type} (f : State → α → State) (h : ∀ s x, FacetsHeld s (f s x)) (l : List α) : ∀ s, FacetsHeld s (l.foldl f s) := by
  induction l with
  | nil => exact FacetsHeld.refl
  | cons x xs ih => exact fun s => (h s x).trans (ih _)

/-! ## Writes -/

/-- The status register of a facet. -/
def IsFacetStat (a : Nat) : Prop := ∃ g, g < 6 ∧ a = IPL_F_STAT g

theorem Sparing.facetsHeld {s t : State} (h : Sparing IsFacetStat s t) : FacetsHeld s t :=
  ⟨h.cores, h.shdn, fun g hg hb => (bit_eq_of_reg (f := IPL_F_STAT_fenced g) 0 (h.reg _ ⟨g, hg, rfl⟩)).trans hb⟩

theorem EccNoted.facetsHeld {s t : State} (h : EccNoted s t) : FacetsHeld s t := by
  have hf := h.frame
  refine ⟨by rw [hf], by rw [hf], fun g hg hb => (bit_eq_of_reg (f := IPL_F_STAT_fenced g) 0 (h.reg _ fun hm => ?_)).trans hb⟩
  simp only [IPL_F_STAT_fenced, IPL_F_STAT, eccRegs, MEM_UE_CNT, MEM_CE_CNT, MEM_EVT, MEM_ECC_ADDR_LO, MEM_ECC_ADDR_HI, MEM_ECC_INFO, List.mem_cons, List.not_mem_nil, or_false] at hm
  omega

theorem facetsHeld_modFacet (s : State) (f : Nat) (g : FacetSt → FacetSt) : FacetsHeld s (s.modFacet f g) := ⟨rfl, rfl, fun _ _ h => h⟩

theorem Keeps.facetsHeld {l : List Field} {s t : State} (h : Keeps l s t) (hl : ∀ f ∈ l, f.hi < 2 ∨ 2 < f.lo) (hc : t.cores = s.cores) (hs : t.hk.shdn = s.hk.shdn) : FacetsHeld s t :=
  ⟨hc, hs, fun g _ hb => (h.bit (f := IPL_F_STAT_fenced g) (i := 0) fun f hf ⟨_, hlo, hhi⟩ => by
    have := hl f hf
    simp only [IPL_F_STAT_fenced] at hlo hhi
    omega).trans hb⟩

/-- A field that holds no bit 2, which is the fence of a facet in its status register. -/
abbrev BesideFence (f : Field) : Prop := f.lo ≤ f.hi ∧ f.hi < 32 ∧ (f.hi < 2 ∨ 2 < f.lo)

section Fields

variable {f : Field} (hf : BesideFence f)

include hf

theorem facetsHeld_put (s : State) (v : Nat) : FacetsHeld s (s.put f v) := by
  obtain ⟨hle, h32, hb⟩ := hf
  exact (keeps_put (l := [f]) s v ⟨hle, h32, f, List.mem_singleton.mpr rfl, rfl, Nat.le_refl _, Nat.le_refl _⟩).facetsHeld (by simpa using hb) rfl rfl

theorem facetsHeld_wrBit (s : State) (b : Bool) : FacetsHeld s (s.wrBit f 0 b) := by
  obtain ⟨hle, h32, hb⟩ := hf
  have hs := sparing_wrBit (A := fun _ => False) s (f := f) 0 b id
  exact (keeps_wrBit (l := [f]) (i := 0) s b ⟨Nat.le_refl _, Nat.lt_of_le_of_lt hle h32, f, List.mem_singleton.mpr rfl, rfl, Nat.le_refl _, hle⟩ hle h32).facetsHeld
    (by simpa using hb) hs.cores hs.shdn

theorem facetsHeld_setBit (s : State) : FacetsHeld s (s.setBit f) := facetsHeld_wrBit hf s true

theorem facetsHeld_clrBit (s : State) : FacetsHeld s (s.clrBit f) := facetsHeld_wrBit hf s false

end Fields

theorem facetFields_beside (f : Nat) : BesideFence (IPL_F_STAT_active f) ∧ BesideFence (IPL_F_STAT_backlog f) ∧ BesideFence (IPL_F_STAT_cause f) ∧ BesideFence (IPL_F_STAT_bank f) ∧
    BesideFence (IPL_F_STAT_seeded f) ∧ BesideFence (IPL_F_STAT_band f) ∧ BesideFence (IPL_CTL_arm f) := by
  simp [BesideFence, IPL_F_STAT_active, IPL_F_STAT_backlog, IPL_F_STAT_cause, IPL_F_STAT_bank, IPL_F_STAT_seeded, IPL_F_STAT_band, IPL_CTL_arm]

theorem facetsHeld_ipl (s : State) (x : IplSt) : FacetsHeld s { s with ipl := x } := ⟨rfl, rfl, fun _ _ h => h⟩

theorem facetsHeld_iplStat (s : State) (f : Nat) : FacetsHeld s (s.iplStat f) := by
  obtain ⟨hact, hlog, -⟩ := facetFields_beside f
  unfold iplStat
  extract_lets u x
  have hu : FacetsHeld s u := (FacetsHeld.refl s).ite (facetsHeld_modFacet s f _)
  exact (hu.trans (facetsHeld_wrBit hact u _)).trans
    (facetsHeld_put hlog _ _)

theorem facetsHeld_setFenced (s : State) (f : Nat) : FacetsHeld s (s.setBit (IPL_F_STAT_fenced f)) := by
  have hs := sparing_setBit (A := fun _ => False) s (f := IPL_F_STAT_fenced f) 0 id
  refine ⟨hs.cores, hs.shdn, fun g _ hb => ?_⟩
  by_cases h : g = f
  · subst h
    exact bit_setBit_same s (IPL_F_STAT_fenced g) 0 (by simp [IPL_F_STAT_fenced]) (by simp [IPL_F_STAT_fenced]) (by simp [IPL_F_STAT_fenced])
  · refine (bit_eq_of_reg (f := IPL_F_STAT_fenced g) 0 (reg_setBit_other s (IPL_F_STAT_fenced f) 0 ?_)).trans hb
    simp only [IPL_F_STAT_fenced, IPL_F_STAT]
    omega

/-- The fence of a facet takes effect. -/
theorem facetFenceNow_spec (s : State) (f cause : Nat) : FacetsHeld s (s.facetFenceNow f cause) ∧ (f < 6 → (s.facetFenceNow f cause).bit (IPL_F_STAT_fenced f) = true) := by
  have hset := facetsHeld_setFenced s f
  have hb := bit_setBit_same s (IPL_F_STAT_fenced f) 0 (by simp [IPL_F_STAT_fenced]) (by simp [IPL_F_STAT_fenced]) (by simp [IPL_F_STAT_fenced])
  have hrest : FacetsHeld (s.setBit (IPL_F_STAT_fenced f)) (s.facetFenceNow f cause) := by
    unfold facetFenceNow
    extract_lets u v ipl w
    have hu : FacetsHeld (s.setBit (IPL_F_STAT_fenced f)) u := (facetsHeld_put (facetFields_beside f).2.2.1 _ cause).trans
      (Sparing.facetsHeld (sparing_setBit _ (f := IPL_EVT1_fence) f (by rintro ⟨g, hg, h⟩; simp only [IPL_EVT1_fence, IPL_EVT1, IPL_F_STAT] at h; omega)))
    have hv := hu.trans (facetsHeld_modFacet u f fun x => { x with run := none, waiting := [] })
    exact (hv.trans (FacetsHeld.ite (facetsHeld_ipl v _) (FacetsHeld.refl v))).trans (facetsHeld_iplStat _ f)
  exact ⟨hset.trans hrest, fun hf => hrest.fenced f hf hb⟩

/-! ## Bands -/

theorem facetsHeld_throttleJudge (s : State) : FacetsHeld s s.throttleJudge := by
  unfold throttleJudge
  extract_lets u
  have hu : FacetsHeld s u := (FacetsHeld.refl s).ite ((facetsHeld_wrBit (f := IPL_STAT_throttled) (by decide) s _).trans
    (facetsHeld_setBit (f := IPL_EVT1_throttle) (by decide) _))
  exact (hu.trans (facetsHeld_foldl _ (fun v f => (facetsHeld_modFacet v f _).trans (facetsHeld_iplStat _ f)) _ u)).ite hu

theorem facetsHeld_pickBand (s : State) : FacetsHeld s s.pickBand.2 := by
  unfold pickBand
  extract_lets ready urg due u tot
  have hu : FacetsHeld s u := facetsHeld_foldl _ (fun v f => facetsHeld_modFacet v f _) _ s
  split
  · exact FacetsHeld.refl s
  · split
    · exact hu.trans ⟨rfl, rfl, fun _ _ h => h⟩
    · exact hu

theorem facetsHeld_clrSeeded (s : State) (f : Nat) : FacetsHeld s (s.clrBit (IPL_F_STAT_seeded f)) :=
  facetsHeld_clrBit (facetFields_beside f).2.2.2.2.1 s

theorem facetsHeld_takeFrame (s : State) (f : Nat) : FacetsHeld s (s.takeFrame f) := by
  unfold takeFrame
  split
  · exact FacetsHeld.refl s
  · extract_lets x u
    have hu : FacetsHeld s u := ⟨rfl, rfl, fun _ _ h => h⟩
    exact (hu.trans ((facetsHeld_modFacet u f _).trans (facetsHeld_clrSeeded _ f))).ite hu

theorem facetsHeld_bandFill (s : State) (b k : Nat) : FacetsHeld s (s.bandFill b k) := by
  unfold bandFill
  extract_lets n u
  have hu : FacetsHeld s u := facetsHeld_foldl (fun (v : State) w => v.setErr w none) (fun v w => ⟨rfl, rfl, fun _ _ h => h⟩) _ s
  exact hu.trans ⟨rfl, rfl, fun _ _ h => h⟩

theorem eccNoted_foldl_fst {α β : Type} {f : State × β → α → State × β} (h : ∀ x a, EccNoted x.1 (f x a).1) (l : List α) : ∀ x, EccNoted x.1 (l.foldl f x).1 := by
  induction l with
  | nil => exact fun x => EccNoted.refl x.1
  | cons a as ih => exact fun x => (h x a).trans (ih _)

theorem eccNoted_bandCheck (s : State) (b k : Nat) : EccNoted s (s.bandCheck b k).1 :=
  eccNoted_foldl_fst (β := List Nat) (fun x _ => eccNoted_eccRead x.1 true _ 8 _) _ (s, [])

theorem eccNoted_lineRead (s : State) (f : Nat) (q : FacetFrame) (r : Nat) : EccNoted s (s.lineRead f q r) := by
  unfold lineRead
  extract_lets plane u x
  have hu : EccNoted s u := by
    unfold u
    split
    · exact (eccNoted_dramRead _ _ _ _ _).trans (eccNoted_dramRead _ _ _ _ _)
    · exact eccNoted_dramRead _ _ _ _ _
  split
  · exact hu.trans (eccNoted_dramRead _ _ _ _ _)
  · exact hu

theorem eccNoted_haloLoad (s : State) (f : Nat) (q : FacetFrame) (b : Nat) : EccNoted s (s.haloLoad f q b) := by
  unfold haloLoad
  split
  · exact EccNoted.refl s
  · exact (eccNoted_bandCheck s _ _).trans (eccNoted_foldl _ (fun v k => eccNoted_lineRead v f q _) _ _)

theorem facetsHeld_contextCopy (s : State) (f : Nat) : FacetsHeld s (s.contextCopy f) := by
  obtain ⟨-, -, -, hbank, -, -, harm⟩ := facetFields_beside f
  unfold contextCopy
  split
  · exact FacetsHeld.refl s
  · extract_lets u
    have hu : FacetsHeld s u := facetsHeld_foldl (fun (v : State) a => { v with ipl := { v.ipl with act := Map.set regReset v.ipl.act a (v.reg a) } }) (fun v a => ⟨rfl, rfl, fun _ _ h => h⟩) _ s
    exact (hu.trans (facetsHeld_clrBit harm u)).trans
      (facetsHeld_put hbank _ _)

theorem vioRegs_apart (k : Nat) : ¬ IsFacetStat (VIO_S_CNT k) ∧ ¬ IsFacetStat VIO_EVT := by
  constructor <;> rintro ⟨g, hg, h⟩ <;> simp only [VIO_S_CNT, VIO_EVT, IPL_F_STAT] at h <;> omega

theorem facetsHeld_vioTruncate (s : State) (key n : Nat) : FacetsHeld s (s.vioTruncate key n) := by
  refine facetsHeld_foldl _ (fun v k => ?_) _ s
  split
  · next f _ =>
    have hm : FacetsHeld v (v.modTxStream k fun x => { x with cur := some { f with truncated := true } }) := ⟨rfl, rfl, fun _ _ h => h⟩
    obtain ⟨hc, he⟩ := vioRegs_apart k
    exact (hm.trans (((sparing_bump _ (f := VIO_S_CNT_truncated k) hc).trans (sparing_setBit _ (f := VIO_EVT_trunc) 0 he)).facetsHeld)).ite (FacetsHeld.refl v)
  · exact FacetsHeld.refl v

theorem facetsHeld_ctxSwitch (s : State) (f : Nat) : FacetsHeld s ((match s.ipl.loaded with | some g => s.ctxSave g | none => s).ctxLoad f).1 := by
  refine FacetsHeld.trans ?_ (eccNoted_bandCheck _ _ _).facetsHeld
  split
  · exact facetsHeld_bandFill s _ _
  · exact FacetsHeld.refl s

theorem facetsHeld_beginBand (fuel : Nat) : ∀ s : State, FacetsHeld s (s.beginBand fuel) := by
  induction fuel with
  | zero => exact FacetsHeld.refl
  | succ fuel ih =>
    intro s
    unfold beginBand
    split
    · exact FacetsHeld.refl s
    next f0 _ =>
    extract_lets u
    have h1 : FacetsHeld s u := facetsHeld_throttleJudge s
    have h2 : FacetsHeld s (if u.facetReady f0 then (some f0, u) else u.pickBand).2 := by
      split
      · exact h1
      · exact h1.trans (facetsHeld_pickBand u)
    generalize (if u.facetReady f0 then (some f0, u) else u.pickBand) = p at h2 ⊢
    clear_value u
    obtain ⟨o, v⟩ := p
    dsimp -zeta only at h2 ⊢
    split
    · exact h2.trans (facetsHeld_ipl v _)
    next f =>
    extract_lets +onlyGivenNames w
    have h3 : FacetsHeld s w := h2.trans ((FacetsHeld.refl v).ite (facetsHeld_takeFrame v f))
    clear_value w
    split
    · exact h3
    next r _ =>
    extract_lets +onlyGivenNames switch
    have h4 : FacetsHeld s (if switch = true then (match w.ipl.loaded with | some g => w.ctxSave g | none => w).ctxLoad f else (w, false)).1 := by
      split
      · exact h3.trans (facetsHeld_ctxSwitch w f)
      · exact h3
    generalize (if switch = true then (match w.ipl.loaded with | some g => w.ctxSave g | none => w).ctxLoad f else (w, false)) = x at h4 ⊢
    obtain ⟨x, bad⟩ := x
    dsimp -zeta only at h4 ⊢
    split
    · exact ((h4.trans (facetFenceNow_spec x f 2).1).trans (facetsHeld_ipl _ _)).trans (ih _)
    · extract_lets y cyc ipl z z' z''
      have hy : FacetsHeld s y := (h4.trans ((facetsHeld_contextCopy x f).ite (FacetsHeld.refl x))).trans (eccNoted_haloLoad _ f _ _).facetsHeld
      have hz : FacetsHeld s z' := (hy.trans (facetsHeld_ipl y _)).trans (facetsHeld_modFacet z f _)
      have hw : FacetsHeld s z'' := hz.trans ((facetsHeld_vioTruncate z' f _).ite (FacetsHeld.refl z'))
      exact ((hw.trans (facetsHeld_put (f := IPL_STAT_facet) (by decide) z'' f)).trans (facetsHeld_put (facetFields_beside f).2.2.2.2.2.1 _ r.band)).trans (facetsHeld_iplStat _ f)

theorem facetsHeld_iplBegin (s : State) : FacetsHeld s s.iplBegin := (facetsHeld_beginBand 7 s).ite (FacetsHeld.refl s)

theorem facetsHeld_chooseBand (s : State) : FacetsHeld s s.chooseBand := by
  have h := facetsHeld_pickBand s
  unfold chooseBand
  generalize s.pickBand = p at h
  obtain ⟨o, u⟩ := p
  exact ((h.trans (facetsHeld_ipl u _)).trans (facetsHeld_put (f := IPL_STAT_facet) (by decide) _ 7)).trans (facetsHeld_iplBegin _)

/-! ## Fence and lift (R302) -/

theorem facetFence_spec (s : State) {f : Nat} (hf : f < 6) (cause : Nat) : FacetsHeld s (s.facetFence f cause) ∧ (s.facetFence f cause).bit (IPL_F_STAT_fenced f) = true := by
  unfold facetFence
  extract_lets u v
  have hu : FacetsHeld s u := facetsHeld_iplBegin s
  split
  · next h => exact ⟨hu, h⟩
  split
  · obtain ⟨h1, hb⟩ := facetFenceNow_spec u.addBusy f cause
    have h2 : FacetsHeld (u.addBusy.facetFenceNow f cause) v.chooseBand := ((facetsHeld_ipl _ _).trans (facetsHeld_iplStat _ f)).trans (facetsHeld_chooseBand v)
    exact ⟨((hu.trans (facetsHeld_ipl u _)).trans h1).trans h2, h2.fenced f hf (hb hf)⟩
  · obtain ⟨h1, hb⟩ := facetFenceNow_spec u f cause
    exact ⟨hu.trans h1, hb hf⟩

theorem facetLift_spec (s : State) {f : Nat} (hf : f < 6) (h : s.bit (IPL_F_STAT_fenced f) = true) :
    (s.facetLift f).cores = s.cores ∧ (s.facetLift f).hk.shdn = s.hk.shdn ∧ (s.facetLift f).bit (IPL_F_STAT_fenced f) = false ∧ (s.facetLift f).get (IPL_F_STAT_cause f) = 0 := by
  unfold facetLift
  extract_lets u
  have hu : FacetsHeld s u := facetsHeld_iplBegin s
  clear_value u
  rw [if_pos (hu.fenced f hf h)]
  let v := u.clrBit (IPL_F_STAT_fenced f)
  let w := v.put (IPL_F_STAT_cause f) 0
  have hs : Sparing (fun _ => False) u (w.histInvalid f) := ((sparing_wrBit u (f := IPL_F_STAT_fenced f) 0 false id).trans (sparing_put v (f := IPL_F_STAT_cause f) 0 id)).trans
    (Sparing.trans (t := w.modFacet f _) ⟨rfl, rfl, rfl, rfl, rfl, rfl, rfl, fun _ _ => rfl⟩ (sparing_wrBit _ (f := IPL_F_STAT_seeded f) 0 false id))
  have h1 : Keeps [IPL_F_STAT_cause f] v w := keeps_put v 0 (by simp [Field.Within, IPL_F_STAT_cause])
  have h2 : Keeps [IPL_F_STAT_seeded f] w (w.histInvalid f) := Keeps.trans (t := w.modFacet f _) (keeps_of_regs rfl)
    (keeps_clrBit _ (by simp [Field.Within, IPL_F_STAT_seeded]) (Nat.le_refl _) (by simp [IPL_F_STAT_seeded]))
  refine ⟨hs.cores.trans hu.cores, hs.shdn.trans hu.shdn, ?_, ?_⟩
  · rw [h2.bit (by simp [IPL_F_STAT_seeded, IPL_F_STAT_fenced]), h1.bit (by simp [IPL_F_STAT_cause, IPL_F_STAT_fenced])]
    exact bit_clrBit_same u (IPL_F_STAT_fenced f) 0 (Nat.le_refl _) (by simp [IPL_F_STAT_fenced])
  · rw [h2.get (by simp [IPL_F_STAT_seeded, IPL_F_STAT_cause]) (by simp [IPL_F_STAT_cause]),
      get_put_same v (IPL_F_STAT_cause f) 0 (by simp [IPL_F_STAT_cause]) (by simp [IPL_F_STAT_cause])]
    rfl

end State

end Sys2Proof.Machine
end

section
/-! What the fence of a port already fenced and the lifts of a port and of a lane leave (R84, R130, R131, R172), and who may ask. -/

namespace Sys2Proof.Machine

open R State

theorem coreMay_fence (k : Core) : coreMay k 0x32 = !k.isSq := by cases k <;> rfl

theorem coreMay_flift (k : Core) : coreMay k 0x33 = !k.isSq := by cases k <;> rfl

/-- FENCE and FLIFT. -/
def asksFence : Instr → Bool
  | .fence _ _ _ _ _ => true
  | .flift _ _ _ _ _ => true
  | _ => false

/-- A word of FENCE or FLIFT is none of an SQ core's (R108). -/
theorem decodePulon_asksFence {k : Core} {w : W32} {i : Instr} (h : decodePulon k w = some i) (hi : asksFence i = true) : k.isSq = false := by
  unfold decodePulon at h
  split at h
  · cases h
  next hm =>
  generalize pwOp w = op at h hm
  split at h
  any_goals
    cases h
    cases hi
  · split at h
    · cases h
    · cases h
      cases hi
  · split at h
    · cases h
    · cases h
      cases hi
  · simpa [coreMay_fence] using hm
  · simpa [coreMay_flift] using hm
  · cases h

theorem issues_asksFence {k : Core} {i : Instr} {s : State} (h : Issues k i s) (hi : asksFence i = true) : k = .sup ∨ k = .met := by
  obtain ⟨-, hf, -⟩ := h
  unfold fetches at hf
  split at hf
  · next hh =>
    simp only [hiddenCode, Bool.or_eq_true, Bool.and_eq_true, beq_iff_eq] at hh
    obtain rfl | ⟨rfl, -⟩ := hh
    · exact .inr rfl
    · exact .inl rfl
  · have hk := decodePulon_asksFence (beq_iff_eq.mp hf) hi
    cases k <;> simp_all [Core.isSq]

/-- The port's own core does not ask: it is an SQ core. -/
theorem issues_port_ne {k : Core} {i : Instr} {s : State} (h : Issues k i s) (hi : asksFence i = true) {n : Nat} (hn : n < 4) : n ≠ k.idx := by
  obtain rfl | rfl := issues_asksFence h hi <;> simp only [Core.idx] <;> omega


namespace State

/-! ## Ports -/

theorem port_apart {n : Nat} (hn : n < 4) : PSC_SQ_STAT n ≠ FPP_STAT n := by
  simp only [PSC_SQ_STAT, FPP_STAT]
  omega

theorem hashRun_reg (s : State) (q : Nat) (r : Option HashRun) (a : Nat) : (s.setHashRun q r).reg a = s.reg a := rfl

theorem sparing_hashStart {A : Nat → Prop} (s : State) {q : Nat} (h : ¬ A (PSC_SQ_STAT q)) : Sparing A s (s.hashStart q) := by
  have hb := sparing_setBit s (f := PSC_SQ_STAT_hashing q) 0 h
  unfold hashStart
  generalize s.setBit (PSC_SQ_STAT_hashing q) = u at hb ⊢
  exact hb.trans ⟨rfl, rfl, rfl, rfl, rfl, rfl, rfl, fun _ _ => rfl⟩

/-- What the lift of a port's fence leaves. -/
structure PortLiftLeaves (n : Nat) (s t : State) : Prop where
  cores : t.cores = s.cores
  shdn : t.hk.shdn = s.hk.shdn
  state : t.sqState n = 1
  hashing : t.bit (PSC_SQ_STAT_hashing n) = true
  fenced : t.bit (FPP_STAT_fenced n) = false
  other : ∀ x, x ∉ [PSC_SQ_STAT n, FPP_STAT n] → t.reg x = s.reg x

theorem portUnfence_spec (s : State) {n : Nat} (hn : n < 4) : PortLiftLeaves n s (s.portUnfence n) := by
  have hne := port_apart hn
  have hh : (PSC_SQ_STAT_hashing n).BitIn 0 [PSC_SQ_STAT_hashing n] := by simp [Field.BitIn, Field.Within, PSC_SQ_STAT_hashing]
  unfold portUnfence
  have h1 : Sparing (fun x => x ∉ [PSC_SQ_STAT n, FPP_STAT n]) s (s.put (PSC_SQ_STAT_state n) 1) := sparing_put s (f := PSC_SQ_STAT_state n) 1 fun h => h (List.mem_cons_self ..)
  have hstate : (s.put (PSC_SQ_STAT_state n) 1).get (PSC_SQ_STAT_state n) = 1 := get_put_same s (PSC_SQ_STAT_state n) 1 (by simp [PSC_SQ_STAT_state]) (by simp [PSC_SQ_STAT_state])
  generalize s.put (PSC_SQ_STAT_state n) 1 = u at h1 hstate ⊢
  have h2 : Sparing (fun x => x ∉ [PSC_SQ_STAT n, FPP_STAT n]) u (u.hashStart n) := sparing_hashStart u fun h => h (List.mem_cons_self ..)
  have hreg := hashRun_reg (u.setBit (PSC_SQ_STAT_hashing n)) n (some { start := u.now }) (PSC_SQ_STAT n)
  have hkeep : (u.hashStart n).get (PSC_SQ_STAT_state n) = 1 := (get_eq_of_reg (f := PSC_SQ_STAT_state n) hreg).trans
    (((wrote_setBit u hh).keeps.get (by simp [PSC_SQ_STAT_hashing, PSC_SQ_STAT_state]) (by simp [PSC_SQ_STAT_state])).trans hstate)
  have hhash : (u.hashStart n).bit (PSC_SQ_STAT_hashing n) = true := (bit_eq_of_reg (f := PSC_SQ_STAT_hashing n) 0 hreg).trans
    (bit_setBit_same u (PSC_SQ_STAT_hashing n) 0 (Nat.le_refl _) (by simp [PSC_SQ_STAT_hashing]) (Nat.le_refl _))
  generalize u.hashStart n = v at h2 hkeep hhash ⊢
  have h3 : Sparing (fun x => x ∉ [PSC_SQ_STAT n, FPP_STAT n]) v (v.clrBit (FPP_STAT_fenced n)) := sparing_wrBit v (f := FPP_STAT_fenced n) 0 false fun h => h (by simp [FPP_STAT_fenced])
  have hfen : (v.clrBit (FPP_STAT_fenced n)).bit (FPP_STAT_fenced n) = false := bit_clrBit_same v (FPP_STAT_fenced n) 0 (Nat.le_refl _) (by simp [FPP_STAT_fenced])
  have hstat := reg_clrBit_other v (FPP_STAT_fenced n) 0 hne
  generalize v.clrBit (FPP_STAT_fenced n) = w at h3 hfen hstat ⊢
  have h4 := apart_modFacetMen (l := []) w n fun f => { f with katFence := false }
  have hall := ((h1.trans h2).trans h3).trans (h4.imp fun _ _ => List.not_mem_nil)
  have hend := (h4.reg (PSC_SQ_STAT n) List.not_mem_nil).trans hstat
  exact ⟨hall.cores, hall.shdn, (get_eq_of_reg (f := PSC_SQ_STAT_state n) hend).trans hkeep, (bit_eq_of_reg (f := PSC_SQ_STAT_hashing n) 0 hend).trans hhash,
    (bit_eq_of_reg (f := FPP_STAT_fenced n) 0 (h4.reg _ List.not_mem_nil)).trans hfen, hall.reg⟩

/-! ## Lanes -/

/-- The bit of a lane in what its port keeps of lifts. -/
theorem liftWait_bit (w i : Nat) : (if w / 2 ^ i % 2 = 1 then w else w + 2 ^ i) / 2 ^ i % 2 = 1 := by
  split
  · assumption
  · rw [Nat.add_div_right _ (Nat.two_pow_pos i)]
    omega

/-- What the lift of a lane's fence leaves. -/
structure LaneLiftLeaves (n : Nat) (s t : State) : Prop where
  cores : t.cores = s.cores
  shdn : t.hk.shdn = s.hk.shdn
  cause : t.get (LCA_LANE_CTL_cause n) = 0
  waits : (t.port (n / 32)).liftWait / 2 ^ (n % 32) % 2 = 1
  other : ∀ x, x ≠ LCA_LANE_CTL n → t.reg x = s.reg x

theorem laneLift_spec {s : State} {n : Nat} (hst : s.bit (LCA_LANE_CTL_st_fail n) = false) (hf : s.laneFenced (n / 32) (n % 32) = true) : LaneLiftLeaves n s (s.laneLift n) := by
  unfold laneLift
  rw [if_neg (by rw [hst]; decide), if_pos hf]
  have h1 : Sparing (fun x => x ≠ LCA_LANE_CTL n) s (s.put (LCA_LANE_CTL_cause n) 0) := sparing_put s (f := LCA_LANE_CTL_cause n) 0 fun h => h rfl
  have hc : (s.put (LCA_LANE_CTL_cause n) 0).get (LCA_LANE_CTL_cause n) = 0 :=
    (get_put_same s (LCA_LANE_CTL_cause n) 0 (by simp [LCA_LANE_CTL_cause]) (by simp [LCA_LANE_CTL_cause])).trans (Nat.zero_mod _)
  generalize s.put (LCA_LANE_CTL_cause n) 0 = u at h1 hc ⊢
  have h2 := apart_modPort (l := []) u (n / 32) fun x => { x with liftWait := if x.liftWait / 2 ^ (n % 32) % 2 = 1 then x.liftWait else x.liftWait + 2 ^ (n % 32) }
  have hall := h1.trans (h2.imp fun x _ => List.not_mem_nil)
  refine ⟨hall.cores, hall.shdn, (get_eq_of_reg (h2.reg _ List.not_mem_nil)).trans hc, ?_, hall.reg⟩
  rw [port_modPort_same]
  exact liftWait_bit _ _

end State

end Sys2Proof.Machine
end

section
/-! FENCE of a unit of each class (R128, R129, R131). -/

namespace Sys2Proof.Machine

open R State

namespace State

theorem issued_bit (s : State) (k : Core) (n : Nat) (f : Field) (i : Nat) : (s.issued k n).bit f i = s.bit f i := bit_eq_of_reg i (issued_reg s k n _)

theorem issued_get (s : State) (k : Core) (n : Nat) (f : Field) : (s.issued k n).get f = s.get f := get_eq_of_reg (issued_reg s k n _)

theorem issued_sqState (s : State) (k : Core) (n q : Nat) : (s.issued k n).sqState q = s.sqState q := issued_get s k n _

theorem issued_port (s : State) (k : Core) (n p : Nat) : (s.issued k n).port p = s.port p := by rw [issued_frame]; rfl

theorem issued_stream (s : State) (k : Core) (n p : Nat) : (s.issued k n).stream p = s.stream p := by rw [issued_frame]; rfl

theorem issued_arb (s : State) (k : Core) (n : Nat) : (s.issued k n).arb = s.arb := by rw [issued_frame]

theorem issued_lastFence (s : State) (k : Core) (n : Nat) : (s.issued k n).lastFence = s.lastFence := by rw [issued_frame]

theorem issued_isRetired (s : State) (k : Core) (n p : Nat) : (s.issued k n).isRetired p = s.isRetired p := by rw [issued_frame]; rfl

theorem issued_nvs (s : State) (k : Core) (n : Nat) : (s.issued k n).nvs = s.nvs := by rw [issued_frame]

theorem issued_laneFenced (s : State) (k : Core) (n g i : Nat) : (s.issued k n).laneFenced g i = s.laneFenced g i := issued_bit s k n _ _

theorem issued_laneHeld (s : State) (k : Core) (m n : Nat) : (s.issued k m).LaneHeld n ↔ s.LaneHeld n := by rw [LaneHeld, LaneHeld, issued_laneFenced, issued_port]

theorem issued_shdn (s : State) (k : Core) (n : Nat) : (s.issued k n).hk.shdn = s.hk.shdn := congrArg HkSt.shdn (issued_hk s k n)

theorem core_eq_of_cores {s t : State} (h : t.cores = s.cores) (j : Nat) : t.core j = s.core j := by rw [State.core, h]; rfl

/-- The cause that a fence by this core has, 5 of MET's and 4 of SUP's. -/
theorem fenceCause (k : Core) : (if (k == .met) = true then 5 else 4) = (if k = .met then 5 else 4 : Nat) := by cases k <;> rfl

end State

section Classes

variable {k : Core} {r : Bool} {a : RegNo} {w : BitVec 16} {s : State} {n : Nat} (hn : n = if r then (s.rd k.idx a).toNat % 2 ^ 16 else w.toNat)

include hn

theorem gives_fence_lane (h : Issues k (.fence k 0#4 r a w) s) (hl : (s.issued k 2).NoLift 0 n) (hlt : n < 128) : Gives (.fence k 0#4 r a w) s (fun t =>
    t.laneFenced (n / 32) (n % 32) = true ∧ (t.core k.idx).c = false ∧ (s.LaneHeld n → t.regs = s.regs) ∧ (¬ s.LaneHeld n → t.get (LCA_LANE_CTL_cause n) = if k = .met then 5 else 4) ∧
    ∀ x, x ∉ [LCA_FENCED (n / 32), LCA_LANE_CTL n, LCA_EVT] → t.reg x = s.reg x) := by
  have hx := laneFence_spec (s.issued k 2) (cause := if (k == .met) = true then 5 else 4) hlt (by split <;> decide)
  refine gives_fence hn h hlt (fun _ => rfl) hl rfl ((hx.apart.core _).trans (issued_core_eq s k)) (hx.apart.shdn.trans (issued_shdn s k 2)) fun t ht => ?_
  refine ⟨(ht.bit _ _).trans hx.fenced, ht.flag, fun hh => ?_, fun hh => ?_, fun x hm => ((ht.reg x).trans (hx.other x hm)).trans (issued_reg s k 2 x)⟩
  · exact (ht.regs.trans (hx.kept ((issued_laneHeld s k 2 n).mpr hh))).trans (issued_regs s k 2)
  · exact ((ht.get _).trans (hx.cause fun h' => hh ((issued_laneHeld s k 2 n).mp h'))).trans (fenceCause k)

theorem gives_fence_port (h : Issues k (.fence k 1#4 r a w) s) (hl : (s.issued k 2).NoLift 1 n) (hlt : n < 4) (hs : s.sqState n ≠ 3) (hw : (s.stream n).writing = false) :
    Gives (.fence k 1#4 r a w) s (fun t => t.sqState n = 3 ∧ (t.core k.idx).c = false ∧ t.num (PSC_SQ_CAUSE n) = (s.core n).pc % 4096 * 65536 + (if k = .met then 5 else 4) ∧
      t.bit PSC_EVT_fenced n = true ∧ (t.core n).queue = [] ∧ t.bit (FPP_STAT_fenced n) = true ∧ t.bit (FPP_CTL_live n) = false) := by
  have hne := issues_port_ne h rfl hlt
  have hx := portFence_spec (s := s.issued k 2) (cause := if (k == .met) = true then 5 else 4) hlt (by split <;> decide) (by rwa [issued_sqState]) (by rwa [issued_stream])
  refine gives_fence hn h hlt (fun _ => rfl) hl rfl ((hx.others _ hne.symm).trans (issued_core_eq s k)) (hx.shdn.trans (issued_shdn s k 2)) fun t ht => ?_
  refine ⟨(ht.get _).trans hx.state, ht.flag, ?_, (ht.bit _ _).trans hx.event, (congrArg CoreSt.queue (ht.others n hne)).trans hx.queue, (ht.bit _ _).trans hx.fenced,
    (ht.bit _ _).trans hx.live⟩
  rw [num, ht.reg, ← issued_core_other s k 2 hne, ← fenceCause]
  exact hx.record

/-- MET's request follows SUP's fence of the same port in the same Pulon cycle. -/
abbrev TakesCause (k : Core) (s : State) (n : Nat) : Prop :=
  k = .met ∧ s.get (PSC_SQ_CAUSE_cause n) = 4 ∧ s.lastFence = some (1, n, s.issueTick k.idx 2 / 4 + 1) ∧ s.arb.fresh = true

theorem gives_fence_port_again (h : Issues k (.fence k 1#4 r a w) s) (hl : (s.issued k 2).NoLift 1 n) (hlt : n < 4) (hs : s.sqState n = 3) : Gives (.fence k 1#4 r a w) s (fun t =>
    (t.core k.idx).c = false ∧ (TakesCause k s n → t.get (PSC_SQ_CAUSE_cause n) = 5 ∧ ∀ x, x ≠ PSC_SQ_CAUSE n → t.reg x = s.reg x) ∧ (¬ TakesCause k s n → t.regs = s.regs)) := by
  have hiff : ((if (k == .met) = true then 5 else 4) = 5 ∧ (s.issued k 2).get (PSC_SQ_CAUSE_cause n) = 4 ∧ (s.issued k 2).lastFence = some (1, n, (s.issued k 2).pulonCycle) ∧
      (s.issued k 2).arb.fresh = true) ↔ TakesCause k s n := by
    rw [issued_get, issued_lastFence, issued_arb, issued_pulonCycle]
    cases k <;> simp
  by_cases hc : TakesCause k s n
  · have he : (s.issued k 2).fenceNow (k == .met) (1#4).toNat n = (s.issued k 2).put (PSC_SQ_CAUSE_cause n) 5 := by
      show (s.issued k 2).portFence n _ = _
      rw [portFence, if_pos ((issued_sqState s k 2 n).trans hs), if_pos (hiff.mpr hc)]
    refine gives_fence hn h hlt (fun _ => rfl) hl he (issued_core_eq s k) (issued_shdn s k 2) fun t ht => ⟨ht.flag, fun _ => ⟨?_, fun x hx => ?_⟩, fun h' => absurd hc h'⟩
    · exact (ht.get _).trans ((get_put_same _ (PSC_SQ_CAUSE_cause n) 5 (by simp [PSC_SQ_CAUSE_cause]) (by simp [PSC_SQ_CAUSE_cause])).trans (Nat.mod_eq_of_lt (by simp [PSC_SQ_CAUSE_cause])))
    · exact ((ht.reg x).trans (reg_put_other _ (PSC_SQ_CAUSE_cause n) 5 hx)).trans (issued_reg s k 2 x)
  · have he : (s.issued k 2).fenceNow (k == .met) (1#4).toNat n = s.issued k 2 := by
      show (s.issued k 2).portFence n _ = _
      rw [portFence, if_pos ((issued_sqState s k 2 n).trans hs), if_neg fun h' => hc (hiff.mp h')]
    exact gives_fence hn h hlt (fun _ => rfl) hl he (issued_core_eq s k) (issued_shdn s k 2) fun t ht =>
      ⟨ht.flag, fun h' => absurd h' hc, fun _ => ht.regs.trans (issued_regs s k 2)⟩

theorem gives_fence_facet (h : Issues k (.fence k 2#4 r a w) s) (hl : (s.issued k 2).NoLift 2 n) (hlt : n < 6) (hk : k = .sup) :
    Gives (.fence k 2#4 r a w) s (fun t => t.bit (IPL_F_STAT_fenced n) = true ∧ (t.core k.idx).c = false) := by
  obtain ⟨hx, hb⟩ := facetFence_spec (s.issued k 2) hlt 1
  refine gives_fence hn h hlt (fun hm => absurd (hk.symm.trans hm) (by decide)) hl rfl ?_ (hx.shdn.trans (issued_shdn s k 2)) fun t ht => ⟨(ht.bit _ _).trans hb, ht.flag⟩
  exact (core_eq_of_cores hx.cores _).trans (issued_core_eq s k)

theorem gives_fence_coder (h : Issues k (.fence k 3#4 r a w) s) (hl : (s.issued k 2).NoLift 3 n) (hlt : n < 2) : Gives (.fence k 3#4 r a w) s (fun t =>
    t.bit CER_STAT_coder n = true ∧ (t.core k.idx).c = false ∧ (s.bit CER_STAT_coder n = true → t.regs = s.regs) ∧ ∀ x, x ∉ [CER_STAT, CER_EVT2] → t.reg x = s.reg x) := by
  have hx := coderFence_spec (s.issued k 2) hlt false
  refine gives_fence hn h hlt (fun _ => rfl) hl rfl ((hx.apart.core _).trans (issued_core_eq s k)) (hx.apart.shdn.trans (issued_shdn s k 2)) fun t ht => ?_
  exact ⟨(ht.bit _ _).trans hx.fenced, ht.flag, fun hb => (ht.regs.trans (hx.kept ((issued_bit s k 2 _ _).trans hb))).trans (issued_regs s k 2),
    fun x hm => ((ht.reg x).trans (hx.other x hm)).trans (issued_reg s k 2 x)⟩

theorem gives_fence_channel (h : Issues k (.fence k 4#4 r a w) s) (hl : (s.issued k 2).NoLift 4 n) (hlt : n < 8) (hk : k = .sup) : Gives (.fence k 4#4 r a w) s (fun t =>
    t.bit SDR_FENCED_channels n = true ∧ (t.core k.idx).c = false ∧ (s.bit SDR_FENCED_channels n = true → t.regs = s.regs) ∧
    (s.bit SDR_FENCED_channels n = false → t.get (SDR_CH_STAT_last n) = 3 ∧ t.bit (SDR_CH_STAT_gate n) = false)) := by
  have hm : k = .met → unitLegal 4 n = true := fun hm => absurd (hk.symm.trans hm) (by decide)
  cases hb : (s.issued k 2).bit SDR_FENCED_channels n with
  | true =>
    have he : (s.issued k 2).fenceNow (k == .met) (4#4).toNat n = s.issued k 2 := if_pos hb
    rw [issued_bit] at hb
    exact gives_fence hn h hlt hm hl he (issued_core_eq s k) (issued_shdn s k 2) fun t ht =>
      ⟨(ht.bit _ _).trans ((issued_bit s k 2 _ _).trans hb), ht.flag, fun _ => ht.regs.trans (issued_regs s k 2), fun h' => absurd (hb.symm.trans h') (by decide)⟩
  | false =>
    have hx := channelFence_spec hlt (s.issued k 2) hb
    rw [issued_bit] at hb
    refine gives_fence hn h hlt hm hl rfl ?_ (hx.shdn.trans (issued_shdn s k 2)) fun t ht =>
      ⟨(ht.bit _ _).trans hx.fenced, ht.flag, fun h' => absurd (hb.symm.trans h') (by decide), fun _ => ⟨(ht.get _).trans hx.last, (ht.bit _ _).trans hx.gate⟩⟩
    exact (core_eq_of_cores hx.cores _).trans (issued_core_eq s k)

theorem gives_fence_input (h : Issues k (.fence k 5#4 r a w) s) (hl : (s.issued k 2).NoLift 5 n) (hlt : n < 24) (hk : k = .sup) :
    Gives (.fence k 5#4 r a w) s (fun t => t.bit HKT_FENCED_inputs n = true ∧ (t.core k.idx).c = false) := by
  obtain ⟨hx, hb⟩ := hkFence_spec (s.issued k 2) hlt
  exact gives_fence hn h hlt (fun hm => absurd (hk.symm.trans hm) (by decide)) hl rfl ((hx.core _).trans (issued_core_eq s k)) (hx.shdn.trans (issued_shdn s k 2))
    fun t ht => ⟨(ht.bit _ _).trans hb, ht.flag⟩

theorem gives_fence_page (h : Issues k (.fence k 6#4 r a w) s) (hl : (s.issued k 2).NoLift 6 n) (hlt : n < 2048) (hm : k = .met → partition n = 1) : Gives (.fence k 6#4 r a w) s (fun t =>
    t.isRetired n = true ∧ (t.core k.idx).c = false ∧ (s.isRetired n = true → t.regs = s.regs ∧ t.nvs = s.nvs) ∧
    (s.isRetired n = false → (t.pageMeta n).retired = 2 ∧ t.bit NVS_EVT_retire = true)) := by
  have hx := retire_spec (s.issued k 2) n (cause := 2) (by decide)
  refine gives_fence hn h hlt (fun hk => beq_iff_eq.mpr (hm hk)) hl rfl ?_ ((congrArg HkSt.shdn hx.hk).trans (issued_shdn s k 2)) fun t ht =>
    ⟨(ht.isRetired n).trans hx.retired, ht.flag, fun hr => ?_, fun hr => ?_⟩
  · exact (core_eq_of_cores hx.cores _).trans (issued_core_eq s k)
  · obtain ⟨h1, h2⟩ := hx.kept ((issued_isRetired s k 2 n).trans hr)
    exact ⟨(ht.regs.trans h1).trans (issued_regs s k 2), (ht.nvs.trans h2).trans (issued_nvs s k 2)⟩
  · obtain ⟨h1, h2⟩ := hx.cause ((issued_isRetired s k 2 n).trans hr)
    refine ⟨?_, (ht.bit _ _).trans h2⟩
    rw [pageMeta, ht.nvs]
    exact h1

theorem gives_fence_rx (h : Issues k (.fence k 7#4 r a w) s) (hl : (s.issued k 2).NoLift 7 n) (hlt : n < 2) (hk : k = .sup) : Gives (.fence k 7#4 r a w) s (fun t =>
    t.bit (VIO_RX_STAT_fenced n) = true ∧ (t.core k.idx).c = false ∧ (s.bit (VIO_RX_STAT_fenced n) = true → t.regs = s.regs) ∧
    (s.bit (VIO_RX_STAT_fenced n) = false → t.get (VIO_RX_STAT_fence n) = 2)) := by
  have hx := rxFence_spec (s.issued k 2) (cause := 2) hlt (by decide)
  exact gives_fence hn h hlt (fun hm => absurd (hk.symm.trans hm) (by decide)) hl rfl ((hx.apart.core _).trans (issued_core_eq s k))
    (hx.apart.shdn.trans (issued_shdn s k 2)) fun t ht =>
    ⟨(ht.bit _ _).trans hx.fenced, ht.flag, fun hb => (ht.regs.trans (hx.kept ((issued_bit s k 2 _ _).trans hb))).trans (issued_regs s k 2),
      fun hb => (ht.get _).trans (hx.cause ((issued_bit s k 2 _ _).trans hb))⟩

end Classes

end Sys2Proof.Machine
end

section
/-! FENCE that meets a lift or is ignored, and FLIFT (R38, R84, R128–R131). -/

namespace Sys2Proof.Machine

open R State

namespace State

/-! ## A fence that meets a lift (R131) -/

theorem sparing_restoreRegs {A : Nat → Prop} (hA : ∀ a, ¬ A a) (s : State) (r : List (Nat × W32)) : Sparing A s { s with regs := r } :=
  ⟨rfl, rfl, rfl, rfl, rfl, rfl, rfl, fun a ha => absurd ha (hA a)⟩

/-- What a fence that meets a lift leaves of the cores. -/
structure MeetsLeaves (l : LiftRec) (s t : State) : Prop where
  others : ∀ j, j ≠ l.core → t.core j = s.core j
  lost : (t.core l.core).c = true
  shdn : t.hk.shdn = s.hk.shdn
  lift : t.arb.lift = none

theorem fenceMeetsLift_spec {s : State} {met : Bool} {l : LiftRec} (hc : (s.fenceNow met l.cls l.i).cores = s.cores) (hs : (s.fenceNow met l.cls l.i).hk.shdn = s.hk.shdn) :
    MeetsLeaves l s (s.fenceMeetsLift met l) := by
  have hno : ∀ a : Nat, ¬ (fun _ => False) a := fun _ => id
  unfold fenceMeetsLift
  extract_lets t u w v
  have hw : Sparing (fun _ => False) t w := by
    have hu : Sparing (fun _ => False) t u := (sparing_restoreRegs hno t s.regs).trans
      (sparing_foldl (fun (t : State) (e : Nat × W32) => t.setReg e.1 e.2) (fun x e => sparing_restoreRegs hno x _) l.regs _)
    have hk : Sparing (fun _ => False) u (u.modFacetMen l.i fun f => { f with katFence := l.kat }) := (apart_modFacetMen (l := []) u _ _).imp fun _ h => h.elim
    exact (hu.trans (hk.ite (Sparing.refl u))).ite (Sparing.refl t)
  have hcore : ∀ j, w.core j = s.core j := fun j => (hw.core j).trans (core_eq_of_cores hc j)
  exact
    { others := fun j hj => (core_modCore_other w (fun x => { x with c := true }) hj).trans (hcore j)
      lost := congrArg CoreSt.c (core_modCore_same w l.core fun x => { x with c := true })
      shdn := hw.shdn.trans hs
      lift := rfl }

theorem fenceRequest_meets {s : State} {met : Bool} {cls i : Nat} {l : LiftRec} (h : ¬ (unitCount cls ≤ i ∨ (met ∧ ¬ unitLegal cls i))) (he : s.arb.lift = some l)
    (hm : l.cls = cls ∧ l.i = i ∧ l.cycle = s.pulonCycle) : ∃ o b,
    s.fenceRequest met cls i = ({ s.fenceMeetsLift met l with lastFence := o, arb := { (s.fenceMeetsLift met l).arb with fresh := b } }, false) := by
  unfold fenceRequest
  rw [if_neg h, he]
  dsimp only
  rw [if_pos hm]
  exact ⟨_, _, rfl⟩

end State

theorem unitCount_eq (cls : BitVec 4) : unitCount cls.toNat = [128, 4, 6, 2, 8, 24, 2048, 2].getD cls.toNat 0 := by decide +revert

/-- The classes of which MET fences no unit. -/
theorem unitLegal_never {cls : Nat} (h : cls ∈ [2, 4, 5, 7]) (n : Nat) : unitLegal cls n = false := by
  simp only [List.mem_cons, List.not_mem_nil, or_false] at h
  obtain rfl | rfl | rfl | rfl := h <;> rfl

section Request

variable {k : Core} {r : Bool} {a : RegNo} {cls : BitVec 4} {w : BitVec 16} {s : State} {n : Nat}

/-- A request that is ignored sets C and nothing else. -/
theorem retires_ignored {i : Instr} {f : State → State × Bool} (h : Issues k i s) (he : exec i s = commit (s.pulon k i 2 (fun _ u => (f u).1.setC k.idx (f u).2)))
    (hf : f (s.issued k 2) = (s.issued k 2, true)) : Retires k i 2 s (fun c => { c with c := true }) := by
  obtain ⟨-, -, hpc, -, hhalt⟩ := id h
  refine retires_of h (by decide) he ?_ (Nat.ne_of_lt hpc) hhalt
  rw [hf, setC, modCore, issued_core]

theorem retires_fence_ignored (hn : n = if r then (s.rd k.idx a).toNat % 2 ^ 16 else w.toNat) (h : Issues k (.fence k cls r a w) s)
    (hi : [128, 4, 6, 2, 8, 24, 2048, 2].getD cls.toNat 0 ≤ n ∨ k = .met ∧ (cls.toNat ∈ [2, 4, 5, 7] ∨ cls = 6#4 ∧ partition n ≠ 1)) :
    Retires k (.fence k cls r a w) 2 s (fun c => { c with c := true }) := by
  refine retires_ignored (f := fun u => u.fenceRequest (k == .met) cls.toNat (u.fenceIndex k.idx r a w)) h (exec_fence ..) ?_
  rw [issued_fenceIndex, ← hn]
  refine if_pos ?_
  obtain hle | ⟨hk, hc | ⟨rfl, hp⟩⟩ := hi
  · exact .inl ((unitCount_eq cls).trans_le hle)
  · exact .inr ⟨beq_iff_eq.mpr hk, by simp [unitLegal_never hc]⟩
  · exact .inr ⟨beq_iff_eq.mpr hk, by simpa [unitLegal] using hp⟩

theorem gives_fence_meets (hn : n = if r then (s.rd k.idx a).toNat % 2 ^ 16 else w.toNat) (h : Issues k (.fence k cls r a w) s) (hc : cls = 0#4 ∨ cls = 3#4)
    (hlt : n < if cls = 0#4 then 128 else 2) {l : LiftRec} (hl : s.arb.lift = some l) (hm : l.cls = cls.toNat ∧ l.i = n ∧ l.cycle = s.issueTick k.idx 2 / 4 + 1)
    (hk : l.core ≠ k.idx) : Gives (.fence k cls r a w) s (fun t => (t.core k.idx).c = false ∧ (t.core l.core).c = true ∧ t.arb.lift = none) := by
  obtain ⟨hcls, hi, hcyc⟩ := hm
  have hfence : ((s.issued k 2).fenceNow (k == .met) cls.toNat n).cores = (s.issued k 2).cores ∧ ((s.issued k 2).fenceNow (k == .met) cls.toNat n).hk.shdn = (s.issued k 2).hk.shdn := by
    obtain rfl | rfl := hc
    · have hx := laneFence_spec (s.issued k 2) (cause := if (k == .met) = true then 5 else 4) hlt (by split <;> decide)
      exact ⟨hx.apart.cores, hx.apart.shdn⟩
    · have hx := coderFence_spec (s.issued k 2) hlt false
      exact ⟨hx.apart.cores, hx.apart.shdn⟩
  have hok : ¬ (unitCount cls.toNat ≤ n ∨ ((k == .met) = true ∧ ¬ unitLegal cls.toNat n = true)) := by
    obtain rfl | rfl := hc
    · exact not_or.mpr ⟨Nat.not_le.mpr hlt, fun h => h.2 rfl⟩
    · exact not_or.mpr ⟨Nat.not_le.mpr hlt, fun h => h.2 rfl⟩
  obtain ⟨o, b, hf⟩ := fenceRequest_meets hok ((congrArg ArbSt.lift (issued_arb s k 2)).trans hl) ⟨hcls, hi, hcyc.trans (issued_pulonCycle s k).symm⟩
  have hx := fenceMeetsLift_spec (met := k == .met) (l := l) (hcls ▸ hi ▸ hfence.1) (hcls ▸ hi ▸ hfence.2)
  refine gives_request (f := fun u => u.fenceRequest (k == .met) cls.toNat (u.fenceIndex k.idx r a w)) (c := false)
    (v := { (s.issued k 2).fenceMeetsLift (k == .met) l with lastFence := o, arb := { ((s.issued k 2).fenceMeetsLift (k == .met) l).arb with fresh := b } }) h (exec_fence ..) (by rw [issued_fenceIndex, ← hn]; exact hf)
    ((hx.others _ hk.symm).trans (issued_core_eq s k)) (hx.shdn.trans (issued_shdn s k 2)) ⟨?_, ?_, ?_⟩
  · rw [settle_core, readOn_core, setC, core_modCore_same]
  · rw [settle_core, readOn_core, setC, core_modCore_other _ _ hk]
    exact hx.lost
  · rw [settle_frame]
    exact hx.lift

end Request

end Sys2Proof.Machine
end

section
/-! FLIFT of a unit of each class, and the claim on fences and lifts (R38, R84, R130, R131). -/

namespace Sys2Proof.Machine

open R State

namespace State

/-- A lift is asked of a unit that has one, by who may ask, and no request of the same Pulon cycle fenced the unit. -/
structure LiftAsked (met : Bool) (cls n : Nat) (s : State) : Prop where
  count : n < unitCount cls
  legal : met = true → unitLegal cls n = true
  page : cls ≠ 6
  last : s.lastFence ≠ some (cls, n, s.pulonCycle)

/-- Nothing refuses the lift of a fenced unit. -/
structure LiftFree (met : Bool) (cls n : Nat) (s : State) : Prop extends LiftAsked met cls n s where
  fenced : s.unitFenced cls n = true
  legally : s.frozen = true → unitLegal cls n = true → met = true
  kat : ¬ (s.frozen = true ∧ cls = 1 ∧ (s.facetMen n).katFence = true)
  cause : s.causeHeld cls n = false

/-- A lift of the Pulon cycle is noted. -/
def noteLift (s : State) (l : LiftRec) : State := { s with arb := { s.arb with lift := some l } }

variable {s : State} {met : Bool} {cls n : Nat}

theorem liftRequest_asked (h : LiftAsked met cls n s) : s.liftRequest met cls n =
    if !s.unitFenced cls n then
      (s.noteLift { cls := cls, i := n, cycle := s.pulonCycle, core := if met then 5 else 4, was := false, regs := [], kat := false }, false)
    else if s.sealed && unitLegal cls n && !met then (s, true)
    else if s.sealed && cls == 1 && (s.facetMen n).katFence then (s, true)
    else if s.causeHeld cls n then (s, true)
    else ((s.liftNow cls n).noteLift { cls := cls, i := n, cycle := s.pulonCycle, core := if met then 5 else 4, regs := s.changedRegs (s.liftNow cls n), kat := (s.facetMen n).katFence }, false) := by
  obtain ⟨hc, hl, hp, hf⟩ := h
  have hok : ¬ (unitCount cls ≤ n ∨ (met = true ∧ ¬ unitLegal cls n = true) ∨ cls = 6) := by
    rintro (h | ⟨hm, h⟩ | h)
    · omega
    · exact h (hl hm)
    · exact hp h
  unfold liftRequest
  rw [if_neg hok, if_neg hf]
  rfl

theorem liftRequest_free (h : LiftFree met cls n s) : ∃ l, s.liftRequest met cls n = ((s.liftNow cls n).noteLift l, false) := by
  obtain ⟨ha, hf, hl, hk, hc⟩ := h
  rw [liftRequest_asked ha, if_neg (by rw [hf]; decide), if_neg, if_neg, if_neg (by rw [hc]; decide)]
  · exact ⟨_, rfl⟩
  · rw [Bool.and_eq_true, Bool.and_eq_true, beq_iff_eq]
    exact fun ⟨⟨h1, h2⟩, h3⟩ => hk ⟨h1, h2, h3⟩
  · rw [Bool.and_eq_true, Bool.and_eq_true, Bool.not_eq_true']
    exact fun ⟨⟨h1, h2⟩, h3⟩ => absurd (hl h1 h2) (by rw [h3]; decide)

theorem liftRequest_refused (h : LiftAsked met cls n s) (hf : s.unitFenced cls n = true)
    (hr : s.frozen = true ∧ unitLegal cls n = true ∧ met = false ∨ s.frozen = true ∧ cls = 1 ∧ (s.facetMen n).katFence = true ∨ s.causeHeld cls n = true) :
    s.liftRequest met cls n = (s, true) := by
  rw [liftRequest_asked h, if_neg (by rw [hf]; decide)]
  split
  · rfl
  next h1 =>
  split
  · rfl
  next h2 =>
  refine if_pos ?_
  obtain ⟨hs, hl, hm⟩ | ⟨hs, hc, hk⟩ | hc := hr
  · exact absurd (by simp [sealed, hs, hl, hm]) h1
  · exact absurd (by simp [sealed, hs, hc, hk]) h2
  · exact hc

theorem issued_frozen (s : State) (k : Core) (m : Nat) : (s.issued k m).frozen = s.frozen := by rw [issued_frame]; rfl

theorem issued_facetMen (s : State) (k : Core) (m n : Nat) : (s.issued k m).facetMen n = s.facetMen n := by rw [issued_frame]; rfl

theorem issued_unitFenced (s : State) (k : Core) (m cls n : Nat) : (s.issued k m).unitFenced cls n = s.unitFenced cls n := by rw [issued_frame]; rfl

theorem issued_causeHeld (s : State) (k : Core) (m cls n : Nat) : (s.issued k m).causeHeld cls n = s.causeHeld cls n := by rw [issued_frame]; rfl

end State

/-- The legally relevant units that a lift may name. -/
theorem unitLegal_lift {cls n : Nat} (h : unitLegal cls n = true) : cls ∈ [0, 1, 3] ∨ cls = 6 := by
  unfold unitLegal at h
  split at h
  · exact .inl (by decide)
  · exact .inl (by decide)
  · exact .inl (by decide)
  · exact .inr rfl
  · cases h

theorem unitLegal_of_lift {cls : Nat} (h : cls ∈ [0, 1, 3]) (n : Nat) : unitLegal cls n = true := by
  simp only [List.mem_cons, List.not_mem_nil, or_false] at h
  obtain rfl | rfl | rfl := h <;> rfl

theorem unitCount_liftable (cls : BitVec 4) : [128, 4, 6, 2, 8, 24, 0, 2].getD cls.toNat 0 ≤ unitCount cls.toNat ∧
    (cls.toNat = 6 → [128, 4, 6, 2, 8, 24, 0, 2].getD cls.toNat 0 = 0) := by decide +revert

section Request

variable {k : Core} {r : Bool} {a : RegNo} {cls : BitVec 4} {w : BitVec 16} {s : State} {n : Nat}

theorem exec_flift (k : Core) (cls : BitVec 4) (r : Bool) (a : RegNo) (w : BitVec 16) (s : State) : exec (.flift k cls r a w) s = commit (s.pulon k (.flift k cls r a w) 2 (fun _ u =>
    (u.liftRequest (k == .met) cls.toNat (u.fenceIndex k.idx r a w)).1.setC k.idx (u.liftRequest (k == .met) cls.toNat (u.fenceIndex k.idx r a w)).2)) := rfl

theorem issued_liftAsked (hlt : n < [128, 4, 6, 2, 8, 24, 0, 2].getD cls.toNat 0) (hk : k = .met → cls.toNat ∈ [0, 1, 3])
    (hf : s.lastFence ≠ some (cls.toNat, n, s.issueTick k.idx 2 / 4 + 1)) : LiftAsked (k == .met) cls.toNat n (s.issued k 2) := by
  obtain ⟨hle, h6⟩ := unitCount_liftable cls
  refine ⟨Nat.lt_of_lt_of_le hlt hle, fun hm => ?_, fun h => ?_, by rwa [issued_lastFence, issued_pulonCycle]⟩
  · exact unitLegal_of_lift (hk (beq_iff_eq.mp hm)) n
  · rw [h6 h] at hlt
    exact Nat.not_lt_zero _ hlt

section Asked

variable (hn : n = if r then (s.rd k.idx a).toNat % 2 ^ 16 else w.toNat) (h : Issues k (.flift k cls r a w) s)

include hn h

theorem retires_flift (hf : (s.issued k 2).liftRequest (k == .met) cls.toNat n = (s.issued k 2, true)) : Retires k (.flift k cls r a w) 2 s (fun c => { c with c := true }) :=
  retires_ignored (f := fun u => u.liftRequest (k == .met) cls.toNat (u.fenceIndex k.idx r a w)) h (exec_flift ..) (by rw [issued_fenceIndex, ← hn]; exact hf)

theorem retires_flift_ignored (hi : [128, 4, 6, 2, 8, 24, 2048, 2].getD cls.toNat 0 ≤ n ∨ cls = 6#4 ∨ k = .met ∧ cls.toNat ∈ [2, 4, 5, 7]) :
    Retires k (.flift k cls r a w) 2 s (fun c => { c with c := true }) := by
  refine retires_flift hn h (if_pos ?_)
  obtain hle | rfl | ⟨hk, hc⟩ := hi
  · exact .inl ((unitCount_eq cls).trans_le hle)
  · exact .inr (.inr rfl)
  · exact .inr (.inl ⟨beq_iff_eq.mpr hk, by simp [unitLegal_never hc]⟩)

/-- A FLIFT that reaches its unit, by what the lift of the unit leaves. -/
theorem gives_flift {P : State → Prop} (hf : LiftFree (k == .met) cls.toNat n (s.issued k 2)) {x : State} (hx : (s.issued k 2).liftNow cls.toNat n = x)
    (hcore : x.cores = (s.issued k 2).cores) (hshdn : x.hk.shdn = (s.issued k 2).hk.shdn) (hp : ∀ t, Done k false x t → P t) :
    Gives (.flift k cls r a w) s (fun t => (t.core k.idx).c = false ∧ P t) := by
  obtain ⟨l, he⟩ := liftRequest_free hf
  rw [hx] at he
  have hd := done_settle s (x.noteLift l) x k false rfl rfl rfl rfl
  exact gives_request (f := fun u => u.liftRequest (k == .met) cls.toNat (u.fenceIndex k.idx r a w)) (v := x.noteLift l) h
    (exec_flift ..) (by rw [issued_fenceIndex, ← hn]; exact he) ((core_eq_of_cores hcore _).trans (issued_core_eq s k)) (hshdn.trans (issued_shdn s k 2)) ⟨hd.flag, hp _ hd⟩

/-- FLIFT of a unit that is not fenced is noted, and nothing else. -/
theorem gives_flift_unfenced (ha : LiftAsked (k == .met) cls.toNat n (s.issued k 2)) (hu : (s.issued k 2).unitFenced cls.toNat n = false) : Gives (.flift k cls r a w) s (fun t =>
    t = { s with cores := t.cores, arb := { s.arb with lift := t.arb.lift }, now := t.now, wall := t.wall, intc := t.intc, lines := t.lines } ∧
    Follows s t ∧ (∀ j, j ≠ k.idx → t.core j = s.core j) ∧ t.core k.idx = { s.movedCore k 2 with c := false } ∧
    ∃ l, t.arb.lift = some l ∧ l.cls = cls.toNat ∧ l.i = n ∧ l.cycle = s.issueTick k.idx 2 / 4 + 1 ∧ l.core = k.idx) := by
  have hcore : (if (k == .met) = true then 5 else 4) = k.idx := by obtain rfl | rfl := issues_asksFence h rfl <;> rfl
  have he := liftRequest_asked ha
  rw [if_pos (by rw [hu]; rfl), hcore, issued_pulonCycle] at he
  have hfr := issued_frame s k 2
  refine gives_request (f := fun u => u.liftRequest (k == .met) cls.toNat (u.fenceIndex k.idx r a w)) (c := false)
    (v := (s.issued k 2).noteLift { cls := cls.toNat, i := n, cycle := s.issueTick k.idx 2 / 4 + 1, core := k.idx, was := false, regs := [], kat := false })
    h (exec_flift ..) (by rw [issued_fenceIndex, ← hn]; exact he) (issued_core_eq s k) (issued_shdn s k 2) ⟨?_, follows_settle (issued_intc s k 2) (issued_lines s k 2), fun j hj => ?_, ?_, ?_⟩
  · rw [settle_frame, readOn_frame]
    generalize (State.settle _).intc = x
    generalize (State.settle _).lines = y
    conv_lhs => rw [hfr]
    rfl
  · rw [settle_core, readOn_core, setC, core_modCore_other _ _ hj]
    exact issued_core_other s k 2 hj
  · rw [settle_core, readOn_core, setC, core_modCore_same]
    exact congrArg (fun c : CoreSt => { c with c := false }) (issued_core_eq s k)
  · rw [settle_frame]
    exact ⟨_, rfl, rfl, rfl, rfl, rfl⟩

/-! ## By class -/

variable (ha : LiftAsked (k == .met) cls.toNat n (s.issued k 2)) (hf : s.unitFenced cls.toNat n = true)

include ha hf

omit hn h in
theorem issued_liftFree (hl : s.frozen = true → cls.toNat ∈ [0, 1, 3] → k = .met) (hk : ¬ (cls.toNat = 1 ∧ s.frozen = true ∧ (s.facetMen n).katFence = true))
    (hc : s.causeHeld cls.toNat n = false) : LiftFree (k == .met) cls.toNat n (s.issued k 2) where
  toLiftAsked := ha
  fenced := (issued_unitFenced s k 2 _ n).trans hf
  legally := fun hs hu => beq_iff_eq.mpr (hl ((issued_frozen s k 2).symm.trans hs) ((unitLegal_lift hu).resolve_right ha.page))
  kat := fun ⟨hs, h1, hm⟩ => hk ⟨h1, (issued_frozen s k 2).symm.trans hs, (congrArg FacetMen.katFence (issued_facetMen s k 2 n)).symm.trans hm⟩
  cause := (issued_causeHeld s k 2 _ n).trans hc

theorem retires_flift_sealed (hs : s.frozen = true) (hc : cls.toNat ∈ [0, 1, 3]) (hk : k ≠ .met) : Retires k (.flift k cls r a w) 2 s (fun c => { c with c := true }) :=
  retires_flift hn h (liftRequest_refused ha ((issued_unitFenced s k 2 _ n).trans hf) (.inl ⟨(issued_frozen s k 2).trans hs, unitLegal_of_lift hc n, beq_eq_false_iff_ne.mpr hk⟩))

theorem retires_flift_kat (hc : cls.toNat = 1) (hs : s.frozen = true) (hk : (s.facetMen n).katFence = true) : Retires k (.flift k cls r a w) 2 s (fun c => { c with c := true }) :=
  retires_flift hn h (liftRequest_refused ha ((issued_unitFenced s k 2 _ n).trans hf)
    (.inr (.inl ⟨(issued_frozen s k 2).trans hs, hc, (congrArg FacetMen.katFence (issued_facetMen s k 2 n)).trans hk⟩)))

theorem retires_flift_held (hc : s.causeHeld cls.toNat n = true) : Retires k (.flift k cls r a w) 2 s (fun c => { c with c := true }) :=
  retires_flift hn h (liftRequest_refused ha ((issued_unitFenced s k 2 _ n).trans hf) (.inr (.inr ((issued_causeHeld s k 2 _ n).trans hc))))

end Asked

section Lifted

variable (hn : n = if r then (s.rd k.idx a).toNat % 2 ^ 16 else w.toNat)

include hn

theorem gives_flift_lane (h : Issues k (.flift k 0#4 r a w) s) (hf : LiftFree (k == .met) 0 n (s.issued k 2)) : Gives (.flift k 0#4 r a w) s (fun t => (t.core k.idx).c = false ∧
    t.get (LCA_LANE_CTL_cause n) = 0 ∧ (t.port (n / 32)).liftWait / 2 ^ (n % 32) % 2 = 1 ∧ ∀ x, x ≠ LCA_LANE_CTL n → t.reg x = s.reg x) := by
  have hx := laneLift_spec hf.cause hf.fenced
  exact gives_flift hn h hf rfl hx.cores hx.shdn fun t ht => ⟨(ht.get _).trans hx.cause, by rw [ht.port]; exact hx.waits, fun x hm => ((ht.reg x).trans (hx.other x hm)).trans (issued_reg s k 2 x)⟩

theorem gives_flift_port (h : Issues k (.flift k 1#4 r a w) s) (hf : LiftFree (k == .met) 1 n (s.issued k 2)) : Gives (.flift k 1#4 r a w) s (fun t => (t.core k.idx).c = false ∧
    t.sqState n = 1 ∧ t.bit (PSC_SQ_STAT_hashing n) = true ∧ t.bit (FPP_STAT_fenced n) = false ∧ ∀ x, x ∉ [PSC_SQ_STAT n, FPP_STAT n] → t.reg x = s.reg x) := by
  have hx := portUnfence_spec (s.issued k 2) hf.count
  have he : (s.issued k 2).liftNow (1#4).toNat n = (s.issued k 2).portUnfence n := if_pos ⟨beq_iff_eq.mp hf.fenced, by simpa [causeHeld] using hf.cause⟩
  exact gives_flift hn h hf he hx.cores hx.shdn fun t ht => ⟨(ht.get _).trans hx.state, (ht.bit _ _).trans hx.hashing, (ht.bit _ _).trans hx.fenced,
    fun x hm => ((ht.reg x).trans (hx.other x hm)).trans (issued_reg s k 2 x)⟩

theorem gives_flift_facet (h : Issues k (.flift k 2#4 r a w) s) (hf : LiftFree (k == .met) 2 n (s.issued k 2)) : Gives (.flift k 2#4 r a w) s (fun t => (t.core k.idx).c = false ∧
    t.bit (IPL_F_STAT_fenced n) = false ∧ t.get (IPL_F_STAT_cause n) = 0) := by
  obtain ⟨hc, hs, hb, hg⟩ := facetLift_spec (s.issued k 2) hf.count hf.fenced
  exact gives_flift hn h hf rfl hc hs fun t ht => ⟨(ht.bit _ _).trans hb, (ht.get _).trans hg⟩

theorem gives_flift_coder (h : Issues k (.flift k 3#4 r a w) s) (hf : LiftFree (k == .met) 3 n (s.issued k 2)) : Gives (.flift k 3#4 r a w) s (fun t => (t.core k.idx).c = false ∧
    t.bit CER_STAT_coder n = false ∧ ∀ x, x ≠ CER_STAT → t.reg x = s.reg x) := by
  obtain ⟨ha, hb, ho⟩ := coderLift_spec (s.issued k 2) hf.count
  exact gives_flift hn h hf rfl ha.cores ha.shdn fun t ht => ⟨(ht.bit _ _).trans hb, fun x hm => ((ht.reg x).trans (ho x hm)).trans (issued_reg s k 2 x)⟩

theorem gives_flift_channel (h : Issues k (.flift k 4#4 r a w) s) (hf : LiftFree (k == .met) 4 n (s.issued k 2)) : Gives (.flift k 4#4 r a w) s (fun t => (t.core k.idx).c = false ∧
    t.bit SDR_FENCED_channels n = false ∧ t.bit (SDR_CH_STAT_fenced n) = false) := by
  obtain ⟨hc, hs, hb, hg⟩ := channelLift_spec hf.count (s.issued k 2)
  exact gives_flift hn h hf (if_pos hf.fenced) hc hs fun t ht => ⟨(ht.bit _ _).trans hb, (ht.bit _ _).trans hg⟩

theorem gives_flift_input (h : Issues k (.flift k 5#4 r a w) s) (hf : LiftFree (k == .met) 5 n (s.issued k 2)) : Gives (.flift k 5#4 r a w) s (fun t => (t.core k.idx).c = false ∧
    t.bit HKT_FENCED_inputs n = false) := by
  obtain ⟨ha, hb⟩ := hkLift_spec (s.issued k 2) hf.count hf.fenced hf.cause
  exact gives_flift hn h hf rfl ha.cores ha.shdn fun t ht => (ht.bit _ _).trans hb

theorem gives_flift_rx (h : Issues k (.flift k 7#4 r a w) s) (hf : LiftFree (k == .met) 7 n (s.issued k 2)) : Gives (.flift k 7#4 r a w) s (fun t => (t.core k.idx).c = false ∧
    t.bit (VIO_RX_STAT_fenced n) = false ∧ t.get (VIO_RX_STAT_fence n) = 0 ∧ ∀ x, x ∉ [VIO_RX_STAT n, VIO_STAT] → t.reg x = s.reg x) := by
  obtain ⟨ha, hb, hg, ho⟩ := rxLift_spec (s.issued k 2) hf.count hf.fenced
  exact gives_flift hn h hf rfl ha.cores ha.shdn fun t ht => ⟨(ht.bit _ _).trans hb, (ht.get _).trans hg, fun x hm => ((ht.reg x).trans (ho x hm)).trans (issued_reg s k 2 x)⟩

end Lifted

end Request

/-- The classes of which a unit can be lifted. -/
theorem liftable_class {cls : BitVec 4} {n : Nat} (h : n < [128, 4, 6, 2, 8, 24, 0, 2].getD cls.toNat 0) :
    cls = 0#4 ∨ cls = 1#4 ∨ cls = 2#4 ∨ cls = 3#4 ∨ cls = 4#4 ∨ cls = 5#4 ∨ cls = 7#4 := by
  have hpos : [128, 4, 6, 2, 8, 24, 0, 2].getD cls.toNat 0 ≠ 0 := Nat.ne_of_gt (Nat.lt_of_le_of_lt (Nat.zero_le n) h)
  clear h
  revert hpos
  decide +revert

/-- Settles O16: by class, from what the fence and the lift of a unit leave. -/
theorem fencesAndLifts : Obligations.FencesAndLifts := by
  unfold Obligations.FencesAndLifts
  constructor
  · intro k r a cls w s n hn i cyc meets held cause done h
    refine ⟨fun hl => ?_, fun hc hlt l he hm hk => gives_fence_meets hn h hc hlt he hm hk, retires_fence_ignored hn h⟩
    have hno : (s.issued k 2).NoLift cls.toNat n := fun l he => issued_pulonCycle s k ▸ hl l ((congrArg ArbSt.lift (issued_arb s k 2)).symm.trans he)
    refine ⟨?_, ?_, ?_, ?_, ?_, ?_, ?_, ?_, ?_⟩
    · rintro rfl hlt
      exact gives_fence_lane hn h hno hlt
    · rintro rfl hlt hs hw
      exact gives_fence_port hn h hno hlt hs hw
    · rintro rfl hlt hs
      exact gives_fence_port_again hn h hno hlt hs
    · rintro rfl hlt hk
      exact gives_fence_facet hn h hno hlt hk
    · rintro rfl hlt
      exact gives_fence_coder hn h hno hlt
    · rintro rfl hlt hk
      exact gives_fence_channel hn h hno hlt hk
    · rintro rfl hlt hk
      exact gives_fence_input hn h hno hlt hk
    · rintro rfl hlt hm
      exact gives_fence_page hn h hno hlt hm
    · rintro rfl hlt hk
      exact gives_fence_rx hn h hno hlt hk
  · intro k r a cls w s n hn i cyc refused lifted fenced pinLow ka h hlast
    refine ⟨retires_flift_ignored hn h, fun hlt hk => ?_⟩
    have ha := issued_liftAsked hlt hk hlast
    have hu : fenced = s.unitFenced cls.toNat n := by
      obtain rfl | rfl | rfl | rfl | rfl | rfl | rfl := liftable_class hlt <;> rfl
    refine ⟨fun hf => gives_flift_unfenced hn h ha ((issued_unitFenced s k 2 _ n).trans (hu.symm.trans hf)),
      fun hf hc hs hk => retires_flift_sealed hn h ha (hu.symm.trans hf) hs hc hk, fun hf hl => ?_⟩
    have hf := hu.symm.trans hf
    have hfree := issued_liftFree ha hf hl
    refine ⟨?_, ?_, ?_, ?_, ?_, ?_, ?_⟩
    · rintro rfl
      exact ⟨fun hst => retires_flift_held hn h ha hf hst, fun hst => gives_flift_lane hn h (hfree (by simp) hst)⟩
    · rintro rfl
      have hpin : s.causeHeld 1 n = true ↔ pinLow := by simp [causeHeld, portCauseHeld, pinLow, and_assoc]
      refine ⟨fun hr => ?_, fun hp hka => gives_flift_port hn h (hfree (fun hk => hka hk.2) (Bool.eq_false_iff.mpr fun hh => hp (hpin.mp hh)))⟩
      obtain hp | ⟨hs, hkat⟩ := hr
      · exact retires_flift_held hn h ha hf (hpin.mpr hp)
      · exact retires_flift_kat hn h ha hf rfl hs hkat
    · rintro rfl
      exact gives_flift_facet hn h (hfree (by simp) rfl)
    · rintro rfl
      exact gives_flift_coder hn h (hfree (by simp) rfl)
    · rintro rfl
      exact gives_flift_channel hn h (hfree (by simp) rfl)
    · rintro rfl
      exact ⟨fun ho => retires_flift_held hn h ha hf ho, fun ho => gives_flift_input hn h (hfree (by simp) ho)⟩
    · rintro rfl
      exact gives_flift_rx hn h (hfree (by simp) rfl)

end Sys2Proof.Machine
end

section
/-! What the rasters go by, and the operations that leave it: the rasters themselves, the tick, the decided shutdown and the registers of the lowest pages, that of the raster
time base among them. -/

namespace Sys2Proof.Machine

open R State

/-- The part of a state that the raster time base reads and writes. -/
structure RasterView where
  rasters : List (Nat × RasterSt)
  now : Nat
  shdn : Option Shutdown
  /-- Registers below those of the sequencers. -/
  reg : Nat → W32

namespace State

/-- The raster time base's part of a state. -/
def rasterView (s : State) : RasterView := ⟨s.rasters, s.now, s.hk.shdn, fun a => if a < 0x3000 then s.reg a else 0#32⟩

theorem rasterView_congr {s t : State} (hr : t.rasters = s.rasters) (hn : t.now = s.now) (hs : t.hk.shdn = s.hk.shdn) (hreg : ∀ a, a < 0x3000 → t.reg a = s.reg a) :
    t.rasterView = s.rasterView := by
  have e : (fun a => if a < 0x3000 then t.reg a else 0#32) = fun a => if a < 0x3000 then s.reg a else 0#32 := by
    funext a
    split
    · exact hreg a ‹_›
    · rfl
  rw [rasterView, rasterView, hr, hn, hs, e]

section Same

variable {s t : State} (h : t.rasterView = s.rasterView)

include h

theorem rasters_of_view : t.rasters = s.rasters := congrArg RasterView.rasters h
theorem raster_of_view (r : Nat) : t.raster r = s.raster r := by rw [State.raster, rasters_of_view h, ← State.raster]
theorem now_of_view : t.now = s.now := congrArg RasterView.now h
theorem shdn_of_view : t.hk.shdn = s.hk.shdn := congrArg RasterView.shdn h
theorem reg_of_view {a : Nat} (ha : a < 0x3000) : t.reg a = s.reg a := by
  have e := congrFun (congrArg RasterView.reg h) a
  simpa only [rasterView, if_pos ha] using e

end Same

theorem rasterView_foldl {α : Type} {g : State → α → State} (h : ∀ s x, (g s x).rasterView = s.rasterView) (l : List α) : ∀ s : State, (l.foldl g s).rasterView = s.rasterView := by
  induction l with
  | nil => exact fun _ => rfl
  | cons x xs ih => exact fun s => (ih (g s x)).trans (h s x)

@[simp] theorem rasterView_ite (c : Prop) [Decidable c] (s t : State) : (if c then s else t).rasterView = if c then s.rasterView else t.rasterView := apply_ite _ c s t

/-! ## Addresses above the raster time base, block by block -/

@[simp] theorem psc_beyond (q : Nat) : 0x3000 ≤ (PSC_SQ_STAT_state q).addr ∧ 0x3000 ≤ (PSC_SQ_STAT_unverified q).addr ∧ 0x3000 ≤ PSC_SQ_CAUSE q ∧ 0x3000 ≤ (PSC_SQ_CNT_late q).addr := by
  constructorm* _ ∧ _ <;> exact Nat.le_add_right_of_le (by decide)

@[simp] theorem fpp_beyond (p : Nat) : 0x3000 ≤ (FPP_BIAS_ACT_code p).addr ∧ 0x3000 ≤ (FPP_CTL_arm p).addr ∧ 0x3000 ≤ (FPP_STAT_delivering p).addr := by
  constructorm* _ ∧ _ <;> exact Nat.le_add_right_of_le (by decide)

@[simp] theorem lca_beyond (n : Nat) : 0x3000 ≤ (LCA_CTL_arm n).addr ∧ 0x3000 ≤ LCA_FENCED n ∧ 0x3000 ≤ LCA_MODE_ACT n ∧ 0x3000 ≤ (LCA_LANE_CTL_arm n).addr ∧
    0x3000 ≤ (LCA_LANE_CTL_fenced n).addr ∧ 0x3000 ≤ LCA_LANE_TRIM_ACT n := by
  constructorm* _ ∧ _ <;> exact Nat.le_add_right_of_le (by decide)

@[simp] theorem pce_beyond (p : Nat) : 0x3000 ≤ (PCE_FPA_T_temperature p).addr ∧ 0x3000 ≤ (PCE_SLOT_cur p).addr ∧ 0x3000 ≤ (PCE_TBL_ACT_BASE_active p).addr ∧
    0x3000 ≤ (PCE_TBL_ACT_LEN_active p).addr ∧ 0x3000 ≤ (PCE_TBL_CTL_arm p).addr ∧ 0x3000 ≤ (PCE_TBL_STAT_active p).addr ∧ 0x3000 ≤ (PCE_TBL_STAT_unverified p).addr ∧
    0x3000 ≤ (PCE_WEDGE_STAT_deferred p).addr ∧ 0x3000 ≤ (PCE_WEDGE_STAT_running p).addr := by
  constructorm* _ ∧ _ <;> exact Nat.le_add_right_of_le (by decide)

@[simp] theorem csu_beyond (p : Nat) : 0x3000 ≤ (CSU_CNT_deferred p).addr ∧ 0x3000 ≤ (CSU_CNT_refused p).addr ∧ 0x3000 ≤ (CSU_CTL_arm p).addr ∧ 0x3000 ≤ (CSU_DUE_frames p).addr ∧
    0x3000 ≤ CSU_SETTLE p ∧ 0x3000 ≤ (CSU_SETTLE_settling p).addr ∧ 0x3000 ≤ (CSU_STAT_deferred p).addr ∧ 0x3000 ≤ (CSU_STAT_due p).addr ∧ 0x3000 ≤ (CSU_STAT_overdue p).addr ∧
    0x3000 ≤ (CSU_STAT_ready p).addr ∧ 0x3000 ≤ (CSU_STAT_wedge_buf p).addr := by
  constructorm* _ ∧ _ <;> exact Nat.le_add_right_of_le (by decide)

@[simp] theorem ipl_beyond (f : Nat) : 0x3000 ≤ (IPL_CNT2_overrun f).addr ∧ 0x3000 ≤ (IPL_CNT_late f).addr ∧ 0x3000 ≤ (IPL_CTL_arm f).addr ∧ 0x3000 ≤ (IPL_FSTAT0_maximum f).addr ∧
    0x3000 ≤ (IPL_FSTAT0_minimum f).addr ∧ 0x3000 ≤ (IPL_FSTAT1_mean f).addr ∧ 0x3000 ≤ (IPL_F_STAT_active f).addr ∧ 0x3000 ≤ (IPL_F_STAT_backlog f).addr ∧
    0x3000 ≤ (IPL_F_STAT_band f).addr ∧ 0x3000 ≤ (IPL_F_STAT_bank f).addr ∧ 0x3000 ≤ (IPL_F_STAT_cause f).addr ∧ 0x3000 ≤ (IPL_F_STAT_fenced f).addr ∧
    0x3000 ≤ (IPL_F_STAT_seeded f).addr ∧ 0x3000 ≤ (IPL_OUT_SLOT_last f).addr ∧ 0x3000 ≤ (IPL_OUT_SLOT_slot f).addr := by
  constructorm* _ ∧ _ <;> exact Nat.le_add_right_of_le (by decide)

@[simp] theorem cer_beyond (n : Nat) : 0x3000 ≤ (CER_REC_CNT_lost n).addr ∧ 0x3000 ≤ (CER_REC_FILL_ring n).addr ∧ 0x3000 ≤ (CER_REC_STAT_exported n).addr ∧
    0x3000 ≤ (CER_REC_STAT_held n).addr ∧ 0x3000 ≤ (CER_REC_STAT_post_rem n).addr ∧ 0x3000 ≤ (CER_REC_STAT_state n).addr ∧ 0x3000 ≤ CER_S_BYTES n ∧
    0x3000 ≤ (CER_S_CNT2_incomplete n).addr ∧ 0x3000 ≤ (CER_S_FILL_ring n).addr := by
  constructorm* _ ∧ _ <;> exact Nat.le_add_right_of_le (by decide)

@[simp] theorem mem_vio_beyond (n : Nat) : 0x3000 ≤ (MEM_BW_mib n).addr ∧ 0x3000 ≤ (VIO_S_CNT_truncated n).addr ∧ 0x3000 ≤ (VIO_TX_STAT_busy n).addr := by
  constructorm* _ ∧ _ <;> exact Nat.le_add_right_of_le (by decide)

/-- Registers of which there is one copy. -/
@[simp] theorem single_beyond : 0x3000 ≤ PSC_EVT_late.addr ∧ 0x3000 ≤ PSC_EVT_refused.addr ∧ 0x3000 ≤ PSC_SUP_CNT_late.addr ∧ 0x3000 ≤ LCA_ST_STAT_aborted.addr ∧
    0x3000 ≤ LCA_ST_STAT_busy.addr ∧ 0x3000 ≤ PCE_EVT_refused.addr ∧ 0x3000 ≤ PCE_RAD_CTL_arm.addr ∧ 0x3000 ≤ CSU_ACTIVE_ports4.addr ∧ 0x3000 ≤ CSU_EVT_overdue.addr ∧
    0x3000 ≤ CSU_EVT_refused.addr ∧ 0x3000 ≤ IPL_EVT0_frame.addr ∧ 0x3000 ≤ IPL_EVT1_fence.addr ∧ 0x3000 ≤ IPL_EVT1_late.addr ∧ 0x3000 ≤ IPL_EVT1_overrun.addr ∧
    0x3000 ≤ IPL_EVT1_throttle.addr ∧ 0x3000 ≤ IPL_LOAD_busy.addr ∧ 0x3000 ≤ IPL_STAT_facet.addr ∧ 0x3000 ≤ IPL_STAT_throttled.addr ∧ 0x3000 ≤ CER_BUSY_coder.addr ∧
    0x3000 ≤ CER_BUSY_coder16.addr ∧ 0x3000 ≤ CER_EVT1_drop.addr ∧ 0x3000 ≤ CER_EVT2_freeze.addr ∧ 0x3000 ≤ CER_EVT2_lost.addr ∧ 0x3000 ≤ HKT_THR_STAT_grace.addr ∧
    0x3000 ≤ VIO_EVT_trunc.addr ∧ 0x3000 ≤ MEN_EVT ∧ 0x3000 ≤ MEN_FACET := by decide

/-! ## Registers of higher pages -/

section Registers

variable {f : Field} (h : 0x3000 ≤ f.addr)

@[simp] theorem rasterView_setReg (s : State) {a : Nat} (v : W32) (h : 0x3000 ≤ a) : (s.setReg a v).rasterView = s.rasterView :=
  rasterView_congr rfl rfl rfl fun _ hb => reg_setReg_other s v (by omega)

@[simp] theorem rasterView_setNum (s : State) {a : Nat} (v : Nat) (h : 0x3000 ≤ a) : (s.setNum a v).rasterView = s.rasterView := rasterView_setReg s _ h

include h

@[simp] theorem rasterView_put (s : State) (v : Nat) : (s.put f v).rasterView = s.rasterView := rasterView_setReg s _ h

@[simp] theorem rasterView_bump (s : State) : (s.bump f).rasterView = s.rasterView := rasterView_put h s _

@[simp] theorem rasterView_setBit (s : State) (i : Nat) : (s.setBit f i).rasterView = s.rasterView := by
  unfold setBit
  simp [rasterView_put h]

@[simp] theorem rasterView_clrBit (s : State) (i : Nat) : (s.clrBit f i).rasterView = s.rasterView := by
  unfold clrBit
  simp [rasterView_put h]

@[simp] theorem rasterView_wrBit (s : State) (i : Nat) (b : Bool) : (s.wrBit f i b).rasterView = s.rasterView := by
  unfold wrBit
  simp [rasterView_setBit h, rasterView_clrBit h]

end Registers

/-! ## The blocks' own records -/

@[simp] theorem rasterView_modCore (s : State) (k : Nat) (g : CoreSt → CoreSt) : (s.modCore k g).rasterView = s.rasterView := rasterView_congr rfl rfl rfl fun _ _ => rfl
@[simp] theorem rasterView_modPort (s : State) (p : Nat) (g : PortSt → PortSt) : (s.modPort p g).rasterView = s.rasterView := rasterView_congr rfl rfl rfl fun _ _ => rfl
@[simp] theorem rasterView_modStream (s : State) (p : Nat) (g : StreamSt → StreamSt) : (s.modStream p g).rasterView = s.rasterView := rasterView_congr rfl rfl rfl fun _ _ => rfl
@[simp] theorem rasterView_modCsu (s : State) (p : Nat) (g : CsuSt → CsuSt) : (s.modCsu p g).rasterView = s.rasterView := rasterView_congr rfl rfl rfl fun _ _ => rfl
@[simp] theorem rasterView_setMarks (s : State) (k m : Nat) : (s.setMarks k m).rasterView = s.rasterView := rasterView_congr rfl rfl rfl fun _ _ => rfl
@[simp] theorem rasterView_setCmp (s : State) (n : Nat) (x : CmpSt) : (s.setCmp n x).rasterView = s.rasterView := rasterView_congr rfl rfl rfl fun _ _ => rfl
@[simp] theorem rasterView_setPair (s : State) (n : Nat) (x : PairSt) : (s.setPair n x).rasterView = s.rasterView := rasterView_congr rfl rfl rfl fun _ _ => rfl
@[simp] theorem rasterView_setFacet (s : State) (f : Nat) (x : FacetSt) : (s.setFacet f x).rasterView = s.rasterView := rasterView_congr rfl rfl rfl fun _ _ => rfl
@[simp] theorem rasterView_modFacet (s : State) (f : Nat) (g : FacetSt → FacetSt) : (s.modFacet f g).rasterView = s.rasterView := rasterView_congr rfl rfl rfl fun _ _ => rfl
@[simp] theorem rasterView_modMen (s : State) (g : MenSt → MenSt) : (s.modMen g).rasterView = s.rasterView := rasterView_congr rfl rfl rfl fun _ _ => rfl
@[simp] theorem rasterView_modFacetMen (s : State) (x : Nat) (g : FacetMen → FacetMen) : (s.modFacetMen x g).rasterView = s.rasterView := rasterView_congr rfl rfl rfl fun _ _ => rfl
@[simp] theorem rasterView_modSca (s : State) (g : ScaSt → ScaSt) : (s.modSca g).rasterView = s.rasterView := rasterView_congr rfl rfl rfl fun _ _ => rfl
@[simp] theorem rasterView_modTxPort (s : State) (t : Nat) (g : TxPort → TxPort) : (s.modTxPort t g).rasterView = s.rasterView := rasterView_congr rfl rfl rfl fun _ _ => rfl
@[simp] theorem rasterView_modTxStream (s : State) (k : Nat) (g : TxStream → TxStream) : (s.modTxStream k g).rasterView = s.rasterView := rasterView_congr rfl rfl rfl fun _ _ => rfl
@[simp] theorem rasterView_modRxPort (s : State) (r : Nat) (g : RxPort → RxPort) : (s.modRxPort r g).rasterView = s.rasterView := rasterView_congr rfl rfl rfl fun _ _ => rfl
@[simp] theorem rasterView_frameDone (s : State) (k : Nat) : (s.frameDone k).rasterView = s.rasterView := rasterView_congr rfl rfl rfl fun _ _ => rfl
@[simp] theorem rasterView_modCoder (s : State) (k : Nat) (g : CoderSt → CoderSt) : (s.modCoder k g).rasterView = s.rasterView := rasterView_congr rfl rfl rfl fun _ _ => rfl
@[simp] theorem rasterView_modJob (s : State) (i : Nat) (g : CerJob → CerJob) : (s.modJob i g).rasterView = s.rasterView := rasterView_congr rfl rfl rfl fun _ _ => rfl
@[simp] theorem rasterView_dropJob (s : State) (i : Nat) : (s.dropJob i).rasterView = s.rasterView := rasterView_congr rfl rfl rfl fun _ _ => rfl
@[simp] theorem rasterView_addJob (s : State) (u p n pl f e : Nat) : (s.addJob u p n pl f e).rasterView = s.rasterView := rasterView_congr rfl rfl rfl fun _ _ => rfl
@[simp] theorem rasterView_setErr (s : State) (w : Nat) (e : Option WordErr) : (s.setErr w e).rasterView = s.rasterView := rasterView_congr rfl rfl rfl fun _ _ => rfl
@[simp] theorem rasterView_setGathered (s : State) (w m : Nat) : (s.setGathered w m).rasterView = s.rasterView := rasterView_congr rfl rfl rfl fun _ _ => rfl
@[simp] theorem rasterView_moveBytes (s : State) (c n : Nat) : (s.moveBytes c n).rasterView = s.rasterView := rasterView_congr rfl rfl rfl fun _ _ => rfl
@[simp] theorem rasterView_modHk (s : State) {g : HkSt → HkSt} (h : (g s.hk).shdn = s.hk.shdn) : (s.modHk g).rasterView = s.rasterView := rasterView_congr rfl rfl h fun _ _ => rfl

/-! ## Relations that leave the raster time base alone -/

theorem Sparing.rasterView {A : Nat → Prop} {s t : State} (h : Sparing A s t) (hA : ∀ a, a < 0x3000 → A a) : t.rasterView = s.rasterView :=
  rasterView_congr h.rasters h.now h.shdn fun a ha => h.reg a (hA a ha)

theorem Apart.rasterView {l : List Nat} {s t : State} (h : Apart l s t) (hl : ∀ n ∈ l, 3 ≤ n) : t.rasterView = s.rasterView :=
  Sparing.rasterView h fun a ha hm => by have := hl _ hm; omega

theorem EccNoted.rasterView {s t : State} (h : EccNoted s t) : t.rasterView = s.rasterView := by
  have hf := h.frame
  refine rasterView_congr (by rw [hf]) (by rw [hf]) (by rw [hf]) fun a ha => h.reg a fun hm => ?_
  have := (by decide : ∀ b ∈ eccRegs, 0x3000 ≤ b) a hm
  omega

@[simp] theorem rasterView_eccRead (s : State) (b : Bool) (a q : Nat) (fix : Bool) : (s.eccRead b a q fix).1.rasterView = s.rasterView := (eccNoted_eccRead s b a q fix).rasterView

@[simp] theorem rasterView_dramRead (s : State) (c q a k : Nat) : (s.dramRead c q a k).rasterView = s.rasterView := (eccNoted_dramRead s c q a k).rasterView

@[simp] theorem rasterView_auditNote (s : State) (c k i o n : Nat) : (s.auditNote c k i o n).rasterView = s.rasterView := (judged_auditNote s c k i o n).apart.rasterView (by decide)

@[simp] theorem rasterView_showAlarms (s : State) : s.showAlarms.rasterView = s.rasterView := (judged_showAlarms s).apart.rasterView (by decide)

@[simp] theorem rasterView_metJudge (s : State) : s.metJudge.rasterView = s.rasterView := (judged_metJudge s).apart.rasterView (by decide)

theorem rasterView_ffTrigger {p : Nat} (hp : p < 4) (s : State) (k : Nat) : (s.ffTrigger p k).rasterView = s.rasterView :=
  (shutter_ffTrigger hp s k).rasterView (by decide)

theorem rasterView_ffAbort {p : Nat} (hp : p < 4) (s : State) : (s.ffAbort p).rasterView = s.rasterView := (shutter_ffAbort hp s).rasterView (by decide)

theorem rasterView_setFf {p : Nat} (hp : p < 4) (s : State) (v : Nat) : (s.setFf p v).rasterView = s.rasterView := (csu_setFf (csu_page hp) s v).rasterView fun a ha hm => by
  have := (by decide : ∀ n ∈ shutterPages, 3 ≤ n) _ hm
  omega

end State

end Sys2Proof.Machine
end

section
/-! Line starts leave the raster time base alone, block by block (R41, R55). -/

namespace Sys2Proof.Machine

open R State

namespace State

/-! ## Sequencers and shutter drive -/

@[simp] theorem rasterView_pscLine (s : State) (r : Nat) : (s.pscLine r).rasterView = s.rasterView := by
  unfold pscLine
  extract_lets t
  have ht : t.rasterView = s.rasterView := rasterView_foldl (fun u q => by simp) _ s
  simp [ht]

@[simp] theorem rasterView_countLate (s : State) (k : Nat) : (s.countLate k).rasterView = s.rasterView := by
  unfold countLate
  simp

@[simp] theorem rasterView_dropRemoved (s : State) (r : Nat) : (s.dropRemoved r).rasterView = s.rasterView :=
  rasterView_foldl (fun u k => (rasterView_foldl (fun v _ => rasterView_countLate v k) _ _).trans (rasterView_modCore u k _)) _ s

@[simp] theorem rasterView_sdrLine (s : State) (r : Nat) : (s.sdrLine r).rasterView = s.rasterView := rasterView_foldl (fun u n => by simp) _ s

@[simp] theorem rasterView_sdrGains (s : State) (r t : Nat) : (s.sdrGains r t).rasterView = s.rasterView :=
  rasterView_foldl (fun u n => by
    dsimp only
    split
    · simp
    · rfl) _ s

/-! ## Image pipeline -/

@[simp] theorem rasterView_iplStat (s : State) (f : Nat) : (s.iplStat f).rasterView = s.rasterView := by
  unfold iplStat
  simp

theorem rasterView_throttleJudge (s : State) : s.throttleJudge.rasterView = s.rasterView := by
  unfold throttleJudge
  extract_lets t
  have ht : t.rasterView = s.rasterView := by simp [t]
  rw [rasterView_ite, rasterView_foldl (fun u f => by simp), ite_self, ht]

theorem rasterView_pickBand (s : State) : s.pickBand.2.rasterView = s.rasterView := by
  unfold pickBand
  extract_lets ready urg due t tot
  have ht : t.rasterView = s.rasterView := rasterView_foldl (fun u f => rasterView_modFacet u f _) _ s
  split
  · rfl
  · split <;> exact ht

theorem rasterView_takeFrame (s : State) (f : Nat) : (s.takeFrame f).rasterView = s.rasterView := by
  unfold takeFrame
  split
  · rfl
  · simp

theorem rasterView_ctxSave (s : State) (f : Nat) : (s.ctxSave f).rasterView = s.rasterView :=
  (rasterView_foldl (g := fun u w => u.setErr w none) (fun u w => rasterView_setErr u w none) _ s :)

theorem rasterView_ctxLoad (s : State) (f : Nat) : (s.ctxLoad f).1.rasterView = s.rasterView := (eccNoted_bandCheck s _ _).rasterView

theorem rasterView_contextCopy (s : State) (f : Nat) : (s.contextCopy f).rasterView = s.rasterView := by
  unfold contextCopy
  split
  · rfl
  · extract_lets t
    have ht : t.rasterView = s.rasterView :=
      rasterView_foldl (g := fun (u : State) a => { u with ipl := { u.ipl with act := Map.set regReset u.ipl.act a (u.reg a) } }) (fun _ _ => rfl) _ s
    simp [ht]

@[simp] theorem rasterView_vioTruncate (s : State) (k n : Nat) : (s.vioTruncate k n).rasterView = s.rasterView :=
  rasterView_foldl (fun u k => by
    split
    · simp
    · rfl) _ s

theorem rasterView_facetFenceNow (s : State) (f c : Nat) : (s.facetFenceNow f c).rasterView = s.rasterView := by
  unfold facetFenceNow
  extract_lets t u ipl v
  have hu : u.rasterView = s.rasterView := by simp [u, t]
  have hv : v.rasterView = u.rasterView := by
    unfold v
    split <;> rfl
  rw [rasterView_iplStat, hv, hu]

/-- The context of facet `f` loaded, and that of the facet before saved. -/
theorem rasterView_ctxSwitch (s : State) (f : Nat) : ((match s.ipl.loaded with | some g => s.ctxSave g | none => s).ctxLoad f).1.rasterView = s.rasterView := by
  rw [rasterView_ctxLoad]
  split
  · exact rasterView_ctxSave s _
  · rfl

theorem rasterView_beginBand (fuel : Nat) : ∀ s : State, (s.beginBand fuel).rasterView = s.rasterView := by
  induction fuel with
  | zero => exact fun _ => rfl
  | succ fuel ih =>
    intro s
    unfold beginBand
    split
    · rfl
    next f0 _ =>
    extract_lets t
    have h1 : t.rasterView = s.rasterView := rasterView_throttleJudge s
    have h2 : (if t.facetReady f0 then (some f0, t) else t.pickBand).2.rasterView = s.rasterView := by
      split
      · exact h1
      · exact (rasterView_pickBand t).trans h1
    generalize (if t.facetReady f0 then (some f0, t) else t.pickBand) = p at h2 ⊢
    clear_value t
    obtain ⟨o, u⟩ := p
    dsimp -zeta only at h2 ⊢
    split
    · exact h2
    next f =>
    extract_lets +onlyGivenNames v
    have h3 : v.rasterView = s.rasterView := by
      unfold v
      simp [rasterView_takeFrame, h2]
    clear_value v
    split
    · exact h3
    next q _ =>
    extract_lets +onlyGivenNames switch
    have h4 : (if switch = true then (match v.ipl.loaded with | some g => v.ctxSave g | none => v).ctxLoad f else (v, false)).1.rasterView = s.rasterView := by
      split
      · exact (rasterView_ctxSwitch v f).trans h3
      · exact h3
    generalize (if switch = true then (match v.ipl.loaded with | some g => v.ctxSave g | none => v).ctxLoad f else (v, false)) = x at h4 ⊢
    obtain ⟨x, bad⟩ := x
    dsimp -zeta only at h4 ⊢
    split
    · rw [ih]
      exact (rasterView_facetFenceNow x f 2).trans h4
    · extract_lets y cyc ipl z z' z''
      have hy : y.rasterView = s.rasterView := by
        unfold y
        rw [(eccNoted_haloLoad _ f _ _).rasterView, rasterView_ite, rasterView_contextCopy, ite_self, h4]
      have hz : z''.rasterView = s.rasterView := by
        unfold z''
        rw [rasterView_ite, rasterView_vioTruncate, ite_self]
        exact hy
      simp [hz]

@[simp] theorem rasterView_iplBegin (s : State) : s.iplBegin.rasterView = s.rasterView := by
  unfold iplBegin
  simp [rasterView_beginBand]

@[simp] theorem rasterView_iplLine (s : State) (r : Nat) : (s.iplLine r).rasterView = s.rasterView :=
  (rasterView_foldl (fun u f => by simp) _ _).trans (rasterView_iplBegin s)

/-! ## Housekeeping, holdoffs and the blocks that count lines of H -/

@[simp] theorem rasterView_hkLine (s : State) (r : Nat) : (s.hkLine r).rasterView = s.rasterView := by
  unfold hkLine
  simp

@[simp] theorem rasterView_holdLine (s : State) (r : Nat) : (s.holdLine r).rasterView = s.rasterView := rasterView_congr rfl rfl rfl fun _ _ => rfl

theorem rasterView_vioLine (s : State) : s.vioLine.rasterView = s.rasterView :=
  (rasterView_foldl (fun u r => by simp) _ _).trans (rasterView_foldl (fun u t => rasterView_modTxPort u t _) _ s)

theorem rasterView_pwrTick (s : State) : s.pwrTick.rasterView = s.rasterView := rasterView_foldl (fun u p => rasterView_modPort u p _) _ s

theorem rasterView_nvsLine (s : State) : s.nvsLine.rasterView = s.rasterView := by
  unfold nvsLine
  split <;> rfl

@[simp] theorem rasterView_hLine (s : State) : s.hLine.rasterView = s.rasterView := by
  have hm : s.nvsLine.memLine.rasterView = s.nvsLine.rasterView := rfl
  simp [hLine, scaLine, rasterView_vioLine, rasterView_pwrTick, hm, rasterView_nvsLine]

/-! ## Ports -/

@[simp] theorem rasterView_portOwnLine (s : State) (p l : Nat) : (s.portOwnLine p l).rasterView = s.rasterView := rasterView_congr rfl rfl rfl fun _ _ => rfl

theorem rasterView_selfTestLine (s : State) (p : Nat) : (s.selfTestLine p).rasterView = s.rasterView := by
  unfold selfTestLine
  split
  · rfl
  · simp

theorem rasterView_trimCopy (s : State) (p : Nat) : (s.trimCopy p).rasterView = s.rasterView :=
  rasterView_foldl (fun u k => by simp) _ s

@[simp] theorem rasterView_portTimedLine (s : State) (p : Nat) : (s.portTimedLine p).rasterView = s.rasterView := by
  simp [portTimedLine, rasterView_selfTestLine, rasterView_trimCopy]

/-! ## The line start -/

@[simp] theorem rasterView_lineRest (s : State) (r l : Nat) : (s.lineRest r l).rasterView = s.rasterView := by
  unfold lineRest
  rw [rasterView_dropRemoved, rasterView_foldl (fun u p => by simp)]
  simp

@[simp] theorem rasterView_lineEffects (s : State) (r l : Nat) : (s.lineEffects r l).rasterView = s.rasterView := by
  simp [lineEffects]

end State

end Sys2Proof.Machine
end

section
/-! The slots that a frame start takes over leave the raster time base alone (R52, R287). -/

namespace Sys2Proof.Machine

open R State

namespace State

/-! ## A block's whole record replaced -/

@[simp] theorem rasterView_withIpl (s : State) (x : IplSt) : ({ s with ipl := x } : State).rasterView = s.rasterView := rasterView_congr rfl rfl rfl fun _ _ => rfl
@[simp] theorem rasterView_withCer (s : State) (x : CerSt) : ({ s with cer := x } : State).rasterView = s.rasterView := rasterView_congr rfl rfl rfl fun _ _ => rfl
@[simp] theorem rasterView_withMem (s : State) (x : MemSt) : ({ s with mem := x } : State).rasterView = s.rasterView := rasterView_congr rfl rfl rfl fun _ _ => rfl
@[simp] theorem rasterView_withVio (s : State) (x : VioSt) : ({ s with vio := x } : State).rasterView = s.rasterView := rasterView_congr rfl rfl rfl fun _ _ => rfl
@[simp] theorem rasterView_withCoef (s : State) (act : List (Nat × Int)) (arm : Nat) : ({ s with coefAct := act, coefArm := arm } : State).rasterView = s.rasterView :=
  rasterView_congr rfl rfl rfl fun _ _ => rfl

/-! ## Bytes of a slot -/

@[simp] theorem rasterView_dramStore (s : State) (q a : Nat) (l : List Byte) : (s.dramStore q a l).rasterView = s.rasterView := by
  unfold dramStore
  extract_lets l'
  split
  · rfl
  · exact rasterView_foldl (fun u w => by
      split
      · rfl
      · dsimp only
        rw [rasterView_ite, rasterView_setErr, ite_self]
        exact rasterView_eccRead u false (8 * w) q _) _ s

@[simp] theorem rasterView_dramWrite (s : State) (c q a : Nat) (l : List Byte) : (s.dramWrite c q a l).rasterView = s.rasterView := by
  simp [dramWrite]

@[simp] theorem rasterView_ringPut (s : State) (u o : Nat) (l : List Byte) : (s.ringPut u o l).rasterView = s.rasterView := by
  unfold ringPut
  extract_lets n room b
  rw [rasterView_dramWrite, rasterView_dramWrite]

/-! ## Coding jobs given up -/

@[simp] theorem rasterView_setRing (s : State) (u : Nat) (x : RingSt) : (s.setRing u x).rasterView = s.rasterView := by
  unfold setRing
  extract_lets cer t fill
  have ht : t.rasterView = s.rasterView := rfl
  simp [ht]

@[simp] theorem rasterView_recFrozen (s : State) (x : Nat) : (s.recFrozen x).rasterView = s.rasterView := by
  simp [recFrozen]

theorem rasterView_closeRecord (s : State) (j : CerJob) : (s.closeRecord j).rasterView = s.rasterView := by
  unfold closeRecord
  extract_lets g t n u x ahead left v
  have ht : t.rasterView = s.rasterView := by simp [t]
  have hu : u.rasterView = s.rasterView := (rasterView_setRing t _ _).trans ht
  simp [v, hu]

theorem rasterView_settleUnit (u fuel : Nat) : ∀ s : State, (s.settleUnit u fuel).rasterView = s.rasterView := by
  induction fuel with
  | zero => exact fun _ => rfl
  | succ fuel ih =>
    intro s
    unfold settleUnit
    split
    · rfl
    · extract_lets t
      have ht : t.rasterView = s.rasterView := by simp [t]
      rw [rasterView_ite, ih, rasterView_closeRecord, ite_self, ht]

theorem rasterView_settleJob (s : State) (i : Nat) : (s.settleJob i).rasterView = s.rasterView := by
  unfold settleJob
  split
  · rfl
  · simp [rasterView_settleUnit]

theorem rasterView_recLost (s : State) (j : CerJob) : (s.recLost j).rasterView = s.rasterView := by
  unfold recLost
  extract_lets x g t u
  have ht : t.rasterView = s.rasterView := by simp [t]
  simp [rasterView_settleUnit, u, ht]

@[simp] theorem rasterView_cerAbandon (s : State) (p n : Nat) : (s.cerAbandon p n).rasterView = s.rasterView :=
  rasterView_foldl (fun u j => by
    extract_lets t
    have ht : t.rasterView = u.rasterView := rasterView_foldl (fun v k => rasterView_modCoder v k _) _ u
    simp [rasterView_settleJob, rasterView_recLost, ht]) _ s

/-! ## Facets that were reading the slot -/

theorem rasterView_outputFrame (s : State) (f : Nat) (q : FacetFrame) (a b c d : Bool) : (s.outputFrame f q a b c d).rasterView = s.rasterView := by
  unfold outputFrame
  extract_lets n base hdr src m t slots ipl u
  have ht : t.rasterView = s.rasterView := by
    unfold t
    rw [rasterView_setMarks, rasterView_dramWrite, rasterView_ite, rasterView_dramRead, ite_self]
  have hu : u.rasterView = s.rasterView := (rasterView_withIpl t _).trans ht
  clear_value u
  simp [hu]

theorem rasterView_endFrame (s : State) (f : Nat) (q : FacetRun) : (s.endFrame f q).rasterView = s.rasterView := by
  unfold endFrame
  extract_lets x fr ipl t late stride base drawn out counted stats done
  have ht : t.rasterView = s.rasterView := by
    unfold t
    split <;> rfl
  have ho : out.rasterView = s.rasterView := by
    unfold out
    rw [rasterView_outputFrame, rasterView_dramWrite, ht]
  have hc : counted.rasterView = s.rasterView := by simp [counted, ho]
  have hd : done.rasterView = s.rasterView := by simp [done, stats, hc]
  clear_value done t
  simp [ht, hd]

theorem rasterView_slotOverrun (s : State) (f b k : Nat) : (s.slotOverrun f b k).rasterView = s.rasterView := by
  unfold slotOverrun
  extract_lets t x meets w hit cnt u cu v
  have hc : ∀ u : State, (cnt u).rasterView = u.rasterView := fun u => by simp [cnt]
  have hu : u.rasterView = s.rasterView := by
    unfold u
    rw [rasterView_ite, rasterView_foldl fun u _ => hc u]
    simp [t]
  have hcu : cu.rasterView = s.rasterView := (hc u).trans hu
  have hv : v.rasterView = s.rasterView := by
    unfold v
    split
    · split
      · exact hcu
      · split
        · exact (rasterView_endFrame cu f _).trans hcu
        · exact hcu
    · exact hu
  rw [rasterView_iplStat, hv]

/-! ## The slot taken over -/

theorem rasterView_cerFrame (s : State) (p : Nat) : (s.cerFrame p).rasterView = s.rasterView := by
  unfold cerFrame
  split
  · rfl
  · extract_lets r slot t
    have ht : t.rasterView = s.rasterView := rasterView_foldl (fun u n => by
      extract_lets plane
      rw [rasterView_ite, rasterView_addJob, ite_self]) _ s
    simp [ht]

@[simp] theorem rasterView_slotTakenOver (s : State) (p : Nat) : (s.slotTakenOver p).rasterView = s.rasterView := by
  simp [slotTakenOver, slotBegun, rasterView_cerFrame, rasterView_slotOverrun]

end State

end Sys2Proof.Machine
end

section
/-! Frame starts leave the raster time base alone but for the followers' alignment moments, block by block (R41, R52, R57). -/

namespace Sys2Proof.Machine

open R State

namespace State

/-! ## Streams -/

theorem rasterView_mergeSlot (s : State) (q p n : Nat) : (s.mergeSlot q p n).rasterView = s.rasterView := by
  unfold mergeSlot mergeGathered
  exact rasterView_foldl (fun u e => by
    dsimp only
    split <;> simp) _ s

theorem rasterView_laySlot (s : State) (p n : Nat) : (s.laySlot p n).rasterView = s.rasterView := by
  unfold laySlot
  extract_lets t
  exact rasterView_mergeSlot s _ _ _

theorem rasterView_chooseSlot (s : State) (p : Nat) : (s.chooseSlot p).rasterView = s.rasterView := by
  unfold chooseSlot
  split
  · rfl
  · extract_lets t u
    have ht : t.rasterView = s.rasterView := by simp [t]
    rw [rasterView_modStream, rasterView_laySlot, ht]

theorem rasterView_radCopy (s : State) (p : Nat) : (s.radCopy p).rasterView = s.rasterView := by
  unfold radCopy
  extract_lets arm keep new act t
  have ht : t.rasterView = s.rasterView := rasterView_withCoef s _ _
  simp [ht]

theorem rasterView_driftLatch (s : State) (p : Nat) : (s.driftLatch p).rasterView = s.rasterView := by
  unfold driftLatch
  extract_lets c t d
  rw [rasterView_modStream, rasterView_put (by simp)]

theorem rasterView_takeDeferred (s : State) : s.takeDeferred.rasterView = s.rasterView := rasterView_foldl (fun u p => by simp) _ s

theorem rasterView_tableActivation (s : State) (p : Nat) : (s.tableActivation p).rasterView = s.rasterView := by
  unfold tableActivation
  split
  · rfl
  · extract_lets t differs ok a b c d u
    have ht : t.rasterView = s.rasterView := rasterView_clrBit (by simp) s 0
    have ha : a.rasterView = s.rasterView := by rw [rasterView_put (by simp), rasterView_put (by simp), ht]
    have hb : b.rasterView = s.rasterView := by rw [rasterView_wrBit (by simp), rasterView_setBit (by simp), ha]
    have hc : c.rasterView = s.rasterView := by
      rw [rasterView_ite, rasterView_takeDeferred, rasterView_clrBit (by simp), ite_self, hb]
    have hd : d.rasterView = s.rasterView := by rw [rasterView_ite, rasterView_dramRead, ite_self, hc]
    have hu : u.rasterView = s.rasterView := by rw [rasterView_ite, rasterView_modStream, hd, ht, ite_self]
    rw [rasterView_ite, rasterView_setBit (by simp), rasterView_modStream, hu, ht, ite_self]

@[simp] theorem rasterView_streamFrame (s : State) (p : Nat) : (s.streamFrame p).rasterView = s.rasterView := by
  simp [streamFrame, rasterView_chooseSlot, rasterView_radCopy, rasterView_driftLatch, rasterView_tableActivation]

/-! ## Ports and sequencers -/

theorem rasterView_laneRejoin (s : State) (p : Nat) : (s.laneRejoin p).rasterView = s.rasterView :=
  (rasterView_modPort _ p _).trans (rasterView_foldl (fun u k => by simp) _ s)

@[simp] theorem rasterView_portFrame (s : State) (p : Nat) : (s.portFrame p).rasterView = s.rasterView := by
  unfold portFrame
  extract_lets was a on warm b c d deliv e
  have ha : a.rasterView = s.rasterView := by simp [a]
  have hb : b.rasterView = s.rasterView := by simp [b, ha]
  have hc : c.rasterView = s.rasterView := by simp [c, hb, ha]
  have hd : d.rasterView = s.rasterView := (rasterView_laneRejoin c p).trans hc
  simp [e, hd]

theorem rasterView_sqStart (s : State) (q : Nat) : (s.sqStart q).rasterView = s.rasterView := by
  unfold sqStart
  split
  · rfl
  · simp [sqRun]

theorem rasterView_auditStart (s : State) (q : Nat) : (s.auditStart q).rasterView = s.rasterView := by
  unfold auditStart
  extract_lets d l
  rw [rasterView_ite, rasterView_modMen, rasterView_auditNote, ite_self]

@[simp] theorem rasterView_sqFrame (s : State) (p : Nat) : (s.sqFrame p).rasterView = s.rasterView := by
  simp [sqFrame, katRestart, rasterView_sqStart, rasterView_auditStart]

/-! ## Enclave -/

theorem rasterView_winCopy (s : State) (x : Nat) : (s.winCopy x).rasterView = s.rasterView := by
  unfold winCopy
  extract_lets mine t
  rw [rasterView_ite, rasterView_modMen, ite_self]

theorem rasterView_takeWindows (s : State) (p : Nat) : (s.takeWindows p).rasterView = s.rasterView := by
  simp [takeWindows, menEvt, rasterView_winCopy]

@[simp] theorem rasterView_menFrame (s : State) (p : Nat) : (s.menFrame p).rasterView = s.rasterView := by
  simp [menFrame, setFacetBit, rasterView_takeWindows]

/-! ## Calibration -/

theorem rasterView_wedgeCopy (s : State) (p : Nat) : (s.wedgeCopy p).rasterView = s.rasterView := by
  unfold wedgeCopy
  extract_lets b t u
  have ht : t.rasterView = s.rasterView := by simp [t]
  have hu : u.rasterView = s.rasterView := by simp [u, ht]
  simp [hu]

theorem rasterView_composeStart (s : State) (p : Nat) : (s.composeStart p).1.rasterView = s.rasterView := by
  rw [composeStart]
  split
  · rfl
  · exact rasterView_modCsu s p _

section Csu

variable {p : Nat} (hp : p < 4)

include hp

theorem rasterView_ffStart (s : State) : (s.ffStart p).rasterView = s.rasterView := by
  unfold ffStart
  extract_lets buf t u
  have ht : t.rasterView = s.rasterView := by simp [t, rasterView_setFf hp]
  rw [rasterView_ffTrigger hp, rasterView_modCsu, ht]

theorem rasterView_ffFrame (s : State) : (s.ffFrame p).rasterView = s.rasterView := by
  unfold ffFrame
  extract_lets st a k settle nav flag b
  have ha : a.rasterView = s.rasterView := rasterView_modCsu s p _
  have hb : b.rasterView = s.rasterView := by simp [b, rasterView_setFf hp]
  simp [rasterView_ffTrigger hp, rasterView_setFf hp, rasterView_ffAbort hp, ha, hb]

theorem rasterView_dueJudge (s : State) : (s.dueJudge p).rasterView = s.rasterView := by
  unfold dueJudge
  extract_lets due a b c d urgent gapOk e f first busy
  have ha : a.rasterView = s.rasterView := by simp [a]
  have hc : c.rasterView = s.rasterView := by simp [c, b, ha]
  have hd : d.rasterView = s.rasterView := by simp [d, hc]
  have he : e.rasterView = s.rasterView := by simp [e, hc]
  have hf : f.rasterView = s.rasterView := hc
  simp [rasterView_ffStart hp, ha, hc, hd, he, hf]

theorem rasterView_csuFrame (s : State) : (s.csuFrame p).rasterView = s.rasterView := by
  unfold csuFrame
  extract_lets a b c d u
  have hb : b.rasterView = s.rasterView := by simp [b, a]
  have hc : c.rasterView = s.rasterView := by rw [rasterView_wedgeCopy, rasterView_ffFrame hp, hb]
  have hd : d.rasterView = s.rasterView := by simp [d, rasterView_dueJudge hp, hc]
  rw [rasterView_ite, rasterView_composeStart, ite_self, hd]

theorem rasterView_portFrameStart (s : State) : (s.portFrameStart p).rasterView = s.rasterView := by
  simp [portFrameStart, rasterView_csuFrame hp]

end Csu

/-! ## The frame start -/

@[simp] theorem rasterView_hkFrame (s : State) (r : Nat) : (s.hkFrame r).rasterView = s.rasterView := by
  unfold hkFrame
  extract_lets g
  split
  · rw [rasterView_modHk _ (by rfl), rasterView_put (by simp)]
  · rfl

theorem rasterView_memFrame (s : State) : s.memFrame.rasterView = s.rasterView := by
  unfold memFrame
  extract_lets t
  exact (rasterView_withMem t _).trans (rasterView_foldl (fun u c => by simp) _ s)

theorem rasterView_iplFrame (s : State) : s.iplFrame.rasterView = s.rasterView := by
  unfold iplFrame
  extract_lets t part busy len ipl u
  rw [rasterView_withIpl, rasterView_put (by simp), rasterView_iplBegin]

theorem rasterView_cerHFrame (s : State) : s.cerHFrame.rasterView = s.rasterView := by
  unfold cerHFrame
  extract_lets len part share t u
  have ht : t.rasterView = s.rasterView := by rw [rasterView_put (by simp), rasterView_put (by simp)]
  exact (rasterView_withCer u _).trans ((rasterView_foldl (fun u k => rasterView_modCoder u k _) _ _).trans ht)

theorem rasterView_vioFrame (s : State) : s.vioFrame.rasterView = s.rasterView := by
  unfold vioFrame
  extract_lets span t
  exact (rasterView_withVio t _).trans (rasterView_foldl (fun u t => by simp) _ s)

theorem rasterView_dueOnH (s : State) : s.dueOnH.rasterView = s.rasterView := rasterView_foldl (fun u p => by simp) _ s

theorem rasterView_scaFrame (s : State) : s.scaFrame.rasterView = s.rasterView := by
  simp [scaFrame]

theorem rasterView_hFrame (s : State) : s.hFrame.rasterView = s.rasterView := by
  simp [hFrame, rasterView_scaFrame, rasterView_dueOnH, rasterView_vioFrame, rasterView_cerHFrame, rasterView_iplFrame, rasterView_memFrame]

/-- A frame start of a raster changes the raster time base through its followers alone. -/
theorem rasterView_frameEffects (s : State) {r : Nat} (hr : r ≤ 4) (t : Nat) : (s.frameEffects r t).rasterView = (s.sourceEvent r t).rasterView := by
  unfold frameEffects
  extract_lets u
  have hu : u.rasterView = (s.sourceEvent r t).rasterView := rasterView_hkFrame _ _
  split
  · rw [rasterView_hFrame, hu]
  · rw [rasterView_portFrameStart (by omega), hu]

end State

end Sys2Proof.Machine
end

section
/-! A raster in its next line and its next frame, and what the blocks do there (R41, R42, R52). -/

namespace Sys2Proof.Machine

open R State

theorem idx_le_four (r : Raster) : r.idx ≤ 4 := by cases r <;> decide

theorem raster_regs_lt (r : Raster) : RTB_CTL r.idx < 0x3000 ∧ RTB_LINE_LEN r.idx < 0x3000 ∧ RTB_FRAME_LINES r.idx < 0x3000 := by cases r <;> decide

namespace State

/-! ## The clock and one raster -/

@[simp] theorem raster_advanceTo (s : State) (t r : Nat) : (s.advanceTo t).raster r = s.raster r := by rw [raster, advanceTo_rasters, ← raster]

@[simp] theorem reg_advanceTo (s : State) (t a : Nat) : (s.advanceTo t).reg a = s.reg a := reg_eq_of_regs (advanceTo_regs s t) a

@[simp] theorem raster_setBit (s : State) (f : Field) (i r : Nat) : (s.setBit f i).raster r = s.raster r := by simp only [raster, setBit_rasters]

@[simp] theorem raster_clrBit (s : State) (f : Field) (i r : Nat) : (s.clrBit f i).raster r = s.raster r := by simp only [raster, clrBit_rasters]

@[simp] theorem raster_bump (s : State) (f : Field) (r : Nat) : (s.bump f).raster r = s.raster r := rfl

theorem raster_modRaster_other (s : State) {r q : Nat} (f : RasterSt → RasterSt) (h : q ≠ r) : (s.modRaster r f).raster q = s.raster q := raster_setRaster_other s _ h

@[simp] theorem setRaster_reg (s : State) (r : Nat) (x : RasterSt) (a : Nat) : (s.setRaster r x).reg a = s.reg a := rfl

@[simp] theorem rasterView_setFsync (s : State) (x : FsyncSt) : ({ s with fsync := x } : State).rasterView = s.rasterView := rasterView_congr rfl rfl rfl fun _ _ => rfl

@[simp] theorem rasterView_pulseGains (s : State) (r t : Nat) : (s.pulseGains r t).rasterView = s.rasterView := by
  unfold pulseGains
  extract_lets u fsync
  have hu : u.rasterView = s.rasterView := rasterView_foldl (fun u n => rasterView_setCmp u n _) _ s
  split
  · rw [rasterView_ite, rasterView_setFsync, ite_self, hu]
  · exact hu

/-! ## Source events -/

/-- Registers that a source event writes. -/
def sourceRegs : List Nat := [RTB_MISS_CNT 0, RTB_MISS_CNT 1, RTB_MISS_CNT 2, RTB_MISS_CNT 3, RTB_MISS_CNT 4, RTB_FSYNC_STAT, RTB_EVT]

/-- `t` is `s` but for rasters and registers of a source event. -/
structure Sourced (s t : State) : Prop where
  frame : t = { s with regs := t.regs, rasters := t.rasters }
  reg : ∀ a, a ∉ sourceRegs → t.reg a = s.reg a

theorem Sourced.refl (s : State) : Sourced s s := ⟨rfl, fun _ _ => rfl⟩

theorem Sourced.trans {s t u : State} (h : Sourced s t) (k : Sourced t u) : Sourced s u :=
  ⟨by conv_lhs => rw [k.frame, h.frame], fun a ha => (k.reg a ha).trans (h.reg a ha)⟩

theorem sourced_setRaster (s : State) (r : Nat) (x : RasterSt) : Sourced s (s.setRaster r x) := ⟨rfl, fun _ _ => rfl⟩

theorem sourced_enterLock (s : State) (r k : Nat) : Sourced s (s.enterLock r k) := sourced_setRaster s r _

theorem sourced_of_regs {s t : State} (hf : t = { s with regs := t.regs }) (hr : ∀ a, a ∉ sourceRegs → t.reg a = s.reg a) : Sourced s t :=
  ⟨by rw [show t.rasters = s.rasters by rw [hf]]; exact hf, hr⟩

theorem sourced_bump (s : State) {f : Field} (h : f.addr ∈ sourceRegs) : Sourced s (s.bump f) :=
  sourced_of_regs (put_frame s f _) fun _ ha => reg_bump_other s f fun e => ha (e ▸ h)

theorem sourced_setBit (s : State) {f : Field} (i : Nat) (h : f.addr ∈ sourceRegs) : Sourced s (s.setBit f i) :=
  sourced_of_regs (wrBit_frame s f i true) fun _ ha => reg_setBit_other s f i fun e => ha (e ▸ h)

theorem miss_mem_sourceRegs : ∀ x ∈ [0, 1, 2, 3, 4], (RTB_MISS_CNT_missed x).addr ∈ sourceRegs := by decide

theorem sourced_sourceEventOne (s : State) {x : Nat} (hx : x ∈ [0, 1, 2, 3, 4]) (t : Nat) : Sourced s (s.sourceEventOne x t) := by
  have hm := sourced_bump s (miss_mem_sourceRegs x hx)
  unfold sourceEventOne
  extract_lets f u v
  split
  · exact Sourced.refl s
  · split
    · split
      · exact (hm.trans (sourced_bump _ (by decide))).trans (sourced_setBit _ 0 (by decide))
      · exact hm
    · split
      · exact (sourced_setRaster s x _).trans (sourced_enterLock _ x 1)
      · exact sourced_setRaster s x _

theorem raster_sourceEventOne_other (s : State) {x q : Nat} (t : Nat) (h : q ≠ x) : (s.sourceEventOne x t).raster q = s.raster q := by
  unfold sourceEventOne
  extract_lets f u v
  split
  · rfl
  · split
    · rw [apply_ite (fun w : State => w.raster q), raster_setBit, raster_bump, ite_self, raster_bump]
    · split
      · exact (raster_modRaster_other _ _ h).trans (raster_setRaster_other s _ h)
      · exact raster_setRaster_other s _ h

theorem sourced_sourceEvent (s : State) (src t : Nat) : Sourced s (s.sourceEvent src t) := by
  have h : ∀ l : List Nat, (∀ x ∈ l, x ∈ [0, 1, 2, 3, 4]) → ∀ u : State, Sourced u (l.foldl (fun s x => if (s.raster x).src = src then s.sourceEventOne x t else s) u) := by
    intro l
    induction l with
    | nil => exact fun _ u => Sourced.refl u
    | cons x xs ih =>
      intro hl u
      refine Sourced.trans ?_ (ih (fun y hy => hl y (List.mem_cons_of_mem x hy)) _)
      dsimp only
      split
      · exact sourced_sourceEventOne u (hl x List.mem_cons_self) t
      · exact Sourced.refl u
  exact h _ (fun _ hx => hx) s

/-- A raster that follows another source takes nothing from a source event. -/
theorem raster_sourceEvent_other (s : State) {src q : Nat} (t : Nat) (h : (s.raster q).src ≠ src) : (s.sourceEvent src t).raster q = s.raster q := by
  have hl : ∀ l : List Nat, ∀ u : State, u.raster q = s.raster q →
      (l.foldl (fun s x => if (s.raster x).src = src then s.sourceEventOne x t else s) u).raster q = s.raster q := by
    intro l
    induction l with
    | nil => exact fun u hu => hu
    | cons x xs ih =>
      refine fun u hu => ih _ ?_
      dsimp only
      split
      next hx =>
        have hq : q ≠ x := by
          rintro rfl
          exact h (hu ▸ hx)
        exact (raster_sourceEventOne_other u t hq).trans hu
      · exact hu
  exact hl _ s rfl

/-! ## What a frame start leaves of the raster time base -/

/-- A raster that runs goes on to its new frame: no raster but the followers of it changes, and no register of the lowest pages but those of a source event. -/
structure FrameTold (src : Nat) (s t : State) : Prop where
  raster : ∀ q, (s.raster q).src ≠ src → t.raster q = s.raster q
  now : t.now = s.now
  shdn : t.hk.shdn = s.hk.shdn
  reg : ∀ a, a < 0x3000 → a ∉ sourceRegs → t.reg a = s.reg a

theorem frameTold_of_view {s u t : State} {src at_ : Nat} (hu : u.rasterView = s.rasterView) (ht : t.rasterView = (u.sourceEvent src at_).rasterView) : FrameTold src s t := by
  have hs := sourced_sourceEvent u src at_
  refine ⟨fun q hq => ?_, ?_, ?_, fun a ha hn => ?_⟩
  · rw [raster_of_view ht, raster_sourceEvent_other u at_ (by rwa [raster_of_view hu]), raster_of_view hu]
  · rw [now_of_view ht, hs.frame, ← now_of_view hu]
  · rw [shdn_of_view ht, hs.frame, ← shdn_of_view hu]
  · rw [reg_of_view ht ha, hs.reg a hn, reg_of_view hu ha]

theorem frameTold_frameBegun {s : State} {r : Nat} (hr : r ≤ 4) (hrun : (s.raster r).running = true) (t n : Nat) : FrameTold r s (s.frameBegun r t n) := by
  rw [frameBegun, if_pos hrun]
  exact frameTold_of_view (rasterView_pscLine s r) ((rasterView_lineRest _ r n).trans (rasterView_frameEffects _ hr t))

theorem frameTold_rasterStart (s : State) {r : Nat} (hr : r ≤ 4) (t : Nat) (k : FrameStart) : FrameTold r (s.startRaster r t k) (s.rasterStart r t k) :=
  frameTold_of_view rfl ((rasterView_lineRest _ r _).trans (rasterView_frameEffects _ hr t))

/-! ## The new frame -/

/-- Raster `r` in the frame that begins at tick `t` while run is set. -/
def newFrame (s : State) (r t : Nat) (kind : FrameStart) : RasterSt :=
  let x := s.raster r
  let f := (x.frame + 1) % 2 ^ 32
  { x with prev := some (x.lineAt, x.frame, x.line), frame := f, epoch := if f = 0 then (x.epoch + 1) % 2 ^ 16 else x.epoch, line := 0, lineAt := t,
           cutAt := none, cutKind := .natural, started := kind, sinceAlign := if kind = .aligned ∨ kind = .restarted then 0 else x.sinceAlign + 1,
           lineLen := if s.bit (RTB_CTL_arm r) then s.get (RTB_LINE_LEN_shadow r) else x.lineLen,
           frameLines := if s.bit (RTB_CTL_arm r) then s.get (RTB_FRAME_LINES_shadow r) else x.frameLines }

/-- `t` has raster `r` as `x` says, its clock at `at_` at least, and is `s` in the registers of the lowest pages but those of `l`. -/
structure Begun (l : List Nat) (r : Nat) (x : RasterSt) (at_ : Nat) (s t : State) : Prop where
  raster : t.raster r = x
  now : t.now = max s.now at_
  shdn : t.hk.shdn = s.hk.shdn
  reg : ∀ a, a < 0x3000 → a ∉ l → t.reg a = s.reg a

theorem bit_advanceTo (s : State) (t : Nat) (f : Field) (i : Nat) : (s.advanceTo t).bit f i = s.bit f i := bit_eq_of_reg i (reg_advanceTo s t _)
theorem get_advanceTo (s : State) (t : Nat) (f : Field) : (s.advanceTo t).get f = s.get f := get_eq_of_reg (reg_advanceTo s t _)

theorem begun_beginFrame {s : State} {r : Nat} (hrun : s.bit (RTB_CTL_run r) = true) (hp : (s.raster r).lockPending = false) (t : Nat) (kind : FrameStart) :
    Begun [RTB_CTL r] r (s.newFrame r t kind) t s (s.beginFrame r t kind) := by
  unfold beginFrame
  extract_lets u x f v w
  have hx : x = s.raster r := raster_advanceTo s t r
  have hbit : ∀ f i, v.bit f i = s.bit f i := fun f i => bit_advanceTo s t f i
  have hget : ∀ f, v.get f = s.get f := fun f => get_advanceTo s t f
  have hv : v.raster r = _ := raster_setRaster_same u r _
  rw [if_pos ((hbit _ _).trans hrun), if_neg (by rw [hx, hp]; decide)]
  unfold w
  rw [hbit (RTB_CTL_arm r) 0]
  by_cases ha : s.bit (RTB_CTL_arm r) = true
  · rw [if_pos ha]
    refine ⟨?_, ?_, ?_, fun a _ hn => ?_⟩
    · rw [raster_clrBit, raster_modRaster_same, hv, hget, hget, newFrame, if_pos ha, if_pos ha, ← hx]
    · exact (clrBit_now _ _ _).trans (advanceTo_now s t)
    · exact congrArg HkSt.shdn ((clrBit_hk _ _ _).trans (advanceTo_hk s t))
    · exact (reg_clrBit_other _ _ _ (mt List.mem_singleton.mpr hn)).trans (reg_advanceTo s t a)
  · rw [if_neg ha]
    refine ⟨?_, advanceTo_now s t, congrArg HkSt.shdn (advanceTo_hk s t), fun a _ _ => reg_advanceTo s t a⟩
    rw [hv, newFrame, if_neg ha, if_neg ha, ← hx]

theorem Begun.told {l : List Nat} {r : Nat} {x : RasterSt} {at_ : Nat} {s t u : State} (h : Begun l r x at_ s t) (k : FrameTold r t u) (hx : x.src ≠ r) :
    Begun (l ++ sourceRegs) r x at_ s u := by
  refine ⟨(k.raster r (by rwa [h.raster])).trans h.raster, k.now.trans h.now, k.shdn.trans h.shdn, fun a ha hn => ?_⟩
  rw [List.mem_append, not_or] at hn
  exact (k.reg a ha hn.2).trans (h.reg a ha hn.1)

/-- A raster that runs on, and follows not itself, in its next frame. -/
theorem begun_frame {s : State} {r : Nat} (hr : r ≤ 4) (hctl : s.bit (RTB_CTL_run r) = true) (hrun : (s.raster r).running = true) (hp : (s.raster r).lockPending = false)
    (hsrc : (s.raster r).src ≠ r) (t n : Nat) (kind : FrameStart) :
    Begun ([RTB_CTL r] ++ sourceRegs) r (s.newFrame r t kind) t s ((s.beginFrame r t kind).frameBegun r t n) := by
  have h := begun_beginFrame hctl hp t kind
  exact h.told (frameTold_frameBegun hr (by rw [h.raster]; exact hrun) t n) hsrc

/-- The new frame reads the raster time base alone. -/
theorem newFrame_of_view {s u : State} (h : u.rasterView = s.rasterView) (r : Raster) (t : Nat) (kind : FrameStart) : u.newFrame r.idx t kind = s.newFrame r.idx t kind := by
  obtain ⟨hc, hl, hf⟩ := raster_regs_lt r
  rw [newFrame, newFrame, raster_of_view h, bit_eq_of_reg (f := RTB_CTL_arm r.idx) 0 (reg_of_view h hc), get_eq_of_reg (f := RTB_LINE_LEN_shadow r.idx) (reg_of_view h hl),
    get_eq_of_reg (f := RTB_FRAME_LINES_shadow r.idx) (reg_of_view h hf)]

end State

end Sys2Proof.Machine
end

section
/-! The next line and the next frame of a running raster (R41, R42). -/

namespace Sys2Proof.Machine

open R State

namespace State

/-! ## The end of a line without a lock -/

theorem ruled_of_inner {x : RasterSt} (h : x.lastLine = false) : x.ruled = false := by simp [RasterSt.ruled, h]

theorem ruled_of_off {x : RasterSt} (h : x.lockState = 0) : x.ruled = false := by simp [RasterSt.ruled, h]

theorem lineEnd_unruled {x : RasterSt} (h : x.ruled = false) (hc : x.cutAt = none) : x.lineEnd = x.lineAt + 96 * x.lineLen := by simp [RasterSt.lineEnd, RasterSt.nEnd, h, hc]

theorem lockLineEnd_unruled {s : State} {r : Nat} (h : (s.raster r).ruled = false) : s.lockLineEnd r = s := by simp [lockLineEnd, h]

/-- The current line of raster `r` ends at tick `t`: the pulses counted in its slots have gained what the line gained. -/
def lineEnded (s : State) (r t : Nat) : State := (s.pulseGains r t).sdrGains r t

@[simp] theorem rasterView_lineEnded (s : State) (r t : Nat) : (s.lineEnded r t).rasterView = s.rasterView := by simp [lineEnded]

@[simp] theorem raster_lineEnded (s : State) (r t q : Nat) : (s.lineEnded r t).raster q = s.raster q := raster_of_view (rasterView_lineEnded s r t) q

variable {s : State} {r : Nat}

theorem rasterAdvance_inner (hr : (s.raster r).running = true) (hl : (s.raster r).lastLine = false) :
    s.rasterAdvance r = (((s.lineEnded r (s.raster r).lineEnd).advanceTo (s.raster r).lineEnd).setRaster r { s.raster r with
      prev := some ((s.raster r).lineAt, (s.raster r).frame, (s.raster r).line), line := (s.raster r).line + 1, lineAt := (s.raster r).lineEnd, cutAt := none }).lineEffects r
        (s.raster r).lineLen := by
  rw [rasterAdvance, if_neg (by simp [hr]), if_neg (by simp [hl]), lockLineEnd_unruled (ruled_of_inner hl)]
  exact if_neg (by simp [hl])

theorem rasterAdvance_last (hr : (s.raster r).running = true) (hl : (s.raster r).lastLine = true) (ho : (s.raster r).lockState = 0) (hc : (s.raster r).cutAt = none) :
    s.rasterAdvance r = ((s.lineEnded r (s.raster r).lineEnd).beginFrame r (s.raster r).lineEnd .natural).frameBegun r (s.raster r).lineEnd (s.raster r).lineLen := by
  have hn : (s.raster r).restartAt s.now = none := by simp [RasterSt.restartAt, ho]
  rw [rasterAdvance, if_neg (by simp [hr]), if_neg (by simp [hn]), lockLineEnd_unruled (ruled_of_off ho)]
  exact (if_pos hl).trans (by rw [hc]; rfl)

end State

section Advance

variable {r : Raster} {s : State} (hn : Normal s) (hrun : (s.raster r.idx).running = true) (hc : (s.raster r.idx).cutAt = none)

include hn hrun hc

theorem gives_rasterLineStart (hl : (s.raster r.idx).line + 1 < (s.raster r.idx).frameLines) : let x := s.raster r.idx
    Gives (.rasterLineStart r) s (fun t =>
      t.raster r.idx = { x with line := x.line + 1, lineAt := x.lineAt + 96 * x.lineLen, prev := some (x.lineAt, x.frame, x.line) } ∧ x.lineAt + 96 * x.lineLen ≤ t.now ∧
        ∀ j, j ≠ r.idx → t.raster j = s.raster j) := by
  intro x
  have hlast : x.lastLine = false := by simpa [RasterSt.lastLine] using hl
  have hend : x.lineEnd = x.lineAt + 96 * x.lineLen := lineEnd_unruled (ruled_of_inner hlast) hc
  have hf : (if x.lastLine then s else s.rasterAdvance r.idx) = _ := (if_neg (by simp [hlast])).trans (rasterAdvance_inner hrun hlast)
  set u := (s.lineEnded r.idx x.lineEnd).advanceTo x.lineEnd
  have hview : ∀ y, ((u.setRaster r.idx y).lineEffects r.idx x.lineLen).rasterView = (u.setRaster r.idx y).rasterView := fun y => rasterView_lineEffects _ _ _
  refine gives_running (f := fun s => if (s.raster r.idx).lastLine then s else s.rasterAdvance r.idx) rfl hn hf ?_ ⟨?_, ?_, fun j hj => ?_⟩
  · rw [shdn_of_view (hview _)]
    exact (congrArg HkSt.shdn (advanceTo_hk _ _)).trans (shdn_of_view (rasterView_lineEnded s _ _))
  · rw [settle_raster, readOn_raster, raster_of_view (hview _), raster_setRaster_same, hend, ← hc]
  · rw [settle_now, readOn_now, now_of_view (hview _), setRaster_now, advanceTo_now, ← hend]
    exact le_max_right _ _
  · rw [settle_raster, readOn_raster, raster_of_view (hview _), raster_setRaster_other _ _ hj, raster_advanceTo, raster_lineEnded]

theorem gives_rasterFrameStart (hl : (s.raster r.idx).frameLines ≤ (s.raster r.idx).line + 1) (hsrc : (s.raster r.idx).src = 7) (ho : (s.raster r.idx).lockState = 0)
    (hp : (s.raster r.idx).lockPending = false) (hctl : s.bit (RTB_CTL_run r.idx) = true) : let x := s.raster r.idx
    Gives (.rasterFrameStart r) s (fun t => t.raster r.idx = s.newFrame r.idx (x.lineAt + 96 * x.lineLen) .natural ∧ x.lineAt + 96 * x.lineLen ≤ t.now) := by
  intro x
  have hlast : x.lastLine = true := by simpa [RasterSt.lastLine] using hl
  have hend : x.lineEnd = x.lineAt + 96 * x.lineLen := lineEnd_unruled (ruled_of_off ho) hc
  have hf : (if x.lastLine then s.rasterAdvance r.idx else s) = _ := (if_pos hlast).trans (rasterAdvance_last hrun hlast ho hc)
  set u := s.lineEnded r.idx x.lineEnd
  have hu : u.rasterView = s.rasterView := rasterView_lineEnded s _ _
  have hur : u.raster r.idx = x := raster_of_view hu _
  have hctl' : u.bit (RTB_CTL_run r.idx) = true := by rw [bit_eq_of_reg (f := RTB_CTL_run r.idx) 0 (reg_of_view hu (raster_regs_lt r).1), hctl]
  have hne : x.src ≠ r.idx := by have := idx_le_four r; rw [hsrc]; omega
  have h := begun_frame (idx_le_four r) hctl' (by rw [hur]; exact hrun) (by rw [hur]; exact hp) (by rw [hur]; exact hne) x.lineEnd x.lineLen .natural
  refine gives_running (f := fun s => if (s.raster r.idx).lastLine then s.rasterAdvance r.idx else s) rfl hn hf (h.shdn.trans (shdn_of_view hu)) ⟨?_, ?_⟩
  · rw [settle_raster, readOn_raster, h.raster, newFrame_of_view hu, hend]
  · rw [settle_now, readOn_now, h.now, ← hend]
    exact le_max_right _ _

end Advance

/-- Settles O24: a line and a frame of a raster with no lock end at their active length, and what follows them leaves the rasters alone. -/
theorem linesAndFramesStart : Obligations.LinesAndFramesStart := by
  refine ⟨fun r s hn hrun hl hc => gives_rasterLineStart hn hrun hc hl, fun r s hn hrun hl hc hsrc ho hp hctl => ?_⟩
  obtain ⟨t, ht, hx, hnow⟩ := gives_rasterFrameStart hn hrun hc hl hsrc ho hp hctl
  exact ⟨t, ht, by dsimp only; rw [hx]; exact ⟨hrun, rfl, rfl, rfl, rfl, hnow, rfl, rfl⟩⟩

end Sys2Proof.Machine
end

section
/-! A write of run starts, holds or stops a raster (R43). -/

namespace Sys2Proof.Machine

open R State

namespace State

/-! ## A raster that starts -/

/-- Raster `r` in the frame that it starts at tick `t`. -/
def startedRaster (s : State) (r t : Nat) (kind : FrameStart) : RasterSt :=
  { s.raster r with running := true, holding := false, prev := none, lineAt := t, line := 0, cutAt := none, started := kind, sinceAlign := 0,
                    lineLen := if s.bit (RTB_CTL_arm r) then s.get (RTB_LINE_LEN_shadow r) else (s.raster r).lineLen,
                    frameLines := if s.bit (RTB_CTL_arm r) then s.get (RTB_FRAME_LINES_shadow r) else (s.raster r).frameLines }

/-- The copy of the lengths does not concern run. -/
theorem bit_clrBit_arm (s : State) (r : Nat) : (s.clrBit (RTB_CTL_arm r)).bit (RTB_CTL_run r) = s.bit (RTB_CTL_run r) :=
  (wrote_clrBit (l := [RTB_CTL_arm r]) s (f := RTB_CTL_arm r) (i := 0) (by simp [Field.BitIn, Field.Within, RTB_CTL_arm])).keeps.bit (f := RTB_CTL_run r) (i := 0)
    (by simp [RTB_CTL_arm, RTB_CTL_run])

theorem begun_startRaster (s : State) (r : Raster) (t : Nat) (kind : FrameStart) :
    Begun [RTB_CTL r.idx] r.idx (s.startedRaster r.idx t kind) t s (s.startRaster r.idx t kind) ∧
      (s.startRaster r.idx t kind).bit (RTB_CTL_run r.idx) = s.bit (RTB_CTL_run r.idx) := by
  obtain ⟨hc, hl, hf⟩ := raster_regs_lt r
  unfold startRaster
  extract_lets u v w
  have hw : w.rasterView = v.rasterView := rasterView_foldl (fun x n => by
    rw [rasterView_ite, rasterView_setCmp, ite_self]) _ v
  have hreg : ∀ a, a < 0x3000 → w.reg a = s.reg a := fun a ha => (reg_of_view hw ha).trans (reg_advanceTo s t a)
  have hx : w.raster r.idx = _ := (raster_of_view hw _).trans (raster_modRaster_same u r.idx _)
  have hu : u.raster r.idx = s.raster r.idx := raster_advanceTo s t _
  have hnow : w.now = max s.now t := (now_of_view hw).trans (advanceTo_now s t)
  have hshdn : w.hk.shdn = s.hk.shdn := (shdn_of_view hw).trans (congrArg HkSt.shdn (advanceTo_hk s t))
  rw [bit_eq_of_reg (f := RTB_CTL_arm r.idx) 0 (hreg _ hc), get_eq_of_reg (f := RTB_LINE_LEN_shadow r.idx) (hreg _ hl),
    get_eq_of_reg (f := RTB_FRAME_LINES_shadow r.idx) (hreg _ hf)]
  by_cases ha : s.bit (RTB_CTL_arm r.idx) = true
  · rw [if_pos ha]
    refine ⟨⟨?_, (clrBit_now _ _ _).trans hnow, (congrArg HkSt.shdn (clrBit_hk _ _ _)).trans hshdn, fun a hlt hn => ?_⟩, ?_⟩
    · rw [raster_clrBit, raster_modRaster_same, hx, hu, startedRaster, if_pos ha, if_pos ha]
    · exact (reg_clrBit_other _ _ _ (mt List.mem_singleton.mpr hn)).trans (hreg a hlt)
    · rw [bit_clrBit_arm]
      exact bit_eq_of_reg (f := RTB_CTL_run r.idx) 0 (hreg _ hc)
  · rw [if_neg ha]
    refine ⟨⟨?_, hnow, hshdn, fun a hlt _ => hreg a hlt⟩, bit_eq_of_reg (f := RTB_CTL_run r.idx) 0 (hreg _ hc)⟩
    rw [hx, hu, startedRaster, if_neg ha, if_neg ha]

theorem ctl_notMem_sourceRegs (r : Raster) : RTB_CTL r.idx ∉ sourceRegs := by cases r <;> decide

/-- A raster that follows not itself, started. -/
theorem begun_rasterStart {s : State} (r : Raster) (hsrc : (s.raster r.idx).src ≠ r.idx) (t : Nat) (kind : FrameStart) :
    Begun ([RTB_CTL r.idx] ++ sourceRegs) r.idx (s.startedRaster r.idx t kind) t s (s.rasterStart r.idx t kind) ∧
      (s.rasterStart r.idx t kind).bit (RTB_CTL_run r.idx) = s.bit (RTB_CTL_run r.idx) := by
  obtain ⟨h, hb⟩ := begun_startRaster s r t kind
  have ht := frameTold_rasterStart s (idx_le_four r) t kind
  exact ⟨h.told ht hsrc, (bit_eq_of_reg (f := RTB_CTL_run r.idx) 0 (ht.reg _ (raster_regs_lt r).1 (ctl_notMem_sourceRegs r))).trans hb⟩

/-! ## The write of run -/

theorem blockWrite_rasterCtl (s : State) (pc : Nat) (r : Raster) (v : W32) : s.blockWrite pc (RTB_CTL r.idx) v = s.rasterCtl r.idx v := by
  cases r <;> rfl

theorem unfrozen_rasterCtl (r : Raster) : Unfrozen (RTB_CTL r.idx) := unfrozen_of_plainReg (by cases r <;> decide)

/-- A write of RTB_x_CTL whose arm bit is 0. -/
theorem rasterCtl_unarmed (s : State) (r : Nat) {v : W32} (h : bitOf v 1 = false) : s.rasterCtl r v =
    if r = 4 then s
    else if bitOf v 0 then
      if (s.raster r).running ∨ (s.raster r).holding then s.setBit (RTB_CTL_run r)
      else if (s.raster r).src = 7 then (s.setBit (RTB_CTL_run r)).rasterStart r ((s.setBit (RTB_CTL_run r)).now + 1) .natural
      else (s.setBit (RTB_CTL_run r)).modRaster r (fun y => { y with holding := true, aligns := [] })
    else (s.clrBit (RTB_CTL_run r)).modRaster r (fun y => { y with holding := false, aligns := if y.holding then [] else y.aligns }) := by
  unfold rasterCtl
  rw [show bitOf v (RTB_CTL_arm r).lo = false from h]
  rfl

theorem rasterCtl_h (s : State) {v : W32} (h : bitOf v 1 = false) : s.rasterCtl Raster.h.idx v = s := (rasterCtl_unarmed s _ h).trans (if_pos rfl)

section Ports

variable {s : State} {r : Raster} (hr : r ≠ .h)

include hr

theorem idx_ne_four : r.idx ≠ 4 := by
  cases r <;> simp_all [Raster.idx]

/-- A write of run = 1 to a stopped raster with no lock source. -/
theorem rasterCtl_run_unlocked (hrun : (s.raster r.idx).running = false) (hhold : (s.raster r.idx).holding = false) (hsrc : (s.raster r.idx).src = 7) :
    s.rasterCtl r.idx 1#32 = (s.setBit (RTB_CTL_run r.idx)).rasterStart r.idx (s.now + 1) .natural := by
  rw [rasterCtl_unarmed s _ (by decide), if_neg (idx_ne_four hr), if_pos (by decide), if_neg (by simp [hrun, hhold]), if_pos hsrc, setBit_now]

/-- A write of run = 1 to a stopped raster with a lock source. -/
theorem rasterCtl_run_locked (hrun : (s.raster r.idx).running = false) (hhold : (s.raster r.idx).holding = false) (hsrc : (s.raster r.idx).src ≠ 7) :
    s.rasterCtl r.idx 1#32 = (s.setBit (RTB_CTL_run r.idx)).setRaster r.idx { s.raster r.idx with holding := true, aligns := [] } := by
  rw [rasterCtl_unarmed s _ (by decide), if_neg (idx_ne_four hr), if_pos (by decide), if_neg (by simp [hrun, hhold]), if_neg hsrc, modRaster, raster_setBit]

/-- A write of run = 0 to a raster that is not held. -/
theorem rasterCtl_stop (hhold : (s.raster r.idx).holding = false) :
    s.rasterCtl r.idx 0#32 = (s.clrBit (RTB_CTL_run r.idx)).setRaster r.idx (s.raster r.idx) := by
  rw [rasterCtl_unarmed s _ (by decide), if_neg (idx_ne_four hr), if_neg (by decide), modRaster, raster_clrBit, hhold, if_neg (by decide), ← hhold]

end Ports

/-! ## Rasters replaced by equal ones -/

theorem substKeys_withRasters {t : State} {l : List (Nat × RasterSt)} (h : ∀ r, Map.get (fun _ => {}) l r = t.raster r) : ({ t with rasters := l } : State).substKeys = t.substKeys := by
  have hk : ({ t with rasters := l } : State).substKey = t.substKey := by
    funext on n r
    simp only [substKey]
    rw [show ({ t with rasters := l } : State).raster r = t.raster r from h r]
  simp only [substKeys, substProfile, substHolds, hk]
  rfl

theorem follows_withRasters {s t : State} {l : List (Nat × RasterSt)} (h : ∀ r, Map.get (fun _ => {}) l r = t.raster r) (hf : Follows s t) : Follows s { t with rasters := l } := by
  have e := substKeys_withRasters h
  unfold Follows
  rw [e]
  exact hf

/-- Registers alone have changed, INTC has noted the access, and every raster is as it was. -/
theorem regsOnly_settle_rasters {l : List Nat} {s t : State} (hf : t = { s with regs := t.regs, rasters := t.rasters, intc := t.intc, lines := t.lines })
    (hsame : ∀ r, t.raster r = s.raster r) (hi : s.intc.Accesses t.intc) (hl : t.lines = s.lines) (hr : ∀ a, a ∉ l → t.reg a = s.reg a) :
    RegsOnly l s { (s.readOn t).settle with rasters := s.rasters } := by
  have hn : t.now = s.now := by rw [hf]
  refine ⟨?_, follows_withRasters (fun r => ?_) (follows_settle_accessed rfl hi hl), fun a ha => ?_⟩
  · rw [settle_frame, readOn_frame]
    generalize (State.settle _).intc = x
    generalize (State.settle _).lines = y
    conv_lhs => rw [hf]
  · rw [settle_raster, readOn_raster, hsame r]
    rfl
  · show (s.readOn t).settle.reg a = s.reg a
    rw [settle_reg, readOn_reg, hr a ha]

theorem bit_setBit_run (s : State) (r : Nat) : (s.setBit (RTB_CTL_run r)).bit (RTB_CTL_run r) = true :=
  bit_setBit_same s _ 0 (by simp [RTB_CTL_run]) (by simp [RTB_CTL_run]) (by simp [RTB_CTL_run])

theorem bit_clrBit_run (s : State) (r : Nat) : (s.clrBit (RTB_CTL_run r)).bit (RTB_CTL_run r) = false :=
  bit_clrBit_same s _ 0 (by simp [RTB_CTL_run]) (by simp [RTB_CTL_run])

end State

section Writes

variable {s : State} {who : Party} {r : Raster} (hw : Writes s who (RTB_CTL r.idx))

include hw

theorem gives_rasterRun_unlocked (hr : r ≠ .h) (hrun : (s.raster r.idx).running = false) (hhold : (s.raster r.idx).holding = false) (hsrc : (s.raster r.idx).src = 7) :
    Gives (.rasterRun who r false) s (fun t => let y := t.raster r.idx
      y.running = true ∧ y.frame = (s.raster r.idx).frame ∧ y.line = 0 ∧ y.lineAt = s.now + 1 ∧ t.bit (RTB_CTL_run r.idx) = true) := by
  refine gives_ownerWrite_shdn (v := 1#32) rfl (unfrozen_rasterCtl r) hw fun x hx => ?_
  rw [blockWrite_rasterCtl, rasterCtl_run_unlocked (s := s.withIntc x) hr hrun hhold hsrc]
  set u := (s.withIntc x).setBit (RTB_CTL_run r.idx)
  have hu : u.raster r.idx = s.raster r.idx := raster_setBit (s.withIntc x) _ 0 _
  have hne : (u.raster r.idx).src ≠ r.idx := by
    have := idx_le_four r
    rw [hu, hsrc]
    omega
  obtain ⟨h, hb⟩ := begun_rasterStart r hne ((s.withIntc x).now + 1) .natural
  generalize u.rasterStart r.idx _ .natural = t at h hb ⊢
  refine ⟨h.shdn.trans (congrArg HkSt.shdn (setBit_hk (s.withIntc x) _ 0)), ?_⟩
  dsimp only
  rw [settle_raster, readOn_raster, settle_readOn_bit, h.raster]
  exact ⟨rfl, by rw [startedRaster, hu], rfl, rfl, hb.trans (bit_setBit_run _ _)⟩

theorem gives_rasterRun_locked (hr : r ≠ .h) (hrun : (s.raster r.idx).running = false) (hhold : (s.raster r.idx).holding = false) (hsrc : (s.raster r.idx).src ≠ 7) :
    Gives (.rasterRun who r false) s (fun t => t.raster r.idx = { s.raster r.idx with holding := true, aligns := [] } ∧ t.bit (RTB_CTL_run r.idx) = true) := by
  refine gives_ownerWrite (v := 1#32) rfl (unfrozen_rasterCtl r) hw fun x hx => ?_
  rw [blockWrite_rasterCtl, rasterCtl_run_locked (s := s.withIntc x) hr hrun hhold hsrc]
  refine ⟨setBit_hk (s.withIntc x) _ 0, ?_, ?_⟩
  · rw [settle_raster, readOn_raster, raster_setRaster_same]
    rfl
  · rw [settle_readOn_bit]
    exact bit_setBit_run _ _

theorem gives_rasterStop (hr : r ≠ .h) (hhold : (s.raster r.idx).holding = false) :
    Gives (.rasterStop who r false) s (fun t => RegsOnly [RTB_CTL r.idx] s { t with rasters := s.rasters } ∧ t.bit (RTB_CTL_run r.idx) = false ∧
      t.raster r.idx = s.raster r.idx) := by
  refine gives_ownerWrite (v := 0#32) rfl (unfrozen_rasterCtl r) hw fun x hx => ?_
  rw [blockWrite_rasterCtl, rasterCtl_stop (s := s.withIntc x) hr hhold]
  have hf : (s.withIntc x).clrBit (RTB_CTL_run r.idx) = { s.withIntc x with regs := ((s.withIntc x).clrBit (RTB_CTL_run r.idx)).regs } :=
    wrBit_frame (s.withIntc x) (RTB_CTL_run r.idx) 0 false
  have hreg : ∀ a, a ≠ RTB_CTL r.idx → ((s.withIntc x).clrBit (RTB_CTL_run r.idx)).reg a = s.reg a := fun a ha => reg_clrBit_other (s.withIntc x) _ 0 ha
  have hbit := bit_clrBit_run (s.withIntc x) r.idx
  generalize (s.withIntc x).clrBit (RTB_CTL_run r.idx) = u at hf hreg hbit
  generalize u.regs = g at hf
  subst hf
  refine ⟨rfl, regsOnly_settle_rasters rfl (fun q => ?_) hx rfl fun a ha => hreg a (by simpa using ha), ?_, ?_⟩
  · by_cases hq : q = r.idx
    · rw [hq, raster_setRaster_same]
      rfl
    · rw [raster_setRaster_other _ _ hq]
      rfl
  · rw [settle_readOn_bit]
    exact hbit
  · rw [settle_raster, readOn_raster, raster_setRaster_same]
    rfl

end Writes

/-- One group holds the control registers of the five rasters (R18). -/
theorem writes_rasterCtl {s : State} {who : Party} {r : Raster} (hw : Writes s who (RTB_CTL r.idx)) (q : Raster) : Writes s who (RTB_CTL q.idx) := by
  have h : ∀ r : Raster, groupOf (RTB_CTL r.idx) = some 3 := fun r => by cases r <;> rfl
  obtain ⟨ho, hh, hn⟩ := hw
  refine ⟨?_, hh, hn⟩
  rw [owns, h] at ho ⊢
  exact ho

/-- Raster H takes no write of run. -/
theorem gives_rasterCtl_h {i : Instr} {s : State} {who : Party} {v : W32} (he : exec i s = act s (fun u => u.busWrite who (RTB_CTL Raster.h.idx) v))
    (hw : Writes s who (RTB_CTL Raster.h.idx)) (hv : bitOf v 1 = false) : Gives i s (RegsOnly [] s) := by
  refine gives_ownerWrite he (unfrozen_rasterCtl .h) hw fun x hx => ?_
  rw [blockWrite_rasterCtl, rasterCtl_h _ hv]
  exact ⟨rfl, regsOnly_settle rfl hx rfl fun _ _ => rfl⟩

/-- Settles O25: the write's cases, a port raster's by whether it has a lock source, and raster H's. -/
theorem rastersRunAndStop : Obligations.RastersRunAndStop := by
  intro who r s hw
  refine ⟨fun hr hrun hhold => ⟨fun hsrc _ => gives_rasterRun_unlocked hw hr hrun hhold hsrc, fun hsrc => gives_rasterRun_locked hw hr hrun hhold hsrc⟩,
    fun hr hhold => gives_rasterStop hw hr hhold, ?_, ?_⟩
  · exact gives_rasterCtl_h rfl (writes_rasterCtl hw .h) (by decide)
  · exact gives_rasterCtl_h rfl (writes_rasterCtl hw .h) (by decide)

end Sys2Proof.Machine
end

section
/-! Lock writes (R50). -/

namespace Sys2Proof.Machine

open R State

namespace State

/-- The state after a write of RTB_x_LOCK before the lock takes effect: lose 0 and source 6 have left their fields. -/
def lockWritten (s : State) (r : Nat) (v : W32) : State :=
  ((s.plainWrite (RTB_LOCK r) v).keepUnless s (fv v (RTB_LOCK_lose r) != 0) (RTB_LOCK_lose r)).keepUnless s (fv v (RTB_LOCK_src r) != 6) (RTB_LOCK_src r)

theorem lockWrite_eq (s : State) (r : Nat) (v : W32) : s.lockWrite r v = let t := s.lockWritten r v
    if t.lockLoops r 5 (t.get (RTB_LOCK_src r)) then s
    else if (t.raster r).running then t.modRaster r (fun x => { x with lockPending := true })
    else t.takeLock r := rfl

theorem rows_lock (r : Raster) : (findRow (RTB_LOCK r.idx)).any (fun w => w.takes (RTB_LOCK_src r.idx) && w.takes (RTB_LOCK_acq r.idx) && w.takes (RTB_LOCK_ratio r.idx) &&
    w.takes (RTB_LOCK_lose r.idx) && w.takes (RTB_LOCK_window r.idx)) = true := by cases r <;> decide

/-- The lock settings that word `w` holds are those of `v`. -/
structure LockFields (w v : W32) : Prop where
  src : bitsOf w 2 0 = bitsOf v 2 0
  acq : bitsOf w 3 3 = bitsOf v 3 3
  ratio : bitsOf w 7 4 = bitsOf v 7 4
  lose : bitsOf w 11 8 = bitsOf v 11 8
  window : bitsOf w 19 12 = bitsOf v 19 12

theorem plainWrite_lock (s : State) (r : Raster) (v : W32) : ∃ w, s.plainWrite (RTB_LOCK r.idx) v = s.setReg (RTB_LOCK r.idx) w ∧ LockFields w v := by
  obtain ⟨row, hrow, ht⟩ := (Option.any_eq_true _ _).mp (rows_lock r)
  simp only [Bool.and_eq_true] at ht
  obtain ⟨⟨⟨⟨hsrc, hacq⟩, hratio⟩, hlose⟩, hwindow⟩ := ht
  have hb : ∀ f : Field, row.takes f = true → f.hi < 32 ∧ f.lo ≤ f.hi → bitsOf (row.written s.frozen (s.reg (RTB_LOCK r.idx)) v) f.hi f.lo = bitsOf v f.hi f.lo :=
    fun f h hf => bitsOf_written_takes h hf.1 hf.2 _ _ _
  refine ⟨_, plainWrite_row hrow s v, hb _ hsrc ?_, hb _ hacq ?_, hb _ hratio ?_, hb _ hlose ?_, hb _ hwindow ?_⟩
  all_goals simp [RTB_LOCK_src, RTB_LOCK_acq, RTB_LOCK_ratio, RTB_LOCK_lose, RTB_LOCK_window]

/-- `t` is `s` but for the lock register of raster `r`, which names source `src`. -/
structure LockNamed (r src : Nat) (s t : State) : Prop where
  frame : t = { s with regs := t.regs }
  reg : ∀ a, a ≠ RTB_LOCK r → t.reg a = s.reg a
  src : t.get (RTB_LOCK_src r) = src

theorem lockNamed_setReg (s : State) (r : Nat) (w : W32) : LockNamed r (bitsOf w 2 0) s (s.setReg (RTB_LOCK r) w) :=
  ⟨rfl, fun _ ha => reg_setReg_other s w ha, by rw [get, show (RTB_LOCK_src r).addr = RTB_LOCK r from rfl, reg_setReg_same]; rfl⟩

theorem LockNamed.put_lose {r src : Nat} {s t : State} (h : LockNamed r src s t) (k : Nat) : LockNamed r src s (t.put (RTB_LOCK_lose r) k) := by
  have hf : t.put (RTB_LOCK_lose r) k = { s with regs := (t.put (RTB_LOCK_lose r) k).regs } := by
    have e := h.frame
    generalize t.regs = g at e
    subst e
    rfl
  refine ⟨hf, fun a ha => (reg_put_other t _ k ha).trans (h.reg a ha), ?_⟩
  rw [get_put_field t (RTB_LOCK_lose r) (RTB_LOCK_src r) k rfl (by simp [RTB_LOCK_lose]) (by simp [RTB_LOCK_lose]) (by simp [RTB_LOCK_src]) (by simp [RTB_LOCK_lose, RTB_LOCK_src]), h.src]

/-- A write that names a source. -/
theorem lockWritten_src (s : State) (r : Raster) {v : W32} (hs : bitsOf v 2 0 ≠ 6) : LockNamed r.idx (bitsOf v 2 0) s (s.lockWritten r.idx v) := by
  obtain ⟨w, hw, hf⟩ := plainWrite_lock s r v
  have hk : fv v (RTB_LOCK_src r.idx) = bitsOf v 2 0 := rfl
  have h : LockNamed r.idx (bitsOf v 2 0) s (s.setReg (RTB_LOCK r.idx) w) := hf.src ▸ lockNamed_setReg s r.idx w
  rw [lockWritten, hw, keepUnless, if_pos (by simpa [hk] using hs), keepUnless]
  split
  · exact h
  · exact h.put_lose _

/-- A write that names a source and a number of misses. -/
theorem lockWritten_all (s : State) (r : Raster) {v : W32} (hs : bitsOf v 2 0 ≠ 6) (hl : bitsOf v 11 8 ≠ 0) :
    ∃ w, s.lockWritten r.idx v = s.setReg (RTB_LOCK r.idx) w ∧ LockFields w v := by
  obtain ⟨w, hw, hf⟩ := plainWrite_lock s r v
  have hk : fv v (RTB_LOCK_src r.idx) = bitsOf v 2 0 := rfl
  have hk' : fv v (RTB_LOCK_lose r.idx) = bitsOf v 11 8 := rfl
  exact ⟨w, by rw [lockWritten, hw, keepUnless, if_pos (by simpa [hk] using hs), keepUnless, if_pos (by simpa [hk'] using hl)], hf⟩

/-! ## Loops -/

theorem lockLoops_outside (t : State) (r k : Nat) {src : Nat} (h : 5 ≤ src) : t.lockLoops r k src = false := by
  cases k with
  | zero => rfl
  | succ k => exact if_pos h

theorem lockLoops_self (t : State) {r : Nat} (k : Nat) (h : r < 5) : t.lockLoops r (k + 1) r = true := by
  rw [lockLoops, if_neg (by omega), if_pos rfl]

theorem lockLoops_step (t : State) {r k src : Nat} (h : src < 5) (hne : src ≠ r) : t.lockLoops r (k + 1) src = t.lockLoops r k (t.get (RTB_LOCK_src src)) := by
  rw [lockLoops, if_neg (by omega), if_neg hne]

theorem lock_src_reg {r src : Nat} (h : src ≠ r) : (RTB_LOCK_src src).addr ≠ RTB_LOCK r := by
  simp only [RTB_LOCK_src, RTB_LOCK]
  omega

variable {r src : Nat} {s t : State} (h : LockNamed r src s t)

include h

theorem LockNamed.source (hne : src ≠ r) : t.get (RTB_LOCK_src src) = s.get (RTB_LOCK_src src) := get_eq_of_reg (h.reg _ (lock_src_reg hne))

/-- A source outside the rasters, or a raster that follows none of them, closes no loop. -/
theorem LockNamed.open_ (hs : 5 ≤ src ∨ src < 5 ∧ src ≠ r ∧ 5 ≤ s.get (RTB_LOCK_src src)) : t.lockLoops r 5 (t.get (RTB_LOCK_src r)) = false := by
  rw [h.src]
  obtain h5 | ⟨hlt, hne, hout⟩ := hs
  · exact lockLoops_outside t r 5 h5
  · rw [lockLoops_step t hlt hne, h.source hne]
    exact lockLoops_outside t r 4 hout

/-- The raster itself, or one that follows it, closes a loop. -/
theorem LockNamed.closed (hr : r < 5) (hs : src = r ∨ src < 5 ∧ s.get (RTB_LOCK_src src) = r) : t.lockLoops r 5 (t.get (RTB_LOCK_src r)) = true := by
  rw [h.src]
  by_cases hne : src = r
  · rw [hne]
    exact lockLoops_self t 4 hr
  · obtain ⟨hlt, hback⟩ := hs.resolve_left hne
    rw [lockLoops_step t hlt hne, h.source hne, hback]
    exact lockLoops_self t 3 hr

end State

/-! ## The write -/

theorem source_of_open {src r : Nat} {s : State} (hs : src ∈ [5, 7] ∨ src < 5 ∧ src ≠ r ∧ 5 ≤ s.get (RTB_LOCK_src src)) :
    src ≠ 6 ∧ (5 ≤ src ∨ src < 5 ∧ src ≠ r ∧ 5 ≤ s.get (RTB_LOCK_src src)) := by
  simp only [List.mem_cons, List.not_mem_nil, or_false] at hs
  omega

/-- Raster `r` once the settings that its lock register holds have taken effect. -/
def lockTaken (s : State) (r : Nat) (w : W32) : RasterSt :=
  { s.raster r with lock := w, lockPending := false, aligns := [], lockState := if bitsOf w 2 0 = 7 then 0 else 1,
                    acqAt := if bitsOf w 2 0 = 7 then (s.raster r).acqAt else s.now, missRun := 0 }

theorem raster_takeLock (s : State) (r : Nat) : (s.takeLock r).raster r = lockTaken s r (s.reg (RTB_LOCK r)) := by
  unfold takeLock
  extract_lets t
  have ht : t.raster r = { s.raster r with lock := s.reg (RTB_LOCK r), lockPending := false, aligns := [] } := raster_modRaster_same s r _
  have hsrc : (t.raster r).src = bitsOf (s.reg (RTB_LOCK r)) 2 0 := by rw [ht]; rfl
  rw [enterLock, raster_modRaster_same, hsrc, ht, lockTaken]
  by_cases h : bitsOf (s.reg (RTB_LOCK r)) 2 0 = 7
  · rw [if_pos h, if_pos h]
    rfl
  · rw [if_neg h, if_neg h]
    rfl

theorem blockWrite_lock (s : State) (pc : Nat) (r : Raster) (v : W32) : s.blockWrite pc (RTB_LOCK r.idx) v = s.lockWrite r.idx v := by
  cases r <;> rfl

theorem unfrozen_lock (r : Raster) : Unfrozen (RTB_LOCK r.idx) := unfrozen_of_plainReg (by cases r <;> decide)

section Writes

variable {s : State} {who : Party} {r : Raster} {v : W32} (hw : Writes s who (RTB_LOCK r.idx))

include hw

/-- A lock write that closes a loop. -/
theorem gives_lockWrite_closed (hs : bitsOf v 2 0 = r.idx ∨ bitsOf v 2 0 < 5 ∧ s.get (RTB_LOCK_src (bitsOf v 2 0)) = r.idx) : Gives (.lockWrite who r v) s (Quiet s) := by
  have hr := idx_le_four r
  refine gives_ownerWrite rfl (unfrozen_lock r) hw fun x hx => ?_
  have ht := (lockWritten_src (s.withIntc x) r (v := v) (by omega)).closed (by omega) hs
  rw [blockWrite_lock, lockWrite_eq]
  dsimp only
  rw [if_pos ht]
  exact ⟨rfl, quiet_settle_withIntc hx⟩

section Open

variable (hs : bitsOf v 2 0 ∈ [5, 7] ∨ bitsOf v 2 0 < 5 ∧ bitsOf v 2 0 ≠ r.idx ∧ 5 ≤ s.get (RTB_LOCK_src (bitsOf v 2 0)))

include hs

theorem gives_lockWrite_stopped (hl : bitsOf v 11 8 ≠ 0) (hrun : (s.raster r.idx).running = false) : Gives (.lockWrite who r v) s (fun t => let y := t.raster r.idx
    y.src = bitsOf v 2 0 ∧ y.acq = bitsOf v 3 3 ∧ y.ratio = bitsOf v 7 4 ∧ y.lose = bitsOf v 11 8 ∧ y.window = bitsOf v 19 12 ∧ y.aligns = [] ∧
      y.lockState = (if bitsOf v 2 0 = 7 then 0 else 1) ∧ y.running = false ∧ y.frame = (s.raster r.idx).frame ∧ ∀ a, a ≠ RTB_LOCK r.idx → t.reg a = s.reg a) := by
  obtain ⟨h6, hout⟩ := source_of_open hs
  refine gives_ownerWrite rfl (unfrozen_lock r) hw fun x hx => ?_
  have h := lockWritten_src (s.withIntc x) r h6
  have ht := h.open_ hout
  obtain ⟨w, hw', hf⟩ := lockWritten_all (s.withIntc x) r h6 hl
  rw [blockWrite_lock, lockWrite_eq]
  dsimp only
  rw [hw'] at ht ⊢
  rw [if_neg (by simp [ht]), if_neg (by simp [show ((s.withIntc x).setReg (RTB_LOCK r.idx) w).raster r.idx = s.raster r.idx from rfl, hrun])]
  refine ⟨rfl, ?_⟩
  rw [settle_raster, readOn_raster, raster_takeLock, reg_setReg_same]
  refine ⟨hf.src, hf.acq, hf.ratio, hf.lose, hf.window, rfl, by rw [← hf.src]; rfl, hrun, rfl, fun a ha => ?_⟩
  rw [settle_readOn_reg]
  exact reg_setReg_other (s.withIntc x) w ha

theorem gives_lockWrite_running (hrun : (s.raster r.idx).running = true) :
    Gives (.lockWrite who r v) s (fun t => t.raster r.idx = { s.raster r.idx with lockPending := true } ∧ t.get (RTB_LOCK_src r.idx) = bitsOf v 2 0) := by
  obtain ⟨h6, hout⟩ := source_of_open hs
  refine gives_ownerWrite rfl (unfrozen_lock r) hw fun x hx => ?_
  have h := lockWritten_src (s.withIntc x) r h6
  have ht := h.open_ hout
  rw [blockWrite_lock, lockWrite_eq]
  dsimp only
  generalize (s.withIntc x).lockWritten r.idx v = t at h ht
  have hx : t.raster r.idx = s.raster r.idx := by rw [h.frame]; rfl
  rw [if_neg (by simp [ht]), if_pos (by rw [hx, hrun])]
  refine ⟨by rw [h.frame]; rfl, ?_, ?_⟩
  · rw [settle_raster, readOn_raster, raster_modRaster_same, hx]
  · rw [settle_readOn_get]
    exact h.src

end Open

end Writes
end Sys2Proof.Machine
end

section
/-! The end of a follower's last line under its lock (R54, R56, R58). -/

namespace Sys2Proof.Machine

open R State

namespace State

variable {s : State} {r : Nat}

/-- Raster `r` once its last line is to end at tick `t` through an alignment moment. -/
def lineCut (s : State) (r t : Nat) (k : FrameStart) : RasterSt :=
  { s.raster r with cutAt := some t, cutKind := k, aligns := (s.raster r).aligns.drop 1, missRun := 0, lastCorr := (t : Int) - ((s.raster r).nEnd : Int) }

/-- Raster `r` once its last line is to end at its length, for want of an alignment moment. -/
def lineMissed (s : State) (r t : Nat) : RasterSt :=
  { s.raster r with cutAt := some t, cutKind := .natural, lastCorr := 0, missRun := (s.raster r).missRun + 1 }

/-! ## What the rule decides -/

/-- The decision point of R54 has come for a running raster. -/
def Decides (s : State) (r : Nat) : Prop := ((s.raster r).running && (s.raster r).ruled && (s.raster r).cutAt.isNone) = true

theorem lockLineEnd_slipped {t : Nat} (hd : s.Decides r) (h : (s.raster r).rule54 = (t, some .slipped)) : ∃ u : State, u.regs = s.regs ∧ u.hk = s.hk ∧
    u.raster r = s.lineCut r t .slipped ∧ s.lockLineEnd r = if (s.raster r).lockState = 2 then (u.bump (RTB_SLIP_CNT_clamped r)).setBit RTB_EVT_slip r else u := by
  refine ⟨(s.advanceTo (if FrameStart.slipped = .slipped ∧ (s.raster r).nEnd < t then (s.raster r).nEnd else t)).setRaster r (s.lineCut r t .slipped), ?_, ?_, ?_, ?_⟩
  · rw [setRaster_regs, advanceTo_regs]
  · rw [setRaster_hk, advanceTo_hk]
  · exact raster_setRaster_same _ _ _
  · rw [lockLineEnd, if_neg (by rw [hd]; decide), h]
    rfl

theorem lockLineEnd_aligned {t : Nat} (hd : s.Decides r) (h : (s.raster r).rule54 = (t, some .aligned)) : ∃ u : State, u.hk = s.hk ∧
    u.raster r = s.lineCut r t .aligned ∧ s.lockLineEnd r = if (s.raster r).lockState = 1 then (u.enterLock r 2).setBit RTB_EVT_acq r else u := by
  refine ⟨(s.advanceTo (if FrameStart.aligned = .slipped ∧ (s.raster r).nEnd < t then (s.raster r).nEnd else t)).setRaster r (s.lineCut r t .aligned), ?_, ?_, ?_⟩
  · rw [setRaster_hk, advanceTo_hk]
  · exact raster_setRaster_same _ _ _
  · rw [lockLineEnd, if_neg (by rw [hd]; decide), h]
    rfl

theorem lockLineEnd_missed {t : Nat} (hd : s.Decides r) (h : (s.raster r).rule54 = (t, none)) : ∃ u : State, u.regs = s.regs ∧ u.hk = s.hk ∧
    u.raster r = s.lineMissed r t ∧ s.lockLineEnd r = if (s.raster r).lockState = 2 ∧ (s.raster r).lose ≤ (s.raster r).missRun + 1 then
      ((u.bump (RTB_MISS_CNT_missed r)).enterLock r 3).setBit RTB_EVT_lost r else u.bump (RTB_MISS_CNT_missed r) := by
  refine ⟨(s.advanceTo (s.raster r).nEnd).setRaster r (s.lineMissed r t), ?_, ?_, ?_, ?_⟩
  · rw [setRaster_regs, advanceTo_regs]
  · rw [setRaster_hk, advanceTo_hk]
  · exact raster_setRaster_same _ _ _
  · rw [lockLineEnd, if_neg (by rw [hd]; decide), h]
    rfl

end State

/-! ## The bounds of the rule -/

/-- e_min of R54. -/
def RasterSt.eMin (x : RasterSt) : Nat := x.nEnd - 96 * min x.window (x.lineLen - 8)

/-- e_max of R54. -/
def RasterSt.eMax (x : RasterSt) : Nat := x.nEnd + 96 * min x.window (65535 - x.lineLen)

section Rule

variable {x : RasterSt} {a : Nat} {l : List Nat} (ha : x.aligns = a :: l)

include ha

theorem rule54_early (h : a < x.eMin) : x.rule54 = (x.eMin, some .slipped) := by
  rw [RasterSt.rule54, ha]
  exact if_pos h

theorem rule54_late (h : x.eMax < a) : x.rule54 = (x.eMax, some .slipped) := by
  have hmin : ¬ a < x.eMin := by
    unfold RasterSt.eMin
    unfold RasterSt.eMax at h
    omega
  rw [RasterSt.rule54, ha]
  exact (if_neg hmin).trans (if_neg (by exact Nat.not_le.mpr h))

theorem rule54_between (hmin : x.eMin ≤ a) (hmax : a ≤ x.eMax) : x.rule54 = (a, some .aligned) := by
  rw [RasterSt.rule54, ha]
  exact (if_neg (Nat.not_lt.mpr hmin)).trans (if_pos hmax)

end Rule

theorem rule54_none {x : RasterSt} (h : x.aligns = []) : x.rule54 = (x.nEnd, none) := by
  rw [RasterSt.rule54, h]

/-! ## The branches -/

theorem evt_lost_bit (s : State) (r : Raster) : (s.setBit RTB_EVT_lost r.idx).bit RTB_EVT_lost r.idx = true := by
  have := idx_le_four r
  exact bit_setBit_same s _ _ (by decide) (by decide) (by simp only [RTB_EVT_lost]; omega)

theorem evt_acq_bit (s : State) (r : Raster) : (s.setBit RTB_EVT_acq r.idx).bit RTB_EVT_acq r.idx = true := by
  have := idx_le_four r
  exact bit_setBit_same s _ _ (by decide) (by decide) (by simp only [RTB_EVT_acq]; omega)

theorem evt_slip_bit (s : State) (r : Raster) : (s.setBit RTB_EVT_slip r.idx).bit RTB_EVT_slip r.idx = true := by
  have := idx_le_four r
  exact bit_setBit_same s _ _ (by decide) (by decide) (by simp only [RTB_EVT_slip]; omega)

theorem counters_ne_evt (r : Raster) : RTB_SLIP_CNT r.idx ≠ RTB_EVT ∧ RTB_MISS_CNT r.idx ≠ RTB_EVT := by cases r <;> decide

section Branches

variable {s : State} {r : Raster} {e : Nat} (hn : Normal s) (hd : s.Decides r.idx)

include hn hd

theorem gives_lineSlipped (h : (s.raster r.idx).rule54 = (e, some .slipped)) : Gives (.lockLineEnd r) s (fun t =>
    (t.raster r.idx).cutAt = some e ∧ (t.raster r.idx).aligns = (s.raster r.idx).aligns.drop 1 ∧
      if (s.raster r.idx).lockState = 2 then
        t.reg (RTB_SLIP_CNT_clamped r.idx).addr = counted1 (s.reg (RTB_SLIP_CNT_clamped r.idx).addr) (RTB_SLIP_CNT_clamped r.idx) ∧ t.bit RTB_EVT_slip r.idx = true
      else t.regs = s.regs) := by
  obtain ⟨u, hregs, hhk, hx, he⟩ := lockLineEnd_slipped hd h
  by_cases h2 : (s.raster r.idx).lockState = 2
  · rw [if_pos h2] at he
    refine gives_running (f := fun s => s.lockLineEnd r.idx) rfl hn he (by rw [setBit_hk, ← hhk]; rfl) ⟨?_, ?_, ?_⟩
    · rw [settle_raster, readOn_raster, raster_setBit, raster_bump, hx]
      rfl
    · rw [settle_raster, readOn_raster, raster_setBit, raster_bump, hx]
      rfl
    · rw [if_pos h2, settle_readOn_reg, settle_readOn_bit, reg_setBit_other _ _ _ (counters_ne_evt r).1, reg_bump_same, reg_eq_of_regs hregs]
      exact ⟨rfl, evt_slip_bit _ r⟩
  · rw [if_neg h2] at he
    refine gives_running (f := fun s => s.lockLineEnd r.idx) rfl hn he (by rw [hhk]) ⟨?_, ?_, ?_⟩
    · rw [settle_raster, readOn_raster, hx]
      rfl
    · rw [settle_raster, readOn_raster, hx]
      rfl
    · rw [if_neg h2, settle_regs, readOn_regs, hregs]

theorem gives_lineAligned (h : (s.raster r.idx).rule54 = (e, some .aligned)) (hs : (s.raster r.idx).lockState = 2 ∨ (s.raster r.idx).lockState = 1) :
    Gives (.lockLineEnd r) s (fun t => (t.raster r.idx).cutAt = some e ∧ (t.raster r.idx).aligns = (s.raster r.idx).aligns.drop 1 ∧ (t.raster r.idx).lockState = 2 ∧
      (t.raster r.idx).lastCorr = (e : Int) - (s.raster r.idx).nEnd ∧ ((s.raster r.idx).lockState = 1 → t.bit RTB_EVT_acq r.idx = true)) := by
  obtain ⟨u, hhk, hx, he⟩ := lockLineEnd_aligned hd h
  by_cases h1 : (s.raster r.idx).lockState = 1
  · rw [if_pos h1] at he
    refine gives_running (f := fun s => s.lockLineEnd r.idx) rfl hn he (by rw [setBit_hk, ← hhk]; rfl) ?_
    rw [settle_raster, readOn_raster, raster_setBit, enterLock, raster_modRaster_same, hx, settle_readOn_bit]
    exact ⟨rfl, rfl, rfl, rfl, fun _ => evt_acq_bit _ r⟩
  · rw [if_neg h1] at he
    refine gives_running (f := fun s => s.lockLineEnd r.idx) rfl hn he (by rw [hhk]) ?_
    rw [settle_raster, readOn_raster, hx]
    exact ⟨rfl, rfl, hs.resolve_right h1, rfl, fun h => absurd h h1⟩

theorem gives_lineMissed (h : (s.raster r.idx).rule54 = (e, none)) : let x := s.raster r.idx
    Gives (.lockLineEnd r) s (fun t => (t.raster r.idx).cutAt = some e ∧
      t.reg (RTB_MISS_CNT_missed r.idx).addr = counted1 (s.reg (RTB_MISS_CNT_missed r.idx).addr) (RTB_MISS_CNT_missed r.idx) ∧
      ((t.raster r.idx).lockState = if x.lockState = 2 ∧ x.lose ≤ x.missRun + 1 then 3 else x.lockState) ∧
      (x.lockState = 2 → x.lose ≤ x.missRun + 1 → t.bit RTB_EVT_lost r.idx = true)) := by
  intro x
  obtain ⟨u, hregs, hhk, hx, he⟩ := lockLineEnd_missed hd h
  by_cases hl : x.lockState = 2 ∧ x.lose ≤ x.missRun + 1
  · rw [if_pos hl] at he
    refine gives_running (f := fun s => s.lockLineEnd r.idx) rfl hn he (by rw [setBit_hk, ← hhk]; rfl) ?_
    rw [settle_raster, readOn_raster, raster_setBit, enterLock, raster_modRaster_same, raster_bump, hx, settle_readOn_bit, settle_readOn_reg,
      reg_setBit_other _ _ _ (counters_ne_evt r).2, if_pos hl]
    refine ⟨rfl, ?_, rfl, fun _ _ => evt_lost_bit _ r⟩
    exact (reg_bump_same u _).trans (by rw [reg_eq_of_regs hregs])
  · rw [if_neg hl] at he
    refine gives_running (f := fun s => s.lockLineEnd r.idx) rfl hn he (by rw [← hhk]; rfl) ?_
    rw [settle_raster, readOn_raster, raster_bump, hx, settle_readOn_reg, reg_bump_same, reg_eq_of_regs hregs, if_neg hl]
    exact ⟨rfl, rfl, rfl, fun h h' => absurd ⟨h, h'⟩ hl⟩

end Branches

end Sys2Proof.Machine
end

section
/-! Acquisition by restart (R57). -/

namespace Sys2Proof.Machine

open R State

namespace State

/-- What a restart gives up concerns no raster, and of the lowest pages the counter of truncated frames alone. -/
theorem rasterView_truncate (s : State) (r : Raster) : (s.truncate r.idx).rasterView = (s.bump (RTB_TRUNC_CNT_frames r.idx)).rasterView := by
  unfold truncate
  extract_lets t u
  split
  · rfl
  next h4 =>
  have hr : r.idx < 4 := by omega
  rw [rasterView_modPort, rasterView_ite, rasterView_ffAbort hr, rasterView_cerAbandon, ite_self]

theorem comingMoments_cons {x : RasterSt} {a now : Nat} {l : List Nat} (ha : x.aligns = a :: l) (hacq : x.acqAt < a) (hnow : now ≤ a) : x.comingMoments now = a :: l := by
  rw [RasterSt.comingMoments, ha]
  exact List.dropWhile_cons_of_neg (by simp; omega)

/-- Raster `r` at its restart, before the next frame begins: LOCKED, with the moments that remain, and the frame in hand given up. -/
def restarting (s : State) (r a : Nat) (l : List Nat) : State :=
  (((((s.advanceTo a).lineEnded r a).modRaster r (fun y => { y with aligns := l })).truncate r).enterLock r 2).setBit RTB_EVT_acq r

variable {s : State} {a : Nat} {l : List Nat}

theorem acquireRestart_cut {r : Nat} (hrun : (s.raster r).running = true) (hhold : (s.raster r).holding = false) (hlock : (s.raster r).lockState = 1)
    (hacq : (s.raster r).acq = 0) (hm : (s.raster r).comingMoments s.now = a :: l) (hend : (s.raster r).lineEnd ≠ a) :
    s.acquireRestart r = ((s.restarting r a l).beginFrame r a .restarted).frameBegun r a (s.raster r).lineLen := by
  have hw : ((s.raster r).lastLine && (s.raster r).lineEnd == a) = false := by simp [hend]
  rw [acquireRestart, if_neg (by simp [hhold]), if_neg (by simp [hrun, hlock, hacq]), hm]
  simp only [hw]
  rfl

theorem trunc_ne (r : Raster) : RTB_TRUNC_CNT r.idx < 0x3000 ∧ RTB_TRUNC_CNT r.idx ∉ [RTB_CTL r.idx] ++ sourceRegs ∧ RTB_TRUNC_CNT r.idx ≠ RTB_EVT ∧
    RTB_CTL r.idx ≠ RTB_TRUNC_CNT r.idx ∧ RTB_CTL r.idx ≠ RTB_EVT := by cases r <;> decide

/-- Raster `r` and its registers at its restart. -/
structure Restarting (s : State) (r : Raster) (l : List Nat) (t : State) : Prop where
  raster : t.raster r.idx = { s.raster r.idx with aligns := l, lockState := 2, missRun := 0 }
  ctl : t.reg (RTB_CTL r.idx) = s.reg (RTB_CTL r.idx)
  trunc : t.get (RTB_TRUNC_CNT_frames r.idx) =
    min (2 ^ ((RTB_TRUNC_CNT_frames r.idx).hi - (RTB_TRUNC_CNT_frames r.idx).lo + 1) - 1) (s.get (RTB_TRUNC_CNT_frames r.idx) + 1)
  shdn : t.hk.shdn = s.hk.shdn

theorem restarting_spec (s : State) (r : Raster) (a : Nat) (l : List Nat) : Restarting s r l (s.restarting r.idx a l) := by
  obtain ⟨hlt, -, hevt, hctl, hctle⟩ := trunc_ne r
  have hview : (((s.advanceTo a).lineEnded r.idx a)).rasterView = (s.advanceTo a).rasterView := rasterView_lineEnded _ _ _
  generalize hu : ((s.advanceTo a).lineEnded r.idx a).modRaster r.idx (fun y => { y with aligns := l }) = u
  have hr : s.restarting r.idx a l = ((u.truncate r.idx).enterLock r.idx 2).setBit RTB_EVT_acq r.idx := by rw [restarting, hu]
  have hshdn : u.hk.shdn = s.hk.shdn := by
    rw [← hu, modRaster, setRaster_hk, shdn_of_view hview, advanceTo_hk]
  have hreg : ∀ b, b < 0x3000 → u.reg b = s.reg b := fun b hb => by
    rw [← hu, modRaster, setRaster_reg, reg_of_view hview hb, reg_advanceTo]
  have hx : u.raster r.idx = { s.raster r.idx with aligns := l } := by
    rw [← hu, raster_modRaster_same, raster_of_view hview, raster_advanceTo]
  have ht := rasterView_truncate u r
  have hev : ∀ b, b ≠ RTB_EVT → b < 0x3000 → (s.restarting r.idx a l).reg b = (u.bump (RTB_TRUNC_CNT_frames r.idx)).reg b := fun b hb hb' => by
    rw [hr, reg_setBit_other _ _ _ hb, enterLock, modRaster, setRaster_reg, reg_of_view ht hb']
  refine ⟨?_, ?_, ?_, ?_⟩
  · rw [hr, raster_setBit, enterLock, raster_modRaster_same, raster_of_view ht, raster_bump, hx]
    rfl
  · rw [hev _ hctle (raster_regs_lt r).1, reg_bump_other _ _ hctl, hreg _ (raster_regs_lt r).1]
  · rw [get_eq_of_reg (f := RTB_TRUNC_CNT_frames r.idx) (hev _ hevt hlt), get_bump_same _ _ (by simp [RTB_TRUNC_CNT_frames]) (by simp [RTB_TRUNC_CNT_frames]),
      get_eq_of_reg (f := RTB_TRUNC_CNT_frames r.idx) (hreg _ hlt)]
  · rw [hr, setBit_hk, enterLock, modRaster, setRaster_hk, shdn_of_view ht]
    exact hshdn

end State

theorem gives_acquireRestart {s : State} {r : Raster} {a : Nat} {l : List Nat} (hn : Normal s) (hrun : (s.raster r.idx).running = true) (hhold : (s.raster r.idx).holding = false)
    (hlock : (s.raster r.idx).lockState = 1) (hacq : (s.raster r.idx).acq = 0) (hself : (s.raster r.idx).src ≠ r.idx)
    (hp : (s.raster r.idx).lockPending = false) (hctl : s.bit (RTB_CTL_run r.idx) = true) (ha : (s.raster r.idx).aligns = a :: l) (hafter : (s.raster r.idx).acqAt < a)
    (hnow : s.now ≤ a) (hend : (s.raster r.idx).lineEnd ≠ a) : Gives (.acquireRestart r) s (fun t => let y := t.raster r.idx
      y.lockState = 2 ∧ y.frame = ((s.raster r.idx).frame + 1) % 2 ^ 32 ∧ y.line = 0 ∧ y.lineAt = a ∧ a ≤ t.now ∧
        t.get (RTB_TRUNC_CNT_frames r.idx) =
          min (2 ^ ((RTB_TRUNC_CNT_frames r.idx).hi - (RTB_TRUNC_CNT_frames r.idx).lo + 1) - 1) (s.get (RTB_TRUNC_CNT_frames r.idx) + 1)) := by
  have hf := acquireRestart_cut hrun hhold hlock hacq (comingMoments_cons ha hafter hnow) hend
  have hu := restarting_spec s r a l
  set u := s.restarting r.idx a l
  have h := begun_frame (idx_le_four r) ((bit_eq_of_reg (f := RTB_CTL_run r.idx) 0 hu.ctl).trans hctl) (by rw [hu.raster]; exact hrun) (by rw [hu.raster]; exact hp)
    (by rw [hu.raster]; exact hself) a (s.raster r.idx).lineLen .restarted
  obtain ⟨hlt, hmem, -⟩ := trunc_ne r
  generalize (u.beginFrame r.idx a .restarted).frameBegun r.idx a (s.raster r.idx).lineLen = t at h hf
  refine gives_running (f := fun s => s.acquireRestart r.idx) rfl hn hf (h.shdn.trans hu.shdn) ?_
  dsimp only
  rw [settle_raster, readOn_raster, h.raster, settle_now, readOn_now, h.now, settle_readOn_get, get_eq_of_reg (f := RTB_TRUNC_CNT_frames r.idx) (h.reg _ hlt hmem), hu.trunc,
    newFrame, hu.raster]
  exact ⟨rfl, rfl, rfl, rfl, le_max_right _ _, rfl⟩

/-- Settles O26: a write by whether it closes a loop and the raster runs, the end of a locked frame by where its alignment moment lies, and the restart in ACQUIRE. -/
theorem locksFollow : Obligations.LocksFollow := by
  refine ⟨fun who r v s hw => ⟨fun hs hl => ⟨gives_lockWrite_stopped hw hs hl, gives_lockWrite_running hw hs⟩, gives_lockWrite_closed hw⟩, ?_,
    fun r s a l hn hrun hhold hlock hacq _ hself hp hctl ha hafter hnow hend => gives_acquireRestart hn hrun hhold hlock hacq hself hp hctl ha hafter hnow hend⟩
  intro r s hn x n lo hi slip hrun hlast hnth hstate hcut
  have hd : s.Decides r.idx := by
    have hr : x.ruled = true := by
      rw [RasterSt.ruled, RasterSt.lastLine]
      simpa [hlast, hnth] using hstate
    rw [Decides, hrun, hr, hcut]
    rfl
  refine ⟨fun a l ha => ⟨fun hlo => ?_, fun hhi => ?_, fun hlo hhi => ?_⟩, fun ha => gives_lineMissed hn hd (rule54_none ha)⟩
  · have h := gives_lineSlipped hn hd (rule54_early ha hlo)
    rwa [ha] at h
  · have h := gives_lineSlipped hn hd (rule54_late ha hhi)
    rwa [ha] at h
  · have h := gives_lineAligned hn hd (rule54_between ha hlo hhi) (hstate.imp_right And.left)
    rwa [ha] at h

end Sys2Proof.Machine
end

section
/-! FSYNC as input and as output (R60). -/

namespace Sys2Proof.Machine

open R State

namespace State

/-! ## FSYNC replaced -/

/-- The FSYNC ball's records replaced. -/
def withFsync (s : State) (x : FsyncSt) : State := { s with fsync := x }

@[simp] theorem withFsync_reg (s : State) (x : FsyncSt) (a : Nat) : (s.withFsync x).reg a = s.reg a := rfl

/-- What settles does not depend on FSYNC. -/
theorem follows_withFsync {s t : State} (x : FsyncSt) (h : Follows s t) : Follows s { t with fsync := x } := h

/-- Registers and FSYNC alone have changed. -/
theorem regsOnly_settle_fsync {l : List Nat} {s t : State} (hf : t = { s with regs := t.regs, fsync := t.fsync }) (hr : ∀ a, a ∉ l → t.reg a = s.reg a) :
    RegsOnly l s { (s.readOn t).settle with fsync := s.fsync } := by
  have hi : t.intc = s.intc := by rw [hf]
  have hl : t.lines = s.lines := by rw [hf]
  refine ⟨?_, follows_withFsync _ (follows_settle hi hl), fun a ha => ?_⟩
  · rw [settle_frame, readOn_frame]
    generalize (State.settle _).intc = x
    generalize (State.settle _).lines = y
    conv_lhs => rw [hf]
  · show (s.readOn t).settle.reg a = s.reg a
    rw [settle_reg, readOn_reg, hr a ha]

theorem setBit_frame (s : State) (f : Field) (i : Nat) : s.setBit f i = { s with regs := (s.setBit f i).regs } := wrBit_frame s f i true

/-! ## Edges of the input -/

section Input

variable {s : State} (hd : s.bit RTB_FSYNC_CFG_dir = false)

include hd

theorem fsyncEdge_leading (h : s.fsync.high = s.bit RTB_FSYNC_CFG_pol) :
    s.fsyncEdge (!s.bit RTB_FSYNC_CFG_pol) = s.withFsync { s.fsync with high := !s.bit RTB_FSYNC_CFG_pol, edgeAt := some s.now, fellAt := none } := by
  rw [fsyncEdge, if_neg (by simp [hd, h]), if_pos (by simp)]
  rfl

theorem fsyncEdge_trailing {e : Nat} (he : s.fsync.edgeAt = some e) (h : s.fsync.high = !s.bit RTB_FSYNC_CFG_pol) :
    s.fsyncEdge (s.bit RTB_FSYNC_CFG_pol) = s.withFsync { s.fsync with high := s.bit RTB_FSYNC_CFG_pol, fellAt := some s.now } := by
  rw [fsyncEdge, if_neg (by simp [hd, h]), if_neg (by simp), he]
  rfl

end Input

/-! ## Judgement of a pulse -/

/-- The state at the acceptance of a pulse that began at tick `e`, before its followers take it. -/
def fsyncTaken (s : State) (e : Nat) : State :=
  let u := s.advanceTo (e + 96 * s.get RTB_FSYNC_CFG_min_width)
  let v := match u.fsync.lastAt with
    | some l => u.setNum RTB_FSYNC_PERIOD (sat 0xFFFF_FFFF (e - l))
    | none => u
  v.withFsync { v.fsync with edgeAt := none, fellAt := none, lastAt := some e }

theorem fsyncAccept_taken {s : State} {e : Nat} (he : s.fsync.edgeAt = some e) (hf : s.fsync.fellAt = none) : s.fsyncAccept = (s.fsyncTaken e).sourceEvent 5 e := by
  rw [fsyncAccept, he]
  exact if_neg (by simp [hf])

theorem sat_eq_min (m n : Nat) : sat m n = min m n := by
  unfold sat
  split <;> omega

/-- The clock, FSYNC and the period at the acceptance of a pulse. -/
theorem fsyncTaken_spec (s : State) (e : Nat) : let t := s.fsyncTaken e
    t.now = max s.now (e + 96 * s.get RTB_FSYNC_CFG_min_width) ∧ t.fsync = { s.fsync with edgeAt := none, fellAt := none, lastAt := some e } ∧ t.hk = s.hk ∧
      ∀ p, s.fsync.lastAt = some p → t.num RTB_FSYNC_PERIOD = min (2 ^ 32 - 1) (e - p) := by
  unfold fsyncTaken
  extract_lets u v t
  have hu : u.fsync = s.fsync := advanceTo_fsync s _
  have hv : v.now = u.now ∧ v.fsync = u.fsync ∧ v.hk = u.hk := by
    unfold v
    split <;> exact ⟨rfl, rfl, rfl⟩
  refine ⟨hv.1.trans (advanceTo_now s _), ?_, hv.2.2.trans (advanceTo_hk s _), fun p hp => ?_⟩
  · show { v.fsync with edgeAt := none, fellAt := none, lastAt := some e } = _
    rw [hv.2.1, hu]
  · show v.num RTB_FSYNC_PERIOD = _
    unfold v
    rw [hu, hp]
    simp only
    rw [num_setNum_same, sat_eq_min]
    exact Nat.mod_eq_of_lt (by omega)

theorem fsyncReject_short {s : State} {e f : Nat} (he : s.fsync.edgeAt = some e) (hf : s.fsync.fellAt = some f) (h : f < e + 96 * s.get RTB_FSYNC_CFG_min_width) :
    s.fsyncReject = ((s.withFsync { s.fsync with edgeAt := none, fellAt := none }).bump RTB_FSYNC_STAT_rejected).setBit RTB_EVT_fsync := by
  rw [fsyncReject, he, hf]
  exact if_pos h

/-! ## The output -/

/-- The ball active from the line start `b` on. -/
def pulseOut (s : State) (b : Nat) : State := s.withFsync { s.fsync with outAt := some b, outExt := 0, high := !s.bit RTB_FSYNC_CFG_pol }

/-- The ball inactive again. -/
def pulseOver (s : State) : State := s.withFsync { s.fsync with outAt := none, outExt := 0, high := s.bit RTB_FSYNC_CFG_pol }

theorem pulseOut_advanceTo (s : State) (t b : Nat) :
    (s.advanceTo t).pulseOut b = (s.advanceTo t).withFsync { s.fsync with outAt := some b, outExt := 0, high := !s.bit RTB_FSYNC_CFG_pol } := by
  rw [pulseOut, advanceTo_fsync, bit_advanceTo]

theorem pulseOver_advanceTo (s : State) (t : Nat) :
    (s.advanceTo t).pulseOver = (s.advanceTo t).withFsync { s.fsync with outAt := none, outExt := 0, high := s.bit RTB_FSYNC_CFG_pol } := by
  rw [pulseOver, advanceTo_fsync, bit_advanceTo]

theorem fsyncOutputPulse_due {s : State} (hd : s.bit RTB_FSYNC_CFG_dir = true) : let x := s.raster (s.get RTB_FSYNC_CFG_out_raster)
    x.running = true → x.line = s.get RTB_FSYNC_CFG_out_line → s.fsync.outAt ≠ some x.lineAt → s.now ≤ x.lineAt + 12 →
      s.fsyncOutputPulse = (s.advanceTo (x.lineAt + 12)).withFsync { s.fsync with outAt := some x.lineAt, outExt := 0, high := !s.bit RTB_FSYNC_CFG_pol } := by
  intro x hrun hline hout hnow
  rw [fsyncOutputPulse]
  refine (if_pos ?_).trans (pulseOut_advanceTo s (x.lineAt + 12) x.lineAt)
  simp [hd, hrun, hline, hout, hnow, x]

/-- A pulse that lies within the line in which it began ends after its width. -/
theorem slotsAfter_within {s : State} {r d k : Nat} (hd : (s.raster r).lineAt = d) (hk : k < (s.raster r).slots) : s.slotsAfter r d k 0 = d + 96 * k := by
  rw [slotsAfter]
  exact if_neg (by rintro ⟨-, -, h⟩; omega)

theorem fsyncOutputEnd_within {s : State} {d : Nat} (ho : s.fsync.outAt = some d) (hx : (s.raster (s.get RTB_FSYNC_CFG_out_raster)).lineAt = d) (he : s.fsync.outExt = 0)
    (hw : s.get RTB_FSYNC_CFG_width < (s.raster (s.get RTB_FSYNC_CFG_out_raster)).slots) :
    s.fsyncOutputEnd = (s.advanceTo (d + 96 * s.get RTB_FSYNC_CFG_width + 12)).withFsync { s.fsync with outAt := none, high := s.bit RTB_FSYNC_CFG_pol } := by
  have hs := slotsAfter_within hx hw
  have h : s.fsyncOutputEnd = (s.advanceTo (s.slotsAfter (s.get RTB_FSYNC_CFG_out_raster) d (s.get RTB_FSYNC_CFG_width) s.fsync.outExt + 12)).pulseOver := by
    rw [fsyncOutputEnd, ho]
    rfl
  rw [h, he, hs, pulseOver_advanceTo, ← he]

end State

/-! ## Events while FSYNC is an input -/

section Input

variable {s : State} (hn : Normal s)

include hn

/-- A command that changes FSYNC and the clock alone. -/
theorem gives_withFsync {i : Instr} {f : State → State} {u : State} {x : FsyncSt} (he : exec i s = act s f) (hf : f s = u.withFsync x) (hk : u.hk = s.hk) (hr : u.regs = s.regs) :
    Gives i s (fun t => t.now = u.now ∧ t.fsync = x ∧ t.regs = s.regs) := by
  refine gives_running he hn hf (congrArg HkSt.shdn hk) ⟨?_, ?_, ?_⟩
  · rw [settle_now, readOn_now]
    rfl
  · rw [settle_fsync]
    rfl
  · rw [settle_regs, readOn_regs]
    exact hr

theorem gives_fsyncPulseAccept {e : Nat} (he : s.fsync.edgeAt = some e) (hf : s.fsync.fellAt = none) : Gives .fsyncPulseAccept s (fun t =>
    t.now = max s.now (e + 96 * s.get RTB_FSYNC_CFG_min_width) ∧ t.fsync = { s.fsync with edgeAt := none, fellAt := none, lastAt := some e } ∧
      ∀ p, s.fsync.lastAt = some p → t.num RTB_FSYNC_PERIOD = min (2 ^ 32 - 1) (e - p)) := by
  obtain ⟨hnow, hfs, hk, hper⟩ := fsyncTaken_spec s e
  have hs := sourced_sourceEvent (s.fsyncTaken e) 5 e
  refine gives_running (f := fun u => u.fsyncAccept) rfl hn (fsyncAccept_taken he hf) (by rw [hs.frame, hk]) ⟨?_, ?_, fun p hp => ?_⟩
  · rw [settle_now, readOn_now, hs.frame, ← hnow]
  · rw [settle_fsync, ← hfs, readOn_frame, hs.frame]
  · rw [settle_readOn_num, num_eq_of_reg (hs.reg RTB_FSYNC_PERIOD (by decide)), hper p hp]

theorem gives_fsyncPulseReject {e f : Nat} (he : s.fsync.edgeAt = some e) (hf : s.fsync.fellAt = some f) (h : f < e + 96 * s.get RTB_FSYNC_CFG_min_width) :
    Gives .fsyncPulseReject s (fun t => RegsOnly [RTB_FSYNC_STAT_rejected.addr, RTB_EVT] s { t with fsync := s.fsync } ∧
      t.fsync = { s.fsync with edgeAt := none, fellAt := none } ∧
      t.reg RTB_FSYNC_STAT_rejected.addr = counted1 (s.reg RTB_FSYNC_STAT_rejected.addr) RTB_FSYNC_STAT_rejected ∧ t.reg RTB_EVT = orBit (s.reg RTB_EVT) RTB_EVT_fsync 0) := by
  have hr := fsyncReject_short he hf h
  generalize hu : (s.withFsync { s.fsync with edgeAt := none, fellAt := none }).bump RTB_FSYNC_STAT_rejected = u at hr
  have hreg : ∀ a, a ≠ RTB_FSYNC_STAT_rejected.addr → u.reg a = s.reg a := fun a ha => by rw [← hu, reg_bump_other _ _ ha, withFsync_reg]
  have hcnt : u.reg RTB_FSYNC_STAT_rejected.addr = counted1 (s.reg RTB_FSYNC_STAT_rejected.addr) RTB_FSYNC_STAT_rejected := by
    rw [← hu, reg_bump_same, withFsync_reg]
  have hrest : ∀ a, a ≠ RTB_EVT → (u.setBit RTB_EVT_fsync).reg a = u.reg a := fun a ha => reg_setBit_other u RTB_EVT_fsync 0 ha
  have hevt : (u.setBit RTB_EVT_fsync).reg RTB_EVT = orBit (u.reg RTB_EVT) RTB_EVT_fsync 0 := reg_setBit_same u RTB_EVT_fsync 0 (by decide) (by decide)
  have hframe : u.setBit RTB_EVT_fsync = { u with regs := (u.setBit RTB_EVT_fsync).regs } := setBit_frame u RTB_EVT_fsync 0
  have hfu : u = { s with regs := u.regs, fsync := { s.fsync with edgeAt := none, fellAt := none } } := by rw [← hu]; rfl
  generalize u.setBit RTB_EVT_fsync = t at hr hrest hevt hframe
  have hft : t = { s with regs := t.regs, fsync := { s.fsync with edgeAt := none, fellAt := none } } := by
    rw [hfu] at hframe
    exact hframe
  have hfs : t.fsync = { s.fsync with edgeAt := none, fellAt := none } := congrArg State.fsync hft
  refine gives_running (f := fun u => u.fsyncReject) rfl hn hr (by rw [hft]) ⟨?_, ?_, ?_, ?_⟩
  · refine regsOnly_settle_fsync (by rw [hfs]; exact hft) fun a ha => ?_
    simp only [List.mem_cons, List.not_mem_nil, or_false, not_or] at ha
    rw [hrest a ha.2, hreg a ha.1]
  · rw [settle_fsync, readOn_frame]
    exact hfs
  · rw [settle_readOn_reg, hrest _ (by decide), hcnt]
  · rw [settle_readOn_reg, hevt, hreg _ (by decide)]

end Input

/-! ## The write of RTB_FSYNC_CFG -/

theorem keepUnless_of {s old : State} {ok : Bool} {f : Field} (h : ok = true) : s.keepUnless old ok f = s := if_pos h

theorem blockWrite_fsyncCfg (s : State) (pc : Nat) (v : W32) : s.blockWrite pc RTB_FSYNC_CFG v = s.fsyncCfgWrite v := rfl

theorem rows_fsyncCfg : (findRow RTB_FSYNC_CFG).any (fun w => w.takes RTB_FSYNC_CFG_pol && w.takes RTB_FSYNC_CFG_min_width) = true := by decide

theorem plainWrite_fsyncCfg (s : State) (v : W32) : ∃ w, s.plainWrite RTB_FSYNC_CFG v = s.setReg RTB_FSYNC_CFG w ∧
    fv w RTB_FSYNC_CFG_pol = fv v RTB_FSYNC_CFG_pol ∧ fv w RTB_FSYNC_CFG_min_width = fv v RTB_FSYNC_CFG_min_width := by
  obtain ⟨row, hrow, ht⟩ := (Option.any_eq_true _ _).mp rows_fsyncCfg
  rw [Bool.and_eq_true] at ht
  exact ⟨_, plainWrite_row hrow s v, bitsOf_written_takes ht.1 (by decide) (by decide) _ _ _, bitsOf_written_takes ht.2 (by decide) (by decide) _ _ _⟩

theorem gives_fsyncCfgWrite {s : State} {who : Party} {v : W32} (hw : Writes s who RTB_FSYNC_CFG) (hwidth : fv v RTB_FSYNC_CFG_width ≠ 0) (hout : fv v RTB_FSYNC_CFG_out_raster ≤ 4)
    (hpol : fv v RTB_FSYNC_CFG_pol ≠ s.get RTB_FSYNC_CFG_pol) : Gives (.fsyncCfgWrite who v) s (fun t =>
      t.fsync.edgeAt = none ∧ t.fsync.fellAt = none ∧ t.get RTB_FSYNC_CFG_pol = fv v RTB_FSYNC_CFG_pol ∧ t.get RTB_FSYNC_CFG_min_width = fv v RTB_FSYNC_CFG_min_width ∧
        ∀ a, a ≠ RTB_FSYNC_CFG → t.reg a = s.reg a) := by
  refine gives_ownerWrite rfl (unfrozen_of_plainReg (by decide)) hw fun x hx => ?_
  obtain ⟨w, hw', hp, hm⟩ := plainWrite_fsyncCfg (s.withIntc x) v
  have hget : ∀ f : Field, f.addr = RTB_FSYNC_CFG → ((s.withIntc x).setReg RTB_FSYNC_CFG w).get f = fv w f := fun f hf => by rw [State.get, hf, reg_setReg_same]; rfl
  rw [blockWrite_fsyncCfg, fsyncCfgWrite, hw', keepUnless_of (by simpa using hout), keepUnless_of (by simpa using hwidth)]
  dsimp only
  rw [if_neg fun h => hpol ((hp.symm.trans (hget _ rfl).symm).trans h.1)]
  refine ⟨rfl, ?_, ?_, ?_, ?_, fun a ha => ?_⟩
  · rw [settle_fsync]
    rfl
  · rw [settle_fsync]
    rfl
  · rw [settle_readOn_get]
    exact (hget _ rfl).trans hp
  · rw [settle_readOn_get]
    exact (hget _ rfl).trans hm
  · rw [settle_readOn_reg]
    exact reg_setReg_other (s.withIntc x) w ha

/-- Settles O27: the input's edges and the two judgements of its pulse, the write of the configuration, and the output's pulse. -/
theorem frameSync : Obligations.FrameSync := by
  refine ⟨fun s hn hd => ⟨fun h => ?_, fun e he h => ?_, fun e he hf => gives_fsyncPulseAccept hn he hf, fun e f he hf h => gives_fsyncPulseReject hn he hf h⟩,
    fun s who v => ⟨fun hw hwidth hout hpol => gives_fsyncCfgWrite hw hwidth hout hpol, fun hn hd => ⟨fun hrun hline hout hnow => ?_, fun d ho _ hx he hw => ?_⟩⟩⟩
  · obtain ⟨t, ht, -, h1, h2⟩ := gives_withFsync hn (i := .fsyncEdge _) (f := fun u => u.fsyncEdge _) rfl (fsyncEdge_leading hd h) rfl rfl
    exact ⟨t, ht, h1, h2⟩
  · obtain ⟨t, ht, -, h1, h2⟩ := gives_withFsync hn (i := .fsyncEdge _) (f := fun u => u.fsyncEdge _) rfl (fsyncEdge_trailing hd he h) rfl rfl
    exact ⟨t, ht, h1, h2⟩
  · obtain ⟨t, ht, h0, h1, h2⟩ := gives_withFsync hn (i := .fsyncOutputPulse) (f := fun u => u.fsyncOutputPulse) rfl (fsyncOutputPulse_due hd hrun hline hout hnow)
      (advanceTo_hk s _) (advanceTo_regs s _)
    exact ⟨t, ht, h0.trans ((advanceTo_now s _).trans (max_eq_right hnow)), h2, h1⟩
  · obtain ⟨t, ht, h0, h1, h2⟩ := gives_withFsync hn (i := .fsyncOutputEnd) (f := fun u => u.fsyncOutputEnd) rfl (fsyncOutputEnd_within ho hx he hw)
      (advanceTo_hk s _) (advanceTo_regs s _)
    exact ⟨t, ht, h0.trans (advanceTo_now s _), h2, h1⟩

end Sys2Proof.Machine
end

section
/-! Decoding of encoded Pulon words (R72, R106, R107, R110). -/

namespace Sys2Proof

open Laws

/-! ## The fields of a word, format by format (R106) -/

section Fields

variable (op : Nat) (d a b : RegNo) (x y : LocNo) (u : BitVec 2) (off : BitVec 22) (soff : BitVec 11) (len : BitVec 5) (f q rx : Bool)

/-- A flag as an encoding puts it, and read back. -/
theorem flagBit (f : Bool) : (if f then 1 else 0 : Nat) < 2 ∧ decide ((if f then 1 else 0 : Nat) = 1) = f := by cases f <;> decide

theorem fields_encR : pwD (encR op d a b f) = d ∧ pwA (encR op d a b f) = a ∧ pwB (encR op d a b f) = b ∧ pwFR (encR op d a b f) = f := by
  obtain ⟨hf, hb⟩ := flagBit f
  unfold encR
  generalize (if f then 1 else 0 : Nat) = m at hf hb
  refine ⟨BitVec.eq_of_toNat_eq ?_, BitVec.eq_of_toNat_eq ?_, BitVec.eq_of_toNat_eq ?_, hb ▸ decide_eq_decide.mpr ?_⟩ <;>
    (simp only [pwD, pwA, pwB, BitVec.toNat_ofNat]; omega)

theorem fields_encI {imm : Nat} (hi : imm < 65536) : pwD (encI op d a f imm) = d ∧ pwA (encI op d a f imm) = a ∧ pwFI (encI op d a f imm) = f ∧
    pwImm (encI op d a f imm) = BitVec.ofNat 16 imm := by
  obtain ⟨hf, hb⟩ := flagBit f
  unfold encI
  generalize (if f then 1 else 0 : Nat) = m at hf hb
  refine ⟨BitVec.eq_of_toNat_eq ?_, BitVec.eq_of_toNat_eq ?_, hb ▸ decide_eq_decide.mpr ?_, BitVec.eq_of_toNat_eq ?_⟩ <;>
    (simp only [pwD, pwA, pwImm, BitVec.toNat_ofNat]; omega)

theorem fields_encB : pwD (encB op d off) = d ∧ pwOff (encB op d off) = off := by
  constructor <;> (apply BitVec.eq_of_toNat_eq; simp only [encB, pwD, pwOff, BitVec.toNat_ofNat]; omega)

theorem fields_encL {imm : Nat} (hi : imm < 4096) : pwX (encL op x y a b u imm) = x ∧ pwY (encL op x y a b u imm) = y ∧ pwA (encL op x y a b u imm) = a ∧
    pwB (encL op x y a b u imm) = b ∧ pwU (encL op x y a b u imm) = u ∧ pwImm12 (encL op x y a b u imm) = BitVec.ofNat 12 imm := by
  unfold encL
  refine ⟨?_, ?_, ?_, ?_, ?_, ?_⟩ <;> (apply BitVec.eq_of_toNat_eq; simp only [pwX, pwY, pwA, pwB, pwU, pwImm12, BitVec.toNat_ofNat]; omega)

theorem fields_encE {m : Nat} (hm : m < 4096) : pwX (encE op y f soff m) = y ∧ pwLvl (encE op y f soff m) = f ∧ pwSoff (encE op y f soff m) = soff ∧
    pwImm12 (encE op y f soff m) = BitVec.ofNat 12 m := by
  obtain ⟨hf, hb⟩ := flagBit f
  unfold encE
  generalize (if f then 1 else 0 : Nat) = n at hf hb
  refine ⟨BitVec.eq_of_toNat_eq ?_, hb ▸ decide_eq_decide.mpr ?_, BitVec.eq_of_toNat_eq ?_, BitVec.eq_of_toNat_eq ?_⟩ <;>
    (simp only [pwX, pwSoff, pwImm12, BitVec.toNat_ofNat]; omega)

theorem fields_encP : pwD (encP op d a len q rx) = d ∧ pwA (encP op d a len q rx) = a ∧ pwLen (encP op d a len q rx) = len ∧ pwQ (encP op d a len q rx) = q ∧
    pwRx (encP op d a len q rx) = rx := by
  obtain ⟨hq, hqb⟩ := flagBit q
  obtain ⟨hr, hrb⟩ := flagBit rx
  unfold encP
  generalize (if q then 1 else 0 : Nat) = m at hq hqb
  generalize (if rx then 1 else 0 : Nat) = n at hr hrb
  refine ⟨BitVec.eq_of_toNat_eq ?_, BitVec.eq_of_toNat_eq ?_, BitVec.eq_of_toNat_eq ?_, hqb ▸ decide_eq_decide.mpr ?_, hrb ▸ decide_eq_decide.mpr ?_⟩ <;>
    (simp only [pwD, pwA, pwLen, BitVec.toNat_ofNat]; omega)

/-- y of format L is the low half of d. -/
theorem pwY_eq_pwD (w : W32) : pwY w = (pwD w).setWidth 2 := by
  apply BitVec.eq_of_toNat_eq
  simp only [pwY, pwD, BitVec.toNat_setWidth, BitVec.toNat_ofNat]
  omega

end Fields

/-- An immediate narrower than its field is read back from the field's low bits. -/
theorem setWidth_ofNat_toNat {m n : Nat} (v : BitVec m) (h : m ≤ n) : (BitVec.ofNat n v.toNat).setWidth m = v := by
  rw [BitVec.setWidth_ofNat_of_le h, BitVec.ofNat_toNat, BitVec.setWidth_eq]

theorem toNat_lt_imm16 {m : Nat} (v : BitVec m) (h : m ≤ 16) : v.toNat < 65536 := Nat.lt_of_lt_of_le v.isLt (Nat.pow_le_pow_right (by decide) h)

theorem toNat_lt_imm12 {m : Nat} (v : BitVec m) (h : m ≤ 12) : v.toNat < 4096 := Nat.lt_of_lt_of_le v.isLt (Nat.pow_le_pow_right (by decide) h)

/-- A level of GSEL and GSELI stands in bit 0 of d. -/
theorem getElem_level (l : Bool) : (if l then 1#4 else 0#4 : RegNo)[0] = l := by cases l <;> rfl

/-- Settles O3: the words by evaluation; an instruction by the fields that its format puts and its opcode selects. -/
theorem encodedInstructionDecodes : Obligations.EncodedInstructionDecodes := by
  refine ⟨by decide, fun i k w he hw => ?_⟩
  cases i
  case add | sub | andw | orw | xorw | shl | shr | sar | mul | jr | callr =>
    cases he
    simp [decodePulon, pwOp_encR, fields_encR, coreMay]
  case addi | subi | andi | ori | xori | shli | shri | sari | movh | ldw | ldh | ldb | stw | sth | stb | mfs | mts | sig =>
    cases he
    simp [decodePulon, pwOp_encI, fields_encI, coreMay, toNat_lt_imm16]
  case claim | free =>
    cases he
    simpa [decodePulon, pwOp_encI, fields_encI, coreMay, toNat_lt_imm16, setWidth_ofNat_toNat, WellFormed] using hw
  case gsel | gseli =>
    cases he
    simpa [decodePulon, pwOp_encI, fields_encI, coreMay, toNat_lt_imm16, setWidth_ofNat_toNat, getElem_level, WellFormed] using hw
  case fence | flift =>
    cases he
    simpa [decodePulon, pwOp_encI, fields_encI, coreMay, toNat_lt_imm16, WellFormed] using hw
  case ldl | stl =>
    cases he
    simp [decodePulon, pwOp_encI, pwY_eq_pwD, fields_encI, coreMay, toNat_lt_imm16]
  case br | call | dbnz =>
    cases he
    simp [decodePulon, pwOp_encB, fields_encB, coreMay]
  case iret =>
    cases he
    simpa [decodePulon, pwOp_encB, coreMay, WellFormed] using hw
  case lnow =>
    cases he
    simpa [decodePulon, pwOp_encL, fields_encL, coreMay, toNat_lt_imm12, setWidth_ofNat_toNat, WellFormed] using hw
  case lset | lins | ladv | wait =>
    cases he
    simp [decodePulon, pwOp_encL, fields_encL, coreMay, toNat_lt_imm12]
  case lget h =>
    cases he
    cases h <;> simp [decodePulon, pwOp_encL, fields_encL, coreMay]
  case edge | edgei | strb =>
    cases he
    simpa [decodePulon, pwOp_encE, fields_encE, coreMay, toNat_lt_imm12, setWidth_ofNat_toNat, WellFormed] using hw
  case ppx | pps =>
    cases he
    simpa [decodePulon, pwOp_encP, fields_encP, coreMay, WellFormed] using hw
  all_goals cases he

end Sys2Proof
end

section
/-! A target advanced from line 4,095 (O13).

The statement's `ladvPseudo` advances every locus whose raster and tick exist, as R118 has it. R120 leaves an unreachable locus as it is, and in the model line 4,095 is unreachable too
(log entry 21): EDGEI with such a locus commits the locus itself, which is late, where the statement's target lies in a frame to come and is pending. -/

namespace Sys2Proof.Machine

open Sys2Proof.Tests

/-- EDGEI of core A, one slot after L1. -/
def edgeFromLastLine : Instr := .edgei .sqa 1#2 1#11 3#12 true

/-- Core A at that instruction with L1 at line 4,095 of frame 0, while raster A is in line 3 of frame 0. -/
def lastLineState : State := running 0 3 0 (regsOf .sqa [] [(1, packLocus 0 0 4095 0 0)] (loaded edgeFromLastLine up))

/-- The entry that the statement names: its target is slot 1 of line 345 in frame 3. -/
def lastLineEntry : QEntry := ⟨.edge, packLocus 0 3 345 1 0, 3#32, true⟩

theorem edgeEntry_lastLine : edgeEntry lastLineState edgeFromLastLine = some (.sqa, lastLineEntry) := by decide

theorem issues_lastLine : Issues .sqa edgeFromLastLine lastLineState := by decide

/-- The statement's target is reachable, on the core's own raster, and after the locus of the last tick. -/
theorem lastLineEntry_pending : unreachable lastLineEntry.target = false ∧ locRaster lastLineEntry.target = Core.sqa.idx ∧
    ordLocus lastLineEntry.target ((lastLineState.raster (locRaster lastLineEntry.target)).posAt (lastLineState.issueTick Core.sqa.idx 2 + 7)) = .gt := by decide

/-- The model drops the entry: C is 1. -/
theorem carry_lastLine : ∃ t, exec edgeFromLastLine lastLineState = .next t ∧ (t.core Core.sqa.idx).c = true := ⟨_, rfl, by decide⟩

/-- Refutes O13: EDGEI of a locus in line 4,095, which the model leaves as unreachable, is late where the statement has it pending. -/
theorem not_entriesCommit : ¬ Obligations.EntriesCommit := by
  intro h
  obtain ⟨hreach, hown, hafter⟩ := lastLineEntry_pending
  obtain ⟨-, -, hpending⟩ := h _ _ _ _ edgeEntry_lastLine (by decide) issues_lastLine
  obtain ⟨t, ht, -, -, hcore⟩ := hpending (by
    rintro (hu | ⟨-, hr⟩ | ho)
    · exact Bool.false_ne_true (hreach.symm.trans hu)
    · exact hr hown
    · exact ho hafter) (by decide)
  obtain ⟨u, hu, hc⟩ := carry_lastLine
  rw [Host.Outcome.next.inj (hu.symm.trans ht), hcore] at hc
  exact Bool.false_ne_true hc

end Sys2Proof.Machine
end

section
/-! How an issued instruction completes, whatever its effect, and what settles after an effect on cores alone (R77, R83, R84). -/

namespace Sys2Proof.Machine

open R State

theorem idx_lt_four (k : Core) : k.idx < 4 ↔ k.isSq = true := by cases k <;> decide

/-- An issued instruction answers its effect, settled, where that neither overruns nor halts its core nor decides a shutdown. -/
theorem gives_pulon {k : Core} {i : Instr} {n : Nat} {s u : State} {eff : Nat → State → State} {P : State → Prop} (h : Issues k i s)
    (he : exec i s = commit (s.pulon k i n eff)) (hf : eff (s.issueTick k.idx n) (s.issued k n) = u) (hpc : (u.core k.idx).pc ≠ imemWords k.idx)
    (hhalt : (u.core k.idx).halting = false) (hshdn : u.hk.shdn = s.hk.shdn) (hp : P (s.readOn u).settle) : Gives i s P := by
  obtain ⟨-, -, -, hno, -⟩ := id h
  rw [pulon_issues h, hf, overrunCheck_in _ hpc, haltAfter_none _ hhalt] at he
  exact gives_of_quiet he (by rw [readOn_hk, hshdn]; exact hno) hp

/-- A settled state that differs from `s` in one core and the time. -/
theorem coreOnly_settle {k : Core} {s t : State} (hf : t = { s with cores := t.cores, now := t.now, wall := t.wall }) (ho : ∀ j, j ≠ k.idx → t.core j = s.core j) :
    CoreOnly k s (s.readOn t).settle := by
  have hi : t.intc = s.intc := by rw [hf]
  have hl : t.lines = s.lines := by rw [hf]
  refine ⟨settle_cores_frame (readOn_cores_frame hf), follows_settle hi hl, fun j hj => ?_⟩
  rw [settle_readOn_core]
  exact ho j hj

theorem frame_setCore_advanceTo (s : State) (t k : Nat) (y : CoreSt) : (s.advanceTo t).setCore k y =
    { s with cores := ((s.advanceTo t).setCore k y).cores, now := ((s.advanceTo t).setCore k y).now, wall := ((s.advanceTo t).setCore k y).wall } := by
  unfold advanceTo
  split <;> rfl

end Sys2Proof.Machine
end

section
/-! WAIT and its resume (R79, R119). -/

namespace Sys2Proof.Machine

open R State

variable {k : Core} {y : LocNo} {s : State}

/-- What the statement calls reached: the WAIT's target needs no wait if it is judged `j` ticks into the instruction. -/
def reachedAt (s : State) (k : Core) (p : W64) (j : Nat) : Prop := unreachable p = true ∨ k.isSq = true ∧ locRaster p ≠ k.idx ∨
  ordLocus p ((s.raster (locRaster p)).posAt (s.issueTick k.idx 2 + j)) ≠ .gt

/-- A target already reached sets C, and any other suspends the core at its WAIT. -/
theorem waitEffect_issued (s : State) (k : Core) (y : LocNo) :
    (reachedAt s k (s.loc k.idx y) Config.waitTick.toNat → waitEffect k.idx y (s.issueTick k.idx 2) (s.issued k 2) = (s.issued k 2).setCore k.idx { s.movedCore k 2 with c := true }) ∧
    (¬ reachedAt s k (s.loc k.idx y) Config.waitTick.toNat → waitEffect k.idx y (s.issueTick k.idx 2) (s.issued k 2) =
      (s.issued k 2).setCore k.idx { s.movedCore k 2 with pc := (s.core k.idx).pc, waiting := some (s.loc k.idx y) }) := by
  have hr : ∀ r, (s.issued k 2).raster r = s.raster r := fun r => by rw [State.raster, issued_rasters]; rfl
  unfold waitEffect reachedAt
  rw [issued_loc]
  dsimp only
  rw [hr, ← idx_lt_four]
  refine ⟨fun h => ?_, fun h => ?_⟩
  · rw [if_pos h, setC, modCore, issued_core]
  · rw [if_neg h, modCore, issued_core]
    rfl

theorem exec_wait (k : Core) (y : LocNo) (s : State) : exec (.wait k y) s = commit (s.pulon k (.wait k y) 2 (waitEffect k.idx y)) := rfl

theorem retires_wait_reached (h : Issues k (.wait k y) s) (hr : reachedAt s k (s.loc k.idx y) Config.waitTick.toNat) :
    Retires k (.wait k y) 2 s (fun c => { c with c := true }) := by
  obtain ⟨-, -, hpc, -, hhalt⟩ := id h
  exact retires_of h (by decide) (exec_wait k y s) ((waitEffect_issued s k y).1 hr) (Nat.ne_of_lt hpc) hhalt

theorem retires_wait_suspends (h : Issues k (.wait k y) s) (hr : ¬ reachedAt s k (s.loc k.idx y) Config.waitTick.toNat) :
    Retires k (.wait k y) 2 s (fun c => { c with pc := (s.core k.idx).pc, waiting := some (s.loc k.idx y) }) := by
  obtain ⟨-, -, hpc, -, hhalt⟩ := id h
  exact retires_of h (by decide) (exec_wait k y s) ((waitEffect_issued s k y).2 hr) (Nat.ne_of_lt (Nat.lt_of_succ_lt hpc)) hhalt

/-- A due wait ends: the clock moves on to the first Pulon cycle at or after the target. -/
theorem waitResume_due {q : W64} {d : Nat} (hq : (s.core k.idx).waiting = some q) (hd : s.dueTick q = some d) (hpc : (s.core k.idx).pc + 1 < imemWords k.idx) :
    s.waitResume k.idx = (s.advanceTo ((max d (s.core k.idx).readyAt + 3) / 4 * 4)).setCore k.idx
      { s.core k.idx with waiting := none, c := false, pc := (s.core k.idx).pc + 1, readyAt := (max d (s.core k.idx).readyAt + 3) / 4 * 4 } := by
  have hc : ∀ t, (s.advanceTo t).core k.idx = s.core k.idx := fun t => by rw [State.core, advanceTo_cores]; rfl
  unfold waitResume
  rw [hq]
  dsimp only
  rw [hd]
  dsimp only
  rw [if_neg (Nat.ne_of_lt hpc), modCore, hc]
  exact overrunCheck_in _ (by rw [core_setCore_same]; exact Nat.ne_of_lt hpc)

theorem gives_waitResume {q : W64} {d : Nat} (hn : Normal s) (hq : (s.core k.idx).waiting = some q) (hd : s.dueTick q = some d) (hpc : (s.core k.idx).pc + 1 < imemWords k.idx) :
    ∃ r, r % 4 = 0 ∧ max d (s.core k.idx).readyAt ≤ r ∧ r < max d (s.core k.idx).readyAt + 4 ∧
      Gives (.waitResume k) s (fun t => CoreOnly k s t ∧ t.now = max s.now r ∧
        t.core k.idx = { s.core k.idx with waiting := none, c := false, pc := (s.core k.idx).pc + 1, readyAt := r }) := by
  refine ⟨(max d (s.core k.idx).readyAt + 3) / 4 * 4, by omega, by omega, by omega, gives_running (f := fun u => u.waitResume k.idx) rfl hn (waitResume_due hq hd hpc) ?_ ⟨?_, ?_, ?_⟩⟩
  · exact congrArg HkSt.shdn (advanceTo_hk s _)
  · exact coreOnly_settle (frame_setCore_advanceTo s _ _ _) fun j hj => by rw [core_setCore_other _ _ hj, State.core, advanceTo_cores]; rfl
  · rw [settle_readOn_now]
    exact advanceTo_now s _
  · rw [settle_readOn_core, core_setCore_same]

/-- Settles O12: the tick in which a WAIT is judged is one of its eight, and a due wait ends in the first Pulon cycle after it. -/
theorem waitAndResume : Obligations.WaitAndResume := by
  intro k y s p reached goes waits
  refine ⟨fun h => ⟨fun hr => ?_, fun hr => ?_, ?_⟩, fun q d hq hd hn hpc => gives_waitResume hn hq hd hpc⟩
  · exact retires_wait_reached h (hr _ Config.waitTick.isLt)
  · exact retires_wait_suspends h (hr _ Config.waitTick.isLt)
  · by_cases hr : reachedAt s k p Config.waitTick.toNat
    · exact .inl (retires_wait_reached h hr)
    · exact .inr (retires_wait_suspends h hr)

end Sys2Proof.Machine
end

section
/-! Loads from and stores into a core's own data memory (R89, R112). -/

namespace Sys2Proof.Machine

open R State

/-! ## Numbers in memory -/

theorem Memory.num_succ (m : List Host.Cell) (a n : Nat) : Memory.num m a (n + 1) = (Memory.byte m a).toNat + 256 * Memory.num m (a + 1) n := rfl

theorem Memory.num_lt (m : List Host.Cell) : ∀ n a, Memory.num m a n < 256 ^ n
  | 0, _ => Nat.zero_lt_one
  | n + 1, a => by
    have h := num_lt m n (a + 1)
    have hb := (Memory.byte m a).isLt
    rw [num_succ, Nat.pow_succ]
    omega

/-- A number without its `i` low bytes is the number that starts `i` bytes further up. -/
theorem Memory.num_div (m : List Host.Cell) (n : Nat) : ∀ i a, Memory.num m a (i + n) / 256 ^ i = Memory.num m (a + i) n
  | 0, a => by rw [Nat.zero_add, Nat.pow_zero, Nat.div_one, Nat.add_zero]
  | i + 1, a => by
    have hb := (Memory.byte m a).isLt
    have hd : Memory.num m a (i + 1 + n) / 256 = Memory.num m (a + 1) (i + n) := by
      rw [show i + 1 + n = i + n + 1 by omega, num_succ]
      omega
    rw [Nat.pow_succ', ← Nat.div_div_eq_div_mul, hd, num_div m n i (a + 1), Nat.add_assoc, Nat.add_comm 1 i]

/-- The low bytes of a number are the number of those bytes. -/
theorem Memory.num_mod (m : List Host.Cell) (r : Nat) : ∀ n a, Memory.num m a (n + r) % 256 ^ n = Memory.num m a n
  | 0, a => by rw [Nat.pow_zero, Nat.mod_one]; rfl
  | n + 1, a => by
    have hb := (Memory.byte m a).isLt
    have ih := num_mod m r n (a + 1)
    have hd : ((Memory.byte m a).toNat + 256 * Memory.num m (a + 1) (n + r)) / 256 = Memory.num m (a + 1) (n + r) := by omega
    rw [show n + 1 + r = n + r + 1 by omega, num_succ, num_succ, ← ih, Nat.pow_succ', Nat.mod_mul, hd]
    omega

/-- The bytes `i` to `i + n` of the word at `a`. -/
theorem Memory.num_part (m : List Host.Cell) (a : Nat) {i n : Nat} (h : i + n ≤ 4) : Memory.num m a 4 / 256 ^ i % 256 ^ n = Memory.num m (a + i) n := by
  obtain ⟨r, hr⟩ := Nat.exists_eq_add_of_le h
  rw [hr, Nat.add_assoc, num_div, num_mod]

/-- What the statement calls the number of a core's own bytes. -/
theorem ownNum_eq (s : State) (k : Core) : ∀ n a, s.ownNum k a n = Memory.num s.dmem (coreBase k.idx + a) n
  | 0, _ => rfl
  | n + 1, a => by
    have shift : ∀ l : List Nat, l.foldr (fun j r => (s.ownByte k (a + (j + 1))).toNat * 256 ^ (j + 1) + r) 0 =
        256 * l.foldr (fun j r => (s.ownByte k (a + 1 + j)).toNat * 256 ^ j + r) 0 := fun l => by
      induction l with
      | nil => rfl
      | cons j l ih => rw [List.foldr_cons, List.foldr_cons, ih, Nat.add_assoc a 1 j, Nat.add_comm 1 j, Nat.pow_succ]; ring
    have ih := ownNum_eq s k n (a + 1)
    unfold ownNum at ih ⊢
    rw [List.range_succ_eq_map, List.foldr_cons, List.foldr_map, shift, ih, Memory.num_succ, Nat.pow_zero, Nat.mul_one, Nat.add_zero, ← Nat.add_assoc (coreBase k.idx) a 1, ownByte]

/-- The number that a store of `n` bytes leaves, byte by byte. -/
theorem leBytes_getElem? : ∀ (n i v : Nat), i < n → (leBytes n v)[i]? = some (BitVec.ofNat 8 (v / 256 ^ i))
  | n + 1, 0, v, _ => by rw [Nat.pow_zero, Nat.div_one]; rfl
  | n + 1, i + 1, v, h => by
    rw [Nat.pow_succ', ← Nat.div_div_eq_div_mul]
    exact leBytes_getElem? n i (v / 256) (Nat.lt_of_succ_lt_succ h)

theorem storesAt_setNum {k : Core} {s t : State} {a n v : Nat} (h : t.dmem = Memory.setNum s.dmem (coreBase k.idx + a) n v) : StoresAt k a n v s t := by
  intro x
  rw [h]
  split
  next hx =>
    have hi : x = coreBase k.idx + a + (x - (coreBase k.idx + a)) := by omega
    conv_lhs => rw [hi]
    exact Memory.byte_setBytes_inside _ _ _ _ _ (leBytes_getElem? n _ v (by omega))
  next hx => exact Memory.byte_setNum_outside _ _ _ _ _ (by omega)

/-! ## Accesses to the own memory -/

/-- An instruction whose effect changes its core alone. -/
theorem retires_coreEffect {k : Core} {i : Instr} {n : Nat} {s u : State} {eff : Nat → State → State} {f : CoreSt → CoreSt} (h : Issues k i s) (hn : 0 < n)
    (he : exec i s = commit (s.pulon k i n eff)) (hf : eff (s.issueTick k.idx n) (s.issued k n) = u) (hu : u = { s.issued k n with cores := u.cores })
    (ho : ∀ j, j ≠ k.idx → u.core j = (s.issued k n).core j) (hc : u.core k.idx = f (s.movedCore k n)) (hpc : (f (s.movedCore k n)).pc ≠ imemWords k.idx)
    (hhalt : (f (s.movedCore k n)).halting = false) : Retires k i n s f := by
  have hfr : u = { s with cores := u.cores, now := u.now, wall := u.wall } := by
    rw [hu, issued_frame]
  refine gives_pulon h he hf (hc ▸ hpc) (hc ▸ hhalt) (by rw [hfr]) ⟨coreOnly_settle hfr fun j hj => (ho j hj).trans (issued_core_other s k n hj), ?_, ?_⟩
  · rw [settle_readOn_now, hu]
    exact issued_now s k hn
  · rw [settle_readOn_core, hc]

section
variable {k : Core} {i : Instr} {d a : RegNo} {x : LocNo} {imm : BitVec 16} {s : State} {e n v : Nat}

theorem not_inHost_of_own (h : e < dmemBytes k.idx) : inHost e = false := by
  have hd : dmemBytes k.idx ≤ 0x1000_0000 := by cases k <;> decide
  simp only [inHost, Bool.and_eq_false_iff, decide_eq_false_iff_not]
  omega

theorem accessCycles_notHost (h : inHost e = false) : accessCycles e = 2 := by simp [accessCycles, h]

theorem not_awaits_notHost (w : Bool) (h : inHost e = false) : s.awaits k e w = false := by simp [awaits, h]

/-- Outside host space an address reads its own word or zero, with no access. -/
theorem loadWord_notHost (u : State) (h : inHost e = false) :
    u.loadWord k e = (u, if e < dmemBytes k.idx then BitVec.ofNat 32 (Memory.num u.dmem (coreBase k.idx + e / 4 * 4) 4) else 0#32) := by
  unfold loadWord inOwn
  by_cases ho : e < dmemBytes k.idx
  · simp [ho]
  · simp [ho, h]

/-- The part of its own word that a load takes. -/
theorem ownPart (hn : n = 4 ∨ n = 2 ∨ n = 1) (s : State) (k : Core) (e : Nat) :
    (BitVec.ofNat 32 (Memory.num s.dmem (coreBase k.idx + e / 4 * 4) 4)).toNat / 256 ^ (e % 4 / n * n) % 256 ^ n = s.ownNum k (e / n * n) n := by
  have hp : e % 4 / n * n + n ≤ 4 ∧ e / 4 * 4 + e % 4 / n * n = e / n * n := by rcases hn with rfl | rfl | rfl <;> omega
  rw [BitVec.toNat_ofNat, Nat.mod_eq_of_lt (show _ < 2 ^ 32 from Memory.num_lt s.dmem 4 _), Memory.num_part _ _ hp.1, Nat.add_assoc, hp.2, ownNum_eq]

/-- The three loads outside host space. -/
theorem exec_load_notHost (hk : i = .ldw k d a imm ∧ n = 4 ∨ i = .ldh k d a imm ∧ n = 2 ∨ i = .ldb k d a imm ∧ n = 1) (hs : s.effAddr k.idx a imm = e) (hi : inHost e = false) :
    exec i s = commit (s.pulon k i 2 (fun _ u =>
      let x := u.loadWord k (u.effAddr k.idx a imm)
      loadTo k d (x.1, if n = 4 then x.2 else BitVec.ofNat 32 (x.2.toNat / 2 ^ (8 * (u.effAddr k.idx a imm % 4 / n * n)) % 2 ^ (8 * n))) (u.effAddr k.idx a imm) n)) := by
  have hw := not_awaits_notHost (s := s) (k := k) false hi
  have hc := accessCycles_notHost hi
  rcases hk with ⟨rfl, rfl⟩ | ⟨rfl, rfl⟩ | ⟨rfl, rfl⟩
  · refine (show _ = execLdw k d a imm s from rfl).trans ?_
    rw [execLdw, hs, State.access, hw, hc]; rfl
  · refine (show _ = execLdh k d a imm s from rfl).trans ?_
    rw [execLdh, hs, State.access, hw, hc]; rfl
  · refine (show _ = execLdb k d a imm s from rfl).trans ?_
    rw [execLdb, hs, State.access, hw, hc]; rfl

theorem noteClaim_notHost (u : State) (hi : inHost e = false) : u.noteClaim k e n d = u := by simp [noteClaim, hi]

theorem retires_load_notHost (hk : i = .ldw k d a imm ∧ n = 4 ∨ i = .ldh k d a imm ∧ n = 2 ∨ i = .ldb k d a imm ∧ n = 1) (h : Issues k i s) (hs : s.effAddr k.idx a imm = e)
    (hi : inHost e = false) : Retires k i 2 s (fun y => y.putW d (BitVec.ofNat 32 (if e < dmemBytes k.idx then s.ownNum k (e / n * n) n else 0))) := by
  have hn : n = 4 ∨ n = 2 ∨ n = 1 := by tauto
  obtain ⟨-, -, hpc, -, hhalt⟩ := id h
  have hv : (if e < dmemBytes k.idx then BitVec.ofNat 32 (Memory.num s.dmem (coreBase k.idx + e / 4 * 4) 4) else 0#32).toNat / 256 ^ (e % 4 / n * n) % 256 ^ n =
      if e < dmemBytes k.idx then s.ownNum k (e / n * n) n else 0 := by
    split
    · exact ownPart hn s k e
    · simp
  refine retires_coreEffect h (by decide) (exec_load_notHost hk hs hi)
    (u := (s.issued k 2).wr k.idx d (BitVec.ofNat 32 (if e < dmemBytes k.idx then s.ownNum k (e / n * n) n else 0))) ?_ (wr_frame _ _ _ _)
    (fun j hj => core_wr_other _ _ _ hj) ((core_wr_same _ _ _ _).trans (by rw [issued_core])) ?_ ?_
  · dsimp only
    rw [issued_effAddr, hs, loadWord_notHost _ hi, issued_dmem, loadPart_value hn, hv, loadTo, noteClaim_notHost _ hi]
  · rw [(putW_pc _ _ _).1]; exact Nat.ne_of_lt hpc
  · rw [(putW_pc _ _ _).2]; exact hhalt

/-- LDL loads its own 64 bits, or zero. -/
theorem retires_ldl (h : Issues k (.ldl k x a imm) s) (hs : s.effAddr k.idx a imm = e) :
    Retires k (.ldl k x a imm) 2 s (fun y => y.putL x (if e < dmemBytes k.idx then BitVec.ofNat 64 (s.ownNum k (e / 8 * 8) 8) else 0#64)) := by
  obtain ⟨-, -, hpc, -, hhalt⟩ := id h
  refine retires_of h (by decide) (show _ = execLdl k x a imm s from rfl) ?_ (Nat.ne_of_lt hpc) hhalt
  rw [issued_effAddr, hs, loadLocus, issued_dmem, ownNum_eq, setLoc, modCore, issued_core]
  simp [inOwn, CoreSt.putL]

/-- What the four stores have in common: an own store of `n` bytes, and outside the own memory nothing. -/
theorem exec_store (hk : i = .stw k d a imm ∧ n = 4 ∧ v = (s.rd k.idx d).toNat ∨ i = .sth k d a imm ∧ n = 2 ∧ v = (s.rd k.idx d).toNat ∨
      i = .stb k d a imm ∧ n = 1 ∧ v = (s.rd k.idx d).toNat ∨ i = .stl k x a imm ∧ n = 8 ∧ v = (s.loc k.idx x).toNat)
    (hs : s.effAddr k.idx a imm = e) (hi : inHost e = false ∨ n = 8) :
    ∃ eff, exec i s = commit (s.pulon k i 2 eff) ∧ ∀ t, eff t (s.issued k 2) = if e < dmemBytes k.idx then (s.issued k 2).storeOwn k.idx e n v else s.issued k 2 := by
  rcases hk with ⟨rfl, rfl, rfl⟩ | ⟨rfl, rfl, rfl⟩ | ⟨rfl, rfl, rfl⟩ | ⟨rfl, rfl, rfl⟩
  · have hi : inHost e = false := hi.resolve_right (by decide)
    refine ⟨fun _ u => u.storeWord k (u.effAddr k.idx a imm) (u.rd k.idx d), (show _ = execStw k d a imm s from rfl).trans ?_, fun t => ?_⟩
    · rw [execStw, hs, State.access, not_awaits_notHost _ hi, accessCycles_notHost hi]; rfl
    · simp [storeWord, inOwn, hs, hi]
  · have hi : inHost e = false := hi.resolve_right (by decide)
    refine ⟨fun _ u => u.storePart k (u.effAddr k.idx a imm) 2 (u.rd k.idx d), (show _ = execSth k d a imm s from rfl).trans ?_, fun t => ?_⟩
    · rw [execSth, hs, accessCycles_notHost hi]
    · simp [storePart, inOwn, hs, hi]
  · have hi : inHost e = false := hi.resolve_right (by decide)
    refine ⟨fun _ u => u.storePart k (u.effAddr k.idx a imm) 1 (u.rd k.idx d), (show _ = execStb k d a imm s from rfl).trans ?_, fun t => ?_⟩
    · rw [execStb, hs, accessCycles_notHost hi]
    · simp [storePart, inOwn, hs, hi]
  · refine ⟨fun _ u => u.storeLocus k.idx (u.effAddr k.idx a imm) (u.loc k.idx x), rfl, fun t => ?_⟩
    simp [storeLocus, inOwn, hs]

/-- A store that names no writable byte changes none. -/
theorem retires_store_nothing {eff : Nat → State → State} (h : Issues k i s) (he : exec i s = commit (s.pulon k i 2 eff)) (hf : ∀ t, eff t (s.issued k 2) = s.issued k 2) :
    Retires k i 2 s id := by
  obtain ⟨-, -, hpc, -, hhalt⟩ := id h
  exact retires_coreEffect h (by decide) he (hf _) rfl (fun _ _ => rfl) (issued_core s k 2) (Nat.ne_of_lt hpc) hhalt

theorem issued_ownWritable (s : State) (k : Core) (m j b : Nat) : (s.issued k m).ownWritable j b = s.ownWritable j b := by rw [issued_frame]; rfl

/-- An own store: the bytes, the core and the time. -/
theorem gives_ownStore {eff : Nat → State → State} (h : Issues k i s) (he : exec i s = commit (s.pulon k i 2 eff))
    (hf : ∀ t, eff t (s.issued k 2) = (s.issued k 2).storeOwn k.idx e n v) (hw : s.ownWritable k.idx (e / n * n) = true) :
    Gives i s (fun t => t = { s with cores := t.cores, dmem := t.dmem, now := t.now, wall := t.wall, intc := t.intc, lines := t.lines } ∧ Follows s t ∧
      StoresAt k (e / n * n) n v s t ∧ t.core k.idx = s.movedCore k 2 ∧ ∀ j, j ≠ k.idx → t.core j = s.core j) := by
  obtain ⟨-, -, hpc, -, hhalt⟩ := id h
  have hc := issued_core s k 2
  have hu : (s.issued k 2).storeOwn k.idx e n v = { s.issued k 2 with dmem := Memory.setNum s.dmem (coreBase k.idx + e / n * n) n v } := by
    rw [storeOwn, issued_ownWritable, if_pos hw, issued_dmem]
  have hm : ({ s.issued k 2 with dmem := Memory.setNum s.dmem (coreBase k.idx + e / n * n) n v } : State).core k.idx = s.movedCore k 2 := hc
  refine gives_pulon h he ((hf _).trans hu) ?_ ?_ ?_ ⟨?_, follows_settle (issued_intc s k 2) (issued_lines s k 2), storesAt_setNum ?_, ?_, fun j hj => ?_⟩
  · rw [hm]; exact Nat.ne_of_lt hpc
  · rw [hm]; exact hhalt
  · exact congrArg HkSt.shdn (issued_hk s k 2)
  · rw [settle_readOn_frame]
    generalize State.intc _ = p
    generalize State.lines _ = q
    conv_lhs => rw [issued_frame]
  · rw [settle_readOn_frame]
  · rw [settle_readOn_core]; exact hc
  · rw [settle_readOn_core]
    exact issued_core_other s k 2 hj

end

/-- Settles O5: a load takes the bytes at its aligned own address or zero; a store writes them there, outside an SQ core's constant region. -/
theorem ownMemory : Obligations.OwnMemory := by
  refine ⟨fun k d a x imm s e he => ⟨fun ho => ?_, fun ho hi => ?_, fun ho h => ?_⟩, fun k i d a x imm s e n v he hk h => ⟨fun ho hc => ?_, fun hq ho hc => ?_, fun ho hi => ?_⟩⟩
  · have hs := effAddr_eq he
    have hi := not_inHost_of_own ho
    have load : ∀ {i n}, (i = .ldw k d a imm ∧ n = 4 ∨ i = .ldh k d a imm ∧ n = 2 ∨ i = .ldb k d a imm ∧ n = 1) → Issues k i s →
        Retires k i 2 s (fun y => y.putW d (BitVec.ofNat 32 (s.ownNum k (e / n * n) n))) := fun hk h => by
      have := retires_load_notHost hk h hs hi
      rwa [if_pos ho] at this
    refine ⟨load (.inl ⟨rfl, rfl⟩), load (.inr (.inl ⟨rfl, rfl⟩)), fun h => ?_, fun h => ?_⟩
    · have := load (.inr (.inr ⟨rfl, rfl⟩)) h
      rwa [Nat.div_one, Nat.mul_one] at this
    · have := retires_ldl h hs
      rwa [if_pos ho] at this
  · have load : ∀ {i n}, (i = .ldw k d a imm ∧ n = 4 ∨ i = .ldh k d a imm ∧ n = 2 ∨ i = .ldb k d a imm ∧ n = 1) → Issues k i s →
        Retires k i 2 s (fun y => y.putW d 0#32) := fun hk h => by
      have := retires_load_notHost hk h (effAddr_eq he) hi
      rwa [if_neg (Nat.not_lt.mpr ho)] at this
    exact ⟨load (.inl ⟨rfl, rfl⟩), load (.inr (.inl ⟨rfl, rfl⟩)), load (.inr (.inr ⟨rfl, rfl⟩))⟩
  · have := retires_ldl h (effAddr_eq he)
    rwa [if_neg (Nat.not_lt.mpr ho)] at this
  · obtain ⟨eff, hx, hf⟩ := exec_store hk (effAddr_eq he) (.inl (not_inHost_of_own ho))
    have hle : e / n * n < dmemBytes k.idx := Nat.lt_of_le_of_lt (Nat.div_mul_le_self e n) ho
    refine gives_ownStore h hx (fun t => (hf t).trans (if_pos ho)) ?_
    simp only [ownWritable, inOwn, decide_eq_true hle, idx_lt_four, Bool.true_and, Bool.not_eq_true', Bool.and_eq_false_iff, decide_eq_false_iff_not]
    exact or_iff_not_imp_left.mpr fun hq => Nat.not_lt.mpr (hc (not_not.mp hq))
  · obtain ⟨eff, hx, hf⟩ := exec_store hk (effAddr_eq he) (.inl (not_inHost_of_own ho))
    refine retires_store_nothing h hx fun t => (hf t).trans ((if_pos ho).trans (if_neg ?_))
    rw [issued_ownWritable]
    simp [ownWritable, idx_lt_four, hq, hc]
  · obtain ⟨eff, hx, hf⟩ := exec_store hk (effAddr_eq he) hi
    exact retires_store_nothing h hx fun t => (hf t).trans (if_neg (Nat.not_lt.mpr ho))

end Sys2Proof.Machine
end

section
/-! Transfers that leave the instruction memory (R83, R96, R114). -/

namespace Sys2Proof.Machine

open R State

/-- `u` is `s` at the last tick of an instruction of `n` cycles of core `k`, whose part is `y`. -/
structure IssuedAs (s : State) (k : Core) (n : Nat) (y : CoreSt) (u : State) : Prop where
  frame : ∃ c, u = { s.issued k n with cores := c }
  others : ∀ j, j ≠ k.idx → u.core j = s.core j
  core : u.core k.idx = y

namespace IssuedAs

variable {s u : State} {k : Core} {n : Nat} {y : CoreSt}

theorem regs (h : IssuedAs s k n y u) : u.regs = s.regs := by
  obtain ⟨c, rfl⟩ := h.frame
  exact issued_regs s k n

theorem streams (h : IssuedAs s k n y u) : u.streams = s.streams := by
  obtain ⟨c, rfl⟩ := h.frame
  exact (congrArg State.streams (issued_frame s k n)).trans rfl

theorem hk (h : IssuedAs s k n y u) : u.hk = s.hk := by
  obtain ⟨c, rfl⟩ := h.frame
  exact issued_hk s k n

theorem ofIssued (s : State) (k : Core) (n : Nat) : IssuedAs s k n (s.movedCore k n) (s.issued k n) :=
  ⟨⟨_, rfl⟩, fun _ hj => issued_core_other s k n hj, issued_core s k n⟩

theorem wr (h : IssuedAs s k n y u) (d : RegNo) (v : W32) : IssuedAs s k n (y.putW d v) (u.wr k.idx d v) := by
  refine ⟨?_, fun j hj => (core_wr_other u d v hj).trans (h.others j hj), (core_wr_same u k.idx d v).trans (by rw [h.core])⟩
  obtain ⟨c, rfl⟩ := h.frame
  exact ⟨_, wr_frame _ _ _ _⟩

theorem modCore (h : IssuedAs s k n y u) (g : CoreSt → CoreSt) : IssuedAs s k n (g y) (u.modCore k.idx g) := by
  refine ⟨?_, fun j hj => (core_modCore_other u g hj).trans (h.others j hj), (core_modCore_same u k.idx g).trans (by rw [h.core])⟩
  obtain ⟨c, rfl⟩ := h.frame
  exact ⟨_, rfl⟩

end IssuedAs

/-- An instruction whose effect changes its core and registers of the list `l`. -/
theorem retiresRegs_of {k : Core} {i : Instr} {n : Nat} {s u : State} {eff : Nat → State → State} {f : CoreSt → CoreSt} {l : List Nat} {P : State → Prop}
    (h : Issues k i s) (hn : 0 < n) (he : exec i s = commit (s.pulon k i n eff)) (hf : eff (s.issueTick k.idx n) (s.issued k n) = u)
    (hu : ∃ r c, u = { s.issued k n with regs := r, cores := c }) (ho : ∀ j, j ≠ k.idx → u.core j = s.core j) (hc : u.core k.idx = f (s.movedCore k n))
    (hpc : (f (s.movedCore k n)).pc ≠ imemWords k.idx) (hhalt : (f (s.movedCore k n)).halting = false) (hreg : ∀ a, a ∉ l → u.reg a = s.reg a)
    (hp : ∀ t : State, t.regs = u.regs → P t) : RetiresRegs k i n l s f P := by
  obtain ⟨r, c, hu⟩ := hu
  have hi : u.intc = s.intc := by rw [hu]; exact issued_intc s k n
  have hl : u.lines = s.lines := by rw [hu]; exact issued_lines s k n
  refine gives_pulon h he hf (hc ▸ hpc) (hc ▸ hhalt) ?_ ⟨?_, follows_settle hi hl, fun j hj => ?_, fun a ha => ?_, ?_, ?_, hp _ ?_⟩
  · rw [hu]
    exact congrArg HkSt.shdn (issued_hk s k n)
  · rw [settle_readOn_frame]
    generalize State.intc _ = p
    generalize State.lines _ = q
    subst hu
    conv_lhs => rw [issued_frame]
  · rw [settle_readOn_core, ho j hj]
  · rw [settle_readOn_reg, hreg a ha]
  · rw [settle_readOn_now, hu]
    exact issued_now s k hn
  · rw [settle_readOn_core, hc]
  · rw [settle_readOn_frame]

/-! ## The transfers -/

theorem condHolds_eq (x : CoreSt) (c : BitVec 4) : condHolds x c = x.holds c := by
  obtain ⟨⟨n, hn⟩⟩ := c
  interval_cases n <;> rfl

section
variable (k : Core) (i : Instr) (s : State) (c : BitVec 4) (a d : RegNo) (off : BitVec 22)

/-- Instruction `i` of core `k` is a taken transfer whose target lies outside the instruction memory. -/
def LeavesMemory : Prop :=
  (i = .br k c off ∧ (s.core k.idx).holds c = true ∨ i = .call k off ∨ i = .dbnz k d off ∧ (s.rd k.idx d).toNat ≠ 1) ∧
      ((s.core k.idx).pc + 1 + off.toInt < 0 ∨ (imemWords k.idx : Int) ≤ (s.core k.idx).pc + 1 + off.toInt) ∨
    (i = .jr k a ∨ i = .callr k a) ∧ imemWords k.idx ≤ (s.rd k.idx a).toNat

/-- CALL and CALLR write W15. -/
def linkedCore (y : CoreSt) : CoreSt := if i = .call k off ∨ i = .callr k a then y.putW 15#4 (BitVec.ofNat 32 ((s.core k.idx).pc + 1)) else y

end

section
variable {k : Core} {i : Instr} {s u : State} {c : BitVec 4} {a d : RegNo} {off : BitVec 22}

/-- What linking leaves of a core but its registers. -/
theorem linkedCore_eq (y : CoreSt) : linkedCore k i s a off y = { y with w := (linkedCore k i s a off y).w } := by
  unfold linkedCore CoreSt.putW
  split
  · split <;> rfl
  · rfl

/-- A transfer out of the memory by the instruction before the present PC faults there. -/
theorem jumpTo_out {g : Int} {n : Nat} {y : CoreSt} (hu : IssuedAs s k n y u) (hy : y.pc = (s.core k.idx).pc + 1) (hg : g < 0 ∨ (imemWords k.idx : Int) ≤ g) :
    u.jumpTo k.idx g = u.coreFault k.idx true (s.core k.idx).pc := by
  unfold jumpTo
  rw [if_pos hg, hu.core, hy, Nat.add_sub_cancel]

theorem issued_linkNext (s : State) (k : Core) (n : Nat) :
    IssuedAs s k n ((s.movedCore k n).putW 15#4 (BitVec.ofNat 32 ((s.core k.idx).pc + 1))) ((s.issued k n).linkNext k.idx) := by
  have h := (IssuedAs.ofIssued s k n).wr 15#4 (BitVec.ofNat 32 ((s.core k.idx).pc + 1))
  rw [linkNext, issued_core]
  exact h

theorem issued_relTarget (s : State) (k : Core) (n : Nat) : (s.issued k n).relTarget k.idx off = (s.core k.idx).pc + 1 + off.toInt := by
  rw [relTarget, issued_core]
  rfl

theorem linkNext_relTarget (s : State) (k : Core) (n : Nat) : ((s.issued k n).linkNext k.idx).relTarget k.idx off = (s.core k.idx).pc + 1 + off.toInt := by
  rw [relTarget, (issued_linkNext s k n).core, (putW_pc _ _ _).1]
  rfl

/-- A taken transfer out of the memory is a fault at the transfer, W15 written before where the transfer links. -/
theorem exec_leavesMemory (h : LeavesMemory k i s c a d off) : ∃ eff u, exec i s = commit (s.pulon k i 2 eff) ∧
    eff (s.issueTick k.idx 2) (s.issued k 2) = u.coreFault k.idx true (s.core k.idx).pc ∧ IssuedAs s k 2 (linkedCore k i s a off (s.movedCore k 2)) u := by
  have h0 := IssuedAs.ofIssued s k 2
  have hl := issued_linkNext s k 2
  have hlpc : ((s.movedCore k 2).putW 15#4 (BitVec.ofNat 32 ((s.core k.idx).pc + 1))).pc = (s.core k.idx).pc + 1 := (putW_pc _ _ _).1
  rcases h with ⟨⟨rfl, hc⟩ | rfl | ⟨rfl, hd⟩, hg⟩ | ⟨rfl | rfl, hg⟩
  · refine ⟨_, s.issued k 2, rfl, ?_, by simpa [linkedCore] using h0⟩
    have hc' : (s.movedCore k 2).holds c = true := hc
    rw [issued_core, condHolds_eq, if_pos hc', issued_relTarget, jumpTo_out h0 rfl hg]
  · refine ⟨_, (s.issued k 2).linkNext k.idx, rfl, ?_, by simpa [linkedCore] using hl⟩
    rw [issued_relTarget, jumpTo_out hl hlpc hg]
  · refine ⟨_, s.issued k 2, rfl, ?_, by simpa [linkedCore] using h0⟩
    have hv : s.rd k.idx d - 1#32 ≠ 0#32 := fun e => hd (by bv_omega)
    have ho : State.overruns k.idx ((s.core k.idx).pc + 1 + off.toInt) = true := by
      rw [State.overruns, Bool.or_eq_true, decide_eq_true_iff, decide_eq_true_iff]
      exact hg
    dsimp only
    rw [issued_rd, if_neg hv, issued_relTarget, if_pos ho, jumpTo_out h0 rfl hg]
  · refine ⟨_, s.issued k 2, rfl, ?_, by simpa [linkedCore] using h0⟩
    rw [issued_rd, jumpTo_out h0 rfl (.inr (Int.ofNat_le.mpr hg))]
  · refine ⟨_, (s.issued k 2).linkNext k.idx, rfl, ?_, by simpa [linkedCore] using hl⟩
    rw [issued_rd, jumpTo_out hl hlpc (.inr (Int.ofNat_le.mpr hg))]

end

/-! ## The fault of SUP -/

section
variable {i : Instr} {n cause pc : Nat} {s u : State} {y : CoreSt} {eff : Nat → State → State} {f : CoreSt → CoreSt}

/-- What SUP's fault record holds: the index in its 15 bits, and the cause. -/
theorem num_supFault_record (u : State) (hc : cause < 65536) : (u.setNum PSC_SUP_FAULT (pc % 2 ^ 15 * 65536 + cause)).num PSC_SUP_FAULT = pc % 2 ^ 15 * 65536 + cause := by
  rw [num_setNum_same, Nat.mod_eq_of_lt]
  omega

/-- A first fault of SUP: its handler is entered. -/
theorem supFault_first (hb : u.bit PSC_SUP_STAT_in_fault = false) : u.supFault cause pc =
    ((u.setNum PSC_SUP_FAULT (pc % 2 ^ 15 * 65536 + cause)).setBit PSC_SUP_STAT_in_fault).modCore 4 (fun x =>
      { x with epc := pc, eflags := (u.core 4).flags, ie := false, pc := u.get PSC_SUP_VEC_fvec, waiting := none }) := by
  have h : (u.setNum PSC_SUP_FAULT (pc % 2 ^ 15 * 65536 + cause)).bit PSC_SUP_STAT_in_fault = false := (bit_eq_of_reg 0 (reg_setNum_other _ _ (by decide))).trans hb
  unfold supFault
  dsimp only
  rw [h, if_neg (by decide), get_eq_of_reg (f := PSC_SUP_VEC_fvec) (reg_setNum_other _ _ (by decide))]
  rfl

/-- A second fault of SUP halts it. -/
theorem supFault_second (hb : u.bit PSC_SUP_STAT_in_fault = true) : u.supFault cause pc =
    (((u.setNum PSC_SUP_FAULT (pc % 2 ^ 15 * 65536 + cause)).setBit PSC_SUP_STAT_halted).setBit PSC_EVT_sup_fault).modCore 4 (fun x => { x with waiting := none }) := by
  have h : (u.setNum PSC_SUP_FAULT (pc % 2 ^ 15 * 65536 + cause)).bit PSC_SUP_STAT_in_fault = true := (bit_eq_of_reg 0 (reg_setNum_other _ _ (by decide))).trans hb
  unfold supFault
  dsimp only
  rw [h, if_pos rfl]

/-- Registers changed, and then the core, of an issued state. -/
theorem IssuedAs.withRegs {k : Core} {v : State} (h : IssuedAs s k n y u) (hv : ∃ r, v = { u with regs := r }) (g : CoreSt → CoreSt) :
    (∃ r c, v.modCore k.idx g = { s.issued k n with regs := r, cores := c }) ∧
      (∀ j, j ≠ k.idx → (v.modCore k.idx g).core j = s.core j) ∧ (v.modCore k.idx g).core k.idx = g y := by
  obtain ⟨r, hr⟩ := hv
  have hcore : ∀ j, v.core j = u.core j := fun j => by rw [hr]; rfl
  refine ⟨?_, fun j hj => ?_, ?_⟩
  · obtain ⟨c, hc⟩ := h.frame
    rw [hr, hc]
    exact ⟨r, _, rfl⟩
  · rw [core_modCore_other _ _ hj, hcore, h.others j hj]
  · rw [core_modCore_same, hcore, h.core]

theorem setBit_regs (u : State) (f : Field) (i : Nat) : ∃ r, u.setBit f i = { u with regs := r } := by
  rw [setBit]
  split
  · exact ⟨u.regs, rfl⟩
  · exact ⟨_, rfl⟩

theorem setNum_setBit_regs (u : State) (a v : Nat) (f : Field) (i : Nat) : ∃ r, (u.setNum a v).setBit f i = { u with regs := r } := setBit_regs (u.setNum a v) f i

theorem setNum_setBits_regs (u : State) (a v : Nat) (f g : Field) (i j : Nat) : ∃ r, ((u.setNum a v).setBit f i).setBit g j = { u with regs := r } := by
  obtain ⟨r, hr⟩ := setNum_setBit_regs u a v f i
  rw [hr]
  exact setBit_regs { u with regs := r } g j

/-- An instruction of SUP that faults for the first time enters the fault handler, after what it did to its core. -/
theorem retires_supFault_first (h : Issues .sup i s) (hn : 0 < n) (he : exec i s = commit (s.pulon .sup i n eff))
    (hf : eff (s.issueTick 4 n) (s.issued .sup n) = u.supFault cause pc) (hu : IssuedAs s .sup n (f (s.movedCore .sup n)) u) (hc : cause < 65536)
    (hb : s.bit PSC_SUP_STAT_in_fault = false) (hv : s.get PSC_SUP_VEC_fvec ≠ imemWords 4) (hhalt : (f (s.movedCore .sup n)).halting = false) :
    RetiresRegs .sup i n [PSC_SUP_FAULT, PSC_SUP_STAT] s
      (fun x => { f x with epc := pc, eflags := (f x).flags, ie := false, pc := s.get PSC_SUP_VEC_fvec, waiting := none })
      (fun t => t.num PSC_SUP_FAULT = pc % 2 ^ 15 * 65536 + cause ∧ t.reg PSC_SUP_STAT = orBit (s.reg PSC_SUP_STAT) PSC_SUP_STAT_in_fault 0) := by
  have hr : ∀ a, u.reg a = s.reg a := reg_eq_of_regs hu.regs
  have hx := supFault_first (cause := cause) (pc := pc) ((bit_eq_of_reg 0 (hr _)).trans hb)
  rw [get_eq_of_reg (f := PSC_SUP_VEC_fvec) (hr _), show u.core 4 = _ from hu.core] at hx
  obtain ⟨h1, h2, h3⟩ := hu.withRegs (setNum_setBit_regs u PSC_SUP_FAULT (pc % 2 ^ 15 * 65536 + cause) PSC_SUP_STAT_in_fault 0) (fun x =>
    { x with epc := pc, eflags := (f (s.movedCore .sup n)).flags, ie := false, pc := s.get PSC_SUP_VEC_fvec, waiting := none })
  refine retiresRegs_of h hn he (hf.trans hx) h1 h2 h3 hv hhalt (fun a ha => ?_) fun t ht => ⟨?_, ?_⟩
  · obtain ⟨ha1, ha2⟩ : a ≠ PSC_SUP_FAULT ∧ a ≠ PSC_SUP_STAT := by simpa using ha
    exact (reg_setBit_other _ _ _ ha2).trans ((reg_setNum_other _ _ ha1).trans (hr a))
  · rw [num, reg_eq_of_regs ht]
    exact (congrArg BitVec.toNat (reg_setBit_other _ _ _ (by decide))).trans (num_supFault_record u hc)
  · rw [reg_eq_of_regs ht]
    refine (reg_setBit_same _ PSC_SUP_STAT_in_fault 0 (by decide) (by decide)).trans ?_
    rw [show (u.setNum PSC_SUP_FAULT (pc % 2 ^ 15 * 65536 + cause)).reg PSC_SUP_STAT_in_fault.addr = s.reg PSC_SUP_STAT from (reg_setNum_other _ _ (by decide)).trans (hr _)]

/-- An instruction of SUP that faults while a fault is handled halts it, after what it did to its core. -/
theorem retires_supFault_second (h : Issues .sup i s) (hn : 0 < n) (he : exec i s = commit (s.pulon .sup i n eff))
    (hf : eff (s.issueTick 4 n) (s.issued .sup n) = u.supFault cause pc) (hu : IssuedAs s .sup n (f (s.movedCore .sup n)) u) (hc : cause < 65536)
    (hb : s.bit PSC_SUP_STAT_in_fault = true) (hpc : (f (s.movedCore .sup n)).pc ≠ imemWords 4) (hhalt : (f (s.movedCore .sup n)).halting = false) :
    RetiresRegs .sup i n [PSC_SUP_FAULT, PSC_SUP_STAT, PSC_EVT] s (fun x => { f x with waiting := none })
      (fun t => t.num PSC_SUP_FAULT = pc % 2 ^ 15 * 65536 + cause ∧ t.reg PSC_SUP_STAT = orBit (s.reg PSC_SUP_STAT) PSC_SUP_STAT_halted 0 ∧
        t.reg PSC_EVT = orBit (s.reg PSC_EVT) PSC_EVT_sup_fault 0) := by
  have hr : ∀ a, u.reg a = s.reg a := reg_eq_of_regs hu.regs
  have hx := supFault_second (cause := cause) (pc := pc) ((bit_eq_of_reg 0 (hr _)).trans hb)
  obtain ⟨h1, h2, h3⟩ := hu.withRegs (setNum_setBits_regs u PSC_SUP_FAULT (pc % 2 ^ 15 * 65536 + cause) PSC_SUP_STAT_halted PSC_EVT_sup_fault 0 0)
    (fun x => { x with waiting := none })
  refine retiresRegs_of h hn he (hf.trans hx) h1 h2 h3 hpc hhalt (fun a ha => ?_) fun t ht => ⟨?_, ?_, ?_⟩
  · obtain ⟨ha1, ha2, ha3⟩ : a ≠ PSC_SUP_FAULT ∧ a ≠ PSC_SUP_STAT ∧ a ≠ PSC_EVT := by simpa using ha
    exact (reg_setBit_other _ _ _ ha3).trans ((reg_setBit_other _ _ _ ha2).trans ((reg_setNum_other _ _ ha1).trans (hr a)))
  · rw [num, reg_eq_of_regs ht]
    exact (congrArg BitVec.toNat ((reg_setBit_other _ _ _ (by decide)).trans (reg_setBit_other _ _ _ (by decide)))).trans (num_supFault_record u hc)
  · rw [reg_eq_of_regs ht]
    refine (reg_setBit_other _ _ _ (by decide)).trans ((reg_setBit_same _ PSC_SUP_STAT_halted 0 (by decide) (by decide)).trans ?_)
    rw [show (u.setNum PSC_SUP_FAULT (pc % 2 ^ 15 * 65536 + cause)).reg PSC_SUP_STAT_halted.addr = s.reg PSC_SUP_STAT from (reg_setNum_other _ _ (by decide)).trans (hr _)]
  · rw [reg_eq_of_regs ht]
    refine (reg_setBit_same _ PSC_EVT_sup_fault 0 (by decide) (by decide)).trans ?_
    rw [show ((u.setNum PSC_SUP_FAULT (pc % 2 ^ 15 * 65536 + cause)).setBit PSC_SUP_STAT_halted).reg PSC_EVT_sup_fault.addr = s.reg PSC_EVT from
      (reg_setBit_other _ _ _ (by decide)).trans ((reg_setNum_other _ _ (by decide)).trans (hr _))]

end

/-! ## The fault of an SQ core -/

/-- What a port's fence leaves of its core: neither queue nor wait nor a halt to come. -/
theorem core_portFence {s : State} {q cause : Nat} (hq : q < 4) (hs : s.sqState q ≠ 3) (hn : (s.stream q).writing = false) :
    (s.portFence q cause).core q = { s.core q with queue := [], waiting := none, halting := false } := by
  have hf : s.fenceFrame q = s := if_neg (by simp [hn])
  obtain ⟨w, hw, hu⟩ := pscFence_apart s hq cause (s.core q).pc
  have hu' : (s.pscFence q cause (s.core q).pc).core q = { s.core q with queue := [], waiting := none, halting := false } := by rw [hu, core_modCore_same, hw.core]
  rw [portFence, if_neg hs, hf]
  exact ((judged_metJudge _).apart.core q).trans (((apart_modFacetMen (l := []) _ q _).core q).trans
    (((shutter_ffAbort hq _).core q).trans (((apart_portFenceFpp _ hq).core q).trans hu')))

section
variable {k : Core} {i : Instr} {n cause : Nat} {s u : State} {y : CoreSt} {eff : Nat → State → State}

theorem idx_lt_four_of_isSq (hk : k.isSq = true) : k.idx < 4 := (idx_lt_four k).mpr hk

/-- A core that executes is not FENCED. -/
theorem sqState_executing (hk : k.idx < 4) (h : s.executing k = true) : s.sqState k.idx = 2 := by
  simp only [executing, Bool.and_eq_true, coreRuns, if_pos hk, beq_iff_eq] at h
  exact h.1.2

/-- An instruction of an SQ core that faults at `pc` fences the port, after what it did to its core. -/
theorem gives_sqFault {P : State → Prop} {b : Bool} {pc : Nat} (hk : k.idx < 4) (h : Issues k i s) (he : exec i s = commit (s.pulon k i n eff))
    (hf : eff (s.issueTick k.idx n) (s.issued k n) = u.coreFault k.idx b pc) (hu : IssuedAs s k n y u) (hpc : pc < imemWords k.idx)
    (hw : (s.stream k.idx).writing = false)
    (hp : ∀ t, PortFenced k.idx (if b then 3 else 2) (u.modCore k.idx (fun x => { x with pc := pc })) t →
      t.core k.idx = { y with pc := pc, queue := [], waiting := none, halting := false } → P (s.readOn t).settle) : Gives i s P := by
  have hm := hu.modCore (fun x => { x with pc := pc })
  have hst : (u.modCore k.idx (fun x => { x with pc := pc })).sqState k.idx ≠ 3 := by
    rw [sqState, get_eq_of_reg (f := PSC_SQ_STAT_state k.idx) (reg_eq_of_regs hm.regs _)]
    exact fun e => absurd ((sqState_executing hk h.1).symm.trans e) (by decide)
  have hwr : ((u.modCore k.idx (fun x => { x with pc := pc })).stream k.idx).writing = false := by rw [stream, hm.streams]; exact hw
  have hfen := portFence_spec (cause := if b then 3 else 2) hk (by split <;> decide) hst hwr
  have hcore := core_portFence (cause := if b then 3 else 2) hk hst hwr
  rw [hm.core] at hcore
  refine gives_pulon h he (hf.trans (if_pos hk)) ?_ ?_ ?_ (hp _ hfen hcore)
  · rw [hcore]; exact Nat.ne_of_lt hpc
  · rw [hcore]
  · rw [hfen.shdn, hm.hk]

end

theorem idx_ofPort (q : Port) : (Core.ofPort q).idx = q := by revert q; decide

/-- A taken transfer of SUP out of its memory. -/
theorem sup_leavesMemory {i : Instr} {s : State} {c : BitVec 4} {a d : RegNo} {off : BitVec 22} (hl : LeavesMemory .sup i s c a d off) (h : Issues .sup i s)
    (hv : s.get PSC_SUP_VEC_fvec ≠ imemWords 4) :
    (s.bit PSC_SUP_STAT_in_fault = false → RetiresRegs .sup i 2 [PSC_SUP_FAULT, PSC_SUP_STAT] s
      (fun y => { linkedCore .sup i s a off y with epc := (s.core 4).pc, eflags := y.flags, ie := false, pc := s.get PSC_SUP_VEC_fvec, waiting := none })
      (fun t => t.num PSC_SUP_FAULT = (s.core 4).pc % 2 ^ 15 * 65536 + 2 ∧ t.reg PSC_SUP_STAT = orBit (s.reg PSC_SUP_STAT) PSC_SUP_STAT_in_fault 0)) ∧
    (s.bit PSC_SUP_STAT_in_fault = true → RetiresRegs .sup i 2 [PSC_SUP_FAULT, PSC_SUP_STAT, PSC_EVT] s (fun y => { linkedCore .sup i s a off y with waiting := none })
      (fun t => t.num PSC_SUP_FAULT = (s.core 4).pc % 2 ^ 15 * 65536 + 2 ∧ t.reg PSC_SUP_STAT = orBit (s.reg PSC_SUP_STAT) PSC_SUP_STAT_halted 0 ∧
        t.reg PSC_EVT = orBit (s.reg PSC_EVT) PSC_EVT_sup_fault 0)) := by
  obtain ⟨eff, u, he, hf, hu⟩ := exec_leavesMemory hl
  obtain ⟨-, -, hpc, -, hhalt⟩ := id h
  have hh : (linkedCore .sup i s a off (s.movedCore .sup 2)).halting = false := by rw [linkedCore_eq]; exact hhalt
  have hp : (linkedCore .sup i s a off (s.movedCore .sup 2)).pc ≠ imemWords 4 := by rw [linkedCore_eq]; exact Nat.ne_of_lt hpc
  have hflags : ∀ y, (linkedCore .sup i s a off y).flags = y.flags := fun y => by rw [linkedCore_eq]; rfl
  refine ⟨fun hb => ?_, fun hb => retires_supFault_second (f := linkedCore .sup i s a off) h (by decide) he hf hu (by decide) hb hp hh⟩
  have := retires_supFault_first (cause := 2) (f := linkedCore .sup i s a off) h (by decide) he hf hu (by decide) hb hv hh
  simp only [hflags] at this
  exact this

/-- A taken transfer of an SQ core out of its memory. -/
theorem sq_leavesMemory {k : Core} {i : Instr} {s : State} {c : BitVec 4} {a d : RegNo} {off : BitVec 22} (hk : k.idx < 4) (hl : LeavesMemory k i s c a d off) (h : Issues k i s)
    (hw : (s.stream k.idx).writing = false) :
    Gives i s (fun t => t.sqState k.idx = 3 ∧ t.num (PSC_SQ_CAUSE k.idx) = (s.core k.idx).pc % 4096 * 65536 + 3 ∧ t.bit PSC_EVT_fenced k.idx = true ∧ (t.core k.idx).queue = [] ∧
      (i = .dbnz k d off → ∀ r, t.rd k.idx r = s.rd k.idx r) ∧ t.bit (FPP_STAT_fenced k.idx) = true ∧ t.bit (FPP_CTL_live k.idx) = false) := by
  obtain ⟨eff, u, he, hf, hu⟩ := exec_leavesMemory hl
  obtain ⟨-, -, hpc, -, -⟩ := id h
  refine gives_sqFault hk h he hf hu (Nat.lt_of_succ_lt hpc) hw fun t ht hcore => ⟨?_, ?_, ?_, ?_, fun hi r => ?_, ?_, ?_⟩
  · rw [sqState, settle_readOn_get]; exact ht.state
  · rw [settle_readOn_num, ht.record, core_modCore_same]; rfl
  · rw [settle_readOn_bit]; exact ht.event
  · rw [settle_readOn_core]; exact ht.queue
  · subst hi
    have hl : linkedCore k (.dbnz k d off) s a off (s.movedCore k 2) = s.movedCore k 2 := by simp [linkedCore]
    rw [rd, settle_readOn_core, hcore, hl]
    rfl
  · rw [settle_readOn_bit]; exact ht.fenced
  · rw [settle_readOn_bit]; exact ht.live

/-- Settles O8: a taken transfer out of the memory faults at the transfer, which enters SUP's handler or halts it, and fences an SQ core. -/
theorem branchOverruns : Obligations.BranchOverruns := by
  refine ⟨fun i s c a d off hl h hv => sup_leavesMemory hl h hv, fun q i s c a d off => ?_⟩
  intro k
  have hk : k.idx = q := idx_ofPort q
  have hq := q.isLt
  clear_value k
  intro hl h hw
  rw [← hk] at hl hw hq ⊢
  exact sq_leavesMemory hq hl h hw

end Sys2Proof.Machine
end

section
/-! Interrupt entries and illegal words (R82, R83, R96, R108). -/

namespace Sys2Proof.Machine

open R State

/-- `u` is `s` but for the time and core `k`, whose part is `y`. -/
structure MovedOn (s : State) (k : Nat) (y : CoreSt) (u : State) : Prop where
  frame : ∃ c n w, u = { s with cores := c, now := n, wall := w }
  others : ∀ j, j ≠ k → u.core j = s.core j
  core : u.core k = y

namespace MovedOn

variable {s u : State} {k : Nat} {y : CoreSt}

theorem regs (h : MovedOn s k y u) : u.regs = s.regs := by
  obtain ⟨c, n, w, rfl⟩ := h.frame
  rfl

theorem hk (h : MovedOn s k y u) : u.hk = s.hk := by
  obtain ⟨c, n, w, rfl⟩ := h.frame
  rfl

theorem streams (h : MovedOn s k y u) : u.streams = s.streams := by
  obtain ⟨c, n, w, rfl⟩ := h.frame
  rfl

theorem variantM (h : MovedOn s k y u) : u.variantM = s.variantM := by
  obtain ⟨c, n, w, rfl⟩ := h.frame
  rfl

theorem modCore (h : MovedOn s k y u) (g : CoreSt → CoreSt) : MovedOn s k (g y) (u.modCore k g) := by
  refine ⟨?_, fun j hj => (core_modCore_other u g hj).trans (h.others j hj), (core_modCore_same u k g).trans (by rw [h.core])⟩
  obtain ⟨c, n, w, rfl⟩ := h.frame
  exact ⟨_, n, w, rfl⟩

theorem advanceTo (s : State) (k t : Nat) : MovedOn s k (s.core k) (s.advanceTo t) := by
  have hc : ∀ j, (s.advanceTo t).core j = s.core j := fun j => by rw [State.core, advanceTo_cores]; rfl
  refine ⟨?_, fun j _ => hc j, hc k⟩
  unfold State.advanceTo
  split
  · exact ⟨_, _, _, rfl⟩
  · exact ⟨_, _, _, rfl⟩

end MovedOn

/-- The clock after a move of a core and on to a tick that is not past. -/
theorem modCore_advanceTo_now {s : State} {t : Nat} (h : s.now ≤ t) (k : Nat) (g : CoreSt → CoreSt) : ((s.advanceTo t).modCore k g).now = t := by
  show (s.advanceTo t).now = t
  rw [advanceTo_now]
  exact Nat.max_eq_right h

theorem flagsWord_eq (x : CoreSt) : flagsWord x = x.flags := rfl

/-! ## Interrupts -/

section
variable {s : State} {r : Nat}

/-- The part of a core that takes an interrupt at tick `r` and goes on at `pc`. -/
def enteredCore (x : CoreSt) (pc r : Nat) : CoreSt := { x with epc := x.pc, eflags := x.flags, ie := false, pc := pc, waiting := none, readyAt := r }

/-- The state in which core `k` has taken an interrupt, its controller apart. -/
def State.entered (s : State) (k pc r : Nat) : State := (s.advanceTo r).modCore k (fun x => enteredCore x pc r)

theorem entered_movedOn (s : State) (k pc r : Nat) : MovedOn s k (enteredCore (s.core k) pc r) (s.entered k pc r) :=
  (MovedOn.advanceTo s k r).modCore (fun x => enteredCore x pc r)

theorem boundaryTick_eq {k : Nat} (h4 : r % 4 = 0) (hle : max s.now (s.core k).readyAt ≤ r) (hlt : r < max s.now (s.core k).readyAt + 4) : s.boundaryTick k = r := by
  unfold boundaryTick
  omega

theorem interruptEntry_sup (hb : s.boundaryTick 4 = r) (hr : s.running = true) (hh : s.bit PSC_SUP_STAT_halted = false) (hie : (s.core 4).ie = true)
    (hq : s.requesting 3 = true) : s.interruptEntry .sup = s.readOn ((s.entered 4 (s.get PSC_SUP_VEC_ivec) r).setBit PSC_SUP_STAT_in_irq) := by
  subst hb
  refine if_pos ?_
  have hc : s.coreRuns 4 = true := by simp [coreRuns, hh]
  rw [hr, hc, hq, show (s.core Core.sup.idx).ie = true from hie]
  rfl

theorem interruptEntry_met (hb : s.boundaryTick 5 = r) (hr : s.hold = .none ∨ s.hold = .system) (hv : s.variantM = true) (hie : (s.core 5).ie = true) (hq : s.men.sig ≠ 0) :
    s.interruptEntry .met = s.readOn (((s.entered 5 Config.metVector.toNat r).modMen (fun m => { m with sig := 0 })).drawn) := by
  subst hb
  have hc : s.coreRuns 5 = true := by simp [coreRuns, hv]
  have hrun : (s.running || s.hold == .system) = true := by
    rcases hr with h | h <;> simp [running, h]
  have hreq : s.metRequesting = true := by simp [metRequesting, hq]
  refine (if_pos ?_).trans ?_
  · rw [hrun, hc, show (s.core Core.met.idx).ie = true from hie]
    rfl
  · rw [hreq]
    rfl

/-- SUP's entry: the core, the time and PSC_SUP_STAT alone. -/
theorem gives_supInterruptEntry (hb : s.boundaryTick 4 = r) (hn : Normal s) (hle : s.now ≤ r) (hh : s.bit PSC_SUP_STAT_halted = false) (hie : (s.core 4).ie = true)
    (hq : s.requesting 3 = true) : Gives (.supInterruptEntry .sup) s (fun t =>
      t = { s with regs := t.regs, cores := t.cores, now := t.now, wall := t.wall, intc := t.intc, lines := t.lines } ∧ Follows s t ∧
      (t.now = r ∧ (∀ j, j ≠ 4 → t.core j = s.core j) ∧ t.core 4 = enteredCore (s.core 4) (s.get PSC_SUP_VEC_ivec) r) ∧
      t.reg PSC_SUP_STAT = orBit (s.reg PSC_SUP_STAT) PSC_SUP_STAT_in_irq 0 ∧ ∀ a, a ≠ PSC_SUP_STAT → t.reg a = s.reg a) := by
  have hm := entered_movedOn s 4 (s.get PSC_SUP_VEC_ivec) r
  have hnow : (s.entered 4 (s.get PSC_SUP_VEC_ivec) r).now = r := modCore_advanceTo_now hle _ _
  obtain ⟨c, n, w, hu⟩ := hm.frame
  obtain ⟨q, hx⟩ := setBit_regs (s.entered 4 (s.get PSC_SUP_VEC_ivec) r) PSC_SUP_STAT_in_irq 0
  have hreg : ∀ a, (s.entered 4 (s.get PSC_SUP_VEC_ivec) r).reg a = s.reg a := reg_eq_of_regs hm.regs
  have hcore : ∀ j, ((s.entered 4 (s.get PSC_SUP_VEC_ivec) r).setBit PSC_SUP_STAT_in_irq).core j = (s.entered 4 (s.get PSC_SUP_VEC_ivec) r).core j := fun j => by rw [hx]; rfl
  refine gives_of_quiet (t := s.readOn ((s.entered 4 (s.get PSC_SUP_VEC_ivec) r).setBit PSC_SUP_STAT_in_irq))
    (congrArg commit (interruptEntry_sup hb (running_of_normal hn) hh hie hq)) ?_ ⟨?_, follows_settle ?_ ?_, ⟨?_, fun j hj => ?_, ?_⟩, ?_, fun a ha => ?_⟩
  · rw [readOn_hk, hx, show ({ s.entered 4 (s.get PSC_SUP_VEC_ivec) r with regs := q } : State).hk = s.hk from hm.hk]
    exact hn.2
  · rw [settle_readOn_frame]
    generalize State.intc _ = a
    generalize State.lines _ = b
    rw [hx, hu]
  · rw [hx, hu]
  · rw [hx, hu]
  · rw [settle_readOn_now, hx]
    exact hnow
  · rw [settle_readOn_core, hcore, hm.others j hj]
  · rw [settle_readOn_core, hcore, hm.core]
  · rw [settle_readOn_reg, ← hreg PSC_SUP_STAT]
    exact reg_setBit_same _ PSC_SUP_STAT_in_irq 0 (by decide) (by decide)
  · rw [settle_readOn_reg, reg_setBit_other _ _ _ ha, hreg]

/-- MET's entry takes the signals of its own controller. -/
theorem gives_metInterruptEntry (hb : s.boundaryTick 5 = r) (hr : s.hold = .none ∨ s.hold = .system) (hd : s.hk.shdn = none) (hle : s.now ≤ r) (hv : s.variantM = true)
    (hie : (s.core 5).ie = true) (hq : s.men.sig ≠ 0) : Gives (.supInterruptEntry .met) s (fun t =>
      t = { s with men := { s.men with sig := 0 }, freeCtr := t.freeCtr, cores := t.cores, now := t.now, wall := t.wall, intc := t.intc, lines := t.lines } ∧ Follows s t ∧
      ∃ v, t.now = r ∧ (∀ j, j ≠ 5 → t.core j = s.core j) ∧ t.core 5 = enteredCore (s.core 5) v r) := by
  have hm := entered_movedOn s 5 Config.metVector.toNat r
  have hnow : (s.entered 5 Config.metVector.toNat r).now = r := modCore_advanceTo_now hle _ _
  obtain ⟨c, n, w, hu⟩ := hm.frame
  refine gives_of_quiet (congrArg commit (interruptEntry_met hb hr hv hie hq)) ?_ ⟨?_, follows_settle ?_ ?_, Config.metVector.toNat, ?_, fun j hj => ?_, ?_⟩
  · rw [readOn_hk]
    exact (congrArg HkSt.shdn hm.hk).trans hd
  · rw [settle_readOn_frame]
    generalize State.intc _ = a
    generalize State.lines _ = b
    rw [hu]
    rfl
  · rw [hu]; rfl
  · rw [hu]; rfl
  · rw [settle_readOn_now]; exact hnow
  · rw [settle_readOn_core]; exact hm.others j hj
  · rw [settle_readOn_core]; exact hm.core

end

/-! ## Illegal words -/

section
variable {s : State} {k : Core}

/-- The state in which an illegal word has taken its cycle, the fault apart. -/
def State.illegalMoved (s : State) (k : Nat) : State := (s.advanceTo (s.issueTick k 1 + 3)).modCore k (fun x => { x with readyAt := s.issueTick k 1 + 4 })

theorem illegalMoved_movedOn (s : State) (k : Nat) : MovedOn s k { s.core k with readyAt := s.issueTick k 1 + 4 } (s.illegalMoved k) :=
  (MovedOn.advanceTo s k _).modCore (fun x => { x with readyAt := s.issueTick k 1 + 4 })

theorem illegalMoved_now (s : State) (k : Nat) : (s.illegalMoved k).now = s.issueTick k 1 + 3 :=
  modCore_advanceTo_now (s.issueTick_end k Nat.one_pos) _ _

theorem illegal_eq (he : s.executing k = true) (hw : s.hiddenCode k = true ∨ decodePulon k (s.fetchWord k.idx (s.core k.idx).pc) = none) :
    s.illegal k = s.readOn ((s.illegalMoved k.idx).coreFault k.idx false (s.core k.idx).pc) := by
  refine if_pos ?_
  rcases hw with h | h <;> simp [he, h]

/-- What an illegal word comes to is the fault of its core. -/
theorem gives_illegal {u : State} {P : State → Prop} (he : s.executing k = true) (hw : s.hiddenCode k = true ∨ decodePulon k (s.fetchWord k.idx (s.core k.idx).pc) = none)
    (hd : s.hk.shdn = none) (hu : (s.illegalMoved k.idx).coreFault k.idx false (s.core k.idx).pc = u) (hk : u.hk.shdn = s.hk.shdn) (hp : P (s.readOn u).settle) :
    Gives (.illegalInstruction k) s P :=
  gives_of_quiet (congrArg commit ((illegal_eq he hw).trans (congrArg s.readOn hu))) (by rw [readOn_hk, hk]; exact hd) hp

/-- An illegal word on SUP outside its fault handler. -/
theorem gives_illegal_sup (he : s.executing .sup = true) (hw : decodePulon .sup (s.fetchWord 4 (s.core 4).pc) = none) (hd : s.hk.shdn = none)
    (hb : s.bit PSC_SUP_STAT_in_fault = false) : Gives (.illegalInstruction .sup) s (fun t =>
      t = { s with regs := t.regs, cores := t.cores, now := t.now, wall := t.wall, intc := t.intc, lines := t.lines } ∧ Follows s t ∧
      t.now = s.issueTick 4 1 + 3 ∧ t.num PSC_SUP_FAULT = (s.core 4).pc % 2 ^ 15 * 65536 + 1 ∧ t.reg PSC_SUP_STAT = orBit (s.reg PSC_SUP_STAT) PSC_SUP_STAT_in_fault 0 ∧
      (∀ a, a ∉ [PSC_SUP_FAULT, PSC_SUP_STAT] → t.reg a = s.reg a) ∧ (∀ j, j ≠ 4 → t.core j = s.core j) ∧
      t.core 4 = { s.core 4 with epc := (s.core 4).pc, eflags := (s.core 4).flags, ie := false, waiting := none, pc := s.get PSC_SUP_VEC_fvec,
                                 readyAt := s.issueTick 4 1 + 3 + 1 }) := by
  have hm := illegalMoved_movedOn s 4
  have hreg : ∀ a, (s.illegalMoved 4).reg a = s.reg a := reg_eq_of_regs hm.regs
  have hf := supFault_first (cause := 1) (pc := (s.core 4).pc) ((bit_eq_of_reg 0 (hreg _)).trans hb)
  rw [get_eq_of_reg (f := PSC_SUP_VEC_fvec) (hreg _), hm.core] at hf
  obtain ⟨c, n, w, hu⟩ := hm.frame
  obtain ⟨q, hx⟩ := setNum_setBit_regs (s.illegalMoved 4) PSC_SUP_FAULT ((s.core 4).pc % 2 ^ 15 * 65536 + 1) PSC_SUP_STAT_in_fault 0
  refine gives_illegal he (.inr hw) hd hf ?_ ⟨?_, follows_settle ?_ ?_, ?_, ?_, ?_, fun a ha => ?_, fun j hj => ?_, ?_⟩
  · rw [hx, hu]; rfl
  · rw [settle_readOn_frame]
    generalize State.intc _ = a
    generalize State.lines _ = b
    rw [hx, hu]
    rfl
  · rw [hx, hu]; rfl
  · rw [hx, hu]; rfl
  · rw [settle_readOn_now, hx]
    exact illegalMoved_now s 4
  · rw [settle_readOn_num, num]
    exact (congrArg BitVec.toNat (reg_setBit_other _ _ _ (by decide))).trans (num_supFault_record _ (by decide))
  · rw [settle_readOn_reg]
    refine (reg_setBit_same _ PSC_SUP_STAT_in_fault 0 (by decide) (by decide)).trans ?_
    rw [show ((s.illegalMoved 4).setNum PSC_SUP_FAULT ((s.core 4).pc % 2 ^ 15 * 65536 + 1)).reg PSC_SUP_STAT_in_fault.addr = s.reg PSC_SUP_STAT from
      (reg_setNum_other _ _ (by decide)).trans (hreg _)]
  · obtain ⟨ha1, ha2⟩ : a ≠ PSC_SUP_FAULT ∧ a ≠ PSC_SUP_STAT := by simpa using ha
    rw [settle_readOn_reg]
    exact (reg_setBit_other _ _ _ ha2).trans ((reg_setNum_other _ _ ha1).trans (hreg a))
  · rw [settle_readOn_core, core_modCore_other _ _ hj, hx]
    exact hm.others j hj
  · rw [settle_readOn_core, core_modCore_same, hx, show ({ s.illegalMoved 4 with regs := q } : State).core 4 = _ from hm.core]
    rfl

/-- An illegal word on an SQ core. -/
theorem gives_illegal_sq (hq : k.idx < 4) (he : s.executing k = true) (hw : decodePulon k (s.fetchWord k.idx (s.core k.idx).pc) = none) (hd : s.hk.shdn = none)
    (hs : (s.stream k.idx).writing = false) : Gives (.illegalInstruction k) s (fun t => t.now = s.issueTick k.idx 1 + 3 ∧ t.sqState k.idx = 3 ∧
      t.num (PSC_SQ_CAUSE k.idx) = (s.core k.idx).pc % 4096 * 65536 + 2 ∧ t.bit PSC_EVT_fenced k.idx = true ∧ (t.core k.idx).queue = [] ∧ (∀ r, t.rd k.idx r = s.rd k.idx r) ∧
      t.bit (FPP_STAT_fenced k.idx) = true ∧ t.bit (FPP_CTL_live k.idx) = false) := by
  have hm := (illegalMoved_movedOn s k.idx).modCore (fun x => { x with pc := (s.core k.idx).pc })
  have hst : ((s.illegalMoved k.idx).modCore k.idx (fun x => { x with pc := (s.core k.idx).pc })).sqState k.idx ≠ 3 := by
    rw [sqState, get_eq_of_reg (f := PSC_SQ_STAT_state k.idx) (reg_eq_of_regs hm.regs _)]
    exact fun e => absurd ((sqState_executing hq he).symm.trans e) (by decide)
  have hwr : (((s.illegalMoved k.idx).modCore k.idx (fun x => { x with pc := (s.core k.idx).pc })).stream k.idx).writing = false := by
    rw [stream, hm.streams]
    exact hs
  have ht := portFence_spec (cause := 2) hq (by decide) hst hwr
  have hw' : ((((s.illegalMoved k.idx).modCore k.idx (fun x => { x with pc := (s.core k.idx).pc })).portFence k.idx 2).core k.idx).w = (s.core k.idx).w := by
    rw [core_portFence hq hst hwr, hm.core]
  refine gives_illegal he (.inr hw) hd (if_pos hq) (ht.shdn.trans (congrArg HkSt.shdn hm.hk)) ⟨?_, ?_, ?_, ?_, ?_, fun r => ?_, ?_, ?_⟩
  · rw [settle_readOn_now]
    exact ht.now.trans (illegalMoved_now s k.idx)
  · rw [sqState, settle_readOn_get]; exact ht.state
  · rw [settle_readOn_num]
    refine ht.record.trans ?_
    rw [hm.core]
  · rw [settle_readOn_bit]; exact ht.event
  · rw [settle_readOn_core]; exact ht.queue
  · rw [rd, settle_readOn_core]
    exact congrArg (fun l => if r = 0#4 then 0#32 else Map.get (fun _ => 0#32) l r.toNat) hw'
  · rw [settle_readOn_bit]; exact ht.fenced
  · rw [settle_readOn_bit]; exact ht.live

/-! ## The reset of the enclave -/

theorem clearedFields_page : ∀ f ∈ clearedFields, f.addr / 0x1000 = 0x12 := by decide

/-- What a reset of the enclave leaves to the rest of the part. -/
structure OutsideKept (s t : State) : Prop where
  now : t.now = s.now
  dmem : t.dmem = s.dmem
  dram : t.dram = s.dram
  arr : t.nvs.arr = s.nvs.arr
  rasters : t.rasters = s.rasters

theorem outsideKept_enclaveReset (hv : s.variantM = true) : OutsideKept s s.enclaveReset := by
  rw [enclaveReset_eq hv, menClear_eq]
  obtain ⟨r, hr⟩ : ∃ r, s.clearLatches.clearRegs = { s.clearLatches with regs := r } := ⟨_, clearRegs_frame _⟩
  rw [hr]
  exact ⟨rfl, rfl, rfl, rfl, rfl⟩

/-- A reset of the enclave leaves its state register at 0. -/
theorem get_enclaveReset_state (hv : s.variantM = true) : s.enclaveReset.get MEN_STAT_state = 0 := by
  have hbit : MEN_STAT_ident_stale.BitIn 0 [MEN_STAT_ident_stale] := by decide
  have hclr : s.clearLatches.clearRegs.get MEN_STAT_state = 0 := by
    unfold clearRegs
    extract_lets t u
    rw [(wrote_clrBit (u.put MEN_STAT_state 0) hbit).keeps.get (by decide) (by decide), get_put_same _ _ _ (by decide) (by decide)]
    rfl
  rw [enclaveReset_eq hv, menClear_eq]
  exact (get_eq_of_reg (f := MEN_STAT_state) (reg_setNum_other s.clearLatches.clearRegs.clearPrivate _ (by decide))).trans hclr

/-- With MET down every alarm pin stands at its inactive level. -/
theorem malarmLevels_down (h : s.metUp = false) : s.malarmLevels = (List.range 4).foldl (fun m j => m + b2n (s.pinPolarity j) * 2 ^ j) 0 := by
  have hp : ∀ j, s.pinActive j = false := fun j => by rw [pinActive, h, Bool.false_and]
  simp only [malarmLevels, hp, Bool.false_bne]

/-- An illegal word on MET resets the enclave. -/
theorem gives_illegal_met (he : s.executing .met = true) (hd : s.hk.shdn = none) : Gives (.illegalInstruction .met) s (fun t =>
    t.now = s.issueTick 5 1 + 3 ∧ t.metUp = false ∧ t.get MEN_STAT_state = 0 ∧ t.num MEN_RSTCNT = min 0xFFFF (s.num MEN_RSTCNT + 1) ∧
    t.lines.malarm = (List.range 4).foldl (fun m j => m + b2n (t.pinPolarity j) * 2 ^ j) 0 ∧ t.core 5 = { readyAt := s.issueTick 5 1 + 3 } ∧ (∀ j, j ≠ 5 → t.core j = s.core j) ∧
    (∀ a, a / 0x1000 ≠ 0x12 → t.reg a = s.reg a) ∧ t.dmem = s.dmem ∧ t.dram = s.dram ∧ t.nvs.arr = s.nvs.arr ∧ t.rasters = s.rasters) := by
  have hm := illegalMoved_movedOn s 5
  have hv : (s.illegalMoved 5).variantM = true := hm.variantM.trans (Bool.and_eq_true_iff.mp (Bool.and_eq_true_iff.mp he).1).2
  have hc := enclaveCleared_enclaveReset hv
  have ho := outsideKept_enclaveReset hv
  have hreg : ∀ a, (s.illegalMoved 5).reg a = s.reg a := reg_eq_of_regs hm.regs
  have hcores : ∀ j, (s.illegalMoved 5).enclaveReset.core j = if j = 5 then { readyAt := s.issueTick 5 1 + 3 } else s.core j := fun j => by
    rw [State.core, hc.cores, illegalMoved_now]
    split
    next h => rw [h]; exact Map.get_set_same _ _ _ _
    next h => exact (Map.get_set_other _ _ _ h).trans (hm.others j h)
  have hdown : (s.readOn (s.illegalMoved 5).enclaveReset).settle.metUp = false := by rw [metUp, settle_readOn_men, hc.down, Bool.and_false]
  have hf := settle_readOn_frame s (s.illegalMoved 5).enclaveReset
  obtain ⟨c, n, w, hu⟩ := hm.frame
  refine gives_illegal he (.inl rfl) hd rfl (congrArg HkSt.shdn (hc.hk.trans hm.hk)) ⟨?_, hdown, ?_, ?_, ?_, ?_, fun j hj => ?_, fun a ha => ?_, ?_, ?_, ?_, ?_⟩
  · rw [settle_readOn_now]
    exact ho.now.trans (illegalMoved_now s 5)
  · rw [settle_readOn_get]
    exact get_enclaveReset_state hv
  · rw [settle_readOn_num]
    refine (num_enclaveReset_rstcnt hv).trans ?_
    rw [num, hreg]
    rfl
  · exact (settled_settle _).2.2.2.trans (malarmLevels_down hdown)
  · rw [settle_readOn_core]
    exact hcores 5
  · rw [settle_readOn_core]
    exact (hcores j).trans (if_neg hj)
  · rw [settle_readOn_reg]
    exact (hc.keeps.reg fun f hf e => ha (by rw [← e]; exact clearedFields_page f hf)).trans (hreg a)
  · exact (congrArg State.dmem hf).trans (ho.dmem.trans (by rw [hu]))
  · exact (congrArg State.dram hf).trans (ho.dram.trans (by rw [hu]))
  · exact (congrArg (fun t => State.nvs t |>.arr) hf).trans (ho.arr.trans (by rw [hu]))
  · exact (congrArg State.rasters hf).trans (ho.rasters.trans (by rw [hu]))

end

/-- Settles O17: an entry at the boundary keeps the PC and the flags, and an illegal word faults its core as an overrun does. -/
theorem coreTraps : Obligations.CoreTraps := by
  refine ⟨fun s k r h4 hle hlt hd hie => ⟨?_, ?_⟩, fun s k he hw hd => ⟨?_, ?_, ?_⟩⟩
  · rintro rfl hn hs hl hh
    exact gives_supInterruptEntry (boundaryTick_eq h4 hle hlt) ⟨hn, hd⟩ (le_of_max_le_left hle) hh hie (hs.2.2.1.symm.trans hl)
  · rintro rfl hr hv hq
    exact gives_metInterruptEntry (boundaryTick_eq h4 hle hlt) hr hd (le_of_max_le_left hle) hv hie hq
  · rintro rfl - hb
    exact gives_illegal_sup he (hw nofun) hd hb
  · intro q hk hs
    have hi : k.idx = q := hk ▸ idx_ofPort q
    have hm : k ≠ .met := by
      rintro rfl
      have hlt := q.isLt
      rw [← hi] at hlt
      exact absurd hlt (by decide)
    rw [← hi] at hs ⊢
    exact gives_illegal_sq (hi ▸ q.isLt) he (hw hm) hd hs
  · rintro rfl
    exact gives_illegal_met he hd

end Sys2Proof.Machine
end

section
/-! Entries that fire together (R81, R94, R122, R123). -/

namespace Sys2Proof.Machine

open R State

/-! ## Levels -/

/-- The last element that writes a bit decides it. -/
theorem foldl_lastWriter {α β : Type} {obs : β → Bool} {f : β → α → β} {hits val : α → Bool} (h : ∀ x e, obs (f x e) = if hits e then val e else obs x) (l : List α) (x : β) :
    obs (l.foldl f x) = (l.filter hits).getLast?.elim (obs x) val := by
  induction l using List.reverseRecOn with
  | nil => rfl
  | append_singleton l e ih =>
    rw [List.foldl_append, List.foldl_cons, List.foldl_nil, h, List.filter_append]
    cases he : hits e
    · simpa [he] using ih
    · simp [he]

theorem testBit_setLevels (w m : Nat) (b : Bool) {j : Nat} (h : j < 32) : (setLevels w m b).testBit j = if m.testBit j then b else w.testBit j := by
  unfold setLevels
  cases b
  · rw [if_neg Bool.false_ne_true, Nat.testBit_and, Nat.testBit_xor, show 0xFFFF_FFFF = 2 ^ 32 - 1 from rfl, Nat.testBit_two_pow_sub_one, Nat.testBit_mod_two_pow,
      decide_eq_true h]
    cases m.testBit j <;> simp
  · rw [if_pos rfl, Nat.testBit_or]
    cases m.testBit j <;> simp

/-- The bits of a sum of distinct powers of two. -/
theorem testBit_sumPowers (p : Nat → Bool) (n j : Nat) : (((List.range n).filter p).foldl (fun m i => m + 2 ^ i) 0).testBit j = (decide (j < n) && p j) := by
  induction n generalizing j with
  | zero => simp
  | succ n ih =>
    rw [List.range_succ, List.filter_append, List.foldl_append]
    cases hp : p n
    · rw [List.filter_cons_of_neg (by simp [hp]), List.filter_nil, List.foldl_nil, ih]
      by_cases hj : j = n
      · simp [hj, hp]
      · rw [show decide (j < n + 1) = decide (j < n) from decide_eq_decide.mpr (by omega)]
    · rw [List.filter_cons_of_pos hp, List.filter_nil, List.foldl_cons, List.foldl_nil, testBit_add_two_pow (by rw [ih]; simp), ih]
      by_cases hj : j = n
      · simp [hj, hp]
      · rw [show decide (j < n + 1) = decide (j < n) from decide_eq_decide.mpr (by omega), decide_eq_false (Ne.symm hj), Bool.or_false]

/-- The pins that an entry of SUP sets: those of its mask that are in the timed-output function. -/
theorem testBit_timedPins (s : State) (m : Nat) {j : Nat} (h : j < 32) : (s.timedPins m).testBit j = (m.testBit j && decide (s.get (GPIO_FUN_func j) = 3)) := by
  rw [timedPins, testBit_sumPowers, decide_eq_true h, Bool.true_and, Bool.decide_and, Nat.testBit_eq_decide_div_mod_eq]

/-! ## One entry -/

/-- The strobe run that an entry begins at tick `t`. -/
def bornRun (t : Nat) (e : QEntry) : Run :=
  { kind := bitsOf e.mask 11 8, left := bitsOf e.mask 7 0 + 1, slot := locSlot e.target, tick := locTick e.target, bornAt := t, done := 0 }

/-- A port after an entry of its core fires. -/
def firePort (t : Nat) (x : PortSt) (e : QEntry) : PortSt :=
  match e.kind with
  | .edge => { x with lvl := setLevels x.lvl (e.mask.toNat % 4096) e.lvl }
  | .strobe => { x with runs := x.runs ++ [bornRun t e] }

/-- The timed-output levels after an entry of SUP fires. -/
def firePins (s : State) (w : W32) (e : QEntry) : W32 := BitVec.ofNat 32 (setLevels w.toNat (s.timedPins e.mask.toNat) e.lvl)

theorem fireEntry_sq (s : State) {k : Nat} (hk : k < 4) (t : Nat) (e : QEntry) : s.fireEntry k t e = s.modPort k (fun x => firePort t x e) := by
  unfold fireEntry firePort
  rw [if_pos hk]
  cases e.kind <;> rfl

theorem lvl_firePort (t : Nat) {j : Nat} (h : j < 12) (x : PortSt) (e : QEntry) :
    (firePort t x e).lvl.testBit j = if e.kind == .edge && e.mask.getLsbD j then e.lvl else x.lvl.testBit j := by
  unfold firePort
  cases e.kind
  · show (setLevels x.lvl (e.mask.toNat % 4096) e.lvl).testBit j = _
    rw [testBit_setLevels _ _ _ (by omega), show 4096 = 2 ^ 12 from rfl, Nat.testBit_mod_two_pow, decide_eq_true h, Bool.true_and]
    rfl
  · rfl

theorem runs_foldl_firePort (t : Nat) (l : List QEntry) : ∀ x : PortSt, (l.foldl (firePort t) x).runs = x.runs ++ (l.filter (fun e => e.kind == .strobe)).map (bornRun t) := by
  induction l with
  | nil => exact fun x => (List.append_nil _).symm
  | cons e l ih =>
    intro x
    rw [List.foldl_cons, ih, firePort]
    cases h : e.kind
    · rw [List.filter_cons_of_neg (by rw [h]; decide)]
    · rw [List.filter_cons_of_pos (by rw [h]; rfl), List.map_cons]
      exact List.append_assoc _ _ _

theorem bitOf_firePins (s : State) {j : Nat} (h : j < 32) (w : W32) (e : QEntry) :
    bitOf (firePins s w e) j = if e.mask.getLsbD j && decide (s.get (GPIO_FUN_func j) = 3) then e.lvl else bitOf w j := by
  have hb : ∀ v : W32, bitOf v j = v.toNat.testBit j := fun v => by rw [Nat.testBit_eq_decide_div_mod_eq]; rfl
  rw [hb, hb, firePins, BitVec.toNat_ofNat, Nat.testBit_mod_two_pow, decide_eq_true h, Bool.true_and, testBit_setLevels _ _ _ h, testBit_timedPins s _ h]
  rfl

/-! ## All that are due -/

/-- Entries that fire leave all but the ports and the timed outputs. -/
theorem foldl_fireEntry_frame (k t : Nat) (l : List QEntry) : ∀ s : State, ∃ p x, l.foldl (fun s e => s.fireEntry k t e) s = { s with ports := p, sio := x } := by
  induction l with
  | nil => exact fun s => ⟨s.ports, s.sio, rfl⟩
  | cons e l ih =>
    intro s
    obtain ⟨p, x, h⟩ := ih (s.fireEntry k t e)
    refine ⟨p, x, h.trans ?_⟩
    by_cases hk : k < 4
    · rw [fireEntry_sq s hk]; rfl
    · rw [fireEntry, if_neg hk]

theorem port_foldl_fireEntry {k : Nat} (hk : k < 4) (t : Nat) (l : List QEntry) (s : State) :
    (l.foldl (fun s e => s.fireEntry k t e) s).port k = l.foldl (firePort t) (s.port k) :=
  (List.foldl_hom (fun s : State => s.port k) fun s e => by rw [fireEntry_sq s hk, port_modPort_same]).symm

theorem timed_foldl_fireEntry {k : Nat} (hk : ¬ k < 4) (t : Nat) (l : List QEntry) : ∀ s : State,
    (l.foldl (fun s e => s.fireEntry k t e) s).sio.timed = l.foldl (firePins s) s.sio.timed := by
  induction l with
  | nil => exact fun _ => rfl
  | cons e l ih =>
    intro s
    rw [List.foldl_cons, ih, fireEntry, if_neg hk]
    rfl

/-- The earliest due tick of a list of entries. -/
theorem foldl_firstDue {α : Type} {g : α → Option Nat} {d : Nat} (l : List α) : ∀ o : Option Nat, (o = some d ∨ ∃ e ∈ l, g e = some d) → (∀ m, o = some m → d ≤ m) →
    (∀ e ∈ l, ∀ x, g e = some x → d ≤ x) →
    l.foldl (fun o e => match g e, o with | some d, some m => some (min d m) | some d, none => some d | none, o => o) o = some d := by
  induction l with
  | nil => exact fun o ho _ _ => ho.resolve_right (by simp)
  | cons e l ih =>
    intro o ho hm hl
    rw [List.foldl_cons]
    have hle := fun x hx => hl e List.mem_cons_self x hx
    refine ih _ ?_ ?_ fun e he => hl e (List.mem_cons_of_mem _ he)
    · cases hg : g e with
      | none =>
        refine ho.imp id fun ⟨e', he', hd⟩ => ⟨e', (List.mem_cons.mp he').resolve_left fun h => ?_, hd⟩
        rw [h, hg] at hd
        cases hd
      | some x =>
        have hdx := hle x hg
        cases o with
        | none =>
          obtain ⟨e', he', hd⟩ := ho.resolve_left nofun
          rcases List.mem_cons.mp he' with rfl | he'
          · exact .inl (hg.symm.trans hd)
          · exact .inr ⟨e', he', hd⟩
        | some m =>
          have hdm := hm m rfl
          rcases ho with h | ⟨e', he', hd⟩
          · cases h
            exact .inl (congrArg some (Nat.min_eq_right hdx))
          · rcases List.mem_cons.mp he' with rfl | he'
            · cases hg.symm.trans hd
              exact .inl (congrArg some (Nat.min_eq_left hdm))
            · exact .inr ⟨e', he', hd⟩
    · intro m h
      cases hg : g e with
      | none => rw [hg] at h; exact hm m h
      | some x =>
        have hdx := hle x hg
        rw [hg] at h
        cases o with
        | none => cases h; exact hdx
        | some m' => cases h; exact Nat.le_min.mpr ⟨hdx, hm m' rfl⟩

theorem firstDue_eq {s : State} {k d : Nat} (he : ∃ e ∈ (s.core k).queue, s.dueTick e.target = some d)
    (hle : ∀ e ∈ (s.core k).queue, ∀ x, s.dueTick e.target = some x → d ≤ x) : s.firstDue k = some d :=
  foldl_firstDue (α := QEntry) (g := fun e => s.dueTick e.target) (s.core k).queue none (.inr he) (fun _ h => nomatch h) hle

section
variable {s : State} {k d : Nat}

/-- The entry is due at tick `d`. -/
def dueAt (s : State) (d : Nat) (e : QEntry) : Bool := decide (s.dueTick e.target = some d)

/-- The state in which the due entries have left the queue and are yet to fire. -/
def dequeued (s : State) (k d : Nat) : State := (s.advanceTo d).modCore k (fun x =>
  { x with queue := x.queue.filter (fun e => !dueAt s d e), wdCnt := if k < 4 then 0 else x.wdCnt })

theorem edgeEntryFire_eq (h : s.firstDue k = some d) :
    s.edgeEntryFire k = ((s.core k).queue.filter (dueAt s d)).foldl (fun s e => s.fireEntry k d e) (dequeued s k d) := by
  have hb : (fun e : QEntry => s.dueTick e.target == some d) = dueAt s d := funext fun e => beq_eq_decide _ _
  unfold edgeEntryFire dequeued
  rw [h]
  dsimp only
  rw [hb]
  simp only [beq_eq_decide]
  rfl

theorem filter_filter_due (p : QEntry → Bool) (q : List QEntry) : (q.filter (dueAt s d)).filter p = q.filter (fun e => dueAt s d e && p e) := by
  rw [List.filter_filter]
  exact List.filter_congr fun e _ => Bool.and_comm _ _

end

/-- Settles O18: the entries due first leave the queue together, and of those that write an output the one committed last decides it. -/
theorem entriesFire : Obligations.EntriesFire := by
  intro k s d hk hn q due he hle last
  have hfirst := firstDue_eq he hle
  have hm : MovedOn s k.idx _ (dequeued s k.idx d) := (MovedOn.advanceTo s k.idx d).modCore _
  obtain ⟨c, n, w, hu⟩ := hm.frame
  have hports : (dequeued s k.idx d).ports = s.ports := by rw [hu]
  have hsio : (dequeued s k.idx d).sio = s.sio := by rw [hu]
  have hx := edgeEntryFire_eq hfirst
  obtain ⟨p, x, hfr⟩ := foldl_fireEntry_frame k.idx d (q.filter (dueAt s d)) (dequeued s k.idx d)
  have hset := settle_readOn_frame s (s.edgeEntryFire k.idx)
  have hport : (s.edgeEntryFire k.idx).port k.idx = _ := congrArg (fun t => State.port t k.idx) hx
  have hlast : ∀ j, ((q.filter (dueAt s d)).filter (fun e => e.kind == .edge && e.mask.getLsbD j)).getLast? = last j := fun j => by
    rw [filter_filter_due]
    simp only [last, Bool.and_assoc]
    rfl
  refine gives_running (f := fun s => s.edgeEntryFire k.idx) rfl hn rfl ?_ ⟨?_, ?_, fun j hj => ?_, ?_, fun hsq j hj => ?_, fun hsq => ?_, fun hsup hedge j hj => ?_⟩
  · rw [hx, hfr]
    exact congrArg HkSt.shdn hm.hk
  · rw [settle_readOn_now, hx, hfr]
    exact advanceTo_now s d
  · rw [settle_readOn_core, hx, hfr]
    exact congrArg CoreSt.queue hm.core
  · rw [settle_readOn_core, hx, hfr]
    exact hm.others j hj
  · rw [settle_regs, readOn_regs, hx, hfr]
    exact hm.regs
  · have hq := (idx_lt_four k).mpr hsq
    have hbit := foldl_lastWriter (obs := fun x : PortSt => x.lvl.testBit j) (lvl_firePort d hj) (q.filter (dueAt s d)) (s.port k.idx)
    rw [hlast, Nat.testBit_eq_decide_div_mod_eq, Nat.testBit_eq_decide_div_mod_eq] at hbit
    rw [hset]
    show ((s.edgeEntryFire k.idx).port k.idx).lvl / 2 ^ j % 2 = 1 ↔ _
    rw [hx, port_foldl_fireEntry hq, port, hports, ← decide_eq_true_iff (p := _ / 2 ^ j % 2 = 1)]
    refine (Bool.eq_iff_iff.mp hbit).trans ?_
    cases last j with
    | none => exact decide_eq_true_iff
    | some e => exact Iff.rfl
  · have hq := (idx_lt_four k).mpr hsq
    rw [hset]
    show ((s.edgeEntryFire k.idx).port k.idx).runs = _
    rw [hx, port_foldl_fireEntry hq, runs_foldl_firePort, port, hports, filter_filter_due]
    rfl
  · have hq : ¬ k.idx < 4 := by rw [hsup]; decide
    have hfun : (dequeued s k.idx d).get (GPIO_FUN_func j) = s.get (GPIO_FUN_func j) := get_eq_of_reg (reg_eq_of_regs hm.regs _)
    rw [hset]
    show bitOf (s.edgeEntryFire k.idx).sio.timed j = _
    rw [hx, timed_foldl_fireEntry hq, foldl_lastWriter (obs := fun w => bitOf w j) (bitOf_firePins (dequeued s k.idx d) hj), hfun, hsio]
    by_cases h3 : s.get (GPIO_FUN_func j) = 3
    · have hf : (q.filter (dueAt s d)).filter (fun e => e.mask.getLsbD j && decide (s.get (GPIO_FUN_func j) = 3)) =
          (q.filter (dueAt s d)).filter (fun e => e.kind == .edge && e.mask.getLsbD j) := List.filter_congr fun e he => by
        rw [hedge e (List.mem_of_mem_filter he), decide_eq_true h3, Bool.and_true]
        rfl
      rw [hf, hlast]
      cases last j with
      | none => rfl
      | some e => exact (if_pos h3).symm
    · rw [decide_eq_false h3]
      simp only [Bool.and_false, List.filter_false, List.getLast?_nil, Option.elim_none]
      cases last j with
      | none => rfl
      | some e => exact (if_neg h3).symm

end Sys2Proof.Machine
end

section
/-! Semaphores and signals (R92, R99, R127). -/

namespace Sys2Proof.Machine

open R State

/-! ## A bit cleared and a bit written -/

theorem bit_eq_testBit (s : State) (f : Field) (i : Nat) : s.bit f i = (decide (i < f.hi - f.lo + 1) && (s.reg f.addr).toNat.testBit (f.lo + i)) := by
  rw [← bitsOf_testBit, Nat.testBit_eq_decide_div_mod_eq]
  rfl

/-- A cleared bit of a field in its register's word. -/
theorem reg_clrBit_same (s : State) (f : Field) (i : Nat) (h32 : f.hi < 32) (hi : f.lo + i ≤ f.hi) : (s.clrBit f i).reg f.addr = offBit (s.reg f.addr) f i := by
  have hoff : ∀ j, (offBit (s.reg f.addr) f i).toNat.testBit j = ((s.reg f.addr).toNat.testBit j && !decide (f.lo + i = j)) := fun j => by
    rw [offBit, BitVec.toNat_and, Nat.testBit_and, BitVec.testBit_toNat (x := ~~~BitVec.ofNat 32 (2 ^ (f.lo + i))), BitVec.getLsbD_not, BitVec.getLsbD_ofNat, Nat.testBit_two_pow]
    by_cases hj : j < 32
    · simp [hj]
    · rw [Nat.testBit_lt_two_pow (Nat.lt_of_lt_of_le (s.reg f.addr).isLt (Nat.pow_le_pow_right (by decide) (Nat.le_of_not_lt hj)))]
      rfl
  refine BitVec.eq_of_toNat_eq (Nat.eq_of_testBit_eq fun j => ?_)
  rw [hoff]
  by_cases hj : f.lo + i = j
  · have hb := bit_clrBit_same s f i (by omega) h32
    rw [bit_eq_testBit, decide_eq_true (by omega), Bool.true_and, hj] at hb
    rw [hb, decide_eq_true hj]
    simp
  · have hk := keeps_clrBit s (l := [f.bitField i]) ⟨Nat.le_refl _, by simp only; omega, _, List.mem_singleton_self _, rfl, Nat.le_refl _, Nat.le_refl _⟩ hi h32
    rw [hk f.addr j fun g hg hh => ?_, decide_eq_false hj, Bool.not_false, Bool.and_true]
    rw [List.mem_singleton.mp hg] at hh
    simp only [Field.Holds] at hh
    omega

/-- A written bit of a field in its register's word. -/
theorem reg_wrBit_same (s : State) (f : Field) (i : Nat) (b : Bool) (h32 : f.hi < 32) (hi : f.lo + i ≤ f.hi) :
    (s.wrBit f i b).reg f.addr = (if b then orBit else offBit) (s.reg f.addr) f i := by
  cases b
  · exact reg_clrBit_same s f i h32 hi
  · exact reg_setBit_same s f i h32 hi

/-! ## The word of a semaphore -/

theorem coreCode_idx (k : Core) : coreCode k.idx = k.party.code := by cases k <;> rfl

/-- A semaphore that no core but one claims. -/
theorem semWord_claim {c w k : Nat} (hk : k < 5) : semWord { cycle := c, start := w, claims := [k] } = if w = 0 then 8 + coreCode k else w := by
  by_cases hw : w = 0
  · subst hw
    interval_cases k <;> rfl
  · simp [semWord, hw]

/-- A semaphore that one core frees. -/
theorem semWord_free (c w k : Nat) : semWord { cycle := c, start := w, frees := [k] } = if w = 8 + coreCode k then 0 else w := by
  by_cases hw : w = 8 + coreCode k
  · simp [semWord, hw]
  · have hne : ¬ 8 + coreCode k = w := fun h => hw h.symm
    by_cases h0 : w = 0 <;> simp [semWord, hw, hne, h0]

/-- Of two claims of a free semaphore the first core's succeeds, in whichever order they came. -/
theorem semWord_twoClaims {c j k : Nat} (hj : j < 5) (hk : k < 5) : semWord { cycle := c, start := 0, claims := [k, j] } = 8 + coreCode (min j k) := by
  interval_cases j <;> interval_cases k <;> rfl

theorem coreCode_min {j k : Nat} (hj : j < 5) (hk : k < 5) (hne : j ≠ k) :
    (8 + coreCode (min j k) != 8 + coreCode k) = decide (j < k) ∧ (8 + coreCode (min j k) != 8 + coreCode j) = decide (k < j) := by
  revert hne
  interval_cases j <;> interval_cases k <;> decide

/-! ## What a claim and a free leave -/

/-- The claimants' C, as the cycle's claims leave it. -/
theorem foldl_claimants (b : Nat → Bool) (l : List Nat) : ∀ t : State, ∃ c, l.foldl (fun s k => s.modCore k (fun x => { x with c := b k })) t = { t with cores := c } ∧
    ∀ j, ({ t with cores := c } : State).core j = if j ∈ l then { t.core j with c := b j } else t.core j := by
  induction l with
  | nil => exact fun t => ⟨t.cores, rfl, fun j => (if_neg (by simp)).symm⟩
  | cons k l ih =>
    intro t
    obtain ⟨c, h, hc⟩ := ih (t.modCore k (fun x => { x with c := b k }))
    refine ⟨c, h, fun j => (hc j).trans ?_⟩
    by_cases hj : j = k
    · subst hj
      rw [core_modCore_same]
      simp
    · rw [core_modCore_other _ _ hj]
      simp [hj]

section
variable {k : Core} {i : Instr} {n : Nat} {s : State} {o : SemOps} {c : Bool} {eff : Nat → State → State}

/-- What a claim or a free leaves of all but the other cores: semaphore `n` with the word `w`, and C. -/
def SemLeft (s : State) (k : Core) (n w : Nat) (c : Bool) (t : State) : Prop :=
  t = { s with regs := t.regs, cores := t.cores, arb := t.arb, now := t.now, wall := t.wall, intc := t.intc, lines := t.lines } ∧ Follows s t ∧
    t.num (PSC_SEM n) = w ∧ t.reg PSC_SEM_BUSY = (if w = 0 then offBit else orBit) (s.reg PSC_SEM_BUSY) ⟨PSC_SEM_BUSY, 31, 0⟩ n ∧
    (∀ a, a ∉ [PSC_SEM n, PSC_SEM_BUSY] → t.reg a = s.reg a) ∧ t.core k.idx = { s.movedCore k 2 with c := c }

/-- The registers that a semaphore's word stands in. -/
theorem reg_semWord (u : State) (hn : n < 32) (w : Nat) : let t := (u.setNum (PSC_SEM n) w).wrBit ⟨PSC_SEM_BUSY, 31, 0⟩ n (w != 0)
    t.num (PSC_SEM n) = w % 2 ^ 32 ∧ t.reg PSC_SEM_BUSY = (if w = 0 then offBit else orBit) (u.reg PSC_SEM_BUSY) ⟨PSC_SEM_BUSY, 31, 0⟩ n ∧
    ∀ a, a ∉ [PSC_SEM n, PSC_SEM_BUSY] → t.reg a = u.reg a := by
  intro t
  have hne : PSC_SEM n ≠ PSC_SEM_BUSY := by simp only [PSC_SEM, PSC_SEM_BUSY]; omega
  refine ⟨?_, ?_, fun a ha => ?_⟩
  · rw [num, reg_wrBit_other _ _ _ _ hne]
    exact num_setNum_same u _ w
  · refine (reg_wrBit_same _ ⟨PSC_SEM_BUSY, 31, 0⟩ n _ (by decide) (by simp only; omega)).trans ?_
    rw [show (u.setNum (PSC_SEM n) w).reg PSC_SEM_BUSY = u.reg PSC_SEM_BUSY from reg_setNum_other u _ hne.symm]
    by_cases hw : w = 0 <;> simp [hw]
  · obtain ⟨h1, h2⟩ : a ≠ PSC_SEM n ∧ a ≠ PSC_SEM_BUSY := by simpa using ha
    exact (reg_wrBit_other _ _ _ _ h2).trans (reg_setNum_other u w h1)

/-- What a settled semaphore leaves of a state. -/
theorem semSettle_spec (u : State) (n : Nat) (o : SemOps) : ∃ c a, u.semSettle n o = { u with
      regs := ((u.setNum (PSC_SEM n) (semWord o)).wrBit ⟨PSC_SEM_BUSY, 31, 0⟩ n (semWord o != 0)).regs, cores := c, arb := a } ∧
    ∀ j, (u.semSettle n o).core j = if j ∈ o.claims then { u.core j with c := semWord o != 8 + coreCode j } else u.core j := by
  let t := (u.setNum (PSC_SEM n) (semWord o)).wrBit ⟨PSC_SEM_BUSY, 31, 0⟩ n (semWord o != 0)
  have ht : ∃ r, t = { u with regs := r } := ⟨_, wrBit_frame (u.setNum (PSC_SEM n) (semWord o)) ⟨PSC_SEM_BUSY, 31, 0⟩ n (semWord o != 0)⟩
  have hs : u.semSettle n o = o.claims.foldl (fun s k => s.modCore k (fun x => { x with c := semWord o != 8 + coreCode k }))
      { t with arb := { t.arb with sems := Map.set (fun _ => {}) u.arb.sems n o } } := rfl
  obtain ⟨c, hf, hc⟩ := foldl_claimants (fun k => semWord o != 8 + coreCode k) o.claims { t with arb := { t.arb with sems := Map.set (fun _ => {}) u.arb.sems n o } }
  change ∃ c a, _ = { u with regs := t.regs, cores := c, arb := a } ∧ _
  clear_value t
  obtain ⟨r, rfl⟩ := ht
  exact ⟨c, _, hs.trans hf, fun j => by rw [hs, hf, hc]; rfl⟩

/-- A claim or a free whose effect settles the semaphore's requests `o` and leaves `c`. -/
theorem gives_semSettle (h : Issues k i s) (he : exec i s = commit (s.pulon k i 2 eff)) (hn : n < 32)
    (hf : eff (s.issueTick k.idx 2) (s.issued k 2) = ((s.issued k 2).semSettle n o).setC k.idx c) (hw : semWord o < 2 ^ 32) :
    Gives i s (fun t => SemLeft s k n (semWord o) c t ∧ ∀ j, j ≠ k.idx → t.core j = if j ∈ o.claims then { s.core j with c := semWord o != 8 + coreCode j } else s.core j) := by
  obtain ⟨-, -, hpc, -, hhalt⟩ := id h
  obtain ⟨l, v, hu, hc⟩ := semSettle_spec (s.issued k 2) n o
  obtain ⟨h1, h2, h3⟩ := reg_semWord (s.issued k 2) hn (semWord o)
  have hcore : (((s.issued k 2).semSettle n o).setC k.idx c).core k.idx = { s.movedCore k 2 with c := c } := by
    rw [setC, core_modCore_same, hc, issued_core]
    split <;> rfl
  have hreg : ∀ a, (((s.issued k 2).semSettle n o).setC k.idx c).reg a =
      (((s.issued k 2).setNum (PSC_SEM n) (semWord o)).wrBit ⟨PSC_SEM_BUSY, 31, 0⟩ n (semWord o != 0)).reg a := fun a => by
    rw [hu]; rfl
  refine gives_pulon h he hf ?_ ?_ ?_ ⟨⟨?_, follows_settle ?_ ?_, ?_, ?_, fun a ha => ?_, ?_⟩, fun j hj => ?_⟩
  · rw [hcore]; exact Nat.ne_of_lt hpc
  · rw [hcore]; exact hhalt
  · rw [hu]
    exact congrArg HkSt.shdn (issued_hk s k 2)
  · rw [settle_readOn_frame]
    generalize State.intc _ = p
    generalize State.lines _ = q
    obtain ⟨r, x, y, hz⟩ : ∃ r x y, ((s.issued k 2).semSettle n o).setC k.idx c = { s.issued k 2 with regs := r, cores := x, arb := y } := by
      rw [hu]
      exact ⟨_, _, _, rfl⟩
    rw [hz]
    conv_lhs => rw [issued_frame]
  · rw [hu]; exact issued_intc s k 2
  · rw [hu]; exact issued_lines s k 2
  · rw [settle_readOn_num, num, hreg]
    exact h1.trans (Nat.mod_eq_of_lt hw)
  · rw [settle_readOn_reg, hreg, h2, issued_reg]
  · rw [settle_readOn_reg, hreg, h3 a ha, issued_reg]
  · rw [settle_readOn_core, hcore]
  · rw [settle_readOn_core, setC, core_modCore_other _ _ hj, hc, issued_core_other s k 2 hj]

theorem issued_arb (s : State) (k : Core) (m : Nat) : (s.issued k m).arb = s.arb := by rw [issued_frame]

theorem issued_num (s : State) (k : Core) (m a : Nat) : (s.issued k m).num a = s.num a := by rw [num, issued_reg]; rfl

/-- The requests of a cycle in which nothing has been asked of the semaphore. -/
theorem semOps_fresh (h : (Map.get (fun _ => ({} : SemOps)) s.arb.sems n).cycle ≠ s.issueTick k.idx 2 / 4 + 1) :
    (s.issued k 2).semOps n = { cycle := s.issueTick k.idx 2 / 4 + 1, start := s.num (PSC_SEM n) } := by
  have hc : (s.issued k 2).now / 4 = s.issueTick k.idx 2 / 4 + 1 := issued_pulonCycle s k
  unfold semOps
  dsimp only
  rw [issued_arb, issued_num, hc, if_neg fun e => h e.1]

/-- The requests of a cycle that go on. -/
theorem semOps_goesOn (hc : (Map.get (fun _ => ({} : SemOps)) s.arb.sems n).cycle = s.issueTick k.idx 2 / 4 + 1)
    (hw : semWord (Map.get (fun _ => ({} : SemOps)) s.arb.sems n) = s.num (PSC_SEM n)) : (s.issued k 2).semOps n = Map.get (fun _ => ({} : SemOps)) s.arb.sems n := by
  have hn : (s.issued k 2).now / 4 = s.issueTick k.idx 2 / 4 + 1 := issued_pulonCycle s k
  unfold semOps
  dsimp only
  rw [issued_arb, issued_num, hn, if_pos ⟨hc, hw⟩]

end

section
variable {k : Core} {n : BitVec 5} {s : State}

theorem exec_claim (k : Core) (n : BitVec 5) (s : State) : exec (.claim k n) s = commit (s.pulon k (.claim k n) 2 (fun _ u =>
    (u.semClaim k.idx n.toNat).1.setC k.idx !(u.semClaim k.idx n.toNat).2)) := rfl

theorem exec_free (k : Core) (n : BitVec 5) (s : State) : exec (.free k n) s = commit (s.pulon k (.free k n) 2 (fun _ u =>
    (u.semFree k.idx n.toNat).1.setC k.idx !(u.semFree k.idx n.toNat).2)) := rfl

theorem semCode_lt (j : Nat) : 8 + coreCode j < 2 ^ 32 := by
  unfold coreCode
  split
  · omega
  · split <;> omega

theorem idx_lt_five (hk : k ≠ .met) : k.idx < 5 := by
  cases k with
  | met => exact absurd rfl hk
  | _ => decide

/-- The first claim of a cycle. -/
theorem gives_claim_fresh (hk : k ≠ .met) (h : Issues k (.claim k n) s)
    (hr : (Map.get (fun _ => ({} : SemOps)) s.arb.sems n.toNat).cycle ≠ s.issueTick k.idx 2 / 4 + 1) : Gives (.claim k n) s (fun t => (∀ j, j ≠ k.idx → t.core j = s.core j) ∧
      SemLeft s k n.toNat (if s.num (PSC_SEM n.toNat) = 0 then 8 + coreCode k.idx else s.num (PSC_SEM n.toNat))
        ((if s.num (PSC_SEM n.toNat) = 0 then 8 + coreCode k.idx else s.num (PSC_SEM n.toNat)) != 8 + coreCode k.idx) t) := by
  have hw := semWord_claim (c := s.issueTick k.idx 2 / 4 + 1) (w := s.num (PSC_SEM n.toNat)) (idx_lt_five hk)
  have hlt : (if s.num (PSC_SEM n.toNat) = 0 then 8 + coreCode k.idx else s.num (PSC_SEM n.toNat)) < 2 ^ 32 := by
    split
    · exact semCode_lt _
    · exact (s.reg _).isLt
  have hg := gives_semSettle h (exec_claim k n s) n.isLt (o := { cycle := s.issueTick k.idx 2 / 4 + 1, start := s.num (PSC_SEM n.toNat), claims := [k.idx] })
    (c := (if s.num (PSC_SEM n.toNat) = 0 then 8 + coreCode k.idx else s.num (PSC_SEM n.toNat)) != 8 + coreCode k.idx)
    (by rw [semClaim, semOps_fresh hr, hw]; rfl) (by rw [hw]; exact hlt)
  rw [hw] at hg
  exact hg.imp fun t ⟨ht, ho⟩ => ⟨fun j hj => (ho j hj).trans (if_neg (by simpa using hj)), ht⟩

/-- The first free of a cycle. -/
theorem gives_free_fresh (h : Issues k (.free k n) s) (hr : (Map.get (fun _ => ({} : SemOps)) s.arb.sems n.toNat).cycle ≠ s.issueTick k.idx 2 / 4 + 1) :
    Gives (.free k n) s (fun t => (∀ j, j ≠ k.idx → t.core j = s.core j) ∧
      SemLeft s k n.toNat (if s.num (PSC_SEM n.toNat) = 8 + coreCode k.idx then 0 else s.num (PSC_SEM n.toNat)) (!(s.num (PSC_SEM n.toNat) == 8 + coreCode k.idx)) t) := by
  have hw := semWord_free (s.issueTick k.idx 2 / 4 + 1) (s.num (PSC_SEM n.toNat)) k.idx
  have hlt : (if s.num (PSC_SEM n.toNat) = 8 + coreCode k.idx then 0 else s.num (PSC_SEM n.toNat)) < 2 ^ 32 := by
    split
    · decide
    · exact (s.reg _).isLt
  have hg := gives_semSettle h (exec_free k n s) n.isLt (o := { cycle := s.issueTick k.idx 2 / 4 + 1, start := s.num (PSC_SEM n.toNat), frees := [k.idx] })
    (c := !(s.num (PSC_SEM n.toNat) == 8 + coreCode k.idx)) (by rw [semFree, semOps_fresh hr]) (by rw [hw]; exact hlt)
  rw [hw] at hg
  exact hg.imp fun t ⟨ht, ho⟩ => ⟨fun j hj => (ho j hj).trans (if_neg (by simp)), ht⟩

/-- The second claim of a cycle, of a semaphore that was free at its beginning. -/
theorem gives_claim_second {j : Nat} (hk : k ≠ .met) (h : Issues k (.claim k n) s)
    (hr : Map.get (fun _ => ({} : SemOps)) s.arb.sems n.toNat = { cycle := s.issueTick k.idx 2 / 4 + 1, start := 0, claims := [j], frees := [] }) (hj : j < 5) (hne : j ≠ k.idx)
    (hs : s.num (PSC_SEM n.toNat) = 8 + coreCode j) :
    Gives (.claim k n) s (fun t => SemLeft s k n.toNat (8 + coreCode (min j k.idx)) (decide (j < k.idx)) t ∧ (t.core j).c = decide (k.idx < j)) := by
  have hw := semWord_twoClaims (c := s.issueTick k.idx 2 / 4 + 1) hj (idx_lt_five hk)
  obtain ⟨hck, hcj⟩ := coreCode_min hj (idx_lt_five hk) hne
  have hold : (s.issued k 2).semOps n.toNat = { cycle := s.issueTick k.idx 2 / 4 + 1, start := 0, claims := [j], frees := [] } := by
    rw [semOps_goesOn (by rw [hr]) ?_, hr]
    rw [hr, hs, semWord_claim hj, if_pos rfl]
  have hg := gives_semSettle h (exec_claim k n s) n.isLt (o := { cycle := s.issueTick k.idx 2 / 4 + 1, start := 0, claims := [k.idx, j] }) (c := decide (j < k.idx))
    (by rw [semClaim, hold, hw, ← hck]; rfl) (by rw [hw]; exact semCode_lt _)
  rw [hw] at hg
  exact hg.imp fun t ⟨ht, ho⟩ => ⟨ht, by rw [ho j hne, if_pos (by simp)]; exact hcj⟩

end

/-! ## Signals -/

section
variable {k : Core} {b : BitVec 3} {s : State}

/-- A signal of a core that sets a bit of a register. -/
theorem retires_sig {f : Field} {j : Nat} (h : Issues k (.sig k b) s) (hf : ∀ u, State.signal u k.idx b.toNat = u.setBit f j) (h32 : f.hi < 32) (hj : f.lo + j ≤ f.hi) :
    RetiresRegs k (.sig k b) 1 [f.addr] s id (fun t => t.reg f.addr = orBit (s.reg f.addr) f j) := by
  obtain ⟨-, -, hpc, -, hhalt⟩ := id h
  obtain ⟨r, hx⟩ := setBit_regs (s.issued k 1) f j
  have hcore : ∀ m, ((s.issued k 1).setBit f j).core m = (s.issued k 1).core m := fun m => by rw [hx]; rfl
  refine retiresRegs_of h (by decide) (show _ = commit (s.pulon k (.sig k b) 1 (fun _ u => u.signal k.idx b.toNat)) from rfl) (hf _) ⟨r, _, hx⟩
    (fun m hm => (hcore m).trans (issued_core_other s k 1 hm)) ((hcore _).trans (issued_core s k 1)) (Nat.ne_of_lt hpc) hhalt
    (fun a ha => (reg_setBit_other _ _ _ (by simpa using ha)).trans (issued_reg s k 1 a)) fun t ht => ?_
  rw [reg_eq_of_regs ht, reg_setBit_same _ f j h32 hj, issued_reg]

/-- A signal of MET goes to its private controller. -/
theorem gives_sig_met (h : Issues .met (.sig .met b) s) : Gives (.sig .met b) s (fun t =>
    t = { s with cores := t.cores, now := t.now, wall := t.wall, intc := t.intc, lines := t.lines, men := { s.men with sig := s.men.sig ||| 2 ^ b.toNat } } ∧ Follows s t ∧
      t.core 5 = s.movedCore .met 1 ∧ ∀ j, j ≠ 5 → t.core j = s.core j) := by
  obtain ⟨-, -, hpc, -, hhalt⟩ := id h
  have hcore : ((s.issued .met 1).modMen (fun m => { m with sig := m.sig ||| 2 ^ b.toNat })).core 5 = s.movedCore .met 1 := issued_core s .met 1
  refine gives_pulon (u := (s.issued .met 1).modMen (fun m => { m with sig := m.sig ||| 2 ^ b.toNat })) h
    (show _ = commit (s.pulon .met (.sig .met b) 1 (fun _ u => u.signal 5 b.toNat)) from rfl) rfl ?_ ?_ ?_
    ⟨?_, follows_settle (issued_intc s .met 1) (issued_lines s .met 1), ?_, fun j hj => ?_⟩
  · exact hcore ▸ Nat.ne_of_lt hpc
  · exact hcore ▸ hhalt
  · exact congrArg HkSt.shdn (issued_hk s .met 1)
  · rw [settle_readOn_frame]
    generalize State.intc _ = p
    generalize State.lines _ = q
    obtain ⟨c, m, w, hi⟩ : ∃ c m w, s.issued .met 1 = { s with cores := c, now := m, wall := w } := ⟨_, _, _, issued_frame s .met 1⟩
    rw [hi]
    rfl
  · rw [settle_readOn_core, hcore]
  · rw [settle_readOn_core]
    exact issued_core_other s .met 1 hj

end

/-- Settles O14: claims and frees by the word that the cycle's requests decide, signals by their bit. -/
theorem semaphoresAndSignals : Obligations.SemaphoresAndSignals := by
  refine ⟨fun k n b s => ?_, fun b s h => gives_sig_met h⟩
  intro code sem cyc rest sets hk
  have hcode : 8 + coreCode k.idx = code := congrArg (8 + ·) (coreCode_idx k)
  refine ⟨fun h hr => (gives_claim_fresh hk h hr).imp fun t ⟨ho, ht⟩ => ⟨ho, ?_⟩, fun h hr => (gives_free_fresh h hr).imp fun t ⟨ho, ht⟩ => ⟨ho, ?_⟩,
    fun j h hr hj hne hs => gives_claim_second hk h hr hj hne hs, fun h => ⟨fun hq => ?_, ?_⟩⟩
  · rw [hcode] at ht
    by_cases h0 : s.num sem = 0
    · rw [if_pos h0] at ht
      rw [if_pos h0]
      exact (bne_self_eq_false code) ▸ ht
    · rw [if_neg h0] at ht
      rw [if_neg h0]
      exact ht
  · rw [hcode] at ht
    by_cases h0 : s.num sem = code
    · rw [if_pos h0] at ht
      rw [if_pos h0]
      have hb : (!(s.num sem == code)) = false := by simpa using h0
      exact hb ▸ ht
    · rw [if_neg h0] at ht
      rw [if_neg h0]
      have hb : (!(s.num sem == code)) = true := by simpa using h0
      exact hb ▸ ht
  · have hlt := (idx_lt_four k).mpr hq
    have hb := b.isLt
    exact retires_sig (f := ⟨PSC_SIG, 31, 0⟩) h (fun u => if_pos hlt) (by decide) (by simp only; omega)
  · rintro rfl
    have hb := b.isLt
    exact retires_sig (f := PSC_SIG_SUP_sup) h (fun u => rfl) (by decide) (by simp only [PSC_SIG_SUP_sup]; omega)

end Sys2Proof.Machine
end

section
/-! The arithmetic and logic instructions by their table (R109–R111), and a halt that waits for one (R84). -/

namespace Sys2Proof.Machine

open R State

/-! ## Results and flags -/

/-- A result with its flags as the table gives it. -/
def AluOut.triple (o : AluOut) : W32 × Option Bool × Option Bool := (o.res, o.c, o.v)

theorem triple_aluAdd (x y : W32) : (aluAdd x y).triple = aluTable.sum x y := by
  have hr : x + y = BitVec.ofNat 32 (x.toNat + y.toNat) := by
    apply BitVec.eq_of_toNat_eq
    rw [BitVec.toNat_add, BitVec.toNat_ofNat]
  have hv : ((x ^^^ (x + y)) &&& (y ^^^ (x + y))).msb = decide ((x + y).toInt ≠ x.toInt + y.toInt) := by
    have hx := x.isLt
    have hy := y.isLt
    rw [BitVec.msb_and, BitVec.msb_xor, BitVec.msb_xor, BitVec.msb_eq_decide, BitVec.msb_eq_decide, BitVec.msb_eq_decide, BitVec.toInt_eq_toNat_cond, BitVec.toInt_eq_toNat_cond,
      BitVec.toInt_eq_toNat_cond, BitVec.toNat_add, Bool.eq_iff_iff]
    simp only [Bool.and_eq_true, bne_iff_ne, ne_eq, decide_eq_decide, decide_eq_true_eq]
    omega
  rw [aluTable.sum, ← hr, ← hv]
  rfl

theorem triple_aluSub (x y : W32) : (aluSub x y).triple = aluTable.diff x y := by
  have hr : x - y = BitVec.ofInt 32 (x.toInt - y.toInt) := by
    apply BitVec.eq_of_toInt_eq
    rw [BitVec.toInt_sub, BitVec.toInt_ofInt]
  have hv : ((x ^^^ y) &&& (x ^^^ (x - y))).msb = decide ((x - y).toInt ≠ x.toInt - y.toInt) := by
    have hx := x.isLt
    have hy := y.isLt
    rw [BitVec.msb_and, BitVec.msb_xor, BitVec.msb_xor, BitVec.msb_eq_decide, BitVec.msb_eq_decide, BitVec.msb_eq_decide, BitVec.toInt_eq_toNat_cond, BitVec.toInt_eq_toNat_cond,
      BitVec.toInt_eq_toNat_cond, BitVec.toNat_sub, Bool.eq_iff_iff]
    simp only [Bool.and_eq_true, bne_iff_ne, ne_eq, decide_eq_decide, decide_eq_true_eq]
    omega
  rw [aluTable.diff, ← hr, ← hv]
  rfl

theorem getLsbD_eq_decide (x : W32) (j : Nat) : x.getLsbD j = decide (x.toNat / 2 ^ j % 2 = 1) := Nat.testBit_eq_decide_div_mod_eq

theorem bne_zero_eq_decide (n : Nat) : (n != 0) = decide (n ≠ 0) := by cases n <;> rfl

theorem triple_aluShl (x y : W32) : (aluShl x y).triple = aluTable.left x (y.toNat % 32) := by
  have hr : x <<< (y.toNat % 32) = BitVec.ofNat 32 (x.toNat * 2 ^ (y.toNat % 32)) := by
    apply BitVec.eq_of_toNat_eq
    rw [BitVec.toNat_shiftLeft, BitVec.toNat_ofNat, Nat.shiftLeft_eq]
  rw [aluTable.left, ← hr, ← getLsbD_eq_decide, ← bne_zero_eq_decide]
  rfl

theorem triple_aluShr (x y : W32) : (aluShr x y).triple = aluTable.right x x.toNat (y.toNat % 32) := by
  have hr : x >>> (y.toNat % 32) = BitVec.ofInt 32 ((x.toNat : Int) / 2 ^ (y.toNat % 32)) := by
    rw [show ((x.toNat : Int) / 2 ^ (y.toNat % 32)) = ((x.toNat / 2 ^ (y.toNat % 32) : Nat) : Int) by push_cast; rfl, BitVec.ofInt_natCast]
    apply BitVec.eq_of_toNat_eq
    rw [BitVec.toNat_ushiftRight, Nat.shiftRight_eq_div_pow, BitVec.toNat_ofNat, Nat.mod_eq_of_lt (Nat.lt_of_le_of_lt (Nat.div_le_self _ _) x.isLt)]
  rw [aluTable.right, ← hr, ← getLsbD_eq_decide, ← bne_zero_eq_decide]
  rfl

theorem triple_aluSar (x y : W32) : (aluSar x y).triple = aluTable.right x x.toInt (y.toNat % 32) := by
  have hr : x.sshiftRight (y.toNat % 32) = BitVec.ofInt 32 (x.toInt / 2 ^ (y.toNat % 32)) := by
    rw [BitVec.sshiftRight, Int.shiftRight_eq_div_pow]
    norm_cast
  rw [aluTable.right, ← hr, ← getLsbD_eq_decide, ← bne_zero_eq_decide]
  rfl

theorem mul_eq_ofNat (x y : W32) : x * y = BitVec.ofNat 32 (x.toNat * y.toNat) := by
  apply BitVec.eq_of_toNat_eq
  rw [BitVec.toNat_mul, BitVec.toNat_ofNat]

theorem zeroExtend_eq (imm : BitVec 16) : imm.zeroExtend 32 = BitVec.ofNat 32 imm.toNat := (BitVec.ofNat_toNat 32 imm).symm

theorem zeroExtend_mod (imm : BitVec 16) : (imm.zeroExtend 32).toNat % 32 = imm.toNat % 32 := by
  have h := imm.isLt
  rw [zeroExtend_eq, BitVec.toNat_ofNat]
  omega

/-- MOVH joins the two halves. -/
theorem movh_eq (x : W32) (imm : BitVec 16) : (imm.zeroExtend 32) <<< 16 ||| (x &&& 0xFFFF#32) = BitVec.ofNat 32 (imm.toNat * 2 ^ 16 + x.toNat % 2 ^ 16) := by
  have hi := imm.isLt
  have hlow : x.toNat &&& 65535 = x.toNat % 2 ^ 16 := Nat.and_two_pow_sub_one_eq_mod x.toNat 16
  have hjoin : imm.toNat * 2 ^ 16 + x.toNat % 2 ^ 16 = imm.toNat <<< 16 ||| x.toNat % 2 ^ 16 := by
    rw [← Nat.shiftLeft_eq, Nat.shiftLeft_add_eq_or_of_lt (Nat.mod_lt _ (by decide))]
  have h1 : (BitVec.ofNat 32 imm.toNat).toNat = imm.toNat := Nat.mod_eq_of_lt (by omega)
  have h2 : (BitVec.ofNat 32 (imm.toNat * 2 ^ 16 + x.toNat % 2 ^ 16)).toNat = imm.toNat * 2 ^ 16 + x.toNat % 2 ^ 16 := Nat.mod_eq_of_lt (by omega)
  apply BitVec.eq_of_toNat_eq
  rw [h2, BitVec.toNat_or, BitVec.toNat_and, BitVec.toNat_shiftLeft, zeroExtend_eq, h1, show BitVec.toNat 0xFFFF#32 = 65535 from rfl, hlow, hjoin,
    Nat.mod_eq_of_lt (by rw [Nat.shiftLeft_eq]; omega)]

/-! ## The instructions -/

section
variable {k : Core} {i : Instr} {s : State} {d : RegNo} {f : Bool}

/-- What an arithmetic or logic instruction computes is what the table gives. -/
theorem exec_alu {t : W32 × Option Bool × Option Bool} (h : aluTable s i = some (k, d, f, t)) :
    ∃ g : State → AluOut, exec i s = commit (s.pulon k i 1 (aluEffect k d f g)) ∧ (g (s.issued k 1)).triple = t := by
  cases i
  case add k d a b f => cases h; exact ⟨_, rfl, by rw [issued_rd, issued_rd]; exact triple_aluAdd _ _⟩
  case addi k d a f imm => cases h; exact ⟨_, rfl, by rw [issued_rd]; exact triple_aluAdd _ _⟩
  case sub k d a b f => cases h; exact ⟨_, rfl, by rw [issued_rd, issued_rd]; exact triple_aluSub _ _⟩
  case subi k d a f imm => cases h; exact ⟨_, rfl, by rw [issued_rd]; exact triple_aluSub _ _⟩
  case shl k d a b f => cases h; exact ⟨_, rfl, by rw [issued_rd, issued_rd]; exact triple_aluShl _ _⟩
  case shli k d a f imm => cases h; exact ⟨_, rfl, by rw [issued_rd, triple_aluShl, zeroExtend_mod]⟩
  case shr k d a b f => cases h; exact ⟨_, rfl, by rw [issued_rd, issued_rd]; exact triple_aluShr _ _⟩
  case shri k d a f imm => cases h; exact ⟨_, rfl, by rw [issued_rd, triple_aluShr, zeroExtend_mod]⟩
  case sar k d a b f => cases h; exact ⟨_, rfl, by rw [issued_rd, issued_rd]; exact triple_aluSar _ _⟩
  case sari k d a f imm => cases h; exact ⟨_, rfl, by rw [issued_rd, triple_aluSar, zeroExtend_mod]⟩
  case mul k d a b f => cases h; exact ⟨_, rfl, by rw [issued_rd, issued_rd, mul_eq_ofNat]; rfl⟩
  case andw k d a b f | orw k d a b f | xorw k d a b f => cases h; exact ⟨_, rfl, by rw [issued_rd, issued_rd]; rfl⟩
  case andi k d a f imm | ori k d a f imm | xori k d a f imm => cases h; exact ⟨_, rfl, by rw [issued_rd, zeroExtend_eq]; rfl⟩
  case movh k d a f imm => cases h; exact ⟨_, rfl, by rw [issued_rd, aluMovh, movh_eq]; rfl⟩
  all_goals cases h

/-- What it does to its core. -/
theorem aluEffect_issued {g : State → AluOut} {r : W32} {c v : Option Bool} (hg : (g (s.issued k 1)).triple = (r, c, v)) (n : Nat) :
    IssuedAs s k 1 (((s.movedCore k 1).aluFlags f r c v).putW d r) (aluEffect k d f g n (s.issued k 1)) := by
  obtain ⟨rfl, rfl, rfl⟩ : (g (s.issued k 1)).res = r ∧ (g (s.issued k 1)).c = c ∧ (g (s.issued k 1)).v = v := by
    rwa [AluOut.triple, Prod.mk.injEq, Prod.mk.injEq] at hg
  refine IssuedAs.wr ?_ d _
  have h0 := IssuedAs.ofIssued s k 1
  cases f
  · exact h0
  · have hz : ((g (s.issued k 1)).res == 0#32) = decide ((g (s.issued k 1)).res.toNat = 0) := by
      rw [beq_eq_decide, decide_eq_decide]
      exact ⟨fun e => by rw [e]; rfl, fun e => BitVec.eq_of_toNat_eq e⟩
    have hn : (g (s.issued k 1)).res.msb = decide (2 ^ 31 ≤ (g (s.issued k 1)).res.toNat) := BitVec.msb_eq_decide _
    rw [CoreSt.aluFlags, if_pos rfl, ← hz, ← hn]
    exact h0.modCore (fun x => { x with z := (g (s.issued k 1)).res == 0#32, n := (g (s.issued k 1)).res.msb, c := (g (s.issued k 1)).c.getD x.c,
                                        v := (g (s.issued k 1)).v.getD x.v })

/-- The part of an instruction's core that its flags and its register leave. -/
theorem aluFlags_putW_rest (x : CoreSt) (r : W32) (c v : Option Bool) : let y := (x.aluFlags f r c v).putW d r
    y.pc = x.pc ∧ y.halting = x.halting := by
  have hf : (x.aluFlags f r c v).pc = x.pc ∧ (x.aluFlags f r c v).halting = x.halting := by
    unfold CoreSt.aluFlags
    cases f <;> exact ⟨rfl, rfl⟩
  exact ⟨(putW_pc _ _ _).1.trans hf.1, (putW_pc _ _ _).2.trans hf.2⟩

/-! ## A halt at the instruction's end -/

/-- An instruction of an executing core that fetches it, whatever waits for its end. -/
theorem pulon_executing {n : Nat} (h1 : s.executing k = true) (h2 : s.fetches k i = true) (eff : Nat → State → State) :
    s.pulon k i n eff = s.readOn (((eff (s.issueTick k.idx n) (s.issued k n)).overrunCheck k.idx).haltAfter k.idx) := by
  simp only [pulon, h1, h2, Bool.and_self, if_true, issue, issued, modCore]
  congr 3
  simp [movedCore, State.core]

/-- An instruction whose effect changes its core alone, at the end of which the core is HALTED. -/
theorem gives_halted {n : Nat} {u : State} {y : CoreSt} {eff : Nat → State → State} (h1 : s.executing k = true) (h2 : s.fetches k i = true) (hd : s.hk.shdn = none)
    (he : exec i s = commit (s.pulon k i n eff)) (hu : IssuedAs s k n y u) (hf : eff (s.issueTick k.idx n) (s.issued k n) = u) (hpc : y.pc ≠ imemWords k.idx)
    (hhalt : y.halting = true) : Gives i s (fun t => t.sqState k.idx = 0 ∧ t.core k.idx = { y with waiting := none, halting := false } ∧
      t = { s with regs := t.regs, cores := t.cores, now := t.now, wall := t.wall, intc := t.intc, lines := t.lines } ∧ Follows s t ∧
      (∀ j, j ≠ k.idx → t.core j = s.core j) ∧ ∀ a, a ≠ PSC_SQ_STAT k.idx → t.reg a = s.reg a) := by
  have hx : (u.overrunCheck k.idx).haltAfter k.idx = u.sqHalted k.idx := by
    rw [overrunCheck_in _ (by rw [hu.core]; exact hpc)]
    exact if_pos (by rw [hu.core]; exact hhalt)
  obtain ⟨⟨r, c, hw⟩, ho, hc⟩ := hu.withRegs (v := u.put (PSC_SQ_STAT_state k.idx) 0) ⟨_, rfl⟩ (fun x => { x with waiting := none, halting := false })
  have hx' : u.sqHalted k.idx = { s.issued k n with regs := r, cores := c } := hw
  refine gives_of_quiet (he.trans (by rw [pulon_executing h1 h2, hf, hx])) ?_ ⟨?_, ?_, ?_, follows_settle ?_ ?_, fun j hj => ?_, fun a ha => ?_⟩
  · rw [readOn_hk, hx']
    exact (congrArg HkSt.shdn (issued_hk s k n)).trans hd
  · rw [sqState, settle_readOn_get]
    exact get_put_same u (PSC_SQ_STAT_state k.idx) 0 (by simp [PSC_SQ_STAT_state]) (by simp [PSC_SQ_STAT_state])
  · rw [settle_readOn_core]
    exact hc
  · rw [settle_readOn_frame]
    generalize State.intc _ = p
    generalize State.lines _ = q
    rw [hx']
    conv_lhs => rw [issued_frame]
  · rw [hx']; exact issued_intc s k n
  · rw [hx']; exact issued_lines s k n
  · rw [settle_readOn_core]
    exact ho j hj
  · rw [settle_readOn_reg]
    exact (reg_put_other u (PSC_SQ_STAT_state k.idx) 0 ha).trans (reg_eq_of_regs hu.regs a)

end

end Sys2Proof.Machine
end

section
/-! The commands of the SQ cores, and the program hash (R84, R86, R87). -/

namespace Sys2Proof.Machine

open R State

/-! ## MET's judgement after a write, and the hashes -/

theorem metJudge_frame (v : State) : v.metJudge = { v with regs := v.metJudge.regs, men := v.metJudge.men } := by
  have h := (judged_metJudge v).frame
  have hm := (judged_metJudge v).men
  generalize v.metJudge = u at h hm ⊢
  rw [hm]
  exact h

theorem metJudge_down {v : State} (h : v.metUp = false) : v.metJudge = v := if_pos (by rw [h]; rfl)

theorem metJudge_reg (v : State) {a : Nat} (h : a / 0x1000 ≠ 0x12) : v.metJudge.reg a = v.reg a := (judged_metJudge v).apart.reg a (by simpa using h)

/-- What MET judges after a change of registers. -/
theorem regsJudged_of_metJudge {l : List Nat} {s v t : State} (hm : v.men = s.men) (hv : v.variantM = s.variantM) (hr : ∀ a, a ∉ l → v.reg a = s.reg a)
    (ht : t = { s with regs := v.metJudge.regs, men := v.metJudge.men, intc := t.intc, lines := t.lines }) (hf : Follows s t) : RegsJudged l s t := by
  have hregs : t.regs = v.metJudge.regs := by rw [ht]
  have hmen : t.men = v.metJudge.men := by rw [ht]
  refine ⟨?_, hf, fun a ha hp => ?_, fun hu => ?_⟩
  · rw [hregs, hmen]
    exact ht
  · rw [reg_eq_of_regs hregs, metJudge_reg v hp, hr a ha]
  · have hd := metJudge_down (v := v) (by rw [metUp, hv, hm]; exact hu)
    rw [hd] at hregs hmen
    exact ⟨hmen.trans hm, fun a ha => (reg_eq_of_regs hregs a).trans (hr a ha)⟩

/-- A state with other hashes in progress. -/
def withHashes (s : State) (h : List (Nat × Option HashRun)) : State := { s with lines := { s.lines with hashes := h } }

theorem withHashes_withHashes (s : State) (g h : List (Nat × Option HashRun)) : withHashes (withHashes s g) h = withHashes s h := rfl

/-- Settling does not look at the hashes in progress. -/
theorem settle_withHashes (a : State) (h : List (Nat × Option HashRun)) : (withHashes a h).settle = withHashes a.settle h := by
  unfold settle latchSubst watch driveLines
  by_cases hr : a.running = true
  · rw [if_pos hr, if_pos (show (withHashes a h).running = true from hr)]
    rfl
  · rw [if_neg hr, if_neg (show ¬ (withHashes a h).running = true from hr)]
    rfl

theorem follows_withHashes {s t : State} (h : Follows s t) : Follows s (withHashes t s.lines.hashes) := by
  obtain ⟨h1, h2, h3, h4, h5, h6, h7, h8, -⟩ := h
  exact ⟨h1, h2, h3, h4, h5, h6, h7, h8, fun _ => rfl⟩

theorem readOn_withHashes (s u : State) (h : List (Nat × Option HashRun)) : ∃ g, s.readOn (withHashes u h) = withHashes (s.readOn u) g :=
  ⟨_, by unfold readOn readHashes beginCycle withHashes; rfl⟩

/-- A command that begins or ends a hash and leaves the other lines to themselves. -/
theorem follows_settle_hashes {s u : State} (h : List (Nat × Option HashRun)) (hf : Follows s (s.readOn u).settle) :
    Follows s (withHashes (s.readOn (withHashes u h)).settle s.lines.hashes) := by
  obtain ⟨g, hg⟩ := readOn_withHashes s u h
  rw [hg, settle_withHashes, withHashes_withHashes]
  exact follows_withHashes hf

/-- The hash that a command leaves under a key: what `t` has there, read on where `s` has the same. -/
theorem hashOf_settle_readOn (s t : State) (k : Nat) : (s.readOn t).settle.lines.hashOf k = (t.lines.hashOf k).map (fun r =>
    if s.lines.hashOf k = some r then
      { r with got := r.got ++ ((s.hashSource k t.now r).1.drop r.got.length).take ((s.hashSource k t.now r).2 - r.got.length) }
    else r) := by
  unfold Lines.hashOf
  rw [settle_hashes]
  simp only [readOn, readHashes, beginCycle]
  rw [Map.get_map (fun _ => none) (fun _ => none) _ (fun k o => o.map (fun r => if Map.get (fun _ => none) s.lines.hashes k = some r then
    { r with got := r.got ++ ((s.hashSource k t.now r).1.drop r.got.length).take ((s.hashSource k t.now r).2 - r.got.length) } else r)) ?_ (fun _ => rfl) k t.lines.hashes]
  rintro ⟨k, o⟩
  cases o with
  | none => rfl
  | some r =>
    dsimp only [Option.map_some]
    split <;> rfl

/-- A hash that no longer runs. -/
theorem hashOf_ended {s t : State} {k : Nat} (h : t.lines.hashOf k = none) : (s.readOn t).settle.lines.hashOf k = none := by rw [hashOf_settle_readOn, h]; rfl

/-- A program hash that has just begun has read nothing. -/
theorem hashOf_begun {s t : State} {q : Nat} (hq : q < 4) (hn : t.now = s.now) (h : t.lines.hashOf q = some { start := s.now }) :
    (s.readOn t).settle.lines.hashOf q = some { start := s.now } := by
  rw [hashOf_settle_readOn, h, Option.map_some, hn]
  split
  · simp [hashSource, hq]
  · rfl

/-! ## A write of PSC_SQx_CTL -/

theorem unfrozen_sqCtl (q : Port) : Unfrozen (PSC_SQ_CTL q) := unfrozen_of_plainReg (by revert q; decide)

theorem blockWrite_sqCtl (s : State) (pc : Nat) (q : Port) (v : W32) : s.blockWrite pc (PSC_SQ_CTL q) v = (s.sqCommand q v).metJudge := by
  fin_cases q <;> rfl

theorem sqCommand_start (s : State) (q : Nat) : s.sqCommand q 1#32 = if s.sqState q = 0 then (s.put (PSC_SQ_STAT_state q) 1).hashStart q else s := by
  unfold sqCommand
  by_cases h : s.sqState q = 0 <;> simp [h, bitOf]

theorem sqCommand_check (s : State) (q : Nat) : s.sqCommand q 8#32 = if s.sqState q = 0 then s.hashStart q else s := by
  unfold sqCommand
  by_cases h : s.sqState q = 0 <;> simp [h, bitOf]

theorem sqCommand_halt (s : State) (q : Nat) : s.sqCommand q 2#32 = s.sqHalt q := by simp [sqCommand, bitOf]

theorem sqCommand_flush (s : State) (q : Nat) : s.sqCommand q 4#32 = s.flushQueue q := by simp [sqCommand, bitOf]

section
variable {i : Instr} {who : Party} {q : Port} {s : State} {v : W32} {l : List Nat} {P : State → Prop}

/-- A command that changes registers, cores and no hash, with what MET judges after it. -/
theorem gives_sqCommand (he : exec i s = act s (fun u => u.busWrite who (PSC_SQ_CTL q) v)) (hw : Writes s who (PSC_SQ_CTL q))
    (h : ∀ x, ∃ r c, (s.withIntc x).sqCommand q v = { s.withIntc x with regs := r, cores := c } ∧ (∀ a, a ∉ l → ((s.withIntc x).sqCommand q v).reg a = s.reg a) ∧
      ∀ t : State, (∀ a, a / 0x1000 ≠ 0x12 → t.reg a = ((s.withIntc x).sqCommand q v).reg a) → t.cores = c → P t) :
    Gives i s (fun t => RegsJudged l s { t with cores := s.cores } ∧ P t) := by
  refine gives_ownerWrite he (unfrozen_sqCtl q) hw fun x hx => ?_
  obtain ⟨r, c, hv, hr, hp⟩ := h x
  rw [blockWrite_sqCtl]
  have hu := metJudge_frame ((s.withIntc x).sqCommand q v)
  have hj := fun a ha => metJudge_reg ((s.withIntc x).sqCommand q v) (a := a) ha
  have hset := settle_readOn_frame s ((s.withIntc x).sqCommand q v).metJudge
  have hi : ((s.withIntc x).sqCommand q v).metJudge.intc = x := by rw [hu, hv]; rfl
  have hl : ((s.withIntc x).sqCommand q v).metJudge.lines = s.lines := by rw [hu, hv]; rfl
  refine ⟨(judged_metJudge _).hk.trans (by rw [hv]; rfl), regsJudged_of_metJudge (v := (s.withIntc x).sqCommand q v) (by rw [hv]; rfl) (by rw [hv]; rfl) hr ?_
    (follows_withCores s.cores (follows_settle_accessed rfl (hi.symm ▸ hx) hl)), hp _ (fun a ha => ?_) ?_⟩
  · rw [hset]
    generalize State.intc (State.settle _) = y
    generalize State.lines (State.settle _) = z
    conv_lhs => rw [hu]
    rw [hv]
    rfl
  · rw [settle_readOn_reg, hj a ha]
  · rw [hset, hu, hv]

/-- A command that changes registers and begins or ends the core's hash, with what MET judges after it. -/
theorem gives_sqHashCommand (he : exec i s = act s (fun u => u.busWrite who (PSC_SQ_CTL q) v)) (hw : Writes s who (PSC_SQ_CTL q)) {o : Option HashRun}
    (h : ∀ x, ∃ r, (s.withIntc x).sqCommand q v = ({ s.withIntc x with regs := r } : State).setHashRun q o ∧
      (∀ a, a ∉ l → ((s.withIntc x).sqCommand q v).reg a = s.reg a) ∧
      ∀ t : State, (∀ a, a / 0x1000 ≠ 0x12 → t.reg a = ((s.withIntc x).sqCommand q v).reg a) → P t) (ho : o = none ∨ o = some { start := s.now }) :
    Gives i s (fun t => HashOnly q (RegsJudged l) s t ∧ t.lines.hashOf q = o ∧ P t) := by
  refine gives_ownerWrite he (unfrozen_sqCtl q) hw fun x hx => ?_
  obtain ⟨r, hv, hr, hp⟩ := h x
  rw [blockWrite_sqCtl]
  have hu := metJudge_frame ((s.withIntc x).sqCommand q v)
  have hj := fun a ha => metJudge_reg ((s.withIntc x).sqCommand q v) (a := a) ha
  have hset := settle_readOn_frame s ((s.withIntc x).sqCommand q v).metJudge
  have hhash : ((s.withIntc x).sqCommand q v).metJudge.lines = { s.lines with hashes := Map.set (fun _ => none) s.lines.hashes q o } := by rw [hu, hv]; rfl
  have hnow : ((s.withIntc x).sqCommand q v).metJudge.now = s.now := by rw [hu, hv]; rfl
  have hwith : ((s.withIntc x).sqCommand q v).metJudge =
      withHashes { ((s.withIntc x).sqCommand q v).metJudge with lines := s.lines } (Map.set (fun _ => none) s.lines.hashes q o) := by
    rw [withHashes, ← hhash]
  have hfol : Follows s (s.readOn { ((s.withIntc x).sqCommand q v).metJudge with lines := s.lines }).settle :=
    follows_settle_accessed rfl (show s.intc.Accesses ((s.withIntc x).sqCommand q v).metJudge.intc by rw [hu, hv]; exact hx) rfl
  have hfol' := follows_settle_hashes (Map.set (fun _ => none) s.lines.hashes q o) hfol
  rw [← hwith] at hfol'
  refine ⟨(judged_metJudge _).hk.trans (by rw [hv]; rfl), ⟨?_, fun j hj => ?_⟩, ?_, hp _ fun a ha => ?_⟩
  · refine regsJudged_of_metJudge (v := (s.withIntc x).sqCommand q v) (by rw [hv]; rfl) (by rw [hv]; rfl) hr ?_ hfol'
    rw [hset]
    generalize State.intc (State.settle _) = y
    generalize State.lines (State.settle _) = z
    conv_lhs => rw [hu]
    rw [hv]
    rfl
  · unfold Lines.hashOf
    rw [settle_hashes, readOn_hashes, hhash, Map.get_set_other _ _ _ hj]
  · have hq : ((s.withIntc x).sqCommand q v).metJudge.lines.hashOf q = o := by
      rw [hhash]
      exact Map.get_set_same _ _ _ _
    rcases ho with rfl | rfl
    · exact hashOf_ended hq
    · exact hashOf_begun q.isLt hnow hq
  · rw [settle_readOn_reg, hj a ha]

end

/-! ## The status register -/

/-- The fields that the commands write. -/
def sqStatFields (q : Nat) : List Field := [PSC_SQ_STAT_state q, PSC_SQ_STAT_hashing q]

theorem sqStat_within (q : Port) : (PSC_SQ_STAT_state q).Within (sqStatFields q) ∧ (PSC_SQ_STAT_hashing q).BitIn 0 (sqStatFields q) ∧
    (PSC_SQ_STAT_hashing q).BitIn 0 [PSC_SQ_STAT_hashing q] ∧ PSC_SQ_STAT q / 0x1000 ≠ 0x12 := by decide +revert

theorem sqStat_apart (q : Port) : (∀ g ∈ sqStatFields q, ¬ g.Holds (PSC_SQ_STAT q) (4 + 0)) ∧
    (∀ g ∈ [PSC_SQ_STAT_hashing q], g.addr = PSC_SQ_STAT q → (PSC_SQ_STAT_state q).hi < g.lo ∨ g.hi < (PSC_SQ_STAT_state q).lo) := by decide +revert

section
variable {q : Port} {u : State}

theorem wrote_sqState (q : Port) (u : State) (v : Nat) : Wrote (sqStatFields q) u (u.put (PSC_SQ_STAT_state q) v) := wrote_put u v (sqStat_within q).1

theorem wrote_hashing (q : Port) (u : State) (b : Bool) : Wrote (sqStatFields q) u (u.wrBit (PSC_SQ_STAT_hashing q) 0 b) := by
  cases b
  · exact wrote_clrBit u (sqStat_within q).2.1
  · exact wrote_setBit u (sqStat_within q).2.1

/-- The commands leave the other registers, and the verdict on the digest. -/
theorem sqStat_of_wrote {v : State} (h : Wrote (sqStatFields q) u v) :
    (∀ a, a ≠ PSC_SQ_STAT q → v.reg a = u.reg a) ∧ v.bit (PSC_SQ_STAT_digest_ok q) = u.bit (PSC_SQ_STAT_digest_ok q) :=
  ⟨fun a ha => h.keeps.reg fun f hf e => ha (by
    rcases List.mem_cons.mp hf with rfl | hf
    · exact e.symm
    · rw [List.mem_singleton.mp hf] at e
      exact e.symm), h.keeps.bit (f := PSC_SQ_STAT_digest_ok q) (i := 0) (sqStat_apart q).1⟩

theorem sqState_put (q : Port) (u : State) {v : Nat} (h : v < 4) : (u.put (PSC_SQ_STAT_state q) v).sqState q = v :=
  (get_put_same u (PSC_SQ_STAT_state q) v (by simp [PSC_SQ_STAT_state]) (by simp [PSC_SQ_STAT_state])).trans (Nat.mod_eq_of_lt (by simpa [PSC_SQ_STAT_state] using h))

theorem hashing_wrBit (q : Port) (u : State) (b : Bool) :
    (u.wrBit (PSC_SQ_STAT_hashing q) 0 b).bit (PSC_SQ_STAT_hashing q) = b ∧ (u.wrBit (PSC_SQ_STAT_hashing q) 0 b).sqState q = u.sqState q := by
  have hk : (u.wrBit (PSC_SQ_STAT_hashing q) 0 b).sqState q = u.sqState q := by
    have hw : Wrote [PSC_SQ_STAT_hashing q] u (u.wrBit (PSC_SQ_STAT_hashing q) 0 b) := by
      cases b
      · exact wrote_clrBit u (sqStat_within q).2.2.1
      · exact wrote_setBit u (sqStat_within q).2.2.1
    exact hw.keeps.get (f := PSC_SQ_STAT_state q) (sqStat_apart q).2 (by simp [PSC_SQ_STAT_state])
  refine ⟨?_, hk⟩
  cases b
  · exact bit_clrBit_same u (PSC_SQ_STAT_hashing q) 0 (Nat.le_refl _) (by simp [PSC_SQ_STAT_hashing])
  · exact bit_setBit_same u (PSC_SQ_STAT_hashing q) 0 (Nat.le_refl _) (by simp [PSC_SQ_STAT_hashing]) (Nat.le_refl _)

end

/-! ## The commands -/

section
variable {who : Party} {q : Port} {s : State}

/-- A command whose status word is `w`'s, with the core's hash begun or ended. -/
theorem gives_sqHashCommand_wrote {i : Instr} {v : W32} {o : Option HashRun} {st : Nat} {b : Bool} (he : exec i s = act s (fun u => u.busWrite who (PSC_SQ_CTL q) v))
    (hw : Writes s who (PSC_SQ_CTL q)) (ho : o = none ∨ o = some { start := s.now })
    (h : ∀ x, ∃ w, (s.withIntc x).sqCommand q v = (w.wrBit (PSC_SQ_STAT_hashing q) 0 b).setHashRun q o ∧ Wrote (sqStatFields q) (s.withIntc x) w ∧ w.sqState q = st) :
    Gives i s (fun t => HashOnly q (RegsJudged [PSC_SQ_STAT q]) s t ∧ t.lines.hashOf q = o ∧
      t.sqState q = st ∧ t.bit (PSC_SQ_STAT_hashing q) = b ∧ t.bit (PSC_SQ_STAT_digest_ok q) = s.bit (PSC_SQ_STAT_digest_ok q)) := by
  refine gives_sqHashCommand he hw (fun x => ?_) ho
  obtain ⟨w, hx, hwr, hst⟩ := h x
  have hall := hwr.trans (wrote_hashing q w b)
  obtain ⟨hreg, hok⟩ := sqStat_of_wrote hall
  obtain ⟨hb, hs⟩ := hashing_wrBit q w b
  have hf := hall.frame
  rw [hx]
  refine ⟨(w.wrBit (PSC_SQ_STAT_hashing q) 0 b).regs, ?_, fun a ha => (hreg a (by simpa using ha)), fun t ht => ?_⟩
  · rw [← hf]
  · have hr : t.reg (PSC_SQ_STAT q) = (w.wrBit (PSC_SQ_STAT_hashing q) 0 b).reg (PSC_SQ_STAT q) := ht _ (sqStat_within q).2.2.2
    exact ⟨(get_eq_of_reg (f := PSC_SQ_STAT_state q) hr).trans (hs.trans hst), (bit_eq_of_reg (f := PSC_SQ_STAT_hashing q) 0 hr).trans hb,
      (bit_eq_of_reg (f := PSC_SQ_STAT_digest_ok q) 0 hr).trans hok⟩

/-- A command that changes nothing. -/
theorem gives_sqCommand_ignored {i : Instr} {v : W32} (he : exec i s = act s (fun u => u.busWrite who (PSC_SQ_CTL q) v)) (hw : Writes s who (PSC_SQ_CTL q))
    (h : ∀ x, (s.withIntc x).sqCommand q v = s.withIntc x) : Gives i s (RegsJudged [] s) := by
  have hg := gives_sqCommand (l := []) (P := fun t => t.cores = s.cores) he hw fun x => ⟨s.regs, s.cores, (h x).trans rfl, fun a _ => by rw [h x]; rfl, fun t _ ht => ht⟩
  refine hg.imp fun t ⟨ht, hc⟩ => ?_
  rw [← hc] at ht
  exact ht

/-- A command that changes the core alone. -/
theorem gives_sqCommand_core {i : Instr} {v : W32} {g : CoreSt → CoreSt} (he : exec i s = act s (fun u => u.busWrite who (PSC_SQ_CTL q) v)) (hw : Writes s who (PSC_SQ_CTL q))
    (h : ∀ x, (s.withIntc x).sqCommand q v = (s.withIntc x).modCore q g) : Gives i s (fun t => RegsJudged [] s { t with cores := s.cores } ∧
      t.core q = g (s.core q) ∧ ∀ j, j ≠ q.val → t.core j = s.core j) :=
  gives_sqCommand (l := []) he hw fun x => ⟨s.regs, ((s.withIntc x).modCore q g).cores, (h x).trans rfl, fun a _ => by rw [h x]; rfl, fun t _ ht => by
    have hc : ∀ j, t.core j = (s.modCore q g).core j := fun j => by rw [State.core, ht]; rfl
    exact ⟨by rw [hc, core_modCore_same], fun j hj => by rw [hc, core_modCore_other _ _ hj]⟩⟩

theorem gives_start_halted (hw : Writes s who (PSC_SQ_CTL q)) (h : s.sqState q = 0) : Gives (.sqStartCommand who q) s (fun t =>
    HashOnly q (RegsJudged [PSC_SQ_STAT q]) s t ∧ t.lines.hashOf q = some { start := s.now } ∧ t.sqState q = 1 ∧ t.bit (PSC_SQ_STAT_hashing q) = true ∧
      t.bit (PSC_SQ_STAT_digest_ok q) = s.bit (PSC_SQ_STAT_digest_ok q)) :=
  gives_sqHashCommand_wrote rfl hw (.inr rfl) fun x => ⟨_, (sqCommand_start _ _).trans (if_pos h), wrote_sqState q _ 1, sqState_put q _ (by decide)⟩

theorem gives_check_halted (hw : Writes s who (PSC_SQ_CTL q)) (h : s.sqState q = 0) : Gives (.sqCheckCommand who q) s (fun t =>
    HashOnly q (RegsJudged [PSC_SQ_STAT q]) s t ∧ t.lines.hashOf q = some { start := s.now } ∧ t.sqState q = 0 ∧ t.bit (PSC_SQ_STAT_hashing q) = true ∧
      t.bit (PSC_SQ_STAT_digest_ok q) = s.bit (PSC_SQ_STAT_digest_ok q)) :=
  gives_sqHashCommand_wrote rfl hw (.inr rfl) fun _ => ⟨_, (sqCommand_check _ _).trans (if_pos h), Wrote.refl _ _, h⟩

theorem gives_halt_armed (hw : Writes s who (PSC_SQ_CTL q)) (h : s.sqState q = 1) : Gives (.sqHaltCommand who q) s (fun t =>
    HashOnly q (RegsJudged [PSC_SQ_STAT q]) s t ∧ t.lines.hashOf q = none ∧ t.sqState q = 0 ∧ t.bit (PSC_SQ_STAT_hashing q) = false ∧
      t.bit (PSC_SQ_STAT_digest_ok q) = s.bit (PSC_SQ_STAT_digest_ok q)) :=
  gives_sqHashCommand_wrote rfl hw (.inl rfl) fun x => ⟨_, (sqCommand_halt _ _).trans (if_pos h), wrote_sqState q _ 0, sqState_put q _ (by decide)⟩

/-- What the statement calls busy. -/
theorem inProgress_iff (s : State) (k : Nat) : s.inProgress k = true ↔ (s.core k).waiting = none ∧ ((s.core k).readyAt + 3) / 4 * 4 < s.now := by
  rw [inProgress, Bool.and_eq_true, decide_eq_true_iff, Option.isNone_iff_eq_none]

theorem sqHalt_running {s : State} {k : Nat} (h : s.sqState k = 2) : s.sqHalt k = if s.inProgress k then s.modCore k (fun x => { x with halting := true }) else s.sqHalted k := by
  unfold sqHalt
  rw [if_neg (by rw [h]; decide), if_pos h]

theorem gives_halt_between (hw : Writes s who (PSC_SQ_CTL q)) (h : s.sqState q = 2) (hb : s.inProgress q = false) : Gives (.sqHaltCommand who q) s (fun t =>
    RegsJudged [PSC_SQ_STAT q] s { t with cores := s.cores } ∧ t.sqState q = 0 ∧ t.core q = { s.core q with waiting := none, halting := false } ∧
      ∀ j, j ≠ q.val → t.core j = s.core j) := by
  refine gives_sqCommand rfl hw fun x => ?_
  have hx : (s.withIntc x).sqCommand q 2#32 = (s.withIntc x).sqHalted q := by
    rw [sqCommand_halt, sqHalt_running (s := s.withIntc x) h]
    exact if_neg (by rw [show (s.withIntc x).inProgress q = false from hb]; decide)
  rw [hx]
  refine ⟨_, _, rfl, fun a ha => reg_put_other (s.withIntc x) (PSC_SQ_STAT_state q) 0 (by simpa [PSC_SQ_STAT_state] using ha), fun t ht hc => ⟨?_, ?_, fun j hj => ?_⟩⟩
  · exact (get_eq_of_reg (f := PSC_SQ_STAT_state q) (ht _ (sqStat_within q).2.2.2)).trans (sqState_put q (s.withIntc x) (by decide))
  · exact (congrArg (fun c => Map.get (fun _ => ({} : CoreSt)) c q.val) hc).trans (core_modCore_same ((s.withIntc x).put (PSC_SQ_STAT_state q) 0) q.val (fun y => { y with waiting := none, halting := false }))
  · exact (congrArg (fun c => Map.get (fun _ => ({} : CoreSt)) c j) hc).trans (core_modCore_other ((s.withIntc x).put (PSC_SQ_STAT_state q) 0) (fun y => { y with waiting := none, halting := false }) hj)

theorem gives_halt_during (hw : Writes s who (PSC_SQ_CTL q)) (h : s.sqState q = 2) (hb : s.inProgress q = true) : Gives (.sqHaltCommand who q) s (fun t =>
    RegsJudged [] s { t with cores := s.cores } ∧ t.core q = { s.core q with halting := true } ∧ ∀ j, j ≠ q.val → t.core j = s.core j) :=
  gives_sqCommand_core rfl hw fun x => by
    rw [sqCommand_halt, sqHalt_running (s := s.withIntc x) h]
    exact if_pos hb

theorem sqHalt_ignored {s : State} {k : Nat} (h : s.sqState k = 0 ∨ s.sqState k = 3) : s.sqHalt k = s := by
  unfold sqHalt
  rw [if_neg (by rcases h with h | h <;> rw [h] <;> decide), if_neg (by rcases h with h | h <;> rw [h] <;> decide)]

end

/-! ## The end of a hash -/

theorem ofLe_lt : ∀ l : List Byte, ofLe l < 256 ^ l.length
  | [] => Nat.zero_lt_one
  | b :: l => by
    have h := ofLe_lt l
    have hb := b.isLt
    rw [List.length_cons, Nat.pow_succ, ofLe]
    omega

/-- Bytes read before, and the rest as it stands, are the whole where nothing changed behind the read point. -/
theorem take_append_drop_length {α : Type} (l : List α) {n : Nat} {got : List α} (h : got = l.take n) : got ++ l.drop got.length = l := by
  subst h
  rw [List.length_take]
  rcases Nat.le_total n l.length with hn | hn
  · rw [Nat.min_eq_left hn, List.take_append_drop]
  · rw [Nat.min_eq_right hn, List.take_of_length_le hn, List.drop_length, List.append_nil]

/-- The digest registers hold a digest. -/
theorem digests_foldl (q : Nat) (f : Nat → Nat) (hf : ∀ k, f k < 2 ^ 32) : ∀ (n : Nat) (s : State), ∃ r,
    (List.range n).foldl (fun s k => s.setNum (PSC_SQ_DIGEST q k) (f k)) s = { s with regs := r } ∧
    (∀ k, k < n → ({ s with regs := r } : State).num (PSC_SQ_DIGEST q k) = f k) ∧
    ∀ a, a ∉ (List.range n).map (PSC_SQ_DIGEST q) → ({ s with regs := r } : State).reg a = s.reg a := by
  intro n
  induction n with
  | zero => exact fun s => ⟨s.regs, rfl, nofun, fun _ _ => rfl⟩
  | succ n ih =>
    intro s
    obtain ⟨r, hr, hd, ho⟩ := ih s
    refine ⟨_, by rw [List.range_succ, List.foldl_append, hr]; rfl, fun k hk => ?_, fun a ha => ?_⟩
    · by_cases he : k = n
      · subst he
        exact (num_setNum_same { s with regs := r } (PSC_SQ_DIGEST q k) (f k)).trans (Nat.mod_eq_of_lt (hf k))
      · have hne : PSC_SQ_DIGEST q k ≠ PSC_SQ_DIGEST q n := by simp only [PSC_SQ_DIGEST]; omega
        exact (congrArg BitVec.toNat (reg_setNum_other { s with regs := r } (f n) hne)).trans (hd k (by omega))
    · rw [List.range_succ, List.map_append, List.mem_append, not_or] at ha
      exact (reg_setNum_other { s with regs := r } (f n) (by simpa using ha.2)).trans (ho a ha.1)

/-- The digest that the hash of `q` ends with. -/
def digestOf (s : State) (q : Nat) : List Byte := sha256 ((s.hashRun q).got ++ (s.programBytes q).drop (s.hashRun q).got.length)

/-- The registers of the digest and the clock at the end of the hash. -/
def digested (s : State) (q : Nat) : State := (List.range 8).foldl (fun u k => u.setNum (PSC_SQ_DIGEST q k) (ofLe (((digestOf s q).drop (4 * k)).take 4)))
  (s.advanceTo ((s.hashRun q).start + 4 * (s.programBytes q).length))

theorem hashComplete_eq {s : State} {q : Nat} (h : s.bit (PSC_SQ_STAT_hashing q) = true) : s.hashComplete q =
    (((digested s q).hashDrop q).wrBit (PSC_SQ_STAT_digest_ok q) 0
      (!(Map.get (fun _ => []) s.progRef q).isEmpty && decide (Map.get (fun _ => []) s.progRef q = digestOf s q))).setBit PSC_EVT_hash q := by
  have hp : (s.advanceTo ((s.hashRun q).start + 4 * (s.programBytes q).length)).progRef = s.progRef := by
    unfold advanceTo
    split <;> rfl
  unfold hashComplete
  rw [h, if_neg (by decide)]
  dsimp only
  rw [hp]
  rfl

theorem sqStat_digestOk (q : Port) : (PSC_SQ_STAT_digest_ok q).BitIn 0 [PSC_SQ_STAT_digest_ok q] ∧
    (∀ g ∈ [PSC_SQ_STAT_digest_ok q], ¬ g.Holds (PSC_SQ_STAT q) (2 + 0)) ∧
    (∀ g ∈ [PSC_SQ_STAT_digest_ok q], g.addr = PSC_SQ_STAT q → (PSC_SQ_STAT_state q).hi < g.lo ∨ g.hi < (PSC_SQ_STAT_state q).lo) := by decide +revert

/-- What the end of a hash leaves in the registers: the digest, the verdict, the end and the event. -/
structure HashEnded (s : State) (q : Port) (t : State) : Prop where
  digest : ∀ k, k < 8 → t.num (PSC_SQ_DIGEST q k) = ofLe (((digestOf s q).drop (4 * k)).take 4)
  ok : t.bit (PSC_SQ_STAT_digest_ok q) = (decide (Map.get (fun _ => []) s.progRef q ≠ []) && decide (Map.get (fun _ => []) s.progRef q = digestOf s q))
  hashing : t.bit (PSC_SQ_STAT_hashing q) = false
  event : t.bit PSC_EVT_hash q = true
  state : t.sqState q = s.sqState q
  others : ∀ a, a ∉ [PSC_SQ_STAT q, PSC_EVT] ++ (List.range 8).map (PSC_SQ_DIGEST q) → t.reg a = s.reg a

/-- They are of other pages than MET's. -/
theorem HashEnded.congr {s t u : State} {q : Port} (h : HashEnded s q t) (hr : ∀ a, a / 0x1000 ≠ 0x12 → u.reg a = t.reg a) : (∀ k, k < 8 → u.num (PSC_SQ_DIGEST q k) =
      ofLe (((digestOf s q).drop (4 * k)).take 4)) ∧ u.bit (PSC_SQ_STAT_digest_ok q) = t.bit (PSC_SQ_STAT_digest_ok q) ∧ u.bit (PSC_SQ_STAT_hashing q) = false ∧
      u.bit PSC_EVT_hash q = true ∧ u.sqState q = s.sqState q := by
  have hstat := hr (PSC_SQ_STAT q) (sqStat_within q).2.2.2
  have hdig : ∀ k, k < 8 → PSC_SQ_DIGEST q k / 0x1000 ≠ 0x12 := fun k hk => by
    have := q.isLt
    simp only [PSC_SQ_DIGEST]
    omega
  exact ⟨fun k hk => (congrArg BitVec.toNat (hr _ (hdig k hk))).trans (h.digest k hk), bit_eq_of_reg (f := PSC_SQ_STAT_digest_ok q) 0 hstat,
    (bit_eq_of_reg (f := PSC_SQ_STAT_hashing q) 0 hstat).trans h.hashing, (bit_eq_of_reg (f := PSC_EVT_hash) q (hr PSC_EVT (by decide))).trans h.event,
    (get_eq_of_reg (f := PSC_SQ_STAT_state q) hstat).trans h.state⟩

theorem isEmpty_eq_decide {α : Type} [DecidableEq α] (l : List α) : (!l.isEmpty) = decide (l ≠ []) := by cases l <;> rfl

theorem ofLe_take_lt (l : List Byte) : ofLe (l.take 4) < 2 ^ 32 :=
  Nat.lt_of_lt_of_le (ofLe_lt _) (Nat.pow_le_pow_right (by decide : 256 > 0) (List.length_take_le 4 l))

theorem hashEnded_hashComplete {s : State} {q : Port} (h : s.bit (PSC_SQ_STAT_hashing q) = true) : HashEnded s q (s.hashComplete q) ∧
    ∃ r n w, s.hashComplete q = ({ s with regs := r, now := n, wall := w } : State).setHashRun q none ∧ s.now ≤ n := by
  have hq := q.isLt
  have hm := MovedOn.advanceTo s 0 ((s.hashRun q).start + 4 * (s.programBytes q).length)
  have hle : s.now ≤ (s.advanceTo ((s.hashRun q).start + 4 * (s.programBytes q).length)).now := by
    rw [advanceTo_now]
    exact Nat.le_max_left _ _
  obtain ⟨r, hr, hd, ho⟩ := digests_foldl q (fun k => ofLe (((digestOf s q).drop (4 * k)).take 4)) (fun k => ofLe_take_lt _) 8
    (s.advanceTo ((s.hashRun q).start + 4 * (s.programBytes q).length))
  have hreg : ∀ a, (s.advanceTo ((s.hashRun q).start + 4 * (s.programBytes q).length)).reg a = s.reg a := reg_eq_of_regs hm.regs
  rw [hashComplete_eq h]
  have hx : digested s q = { s.advanceTo ((s.hashRun q).start + 4 * (s.programBytes q).length) with regs := r } := hr
  rw [← hx] at hd ho
  generalize href : Map.get (fun _ => []) s.progRef q = ref
  let u := (digested s q).hashDrop q
  let v := u.wrBit (PSC_SQ_STAT_digest_ok q) 0 (!ref.isEmpty && decide (ref = digestOf s q))
  have hstat : ∀ k, k < 8 → PSC_SQ_DIGEST q k ≠ PSC_SQ_STAT q ∧ PSC_SQ_DIGEST q k ≠ PSC_EVT := fun k hk => by
    simp only [PSC_SQ_DIGEST, PSC_SQ_STAT, PSC_EVT]
    omega
  have hevt : PSC_SQ_STAT q ≠ PSC_EVT := by simp only [PSC_SQ_STAT, PSC_EVT]; omega
  have hnd : PSC_SQ_STAT q ∉ (List.range 8).map (PSC_SQ_DIGEST q) := fun hmem => by
    obtain ⟨k, hk, e⟩ := List.mem_map.mp hmem
    exact (hstat k (List.mem_range.mp hk)).1 e
  obtain ⟨hu1, hu2⟩ := hashing_wrBit q (digested s q) false
  obtain ⟨hok, hapart, hstate⟩ := sqStat_digestOk q
  have hw : Wrote [PSC_SQ_STAT_digest_ok q] u v := by
    refine ⟨wrBit_frame _ _ _ _, keeps_wrBit u _ hok.1 hok.2.1 hok.2.2⟩
  have hregu : ∀ a, a ≠ PSC_SQ_STAT q → u.reg a = (digested s q).reg a := fun a ha => reg_clrBit_other (digested s q) (PSC_SQ_STAT_hashing q) 0 ha
  have hregv : ∀ a, a ≠ PSC_SQ_STAT q → v.reg a = (digested s q).reg a := fun a ha => (reg_wrBit_other u (PSC_SQ_STAT_digest_ok q) 0 _ ha).trans (hregu a ha)
  have hlast : ∀ a, a ≠ PSC_EVT → (v.setBit PSC_EVT_hash q).reg a = v.reg a := fun a ha => reg_setBit_other v PSC_EVT_hash q ha
  have hbit : v.bit (PSC_SQ_STAT_digest_ok q) = (!ref.isEmpty && decide (ref = digestOf s q)) := by
    cases hb : (!ref.isEmpty && decide (ref = digestOf s q))
    · simp only [v, hb]
      exact bit_clrBit_same u (PSC_SQ_STAT_digest_ok q) 0 (Nat.le_refl _) (by simp [PSC_SQ_STAT_digest_ok])
    · simp only [v, hb]
      exact bit_setBit_same u (PSC_SQ_STAT_digest_ok q) 0 (Nat.le_refl _) (by simp [PSC_SQ_STAT_digest_ok]) (Nat.le_refl _)
  refine ⟨⟨fun k hk => ?_, ?_, ?_, ?_, ?_, fun a ha => ?_⟩, ?_⟩
  · exact (congrArg BitVec.toNat ((hlast _ (hstat k hk).2).trans (hregv _ (hstat k hk).1))).trans (hd k hk)
  · rw [href]
    exact (bit_eq_of_reg (f := PSC_SQ_STAT_digest_ok q) 0 (hlast _ hevt)).trans (hbit.trans (congrArg (· && decide (ref = digestOf s q)) (isEmpty_eq_decide ref)))
  · exact (bit_eq_of_reg (f := PSC_SQ_STAT_hashing q) 0 (hlast _ hevt)).trans ((hw.keeps.bit (f := PSC_SQ_STAT_hashing q) (i := 0) hapart).trans hu1)
  · exact bit_setBit_same v PSC_EVT_hash q (by decide) (by decide) (by simp only [PSC_EVT_hash]; omega)
  · refine (get_eq_of_reg (f := PSC_SQ_STAT_state q) (hlast _ hevt)).trans ((hw.keeps.get (f := PSC_SQ_STAT_state q) hstate (by simp [PSC_SQ_STAT_state])).trans (hu2.trans ?_))
    exact get_eq_of_reg (f := PSC_SQ_STAT_state q) ((ho _ hnd).trans (hreg _))
  · rw [List.mem_append, not_or] at ha
    obtain ⟨ha, h3⟩ := ha
    obtain ⟨h1, h2⟩ : a ≠ PSC_SQ_STAT q ∧ a ≠ PSC_EVT := by simpa using ha
    exact (hlast a h2).trans ((hregv a h1).trans ((ho a h3).trans (hreg a)))
  · obtain ⟨c, n, w, hf⟩ := hm.frame
    have hc : c = s.cores := by
      have := congrArg State.cores hf
      rw [advanceTo_cores] at this
      exact this.symm
    subst hc
    obtain ⟨r2, h2⟩ : ∃ r2, (digested s q).clrBit (PSC_SQ_STAT_hashing q) = { digested s q with regs := r2 } := ⟨_, wrBit_frame _ _ _ false⟩
    obtain ⟨r3, h3⟩ : ∃ r3, v = { u with regs := r3 } := ⟨_, hw.frame⟩
    obtain ⟨r4, h4⟩ := setBit_regs v PSC_EVT_hash q
    refine ⟨r4, n, w, h4.trans ?_, ?_⟩
    · rw [h3]
      simp only [u, hashDrop]
      rw [h2, hx, hf]
      rfl
    · rw [hf] at hle
      exact hle

theorem gives_hashComplete {s : State} {q : Port} (hn : Normal s) (h : s.bit (PSC_SQ_STAT_hashing q) = true) : Gives (.hashComplete q) s (fun t =>
    (∀ k, k < 8 → t.num (PSC_SQ_DIGEST q k) = ofLe (((digestOf s q).drop (4 * k)).take 4)) ∧
    t.bit (PSC_SQ_STAT_digest_ok q) = (decide (Map.get (fun _ => []) s.progRef q ≠ []) && decide (Map.get (fun _ => []) s.progRef q = digestOf s q)) ∧
    t.bit (PSC_SQ_STAT_hashing q) = false ∧ t.bit PSC_EVT_hash q = true ∧ t.sqState q = s.sqState q ∧ t.lines.hashOf q = none ∧ s.now ≤ t.now ∧
    (∀ a, a / 0x1000 ≠ 0x12 → a ∉ [PSC_SQ_STAT q, PSC_EVT] ++ (List.range 8).map (PSC_SQ_DIGEST q) → t.reg a = s.reg a) ∧
    t = { s with regs := t.regs, men := t.men, now := t.now, wall := t.wall, intc := t.intc, lines := t.lines }) := by
  obtain ⟨hend, r, n, w, hv, hle⟩ := hashEnded_hashComplete h
  have hu := metJudge_frame (s.hashComplete q)
  have hreg : ∀ a, a / 0x1000 ≠ 0x12 → (s.readOn (s.hashComplete q).metJudge).settle.reg a = (s.hashComplete q).reg a := fun a ha =>
    (settle_readOn_reg s _ a).trans (metJudge_reg _ ha)
  obtain ⟨h1, h2, h3, h4, h5⟩ := hend.congr hreg
  refine gives_running (f := fun u => (u.hashComplete q).metJudge) rfl hn rfl ?_ ⟨h1, h2.trans hend.ok, h3, h4, h5, hashOf_ended ?_, ?_, fun a ha hl => ?_, ?_⟩
  · rw [(judged_metJudge _).hk, hv]
    rfl
  · have hl : (s.hashComplete q).metJudge.lines = { s.lines with hashes := Map.set (fun _ => none) s.lines.hashes q none } := by rw [hu, hv]; rfl
    exact (congrArg (fun l => l.hashOf q) hl).trans (Map.get_set_same (fun _ => (none : Option HashRun)) s.lines.hashes q none)
  · rw [settle_readOn_now, hu, hv]
    exact hle
  · exact (hreg a ha).trans (hend.others a hl)
  · rw [settle_readOn_frame]
    generalize State.intc (State.settle _) = y
    generalize State.lines (State.settle _) = z
    obtain ⟨R, M, hm⟩ : ∃ R M, (s.hashComplete q).metJudge = { s.hashComplete q with regs := R, men := M } := ⟨_, _, hu⟩
    rw [hm, hv]
    rfl

/-- Settles O29: the commands by the state of the core, a halt at an instruction's end, and the registers that the end of a hash writes. -/
theorem sqCommandsAndHashes : Obligations.SqCommandsAndHashes := by
  refine ⟨fun who q s hw => ?_, fun i s k d f r c v ha _ h1 h2 hpc hd hhalt => ?_, fun q s hn hb => ⟨fun n hg => ?_, gives_hashComplete hn hb⟩⟩
  · intro stat busy
    refine ⟨fun h => ⟨?_, ?_⟩, fun h => ⟨?_, ?_⟩, fun h => ?_, fun h hb => ?_, fun h hb => ?_, fun h => ?_, ?_⟩
    · exact (gives_start_halted hw h).imp fun t ⟨h1, h2, h3, h4, h5⟩ => ⟨h1, h3, h4, h5, h2⟩
    · exact (gives_check_halted hw h).imp fun t ⟨h1, h2, h3, h4, h5⟩ => ⟨h1, h3, h4, h5, h2⟩
    · exact gives_sqCommand_ignored rfl hw fun x => (sqCommand_start _ _).trans (if_neg h)
    · exact gives_sqCommand_ignored rfl hw fun x => (sqCommand_check _ _).trans (if_neg h)
    · exact (gives_halt_armed hw h).imp fun t ⟨h1, h2, h3, h4, _⟩ => ⟨h1, h3, h4, h2⟩
    · exact gives_halt_between hw h (Bool.eq_false_iff.mpr fun e => hb ((inProgress_iff s q).mp e))
    · exact gives_halt_during hw h ((inProgress_iff s q).mpr hb)
    · exact gives_sqCommand_ignored rfl hw fun x => (sqCommand_halt _ _).trans (sqHalt_ignored h)
    · exact gives_sqCommand_core rfl hw fun x => sqCommand_flush _ _
  · obtain ⟨g, he, hg⟩ := exec_alu ha
    obtain ⟨hp, hh⟩ := aluFlags_putW_rest (f := f) (d := d) (s.movedCore k 1) r c v
    exact gives_halted h1 h2 hd he (aluEffect_issued hg _) rfl (by rw [hp]; exact Nat.ne_of_lt hpc) (hh.trans hhalt)
  · exact congrArg sha256 (take_append_drop_length _ hg)

end Sys2Proof.Machine
end
